-- ==== Sys2Proof/Word.lean ====
section
/-! DEFINITION. The word types of the machine: bytes, 32-bit register words (R9), 64-bit memory and core words, 40-bit physical addresses held as Nat keys. -/

namespace Sys2Proof

/-- One byte. -/
abbrev Byte := BitVec 8

/-- One register word (R9: every register is 32 bits wide). -/
abbrev Word := BitVec 32

/-- One 64-bit memory word or core register (R323, R375). -/
abbrev DWord := BitVec 64

/-- One cipher block (R305). -/
abbrev Block := BitVec 128

/-- A dword given by its two halves. -/
def dwordOf (lo hi : Word) : DWord := hi ++ lo

end Sys2Proof
end

