-- ==== Sys2Proof/Types.lean ====
section
/-! DEFINITION. The operand types of the commands. -/

namespace Sys2Proof

/-- A bus master ID (R16); 31 stands for no master in the fault records. -/
abbrev MasterId := Fin 32

/-- A logical core Ln (R13). -/
abbrev CoreId := Fin 8

/-- A 40-bit physical address (R17). -/
abbrev Addr := BitVec 40

/-- A NAND channel (R13). -/
abbrev Chan := Fin 32

/-- A die of a channel: target × LUNs + LUN, 0–63 (R13). -/
abbrev DieIdx := Fin 64

/-- What a request of the PCIe host addresses (R221, R225): configuration space, BAR0 (NVMe registers and doorbells), BAR2 (MSI-X table and PBA). -/
inductive HostSpace where
  | config
  | bar0
  | bar2
  deriving DecidableEq, Repr

/-- The options and flags of a SYN that R250 names: MSS, window scale, timestamps, and whether it asks for ECN. -/
structure TcpOpts where
  mss    : Option (BitVec 16)
  wscale : Option Byte
  ts     : Bool
  ecn    : Bool
  deriving DecidableEq, Repr

/-- A herd frame: HOPS, DEST, ORIGIN, TXID, DEADLINE; whether its CRC, VERSION and TYPE are right; and how long the member holds it in µs where it
forwards it. -/
structure HerdHdr where
  hops   : Byte
  dest   : BitVec 16
  origin : BitVec 16
  txid   : Word
  deadline : Word
  ok     : Bool
  residence : BitVec 16
  deriving DecidableEq, Repr

/-- The header of a pair link frame as it arrives (R284): its CRC is right, FLAGS bit 0 LAST, TXSEQ, ACKSEQ, MSN, TAG, EPOCH. -/
structure PairHdr where
  ok     : Bool
  last   : Bool
  txseq  : Word
  ackseq : Word
  msn    : DWord
  tag    : Word
  epoch  : Word
  deriving DecidableEq, Repr

/-- What a target answers with its parameter page (R81, R86, R87): which of the page's copies, in order, have a valid ONFI CRC, and of the first
of them the data and spare bytes of a plane-page, planes, page bits, blocks per plane, whether its dies suspend, capacity in bytes of a die, their
maximum times in µs, their highest rate, and the 12 vendor-specific bytes 164 to 175, byte 164 lowest. -/
structure DieParam where
  copies     : List Bool
  dataBytes  : Nat
  spareBytes : Nat
  planes   : Nat
  pageBits : Nat
  blkpp    : Nat
  suspendOk : Bool
  capacity : Nat
  tprog    : Nat
  tbers    : Nat
  tr       : Nat
  tsus     : Nat
  tnosus   : Nat
  maxRate  : Nat
  vendor   : BitVec 96
  deriving DecidableEq, Repr

/-- What the medium holds for CKP's start-up (R214, R190), as CKP reads it: the trailers found complete in the named checkpoint groups; the checkpoint
numbers in the TYPE 6 and 7 tags found there; the directory pages and the pages that could be read or reconstructed, by region and page; the live
checkpoint groups, oldest first; the ledger copies found (copy, die position, die block, its next free page, the page); the codewords that case 3 of
R190 reads in search of group markers (CWA, information bits); the codewords that the scan of step 7 reads (CWA, information bits, none where it is
erased; one that does not decode is not listed); the tag keys (CWA, SEQ, MOVES) of current entries; the die blocks (position, block) that carry a
factory mark. -/
structure CkpFound where
  trailers : List Nat
  nums    : List Nat
  dir     : List (Nat × Nat)
  pages   : List (Nat × Nat × Nat)
  live    : List Nat
  led     : List (Nat × Nat × Nat × Nat × Nat)
  markers : List (Nat × Nat)
  scan    : List (Nat × Option Nat)
  tags    : List (Nat × Nat × Nat)
  marks   : List (Nat × Nat)
  deriving DecidableEq, Repr

end Sys2Proof
end

