-- ==== Sys2Proof/Syntax.lean ====
section
/-! DEFINITION. The commands: one constructor for each row of spec/opcode_table.json, with the row's operands. -/

namespace Sys2Proof

/-- A command that the block takes from outside (spec/opcode_table.json): a write or read of a register, an event of a bus, link, die or pin, or the end
of something under way inside the part.  Each docstring is the row's summary with the rule that governs it. -/
inductive Instr where
  /-- R27: Power-on enters BOOT; SRM zeroes SRAM and the boot ROM starts on L0. -/
  | powerOn (testN : Bool) (refssc : Bool)
  /-- R442: RESET_N falls; sequencers act as at brown-out, MEDIA is held until quiesced and the other domains except AON reset. -/
  | resetNFall
  /-- R442: RESET_N rises; straps are sampled and the device enters BOOT with cause reset pin. -/
  | resetNRise (testN : Bool) (refssc : Bool)
  /-- R201: The brown-out signal asserts; ports stop fetching, channels block new pulses and CFL finishes or suspends its operation. -/
  | brownOutAssert (src : Fin 4)
  /-- R103: No die of a channel is busy any longer; QUIESCED is set and, when all channels are quiesced, CKP reports it. -/
  | channelQuiesce (ch : Fin 32)
  /-- R202: With every channel quiesced and PFAIL_N high for 10 ms, the device resets itself into BOOT. -/
  | brownOutSelfReset
  /-- R390: The 100 MHz reference is absent for 1 us outside the permitted DORMANT stop; AON moves to its oscillator and line 28 fires. -/
  | referenceClockLoss
  /-- R447: The on-die sensor updates Tj every 1 ms and drives or releases THERM_N against TRIP. -/
  | temperatureUpdate (tj : BitVec 11)
  /-- R53: At the cutoff, reads become eligible, TCK samples DREADY, copies direct rows and starts the managed builder. -/
  | tickCutoff
  /-- R53: At each boundary, pending commits apply, all 32 programs are installed, TCK_COUNT increments and EV_TCK_BOUNDARY is raised. -/
  | tickBoundary
  /-- R72: A write of BLOCK_COMMIT.GO copies the block's staged registers into the pending set. -/
  | commit (m : MasterId) (b : Fin 57)
  /-- R74: A write of TCK_GCOMMIT.GO commits every block at once. -/
  | globalCommit (m : MasterId)
  /-- R55: A NOP step or a reserved OP executes as nothing. -/
  | nop (ch : Fin 32)
  /-- R55: A START with SUBOP 0 applies the read-offset vector and issues a QLC page read. -/
  | startPageReadQlc (ch : Fin 32)
  /-- R55: A START with SUBOP 1 issues an SLC-mode page read. -/
  | startPageReadSlc (ch : Fin 32)
  /-- R89: A START with SUBOP 2 issues a QLC program when the load record covers all four pages on every plane. -/
  | startProgramQlc (ch : Fin 32)
  /-- R89: A START with SUBOP 3 issues an SLC-mode program when the load record covers the page on every plane. -/
  | startProgramSlc (ch : Fin 32)
  /-- R85: A START with SUBOP 4 erases the block on each plane in PLANES. -/
  | startBlockErase (ch : Fin 32)
  /-- R85: A START with SUBOP 5 erases the block with SLC-mode accounting. -/
  | startBlockEraseSlc (ch : Fin 32)
  /-- R118: A START with SUBOP 6 runs the 3-bit soft read sequence. -/
  | startSoftRead (ch : Fin 32)
  /-- R57: An armed START issues once its die reports the suspend complete or the blocking operation ends. -/
  | armedStartIssue (ch : Fin 32) (die : Fin 64)
  /-- R96: A SUSPEND step issues the suspend opcode and polls until the die reports suspended. -/
  | suspend (ch : Fin 32)
  /-- R96: The die reports the operation suspended; its suspend count increments. -/
  | suspendComplete (ch : Fin 32) (die : Fin 64)
  /-- R96: A RESUME step issues the resume opcode and returns the die to busy. -/
  | resume (ch : Fin 32)
  /-- R88: A DATA_OUT step moves codewords from the page register to the ECC complex in bursts. -/
  | dataOut (ch : Fin 32) (bursts : List (BitVec 36864))
  /-- R89: A DATA_IN step encodes buffer codewords and loads them into the page register, updating the load record. -/
  | dataIn (ch : Fin 32) (n : Fin 17)
  /-- R453: A POLL step reads die status and writes a completion record. -/
  | poll (ch : Fin 32) (ended : Bool) (fail : Bool)
  /-- R453: After the program's last step, the sequencer polls each busy die not otherwise read. -/
  | internalPoll (ch : Fin 32) (die : Fin 64) (ended : Bool) (fail : Bool)
  /-- R112: A burst held for lack of a codeword buffer starts when a buffer frees. -/
  | heldBurstStart (ch : Fin 32) (data : BitVec 36864)
  /-- R90: A status read finds an array operation ended; its START record is written with its outcome. -/
  | arrayOperationEnd (ch : Fin 32) (die : Fin 64) (fail : Bool)
  /-- R92: A die busy or suspending beyond twice its relevant maximum goes to failed with STATUS 5. -/
  | dieTimeout (ch : Fin 32) (die : Fin 64)
  /-- R95: FCH_DIECTL.RESET issues Reset to the die's target at the next boundary. -/
  | dieReset (m : MasterId) (ch : Fin 32) (die : Fin 64)
  /-- R95: The reset target reports ready and each LUN goes idle. -/
  | targetResetDone (ch : Fin 32) (target : Fin 16)
  /-- R95: FCH_DIECTL.RETIRE retires a die at once and fails its pending steps with STATUS 6. -/
  | dieRetire (m : MasterId) (ch : Fin 32) (die : Fin 64)
  /-- R84: At each retraining interval, the sequencer retrains the next target in a free 4 us window. -/
  | retrain (ch : Fin 32)
  /-- R84: A retrain finds no window within twice the interval; TRAINLATE is set. -/
  | retrainLate (ch : Fin 32)
  /-- R113: A hard decoder finishes a codeword and reports corrected bits, n10, n01 and NEAR_LIMIT. -/
  | codewordHardDecode (bid : Nat) (out : BitVec 36864) (ok : Bool) (iter : Fin 64)
  /-- R120: When the soft job queue has room, the complex places one soft read for the page. -/
  | softReadPlace (id : Nat)
  /-- R119: A soft decoder finishes min-sum decoding of a codeword. -/
  | codewordSoftDecode (bid : Nat) (out : BitVec 36864) (ok : Bool) (iter : Byte)
  /-- R181: STE finishes reconstructing codewords from surviving members and completes the read. -/
  | stripeReconstructDone (id : Nat)
  /-- R127: Setting ECC_INJ.ARM alters the next codeword encoded on the channel. -/
  | errorInjectArm (m : MasterId) (cnt : Fin 1024) (ch : Fin 32)
  /-- R140: TXE reads each unit's map entry and places page reads or completes zeros. -/
  | mapLookup (id : Nat)
  /-- R143: STE places a whole write, Store or trim unit into a stripe when the placement table has room. -/
  | placement
  /-- R147: A partial-unit write reads or waits for the current data, overlays its bytes and is placed whole. -/
  | merge (id : Nat)
  /-- R148: A trim unit is placed once no unit of its ranges is in the placement table. -/
  | trimPlace (id : Nat)
  /-- R144: When every member of a stripe reports program success, TXE appends its units to the map. -/
  | stripeAppend (g : BitVec 24) (i : Fin 1024)
  /-- R149: Every 4,096th boundary, TXE recomputes the cream target. -/
  | creamTargetRecompute
  /-- R152: STE folds the oldest cream stripe's live units into QLC stripes. -/
  | fold
  /-- R156: TXE entry operation 0 reads the selected entry into TXE_ENTVAL. -/
  | entryRead (m : MasterId) (slot : Fin 128) (hi : Byte)
  /-- R156: TXE entry operation 1 sets STATE 4, keeping CWA. -/
  | entrySetLost (m : MasterId) (slot : Fin 128) (hi : Byte)
  /-- R156: TXE entry operation 2 sets STATE 5, keeping CWA. -/
  | entrySetFirmware (m : MasterId) (slot : Fin 128) (hi : Byte)
  /-- R156: TXE entry operation 3 sets the entry to 0 and reports the old location as invalid. -/
  | entryClear (m : MasterId) (slot : Fin 128) (hi : Byte)
  /-- R153: TXE finishes zeroing a new namespace's entries and the create completes. -/
  | namespaceZeroDone
  /-- R164: SKM chooses a victim group and places its valid pages in the skim queue. -/
  | skimVictimSelect
  /-- R163: Once the fence checkpoint is complete and prior reads ended, SKM issues a fenced group's erases. -/
  | groupErase (g : BitVec 24)
  /-- R170: SKM_RETIRE.GO retires a die block with cause 4. -/
  | skmRetire (m : MasterId) (pos : Fin 2048) (b : BitVec 16)
  /-- R183: A filling stripe closes when full or at its deadline, is padded and its members queued. -/
  | stripeClose (g : BitVec 24) (i : Fin 1024)
  /-- R182: STE opens a replacement group on the row with the most formable groups. -/
  | groupOpen (stream : Fin 7)
  /-- R185: STE writes a ledger page to both ledger dies and sends it to the partner. -/
  | ledgerWrite
  /-- R185: The ledger page is programmed on both dies and acknowledged, releasing the group's first START. -/
  | ledgerEntryDurable
  /-- R191: At the boundary after a die retirement, STE recomputes row width and drops the member from open groups. -/
  | widthChange
  /-- R192: A patrol pass starts and STE sets its pace. -/
  | patrolPassStart
  /-- R192: STE places the next patrol reads at its pace. -/
  | patrolRead
  /-- R193: STE forms the residues of a patrolled stripe and repairs, relocates or loses it. -/
  | patrolCheck
  /-- R192: A pass runs past DAYS; PATLATE is set. -/
  | patrolLate
  /-- R194: STE marks a retired die's groups degraded and queues it for rebuild. -/
  | rebuildStart
  /-- R194: STE reads survivors of a stripe, reconstructs the die's codewords and places live units. -/
  | rebuildStripe
  /-- R194: The queued die is fully rebuilt; EV_STE_REBUILT is raised. -/
  | rebuildDone
  /-- R196: STE_LSCLR.GO clears a lost-stripe table slot. -/
  | lostStripeClear (m : MasterId) (k : Fin 8192)
  /-- R206: At a trigger boundary, CKP takes the snapshot and starts writing dirty pages. -/
  | checkpointBegin
  /-- R206: The trailer's stripe is complete; CKP_LAST is set and fences may act. -/
  | checkpointComplete
  /-- R206: A checkpoint is still in progress when CKP_PERIOD elapses. -/
  | checkpointLate
  /-- R205: A write of CKP_CTL.NOW requests a checkpoint. -/
  | checkpointNow (m : MasterId)
  /-- R212: A write of CKP_CTL.SHUT starts the device-wide shutdown. -/
  | shutdownRequest (m : MasterId)
  /-- R212: The clean checkpoint and root record are written and shutdown complete is reported. -/
  | shutdownComplete
  /-- R214: CKP loads the last checkpoint, scans ledger groups, replays candidates and runs the closing checkpoint. -/
  | ckpStartup (f : CkpFound)
  /-- R222: A PCIe configuration request is answered, with CRS until CFGREADY is set. -/
  | configRequest (space : HostSpace) (write : Bool) (dword : Fin 32768) (be : Fin 16) (data : Word)
  /-- R223: PERST# resets HPT alone with the effects of a controller reset. -/
  | perst
  /-- R223: A hot reset resets HPT alone. -/
  | hotReset
  /-- R223: FLR resets the NVMe controller and configuration space with the link kept up. -/
  | functionLevelReset
  /-- R223: The PCIe link comes up. -/
  | pcieLinkUp (width : Fin 4) (rate : Fin 7) (flit : Bool)
  /-- R223: The PCIe link goes down. -/
  | pcieLinkDown
  /-- R220: HPT_CTL.RETRAIN retrains the link so that MAXW and MAXRATE apply. -/
  | linkRetrain (m : MasterId) (width : Fin 4) (rate : Fin 7) (flit : Bool)
  /-- R32: CC.EN set to 1; CSTS.RDY rises once the device reaches SERVICE, SOLO or SPENT. -/
  | controllerEnable (cc : Word) (aqa : Word) (asq : DWord) (acq : DWord)
  /-- R230: CC.EN goes to 0; HPT stops fetching, settles placed writes, cancels ring entries and deletes I/O queues. -/
  | controllerDisable
  /-- R212: A CC.SHN write on the PCIe controller starts the device-wide shutdown. -/
  | shutdownNotification (shn : Fin 4)
  /-- R232: A submission queue tail doorbell write; an invalid write is ignored with an error event. -/
  | sqTailDoorbell (qid : BitVec 16) (v : BitVec 16)
  /-- R229: A completion queue head doorbell write frees room for held completions. -/
  | cqHeadDoorbell (qid : BitVec 16) (v : BitVec 16)
  /-- R228: HPT arbitrates and fetches a submission queue entry; an unknown opcode fails. -/
  | commandFetch (qid : BitVec 16) (sqe : BitVec 512)
  /-- R229: HPT posts a completion entry when the queue has room and signals its vector. -/
  | completionPost (id : Nat)
  /-- R233: Delete I/O Submission Queue completes after all fetched commands complete. -/
  | deleteIoSq (id : Nat)
  /-- R227: Create I/O Submission Queue, checked against the image count and limits. -/
  | createIoSq (id : Nat)
  /-- R227: Delete I/O Completion Queue. -/
  | deleteIoCq (id : Nat)
  /-- R227: Create I/O Completion Queue. -/
  | createIoCq (id : Nat)
  /-- R243: Get Log Page is handed to firmware. -/
  | getLogPage (id : Nat)
  /-- R242: Identify is handed to firmware, which reports the required values. -/
  | identify (id : Nat)
  /-- R233: Abort succeeds only for a command not yet passed on. -/
  | abort (id : Nat)
  /-- R237: Set Features, in hardware for the listed IDs and otherwise by firmware. -/
  | setFeatures (id : Nat)
  /-- R30: Set Features Power Management selects a power state, refused in the cases of R30. -/
  | setFeaturesPowerManagement (id : Nat)
  /-- R237: Get Features honours SEL for the hardware IDs. -/
  | getFeatures (id : Nat)
  /-- R243: An Asynchronous Event Request is held until an event is posted. -/
  | asynchronousEventRequest (id : Nat)
  /-- R238: Namespace Management create picks a slot and creates the namespace under R153. -/
  | namespaceCreate (id : Nat) (host : Nat)
  /-- R154: Namespace Management delete clears the slot and completes after a covering checkpoint. -/
  | namespaceDelete (id : Nat)
  /-- R242: Firmware Commit is handed to firmware; action 3 fails. -/
  | firmwareCommit (id : Nat)
  /-- R234: Firmware Image Download is handed to firmware. -/
  | firmwareImageDownload (id : Nat)
  /-- R238: Namespace Attachment attaches a namespace to the listed controllers. -/
  | namespaceAttach (id : Nat) (host : Nat)
  /-- R238: Namespace Attachment detaches a namespace from the listed controllers. -/
  | namespaceDetach (id : Nat) (host : Nat)
  /-- R238: Format NVM clears the namespace, applies the LBA format and completes after a checkpoint. -/
  | formatNvm (id : Nat)
  /-- R238: Vendor Reserve Slot holds or clears a slot for the next create. -/
  | reserveSlot (id : Nat)
  /-- R234: Other vendor admin opcodes are handed to firmware. -/
  | vendorAdmin (id : Nat)
  /-- R235: Flush completes at once with success. -/
  | flush (id : Nat)
  /-- R235: Write is merged, placed and completes under R22. -/
  | write (id : Nat) (host : Nat) (ptrs : List Nat)
  /-- R235: Read is looked up and served under R140. -/
  | read (id : Nat) (ptrs : List Nat)
  /-- R235: Write Zeroes is recorded as trim units. -/
  | writeZeroes (id : Nat)
  /-- R235: Dataset Management Deallocate is recorded as trim units. -/
  | datasetManagement (id : Nat) (host : Nat) (ptrs : List Nat)
  /-- R235: Verify reads and decodes without transferring data. -/
  | verify (id : Nat)
  /-- R276: Store writes one segment's value as a Write of its extent. -/
  | store (id : Nat) (host : Nat) (ptrs : List Nat)
  /-- R271: Retrieve is decided by the Lexicon and delivered, forwarded or falls back. -/
  | retrieve (id : Nat) (ptrs : List Nat)
  /-- R273: The port sends the next decrypted and delivery-encrypted unit in offset order. -/
  | deliverySend (id : Nat)
  /-- R240: HPT_XCTL.GO walks a command's PRPs or SGL and moves firmware data. -/
  | firmwareTransfer (m : MasterId) (index : BitVec 12) (dir : Bool)
  /-- R240: A firmware data transfer ends with DONE or ERR. -/
  | firmwareTransferDone (ptrs : List Nat) (data : Nat)
  /-- R241: HPT_FWCPL3.GO posts the completion of a firmware ring entry. -/
  | firmwareCompletion (m : MasterId) (sc : Byte) (sct : Fin 8) (stx : Fin 16)
  /-- R241: A firmware entry outstanding for HPT_FWTO.MS completes with Internal Error. -/
  | firmwareTimeout (index : BitVec 12)
  /-- R243: HPT_AEN.GO completes the oldest AER with the event or queues it. -/
  | aenPost (m : MasterId) (type : Fin 8) (info : Byte) (lid : Byte)
  /-- R244: NVMe-MI basic management command code 0 returns status and health. -/
  | smbusStatusRead
  /-- R244: NVMe-MI basic management command code 8 returns vendor and serial data. -/
  | smbusVendorRead
  /-- R246: A fabric port's link comes up after negotiation and training. -/
  | portLinkUp (p : Fin 4)
  /-- R249: A fabric port's link goes down and its connections close. -/
  | portLinkDown (p : Fin 4)
  /-- R247: An ARP request for the port's address is answered in hardware. -/
  | arpRequest (p : Fin 4) (vid : Option (BitVec 12)) (target : Word) (smac : BitVec 48) (sip : Word)
  /-- R247: An ICMPv6 neighbour solicitation is answered in hardware. -/
  | neighbourSolicitation (p : Fin 4) (vid : Option (BitVec 12)) (target : BitVec 128) (smac : BitVec 48)
  /-- R247: An ICMP or ICMPv6 echo request is answered in hardware. -/
  | echoRequest (p : Fin 4) (vid : Option (BitVec 12)) (v6 : Bool) (smac : BitVec 48) (ident : Word)
  /-- R247: A Priority Flow Control frame pauses or releases the enabled priorities. -/
  | pfcFrame (p : Fin 4) (en : Byte) (pause : Byte)
  /-- R247: A frame of any other kind is dropped and counted. -/
  | frameDrop (p : Fin 4) (prio : Fin 8) (drained : Nat)
  /-- R249: A SYN takes a free context or is answered with RST. -/
  | tcpSyn (p : Fin 4) (vid : Option (BitVec 12)) (v6 : Bool) (smac : BitVec 48) (addr : BitVec 128) (rport : BitVec 16) (dport : BitVec 16) (seq : Word) (opts : TcpOpts)
  /-- R249: The handshake ACK moves the context to tcp-open. -/
  | tcpHandshakeAck (a : Fin 4096) (ack : Word)
  /-- R250: A TCP data or ACK segment is received on an open connection. -/
  | tcpSegment (a : Fin 4096) (seq : Word) (len : BitVec 16) (ack : Word) (ce : Bool) (ece : Bool) (prio : Fin 8) (drained : Nat)
  /-- R249: A FIN starts closing the connection. -/
  | tcpFin (a : Fin 4096)
  /-- R249: An RST closes the connection. -/
  | tcpRst (a : Fin 4096)
  /-- R250: A retransmission timeout resends a segment or, after RETRIES, sends RST. -/
  | tcpRetransmitTimeout (a : Fin 4096)
  /-- R251: A valid ICReq opens NVMe/TCP on the connection. -/
  | icreq (a : Fin 4096) (pfv : BitVec 16) (hpda : Byte) (hd : Bool) (dd : Bool) (maxr2t : Word)
  /-- R251: A command capsule is reassembled and passed on. -/
  | capsuleCommand (a : Fin 4096) (sqe : BitVec 512) (n : Nat) (data : Nat) (hdOk : Bool) (ddOk : Bool)
  /-- R251: An H2CData PDU delivers write data, with digest checking. -/
  | h2cData (id : Nat) (ofs : Nat) (n : Nat) (data : Nat) (hdOk : Bool) (ddOk : Bool)
  /-- R252: Fabrics Connect is handed to firmware and bound on success. -/
  | fabricsConnect (id : Nat)
  /-- R252: Property Get reads CC, CSTS or CAP of the fabric controller. -/
  | propertyGet (id : Nat)
  /-- R252: Property Set writes the fabric controller's CC. -/
  | propertySet (id : Nat)
  /-- R253: Keep Alive restarts the association's KATO timer in hardware. -/
  | keepAlive (id : Nat)
  /-- R253: Disconnect ends the association or queue. -/
  | disconnect (id : Nat)
  /-- R253: No admin command within KATO plus 100 ms ends the association. -/
  | katoExpiry (a : Fin 4096)
  /-- R260: A REQ frame is served as owner or forwarded with a transit entry. -/
  | herdReq (p : Fin 4) (smac : BitVec 48) (h : HerdHdr) (key : BitVec 128) (buf : Word)
  /-- R257: A DATA frame is written to the origin's connection or forwarded back. -/
  | herdData (p : Fin 4) (h : HerdHdr) (ofs : Word) (len : BitVec 16) (payload : Nat)
  /-- R257: A RESP frame completes the origin's command or is forwarded back. -/
  | herdResp (p : Fin 4) (h : HerdHdr) (status : BitVec 11) (size : Word)
  /-- R257: An ERR frame makes the origin fall back or is forwarded back. -/
  | herdErr (p : Fin 4) (h : HerdHdr) (code : BitVec 16)
  /-- R257: HRD_DEADLINE passes at the origin without a RESP; the Retrieve falls back. -/
  | herdDeadlineExpiry (txid : Word)
  /-- R258: A transit entry's deadline expires and it is removed. -/
  | transitEntryExpiry (origin : BitVec 14) (txid : Word)
  /-- R277: LEX operation 0 looks up an entry by key. -/
  | lexLookup (m : MasterId)
  /-- R277: LEX operation 1 inserts an entry. -/
  | lexInsert (m : MasterId)
  /-- R277: LEX operation 2 replaces an entry in place. -/
  | lexReplace (m : MasterId)
  /-- R277: LEX operation 3 inserts or replaces an entry. -/
  | lexInsertOrReplace (m : MasterId)
  /-- R277: LEX operation 4 empties an entry's way. -/
  | lexDelete (m : MasterId)
  /-- R277: LEX operation 5 reads a bucket way. -/
  | lexReadWay (m : MasterId)
  /-- R277: LEX operation 6 writes a heap slot. -/
  | lexWriteHeapSlot (m : MasterId)
  /-- R277: LEX operation 7 reads a heap slot. -/
  | lexReadHeapSlot (m : MasterId)
  /-- R280: Vendor command 0xC5 inserts or replaces entries. -/
  | lexiconLoad (id : Nat) (host : Nat)
  /-- R280: Vendor command 0xC9 deletes entries by key. -/
  | lexiconRemove (id : Nat) (host : Nat)
  /-- R280: Vendor command 0xCD writes heap slots. -/
  | segmentTableWrite (id : Nat) (host : Nat)
  /-- R280: Vendor command 0xCA returns buckets. -/
  | lexiconRead (id : Nat)
  /-- R280: Vendor command 0xCC changes BUCKETLOG through a commit. -/
  | lexiconGeometry (id : Nat)
  /-- R283: The pair link trains and starts sending HELLO. -/
  | pairLinkUp (lanes : Fin 3)
  /-- R283: One pair lane loses lock; the link continues at half rate. -/
  | laneLoss
  /-- R285: A NULL frame carries an acknowledgement only. -/
  | nullFrame (h : PairHdr)
  /-- R286: A HELLO frame makes the partner reachable and settles state by R302. -/
  | hello (h : PairHdr) (image : Fin 4) (acting : Fin 4) (base : Word) (current : Bool) (sync : Bool) (mapValid : Bool) (serial : DWord) (herd : BitVec 14) (slots : List (Nat × Nat × Nat))
  /-- R293: A heartbeat frame restarts the loss timer and carries the partner's state. -/
  | hb (h : PairHdr) (spent : Bool) (current : Bool) (msn : DWord)
  /-- R288: A mirrored write frame carries write data for placement in MSN order. -/
  | mwr (h : PairHdr) (slot : Byte) (kind : Byte) (lba : DWord) (blocks : Word) (n : Nat) (data : Nat)
  /-- R288: An MORD frame assigns an MSN to the junior's write. -/
  | mord (h : PairHdr)
  /-- R289: An MACK frame lets the originating half complete the mirrored write. -/
  | mack (h : PairHdr)
  /-- R290: An MNAK frame completes the mirrored write with the partner's status. -/
  | mnak (h : PairHdr) (status : BitVec 11)
  /-- R292: A LEDG frame is stored as the partner's ledger copy and acknowledged. -/
  | ledg (h : PairHdr) (page : BitVec 131072)
  /-- R292: A LACK frame acknowledges the ledger page. -/
  | lack (h : PairHdr) (seq : DWord)
  /-- R292: An LREQ frame is answered with the held ledger page. -/
  | lreq (h : PairHdr)
  /-- R292: An LRSP frame returns this half's ledger copy to replay. -/
  | lrsp (h : PairHdr) (page : Option (BitVec 131072))
  /-- R292: No answer within 40 ms; ledger recovery goes on to case 3. -/
  | lreqTimeout
  /-- R291: An NSOP frame carries out a namespace operation on this half. -/
  | nsop (h : PairHdr) (op : Byte) (slot : Byte) (lbas : Byte) (nsze : DWord)
  /-- R291: An NSACK frame completes the mirrored namespace operation. -/
  | nsack (h : PairHdr) (status : BitVec 11)
  /-- R302: An RSMAP frame carries the target's change map to the source. -/
  | rsmap (h : PairHdr) (words : List DWord)
  /-- R303: An RSD frame replaces units on the resync target. -/
  | rsd (h : PairHdr) (slot : Byte) (lba : DWord) (blocks : Word) (data : Nat)
  /-- R303: RSDONE ends the resync; both halves write epoch and enter SERVICE. -/
  | rsdone (h : PairHdr)
  /-- R303: The source copies one marked region and clears its bit. -/
  | resyncRegion (slot : Fin 128) (region : BitVec 32)
  /-- R285: No ACKSEQ advance within 20 us; retransmit from the oldest unacknowledged frame. -/
  | pairRetransmit
  /-- R285: Nothing sent for 5 us; a NULL frame is sent. -/
  | nullSend
  /-- R286: HELLO is sent every 1 ms until one is received. -/
  | helloSend
  /-- R293: HB is sent every 10 ms. -/
  | heartbeatSend
  /-- R294: 30 ms with no heartbeat declares link loss and starts the split decision. -/
  | linkLoss
  /-- R297: A witness GRANT lets the half continue at the granted epoch. -/
  | grant (ok : Bool) (pairId : DWord) (epoch : Word)
  /-- R297: A witness DENY fences the half. -/
  | deny (ok : Bool) (pairId : DWord)
  /-- R300: A witness PONG answers PING. -/
  | pong (ok : Bool)
  /-- R297: No witness reply 200 ms after the declaration fences the half. -/
  | witnessReplyTimeout
  /-- R297: A fenced half without a reply resends CLAIM every second. -/
  | claimResend
  /-- R300: PLK sends PING to the witness every second. -/
  | pingSend
  /-- R300: The witness connection is lost; WITUP clears. -/
  | witnessConnectionLost
  /-- R300: PLK tries to reconnect to the witness every second. -/
  | witnessReconnect
  /-- R309: A CIP_TAIL write submits descriptors on a firmware or privileged channel. -/
  | cipherTailWrite (m : MasterId) (ch : Fin 64) (index : BitVec 12)
  /-- R308: A free sequencer takes the next job by channel priority. -/
  | cipherJobStart (q : Fin 4)
  /-- R308: After 4,096 bytes or instructions a sequencer yields to a waiting privileged job. -/
  | cipherSlicePoint (q : Fin 4)
  /-- R310: A job ends and writes STATUS and RESULT. -/
  | cipherJobDone (q : Fin 4)
  /-- R313: Microcode END ends the job. -/
  | endProg (q : Fin 4)
  /-- R313: Microcode LDIN loads the next 16 input bytes. -/
  | ldin (q : Fin 4)
  /-- R313: Microcode STOUT writes output bytes. -/
  | stout (q : Fin 4)
  /-- R313: Microcode LDP loads a job parameter. -/
  | ldp (q : Fin 4)
  /-- R313: Microcode AESE encrypts a block. -/
  | aese (q : Fin 4)
  /-- R313: Microcode AESD decrypts a block. -/
  | aesd (q : Fin 4)
  /-- R313: Microcode XOR. -/
  | xor (q : Fin 4)
  /-- R313: Microcode GFMUL multiplies in GF(2^128). -/
  | gfmul (q : Fin 4)
  /-- R313: Microcode XTIME multiplies by alpha. -/
  | xtime (q : Fin 4)
  /-- R313: Microcode INC64 increments the counter half. -/
  | inc64 (q : Fin 4)
  /-- R313: Microcode CTRADD adds to the counter half. -/
  | ctradd (q : Fin 4)
  /-- R313: Microcode GLEN forms the GCM length block. -/
  | glen (q : Fin 4)
  /-- R313: Microcode MOV. -/
  | mov (q : Fin 4)
  /-- R313: Microcode ZERO. -/
  | zero (q : Fin 4)
  /-- R313: Microcode BLOOP jumps while input remains. -/
  | bloop (q : Fin 4)
  /-- R313: Microcode BUNIT jumps at a data-unit start. -/
  | bunit (q : Fin 4)
  /-- R313: Microcode BAAD jumps within additional data. -/
  | baad (q : Fin 4)
  /-- R313: Microcode CHKTAG compares a tag and marks failure. -/
  | chktag (q : Fin 4)
  /-- R313: Microcode STTAG writes a tag. -/
  | sttag (q : Fin 4)
  /-- R310: A reserved microcode opcode ends the job with ILLEGAL. -/
  | illegalOpcode (q : Fin 4)
  /-- R319: Privileged program 0 copies and checks a CMAC under the IAK. -/
  | authenticatedCopy (q : Fin 4)
  /-- R319: Privileged program 1 unwraps and re-wraps a key into the key store. -/
  | keyImport (q : Fin 4)
  /-- R319: Privileged program 2 loads a key into the key cache. -/
  | keyLoad (q : Fin 4)
  /-- R319: Privileged program 3 evicts a key from the key cache. -/
  | keyEvict (q : Fin 4)
  /-- R319: Privileged program 4 empties and evicts a key-store entry. -/
  | keyErase (q : Fin 4)
  /-- R312: In CONFIG, CIP authenticates and loads the chaining microcode. -/
  | microcodeLoad
  /-- R316: CIP_FUSECTL.GO programs the selected fuse key. -/
  | fuseProgram (m : MasterId) (sel : Fin 4)
  /-- R316: Fuse programming ends after 10 ms. -/
  | fuseProgramDone
  /-- R325: An SRAM word read is decoded, corrected or reported uncorrectable. -/
  | sramRead (m : MasterId) (off : BitVec 27) (n : Fin 65) (fetch : Bool) (flips : BitVec 72)
  /-- R326: An SRAM write replaces a word or read-modify-writes it. -/
  | sramWrite (m : MasterId) (off : BitVec 27) (n : Fin 65) (v : BitVec 512) (flips : BitVec 72)
  /-- R329: The scrub engine starts a pass over every powered bank. -/
  | sramScrubPass
  /-- R329: A scrub pass has not ended when MS expires. -/
  | sramScrubLate
  /-- R333: A BPM_ALLOC write allocates a buffer or returns handle 0. -/
  | bpmAlloc (m : MasterId) (group : Fin 9) (size : BitVec 19)
  /-- R333: A waiting hardware allocation is served when a buffer frees. -/
  | hwAllocServed
  /-- R335: BPM operation FREE returns a buffer or marks it FREEING. -/
  | free (m : MasterId) (group : Fin 9) (pool : Fin 4) (idx : BitVec 24)
  /-- R335: BPM operation SHARE adds a share. -/
  | share (m : MasterId) (group : Fin 9) (pool : Fin 4) (idx : BitVec 24)
  /-- R335: BPM operation UNSHARE drops a share and may free the buffer. -/
  | unshare (m : MasterId) (group : Fin 9) (pool : Fin 4) (idx : BitVec 24)
  /-- R335: BPM operation PASS hands the buffer to another owner. -/
  | pass (m : MasterId) (group : Fin 9) (pool : Fin 4) (idx : BitVec 24) (target : MasterId)
  /-- R334: The free-ring engine refills the cache with 32 handles. -/
  | freeRingRefill (pool : Fin 4)
  /-- R334: The free-ring engine spills 32 handles to the ring. -/
  | freeRingSpill (pool : Fin 4)
  /-- R337: DMA_NCTL.LOAD loads the shadow set, moving it in at once when idle. -/
  | dmaLoad (m : MasterId) (n : Fin 64) (irq : Bool)
  /-- R338: DMA_NCTL.ABORT returns the channel to idle and discards the shadow. -/
  | dmaAbort (m : MasterId) (n : Fin 64)
  /-- R339: A channel moves one beat of up to 64 bytes through its swaps. -/
  | dmaBeat (n : Fin 64)
  /-- R338: The last write is acknowledged; DONE is set and a loaded shadow moves in. -/
  | dmaTransferDone (n : Fin 64)
  /-- R341: Clearing DMA_GSTAT.STOPPED resumes stopped channels and waiting loads. -/
  | dmaResume (m : MasterId)
  /-- R346: A DRAM line read is decoded, corrected or reported. -/
  | dramRead (m : MasterId) (off : BitVec 37) (n : Fin 65) (fetch : Bool) (flips : BitVec 40) (queuedWrite : Bool)
  /-- R344: A DRAM write, read-modify-write when narrower than a line. -/
  | dramWrite (m : MasterId) (off : BitVec 37) (n : Fin 65) (v : BitVec 512) (flips : BitVec 40)
  /-- R349: DRC_INIT.GO runs initialisation and the check pattern on every rank. -/
  | dramInit (m : MasterId)
  /-- R349: Initialisation ends with DONE, and FAIL with a cause when a step failed. -/
  | dramInitDone (fail : Bool) (cause : Fin 4) (laneFail : BitVec 20)
  /-- R352: DRC issues REFab to a rank every tREFI. -/
  | refresh (ch : Fin 4) (rank : Fin 2)
  /-- R352: DRC reads MR4 and enters or leaves doubled refresh. -/
  | mr4Poll (hot : BitVec 4)
  /-- R355: At each refresh-window boundary, the activate tables are cleared. -/
  | refreshWindow (ch : Fin 4)
  /-- R354: An open row with no hit for IDLE cycles is closed. -/
  | rowIdleClose (ch : Fin 4) (rank : Fin 2) (bg : Fin 8) (bank : Fin 4)
  /-- R350: DRC_CHCTL.HOLD stops new accesses on a channel, then sets HELD. -/
  | channelHold (m : MasterId) (mask : BitVec 4)
  /-- R356: The DRAM scrub engine starts a pass over installed DRAM. -/
  | dramScrubPass
  /-- R356: A DRAM scrub pass overruns SEC. -/
  | dramScrubLate
  /-- R359: A code-flash read is decoded or stalls while its bank is busy. -/
  | codeFlashRead (m : MasterId) (off : BitVec 24) (n : Fin 65) (fetch : Bool) (flips : BitVec 72)
  /-- R19: A plain store to boot ROM or code flash completes with an error response. -/
  | illegalWrite (m : MasterId) (a : Addr) (n : Fin 65) (v : BitVec 512)
  /-- R18: An access outside the address map completes with an error response. -/
  | unmappedAccess (m : MasterId) (a : Addr) (n : Fin 65) (write : Bool) (fetch : Bool)
  /-- R12: A write to a register with no row of its own acts by its access type. -/
  | registerWrite (m : MasterId) (off : BitVec 26) (v : Word)
  /-- R361: CFL_CMD program writes a word in single- or twice-program form. -/
  | wordProgram (m : MasterId)
  /-- R360: CFL_CMD erase erases a sector. -/
  | eraseSector (m : MasterId)
  /-- R364: CFL_CMD suspend holds a running erase. -/
  | suspendErase (m : MasterId)
  /-- R360: CFL_CMD resume continues a suspended erase. -/
  | resumeErase (m : MasterId)
  /-- R362: A word program ends and is verified. -/
  | flashProgramDone (bank : Fin 2) (miss : BitVec 72)
  /-- R360: A sector erase ends or fails after 40 ms. -/
  | flashEraseDone (bank : Fin 2) (ok : Bool)
  /-- R367: BOT_SWAP.GO programs one selector word to swap boot banks. -/
  | bootBlockSwap (m : MasterId)
  /-- R369: BOT_SEAL.SEAL enforces the map, locks RWB registers and enters CONFIG. -/
  | sealMap (m : MasterId)
  /-- R368: The boot ROM authenticates and jumps to the active boot block. -/
  | bootAuthenticate
  /-- R368: No seal 2 s after the jump sends the device to RECOVERY. -/
  | sealTimeout
  /-- R48: The boot ROM reads, authenticates and checks the layout image. -/
  | imageCheck
  /-- R87: Each declared target is reset, identified and trained. -/
  | dieDiscovery (found : List (Nat × DieParam))
  /-- R48: LAY_STAT reads applied and the device leaves CONFIG. -/
  | imageApplied
  /-- R27: PWR_CTL.RECOV requests RECOVERY at the next boundary. -/
  | recoveryRequest (m : MasterId)
  /-- R374: L7 authenticates a recovery image and starts it. -/
  | recoveryEntry
  /-- R375: A logical core executes an RV64IMAC instruction. -/
  | coreInstruction (n : CoreId)
  /-- R375: FENCE.I invalidates the instruction cache. -/
  | fenceI (n : CoreId)
  /-- R424: EBREAK halts the pair when EBRK is 1, otherwise traps. -/
  | ebreak (n : CoreId) (compressed : Bool)
  /-- R381: A read of mevclaim claims the highest-priority claimable vector. -/
  | mevclaim (n : CoreId) (rd : Fin 32)
  /-- R381: A write of mevcomplete ends a vector's service. -/
  | mevcomplete (n : CoreId) (rs : Fin 32)
  /-- R381: A write of mevthresh sets the priority threshold. -/
  | mevthresh (n : CoreId) (rs : Fin 32)
  /-- R378: A write of mwdkick restarts the watchdog. -/
  | mwdkick (n : CoreId)
  /-- R376: A core traps to an asserted interrupt. -/
  | interruptTake (n : CoreId) (code : Fin 64)
  /-- R377: The pair halts on an output mismatch. -/
  | lockstepMismatch (n : CoreId)
  /-- R378: First expiry sets WARNED and asserts interrupt code 16. -/
  | watchdogWarning (n : CoreId)
  /-- R378: Second expiry halts the pair. -/
  | watchdogExpiry (n : CoreId)
  /-- R378: A write of EVR_WDOG.PERIOD restarts the watchdog. -/
  | watchdogPeriodWrite (m : MasterId) (n : CoreId) (period : BitVec 16)
  /-- R376: EVR_MTIME reaches EVR_MTIMECMP and asserts the machine timer interrupt. -/
  | machineTimerMatch (n : CoreId)
  /-- R380: A source is raised, marking its vector pending and writing a record. -/
  | eventRaise (src : Fin 640) (payload : DWord)
  /-- R383: EVR_SWRAISE.GO raises EV_EVR_SW(INDEX). -/
  | softwareRaise (m : MasterId) (index : Fin 64)
  /-- R384: A write of MBX_SENDLO fills the sender's staging latch. -/
  | mbxSendlo (m : MasterId) (k : Fin 64) (ptr : Word)
  /-- R384: A write of MBX_SENDHI posts the message, or is refused when the mailbox is full. -/
  | mbxSendhi (m : MasterId) (k : Fin 64) (ptr : Byte) (tag : BitVec 16)
  /-- R385: A read of MBX_RECV takes the message and empties the mailbox. -/
  | mbxRecv (m : MasterId) (k : Fin 64)
  /-- R391: A fault line occurrence is latched, recorded and reacted to. -/
  | faultOccurrence (line : Fin 32) (addr : Addr) (master : MasterId) (ty : Fin 4)
  /-- R394: Under reaction 3, the device resets into BOOT once quiesced. -/
  | faultReset
  /-- R389: Every FLT_RTEST.MS, FLT sweeps all 32 lines. -/
  | railTest (bad : Word)
  /-- R389: An invalid code or failed slot latches line 30. -/
  | railFault (line : Fin 32)
  /-- R388: The two collectors disagree; line 31 latches and FAULT_N drives. -/
  | collectorDisagreement
  /-- R395: A W1C write of FLT_LINE clears a line when its cause is absent. -/
  | faultLineClear (m : MasterId) (mask : Word)
  /-- R392: Writing FLT_STAT.FIRST re-arms the first-error record. -/
  | firstErrorRearm (m : MasterId)
  /-- R393: FLT_CTL.HCLR empties the history. -/
  | historyClear (m : MasterId)
  /-- R399: A PWR_VSET write sets the writer's own vote clients. -/
  | voteSet (m : MasterId) (d : Fin 8) (mask : Word)
  /-- R399: A PWR_VCLR write withdraws the writer's own vote clients. -/
  | voteClear (m : MasterId) (d : Fin 8) (mask : Word)
  /-- R401: A wanted domain begins powering up. -/
  | domainPowerUp (d : Fin 8) (q : Fin 4)
  /-- R404: Power-up ends; registers are reloaded and EV_PWR_DOMUP is raised. -/
  | domainUpDone (d : Fin 8) (q : Fin 4) (ok : Bool)
  /-- R401: An unwanted domain begins to drop when its condition holds. -/
  | domainDrop (d : Fin 8) (q : Fin 4)
  /-- R401: A drop ends and EV_PWR_DOMDOWN is raised. -/
  | domainDropDone (d : Fin 8) (q : Fin 4)
  /-- R403: No entry queued for a quad for IDLE ticks ends its demand. -/
  | demandLapse (q : Fin 4)
  /-- R407: PWR_PSREQ.GO changes mode at the next boundary and runs the DVFS sequencer. -/
  | powerStateRequest (m : MasterId) (ps : Fin 8)
  /-- R407: The DVFS sequencer's last step ends; BUSY clears. -/
  | dvfsDone
  /-- R410: A core writes its PWR_READY bit. -/
  | dormantReady (m : MasterId) (mask : Byte)
  /-- R410: With every core ready, PWR puts DRAM in self-refresh, stops the Churn and removes power. -/
  | retentionPoint
  /-- R410: A core not ready 20 ms after GO abandons the entry. -/
  | dormantEntryAbandon
  /-- R412: CLKREQ#, an SMBus address or a command starts the DORMANT exit. -/
  | wake (cause : Fin 3)
  /-- R412: Exit ends; cores start, the Churn restarts and the mode is restored. -/
  | dormantExitDone (ok : Bool)
  /-- R416: A PMU counter overflows, raising its event and chaining. -/
  | counterOverflow (i : Fin 256) (pc : Addr)
  /-- R417: PMU_GCMD.FREEZE stops every counter. -/
  | freeze (m : MasterId)
  /-- R417: PMU_GCMD.UNFREEZE restarts every counter. -/
  | unfreeze (m : MasterId)
  /-- R417: PMU_GCMD.SNAP captures all counters for the snapshot engine. -/
  | snap (m : MasterId)
  /-- R417: PMU_GCMD.CLEAR zeroes every counter and overflow bit. -/
  | clear (m : MasterId)
  /-- R417: The snapshot engine has written the snapshot. -/
  | snapshotDone
  /-- R420: A read of PMU_SPC_HI clears VALID. -/
  | samplePcRead (m : MasterId)
  /-- R421: A JDP line reset returns the port to idle. -/
  | lineReset
  /-- R422: A JST write clears error status or abandons a bus access. -/
  | jstWrite (seq : Bool) (data : Word) (crc : Byte)
  /-- R422: A JBD read starts a bus read as master 8. -/
  | jbdRead (seq : Bool)
  /-- R422: A JBD write is performed in the background as master 8. -/
  | jbdWrite (seq : Bool) (data : Word) (crc : Byte)
  /-- R422: A JBD bus access ends. -/
  | jbdAccessDone
  /-- R423: JDP HALT stops the pair before its next instruction. -/
  | halt (m : MasterId) (n : CoreId)
  /-- R423: JDP RESUME lets a halted pair continue. -/
  | resumeCore (m : MasterId) (n : CoreId)
  /-- R423: JDP STEP executes one instruction. -/
  | step (m : MasterId) (n : CoreId)
  /-- R426: JDP SPLIT stops comparison for a halted pair. -/
  | split (m : MasterId) (n : CoreId)
  /-- R423: JDP IINV invalidates the pair's instruction cache. -/
  | iinv (m : MasterId) (n : CoreId)
  /-- R424: A breakpoint halts the pair before the instruction. -/
  | breakpointHit (n : CoreId) (i : Fin 8)
  /-- R424: A watchpoint halts the pair after the instruction retires. -/
  | watchpointHit (n : CoreId) (j : Fin 4)
  /-- R425: JDP_RSEL.GO reads or writes a register of a halted pair. -/
  | coreRegisterAccess (m : MasterId) (n : CoreId) (num : BitVec 12) (csr : Bool) (write : Bool) (differ : Bool)
  /-- R229: The Interrupt Coalescing aggregation time runs out for a completion queue whose posted entries have not yet been signalled, and HPT signals its MSI-X vector. -/
  | aggregationTimeExpiry (q : BitVec 16)
  /-- R27: In CONFIG on a paired device, 250 ms pass after pair link enable with the partner not reachable, and CONFIG ends in SOLO. -/
  | partnerReachTimeout
  /-- R300: The witness completes the TCP handshake that PLK opened, the witness connection opens and WITUP becomes 1. -/
  | witnessConnectionUp
  /-- R283: A pair link lane that had lost lock regains it, and frames are striped across both lanes again. -/
  | pairLaneRestore
  /-- R440: In DORMANT, after CLKREQ# is deasserted, the 100 MHz reference stops and AON moves to its 1 MHz oscillator without a fault occurrence. -/
  | referenceClockStop
  /-- R20: The 100 MHz reference runs again, AON returns from its oscillator to the reference, and the cause of line 28 becomes absent. -/
  | referenceClockReturn
  /-- R421: A JDP wire transaction reads JID or JST, writes JBA_LO, JBA_HI or JMODE, names a reserved REG or OP, or fails its CRC-4; the first valid request after a line reset sets ATTACHED. -/
  | jdpPortRequest (word : BitVec 12) (data : Word) (crc : Byte)
  deriving DecidableEq, Repr

end Sys2Proof
end

