-- ==== Sys2Proof/Machine/Map.lean ====
section
/-! DEFINITION. Sparse maps as lists of (key, value) pairs in one canonical form: keys strictly rising, no entry equal to what an unlisted key reads as. -/

namespace Sys2Proof.Machine

/-- A sparse map from Nat keys. -/
abbrev SMap (α : Type) := List (Nat × α)

/-- The entry at key k, if one is listed. -/
def mfind {α : Type} (m : SMap α) (k : Nat) : Option α :=
  match m with
  | [] => none
  | (k', v) :: r => if k' = k then some v else mfind r k

/-- The value at key k; an unlisted key reads as d. -/
def mget {α : Type} (d : α) (m : SMap α) (k : Nat) : α := (mfind m k).getD d

/-- Remove key k. -/
def mdel {α : Type} (m : SMap α) (k : Nat) : SMap α :=
  match m with
  | [] => []
  | (k', v) :: r => if k' = k then r else (k', v) :: mdel r k

/-- List value v at key k, in key order. -/
def mins {α : Type} (m : SMap α) (k : Nat) (v : α) : SMap α :=
  match m with
  | [] => [(k, v)]
  | (k', v') :: r => if k < k' then (k, v) :: (k', v') :: r else if k = k' then (k, v) :: r else (k', v') :: mins r k v

/-- Write v at key k of a map whose unlisted keys read as d: writing d removes the entry. -/
def mput {α : Type} [DecidableEq α] (d : α) (m : SMap α) (k : Nat) (v : α) : SMap α :=
  if v = d then mdel m k else mins m k v

/-- Update the value at key k. -/
def mmod {α : Type} [DecidableEq α] (d : α) (m : SMap α) (k : Nat) (f : α → α) : SMap α :=
  mput d m k (f (mget d m k))

/-- The keys listed. -/
def mkeys {α : Type} (m : SMap α) : List Nat := m.map Prod.fst

/-- Keys strictly rising, all above lo. -/
def sortedFrom {α : Type} (lo : Option Nat) : SMap α → Bool
  | [] => true
  | (k, _) :: r => (match lo with | none => true | some l => decide (l < k)) && sortedFrom (some k) r

/-- The numbers lo, lo+1, …, n of them. -/
def rangeFrom (lo n : Nat) : List Nat := (List.range n).map (lo + ·)

/-- List element i, or d. -/
def nth {α : Type} (d : α) (l : List α) (i : Nat) : α := (l[i]?).getD d

/-- Replace element i of a list. -/
def setNth {α : Type} (l : List α) (i : Nat) (v : α) : List α := l.set i v

/-- Bit i of a natural number. -/
def nbit (n i : Nat) : Bool := n.testBit i

/-- Bits lo … lo + w - 1 of a natural number. -/
def nbits (n lo w : Nat) : Nat := (n >>> lo) % 2 ^ w

/-- 1 for true. -/
def b2n (b : Bool) : Nat := if b then 1 else 0

/-- n / d rounded up. -/
def ceilDiv (n d : Nat) : Nat := (n + d - 1) / d

/-- How many bits of n below w are 1. -/
def popCount (w n : Nat) : Nat := ((List.range w).filter (nbit n)).length

/-- The bytes of v, least significant first, n of them. -/
def leBytes (n v : Nat) : List Byte := (List.range n).map fun i => BitVec.ofNat 8 (v >>> (8 * i))

/-- The number that a list of bytes spells, least significant first. -/
def ofLe (l : List Byte) : Nat := l.foldr (fun b a => b.toNat + 256 * a) 0

/-- The number that a list of bytes spells, most significant first. -/
def ofBe (l : List Byte) : Nat := l.foldl (fun a b => b.toNat + 256 * a) 0

end Sys2Proof.Machine
end

