-- ==== Sys2Proof/Machine/Flags.lean ====
section
/-! DEFINITION. Check-bit computations: the extended Hamming codes of SRAM and code flash (R324) and of DRAM (R345), and what a difference between recomputed and stored check bits means (R325, R346). -/

namespace Sys2Proof.Machine

/-- p is a power of two. -/
def isPow2 (p : Nat) : Bool := p != 0 && (p &&& (p - 1)) == 0

/-- The positions of the data bits in ascending order: 3, 5, 6, 7, 9, … 71 (R324). -/
def hamPos : List Nat := (rangeFrom 3 69).filter fun p => !isPow2 p

/-- The Hamming check bits of w data bits: the XOR of the positions of the 1 bits (R324). -/
def hamXor (w d : Nat) : Nat :=
  (hamPos.take w).zipIdx.foldl (fun acc pi => if nbit d pi.2 then acc ^^^ pi.1 else acc) 0

/-- The check byte of a 64-bit word: c(0) to c(6), and c(7) making the XOR of all 72 bits 0 (R324). -/
def chk72 (d : Nat) : Nat :=
  let c := hamXor 64 d
  c + 128 * ((popCount 64 d + popCount 7 c) % 2)

/-- The check byte of a 32-bit DRAM beat whose address bits have XOR ap (R345). -/
def chkBeat (d ap : Nat) : Nat :=
  let c := hamXor 32 d
  c + 64 * ((popCount 32 d + popCount 6 c) % 2) + 128 * (ap % 2)

/-- What a read finds: no error, a single error (in data bit j, or in a check bit), an uncorrectable error. -/
inductive EccR where
  | clean
  | fixData (j : Nat)
  | fixCheck
  | bad
  deriving DecidableEq, Repr

/-- Decode a check difference (recomputed XOR stored) of n Hamming check bits and the overall parity bit above them, over
positions up to top (R325, R346). -/
def eccDecode (n top diff : Nat) : EccR :=
  let syn := diff % 2 ^ n
  let odd := popCount (n + 1) diff % 2 == 1
  if syn = 0 then (if odd then .fixCheck else .clean)
  else if !odd || top < syn then .bad
  else if isPow2 syn then .fixCheck
  else match hamPos.findIdx? (· == syn) with
    | some j => .fixData j
    | none => .bad

/-- The check difference that flipping data bit j of a word makes: its position, and the overall bit. -/
def chkOfBit (n j : Nat) : Nat :=
  let p := nth 0 hamPos j
  p + 2 ^ n * ((1 + popCount n p) % 2)

end Sys2Proof.Machine
end

