-- ==== Sys2Proof/Config.lean ====
section
/-! DEFINITION. What the part's implementation fixes and the spec leaves open: constants without a body, so that no proof can see a value of them (notes/assumptions/3.md, notes/assumptions/4.md). -/

namespace Sys2Proof.Config

/-- The n-th value that the spec leaves open during a run: a natural number (a time, a choice, a packed value).
A free value is this constant applied to the counter State.free. -/
opaque freeNat : Nat → Nat

/-- The n-th value that the spec leaves open during a run, as a word of w bits. -/
opaque freeValue (w : Nat) : Nat → BitVec w

/-- The boot ROM's contents: byte at offset a (R17 gives its place and size, not its contents). -/
opaque bootRom : Nat → BitVec 8

/-- The cipher fuse keys as they are fused at manufacture: byte i of fuse key k, 0 where the key is not fused (R313). -/
opaque fuseKey : Nat → Nat → BitVec 8

/-- Which fuse keys are fused at manufacture: bit k for fuse key k (reset value "fuse" of CIP_STAT.FUSED). -/
opaque fusedAtReset : BitVec 3

/-- The part's grade fuse: true for BQ7232-X (reset value "fuse" of BOT_ID.GRADE, R2). -/
opaque gradeX : Bool

/-- The part's fused voltage trim, 0–20 (reset value "fuse" of PWR_VTRIM.VT, R435). -/
opaque vtrim : BitVec 5

/-- The number of the first snapshot after CTRL powers up is 1, or 0 where this is false: R417 only says that snapshots are counted from then. -/
opaque snapFromOne : Bool

/-- The word that a soft decoder holds after a number of iterations of min-sum decoding (R119), from the input LLRs as sign (true for a stored 1) and
magnitude: the spec names the algorithm and gives neither its schedule nor its arithmetic. -/
opaque minSum : List (Bool × Nat) → Nat → BitVec 36864

/-- A core performs a misaligned load or store to memory itself; false: it raises the misaligned exception (R375 leaves it to the implementation). -/
opaque misalignedOk : Bool

/-- An exception of this mcause code writes its address or instruction bits to mtval; false: it writes 0 (left to the implementation). -/
opaque mtvalSet : Nat → Bool

end Sys2Proof.Config
end

