-- ==== Sys2Proof/Machine/Events.lean ====
section
/-! DEFINITION. The numbers of the 640 event sources (R383): within each range the sources take consecutive numbers, in the order listed. -/

namespace Sys2Proof.Machine

def EV_TCK_BOUNDARY : Nat := 0
def EV_TCK_SLIP : Nat := 1
def EV_TCK_DROP : Nat := 2
def EV_TCK_RDLATE : Nat := 3
def EV_TCK_COMMIT : Nat := 4
def EV_TCK_COMMITREF : Nat := 5
def EV_TCK_THROTTLE : Nat := 6
def EV_FCH_DIETO : Nat := 16
def EV_FCH_PGMFAIL : Nat := 17
def EV_FCH_ERSFAIL : Nat := 18
def EV_FCH_RETRYMAX : Nat := 19
def EV_FCH_TRKSAT : Nat := 20
def EV_FCH_CROVF : Nat := 21
def EV_FCH_DIECTLREF : Nat := 22
def EV_FCH_TRAINLATE : Nat := 23
def EV_FCH_BOD : Nat := 24
def EV_FCH_QUIESCE : Nat := 25
def EV_ECC_NEAR : Nat := 48
def EV_ECC_SOFT : Nat := 49
def EV_ECC_UNCOR : Nat := 50
def EV_ECC_ERASED : Nat := 51
def EV_ECC_CHECK : Nat := 52
def EV_ECC_RROVF : Nat := 53
def EV_ECC_INJ : Nat := 54
def EV_TXE_LOSTREAD : Nat := 64
def EV_TXE_FWENT : Nat := 65
def EV_TXE_BADENT : Nat := 66
def EV_TXE_BYPASS : Nat := 67
def EV_TXE_PLACEFULL : Nat := 68
def EV_TXE_NSREADY : Nat := 69
def EV_SKM_FG : Nat := 80
def EV_SKM_NOVICTIM : Nat := 81
def EV_SKM_RETIRE : Nat := 82
def EV_SKM_RETREF : Nat := 83
def EV_SKM_DIERET : Nat := 84
def EV_SKM_SPARELOW : Nat := 85
def EV_SKM_SPENT : Nat := 86
def EV_SKM_WLGAP : Nat := 87
def EV_STE_WIDTH : Nat := 96
def EV_STE_REPLACE : Nat := 97
def EV_STE_LEDGERFULL : Nat := 98
def EV_STE_LEDGERMOVE : Nat := 99
def EV_STE_REBUILD : Nat := 100
def EV_STE_REBUILT : Nat := 101
def EV_STE_LOST : Nat := 102
def EV_STE_LOSTOVF : Nat := 103
def EV_STE_PATFIX : Nat := 104
def EV_STE_PATUNLOC : Nat := 105
def EV_STE_PATLATE : Nat := 106
def EV_STE_PATPASS : Nat := 107
def EV_CKP_BOD : Nat := 112
def EV_CKP_QUIESCED : Nat := 113
def EV_CKP_DONE : Nat := 114
def EV_CKP_LATE : Nat := 115
def EV_CKP_HOLDUP : Nat := 116
def EV_CKP_REPLAYED : Nat := 117
def EV_CKP_FAIL : Nat := 118
def EV_HPT_LINKUP : Nat := 128
def EV_HPT_LINKDOWN : Nat := 129
def EV_HPT_FLR : Nat := 130
def EV_HPT_CCEN : Nat := 131
def EV_HPT_SHN : Nat := 132
def EV_HPT_FWCMD : Nat := 133
def EV_HPT_FWFULL : Nat := 134
def EV_HPT_FWTO : Nat := 135
def EV_HPT_FWREF : Nat := 136
def EV_HPT_XFERERR : Nat := 137
def EV_HPT_CQFULL : Nat := 138
def EV_HPT_DBERR : Nat := 139
def EV_FAB_LINKUP : Nat := 144
def EV_FAB_LINKDOWN : Nat := 145
def EV_FAB_CTXFULL : Nat := 146
def EV_FAB_DGSTERR : Nat := 147
def EV_FAB_KATO : Nat := 148
def EV_FAB_ASSOCEND : Nat := 149
def EV_HRD_TIMEOUT : Nat := 160
def EV_HRD_ERR : Nat := 161
def EV_HRD_TRANSITFULL : Nat := 162
def EV_HRD_NOROUTE : Nat := 163
def EV_LEX_OPDONE : Nat := 176
def EV_LEX_FULL : Nat := 177
def EV_LEX_BADENT : Nat := 178
def EV_LEX_FALLBACK : Nat := 179
def EV_PLK_LANE : Nat := 192
def EV_PLK_LOSS : Nat := 193
def EV_PLK_DECIDED : Nat := 194
def EV_PLK_WITLOST : Nat := 195
def EV_PLK_ANACHG : Nat := 196
def EV_PLK_RESYNC : Nat := 197
def EV_PLK_STALE : Nat := 198
def EV_CIP_JOBDONE : Nat := 208
def EV_CIP_JOBERR : Nat := 209
def EV_CIP_UNTRUSTED : Nat := 210
def EV_CIP_AUTHFAIL : Nat := 211
def EV_CIP_NOKEY : Nat := 212
def EV_CIP_UCFAIL : Nat := 213
def EV_CIP_CACHEFULL : Nat := 214
def EV_SRM_CE : Nat := 224
def EV_SRM_UNCOR : Nat := 225
def EV_SRM_SCRUBLATE : Nat := 226
def EV_BPM_BADFREE : Nat := 240
def EV_BPM_BADOP : Nat := 241
def EV_BPM_EMPTY : Nat := 242
def EV_BPM_LOW : Nat := 243
def EV_DMA_DONE : Nat := 256
def EV_DMA_HALT : Nat := 257
def EV_DMA_STOP : Nat := 258
def EV_DMA_SHADOWBUSY : Nat := 259
def EV_DRC_CE : Nat := 272
def EV_DRC_UNCOR : Nat := 273
def EV_DRC_ADDRERR : Nat := 274
def EV_DRC_TEMPHI : Nat := 275
def EV_DRC_SCRUBLATE : Nat := 276
def EV_DRC_INITFAIL : Nat := 277
def EV_CFL_DONE : Nat := 288
def EV_CFL_REFUSED : Nat := 289
def EV_CFL_PGMFAIL : Nat := 290
def EV_CFL_ERSFAIL : Nat := 291
def EV_CFL_WARN : Nat := 292
def EV_CFL_CE : Nat := 293
def EV_CFL_UNCOR : Nat := 294
def EV_BOT_SWAP : Nat := 304
def EV_BOT_DENY : Nat := 305
def EV_LAY_APPLIED : Nat := 312
def EV_LAY_REJECT : Nat := 313
def EV_LAY_DIEMISS : Nat := 314
def EV_LAY_RATE : Nat := 315
def EV_LAY_PAIRCONFLICT : Nat := 316
def EV_PWR_MODE : Nat := 320
def EV_PWR_DOMUP : Nat := 321
def EV_PWR_DOMDOWN : Nat := 322
def EV_PWR_DVFS : Nat := 323
def EV_PWR_WAKE : Nat := 324
def EV_PWR_SAVED : Nat := 325
def EV_PWR_RESTORED : Nat := 326
def EV_FLT_FIRST : Nat := 336
def EV_FLT_ERROR : Nat := 337
def EV_FLT_HISTOVF : Nat := 338
def EV_FLT_RAIL : Nat := 339
def EV_FLT_CLEARED : Nat := 340
def EV_PMU_OVF : Nat := 352
def EV_PMU_SAMPLE : Nat := 353
def EV_PMU_SNAP : Nat := 354
def EV_JDP_ATTACH : Nat := 368
def EV_JDP_HALT : Nat := 369
def EV_JDP_RESUME : Nat := 370
def EV_JDP_DENY : Nat := 371
def EV_CORE_LOCKSTEP : Nat := 384
def EV_CORE_WDOGWARN : Nat := 385
def EV_CORE_WDOG : Nat := 386
def EV_CORE_HALTED : Nat := 387
def EV_EVR_RECOVF : Nat := 400
def EV_MBX_REJECT : Nat := 408
def EV_MBX_PWRERR : Nat := 409
/-- EV_MBX_MSGk. -/
def EV_MBX_MSG (k : Nat) : Nat := 416 + k
/-- EV_MBX_EMPTYk. -/
def EV_MBX_EMPTY (k : Nat) : Nat := 480 + k
/-- EV_EVR_SWi. -/
def EV_EVR_SW (i : Nat) : Nat := 544 + i

/-- The assigned ranges of R383, as (first number, how many); every other number is reserved and is never raised. -/
def evRanges : List (Nat × Nat) :=
  [(0, 7), (16, 10), (48, 7), (64, 6), (80, 8), (96, 12), (112, 7), (128, 12),
   (144, 6), (160, 4), (176, 4), (192, 7), (208, 7), (224, 3), (240, 4), (256, 4),
   (272, 6), (288, 7), (304, 2), (312, 5), (320, 7), (336, 5), (352, 3), (368, 4),
   (384, 4), (400, 1), (408, 2), (416, 64), (480, 64), (544, 64)]

/-- Source number n is assigned (R383). -/
def evAssigned (n : Nat) : Bool := evRanges.any fun r => r.1 ≤ n && n < r.1 + r.2

end Sys2Proof.Machine
end

