-- ==== Sys2Proof/Machine/Reg.lean ====
section
/-! DEFINITION. Register descriptors: what the register maps of spec/ give for each register (offset, repetition, reset value, access type of every bit). -/

namespace Sys2Proof.Machine

/-- A register, or an array of registers, of the register space.  off is the offset of its first word from 0x00_4000_0000 (R15);
up to three dimensions repeat it n1, n2, n3 times with strides s1, s2, s3; first is the lowest index the innermost dimension
has.  reset is the reset value of its fields, and rw … ro the bits of each access type (R12); every other bit is reserved
(R11). -/
structure Reg where
  off   : Nat
  n1    : Nat := 1
  s1    : Nat := 0
  n2    : Nat := 1
  s2    : Nat := 0
  n3    : Nat := 1
  s3    : Nat := 0
  first : Nat := 0
  reset : BitVec 32 := 0
  rw    : BitVec 32 := 0
  rws   : BitVec 32 := 0
  rwb   : BitVec 32 := 0
  w1c   : BitVec 32 := 0
  w1s   : BitVec 32 := 0
  wo    : BitVec 32 := 0
  ro    : BitVec 32 := 0
  deriving DecidableEq, Repr

/-- A field of a register: width bits from bit lo. -/
structure Fld where
  reg   : Reg
  lo    : Nat
  width : Nat
  deriving DecidableEq, Repr

/-- The offset of the word with indices i, j, k. -/
def Reg.at (r : Reg) (i j k : Nat) : Nat := r.off + i * r.s1 + j * r.s2 + k * r.s3

/-- The bits of the register that hold a value (a WO field holds none, and a reserved bit reads 0: R11, R12). -/
def Reg.mask (r : Reg) : BitVec 32 := r.rw ||| r.rws ||| r.rwb ||| r.w1c ||| r.w1s ||| r.ro

/-- The indices at which an offset lies in a register array, if it does. -/
def Reg.hit (r : Reg) (off : Nat) : Option (Nat × Nat × Nat) :=
  if off < r.off then none else
  let d := off - r.off
  let i := if r.s1 = 0 then 0 else d / r.s1
  let d := d - i * r.s1
  let j := if r.s2 = 0 then 0 else d / r.s2
  let d := d - j * r.s2
  let k := if r.s3 = 0 then 0 else d / r.s3
  let d := d - k * r.s3
  let last := if r.s3 ≠ 0 then k else if r.s2 ≠ 0 then j else i
  if d = 0 && i < r.n1 && j < r.n2 && k < r.n3 && r.first ≤ last then some (i, j, k) else none

end Sys2Proof.Machine
end

