-- ==== Sys2Proof/Machine/RegMapA.lean ====
section
/-! DEFINITION. The register maps of the blocks TCK to CIP, as spec/ lays them out (R9, R12, R15): one descriptor per register, one per field. -/

namespace Sys2Proof.Machine

/-! ### Block TCK (register map of spec/03_churn_tick.md) -/
def TCK_PERIOD : Reg := { off := 0x0, reset := 0x8, rws := 0x3F }
def TCK_CUTOFF : Reg := { off := 0x4, reset := 0xA, rws := 0x1F }
def TCK_MODE : Reg := { off := 0x8, rws := 0xFFFFFFFF }
def TCK_WEIGHT : Reg := { off := 0xC, reset := 0x1020408, rws := 0xFFFFFFFF }
def TCK_CREDIT : Reg := { off := 0x10, reset := 0x4, rws := 0x7FF }
def TCK_CREDNOW : Reg := { off := 0x14, reset := 0x400, ro := 0x800007FF }
def TCK_QUOTA : Reg := { off := 0x18, reset := 0x810, rws := 0x1F1F }
def TCK_SUSP : Reg := { off := 0x1C, reset := 0x1, rws := 0x1 }
def TCK_DREADY : Reg := { off := 0x20, w1s := 0xFFFFFFFF }
def TCK_SLIPSTAT : Reg := { off := 0x24, w1c := 0xFFFFFFFF }
def TCK_SLIPCNT : Reg := { off := 0x28, ro := 0xFFFFFFFF }
def TCK_RDLATE : Reg := { off := 0x2C, ro := 0xFFFFFFFF }
def TCK_COUNT_LO : Reg := { off := 0x30, ro := 0xFFFFFFFF }
def TCK_COUNT_HI : Reg := { off := 0x34, ro := 0xFFFFFFFF }
def TCK_PHASE : Reg := { off := 0x38, ro := 0xFFF }
def TCK_COMMIT : Reg := { off := 0xFF0, wo := 0x1 }
def TCK_CSTAT : Reg := { off := 0xFF4, w1c := 0x2, ro := 0x1 }
def TCK_GCOMMIT : Reg := { off := 0xFF8, wo := 0x1 }
def TCK_SHADOW : Reg := { off := 0x1000, n1 := 32, s1 := 0x80, n2 := 32, s2 := 0x4, rw := 0xFFFFFFFF }
def TCK_DLEN : Reg := { off := 0x2000, n1 := 32, s1 := 0x4, rw := 0x1F }
def TCK_CHSTAT : Reg := { off := 0x2100, n1 := 32, s1 := 0x4, ro := 0x31F1F1F }

def TCK_PERIOD_PERIOD : Fld := ⟨TCK_PERIOD, 0, 6⟩
def TCK_CUTOFF_CUTOFF : Fld := ⟨TCK_CUTOFF, 0, 5⟩
def TCK_MODE_DIRECT : Fld := ⟨TCK_MODE, 0, 32⟩
def TCK_WEIGHT_READ : Fld := ⟨TCK_WEIGHT, 0, 8⟩
def TCK_WEIGHT_WRITE : Fld := ⟨TCK_WEIGHT, 8, 8⟩
def TCK_WEIGHT_SKIM : Fld := ⟨TCK_WEIGHT, 16, 8⟩
def TCK_WEIGHT_PATROL : Fld := ⟨TCK_WEIGHT, 24, 8⟩
def TCK_CREDIT_FLOOR : Fld := ⟨TCK_CREDIT, 0, 11⟩
def TCK_CREDNOW_CREDIT : Fld := ⟨TCK_CREDNOW, 0, 11⟩
def TCK_CREDNOW_THROTTLE : Fld := ⟨TCK_CREDNOW, 31, 1⟩
def TCK_QUOTA_STARTS : Fld := ⟨TCK_QUOTA, 0, 5⟩
def TCK_QUOTA_RDRES : Fld := ⟨TCK_QUOTA, 8, 5⟩
def TCK_SUSP_RDSUSP : Fld := ⟨TCK_SUSP, 0, 1⟩
def TCK_DREADY_READY : Fld := ⟨TCK_DREADY, 0, 32⟩
def TCK_SLIPSTAT_SLIP : Fld := ⟨TCK_SLIPSTAT, 0, 32⟩
def TCK_SLIPCNT_COUNT : Fld := ⟨TCK_SLIPCNT, 0, 32⟩
def TCK_RDLATE_COUNT : Fld := ⟨TCK_RDLATE, 0, 32⟩
def TCK_COUNT_LO_COUNT : Fld := ⟨TCK_COUNT_LO, 0, 32⟩
def TCK_COUNT_HI_COUNT : Fld := ⟨TCK_COUNT_HI, 0, 32⟩
def TCK_PHASE_CYCLES : Fld := ⟨TCK_PHASE, 0, 12⟩
def TCK_COMMIT_GO : Fld := ⟨TCK_COMMIT, 0, 1⟩
def TCK_CSTAT_PENDING : Fld := ⟨TCK_CSTAT, 0, 1⟩
def TCK_CSTAT_REFUSED : Fld := ⟨TCK_CSTAT, 1, 1⟩
def TCK_GCOMMIT_GO : Fld := ⟨TCK_GCOMMIT, 0, 1⟩
def TCK_SHADOW_WORD : Fld := ⟨TCK_SHADOW, 0, 32⟩
def TCK_DLEN_LEN : Fld := ⟨TCK_DLEN, 0, 5⟩
def TCK_CHSTAT_EXEC : Fld := ⟨TCK_CHSTAT, 0, 5⟩
def TCK_CHSTAT_DROPPED : Fld := ⟨TCK_CHSTAT, 8, 5⟩
def TCK_CHSTAT_ABANDONED : Fld := ⟨TCK_CHSTAT, 16, 5⟩
def TCK_CHSTAT_CARRY : Fld := ⟨TCK_CHSTAT, 24, 1⟩
def TCK_CHSTAT_ARMED : Fld := ⟨TCK_CHSTAT, 25, 1⟩

/-- Every register of block TCK. -/
def regsTCK : List Reg :=
  [TCK_PERIOD, TCK_CUTOFF, TCK_MODE, TCK_WEIGHT, TCK_CREDIT, TCK_CREDNOW, TCK_QUOTA, TCK_SUSP, TCK_DREADY, TCK_SLIPSTAT, TCK_SLIPCNT, TCK_RDLATE, TCK_COUNT_LO, TCK_COUNT_HI, TCK_PHASE, TCK_COMMIT, TCK_CSTAT, TCK_GCOMMIT, TCK_SHADOW, TCK_DLEN] ++
  [TCK_CHSTAT]

/-! ### Block FCH (register map of spec/04_flash_channels.md) -/
def FCH_CFG : Reg := { off := 0x100000, n1 := 32, s1 := 0x10000, rws := 0x10000, ro := 0x23F03 } -- IFACE reset: image; RATE reset: image
def FCH_POP : Reg := { off := 0x100004, n1 := 32, s1 := 0x10000, ro := 0x71F } -- TARGETS reset: image; LUNS reset: image
def FCH_GEOM : Reg := { off := 0x100008, n1 := 32, s1 := 0x10000, ro := 0xFFFF071F } -- PAGEBITS reset: disc.; PLANES reset: disc.; BLKPP reset: disc.
def FCH_TMAX1 : Reg := { off := 0x10000C, n1 := 32, s1 := 0x10000, rws := 0xFFFFFFFF } -- TPROG reset: disc.; TBERS reset: disc.
def FCH_TMAX2 : Reg := { off := 0x100010, n1 := 32, s1 := 0x10000, rws := 0xFFFFFF } -- TR reset: disc.; TSUS reset: disc.; TNOSUS reset: disc.
def FCH_DRING_LO : Reg := { off := 0x100014, n1 := 32, s1 := 0x10000, rw := 0xFFFFFFFF }
def FCH_DRING_HI : Reg := { off := 0x100018, n1 := 32, s1 := 0x10000, reset := 0xC0000, rw := 0xF00FF }
def FCH_CRING_LO : Reg := { off := 0x10001C, n1 := 32, s1 := 0x10000, rw := 0xFFFFFFFF }
def FCH_CRING_HI : Reg := { off := 0x100020, n1 := 32, s1 := 0x10000, reset := 0xA0000, rw := 0xF00FF }
def FCH_CRING_WR : Reg := { off := 0x100024, n1 := 32, s1 := 0x10000, reset := 0x10000, ro := 0x1FFFF }
def FCH_CRING_RD : Reg := { off := 0x100028, n1 := 32, s1 := 0x10000, rw := 0xFFFF }
def FCH_OPC : Reg := { off := 0x10002C, n1 := 32, s1 := 0x10000, reset := 0x5DA2D261, rws := 0xFFFFFFFF }
def FCH_RETRY : Reg := { off := 0x100030, n1 := 32, s1 := 0x10000, reset := 0x7, rws := 0xF }
def FCH_OFSCFG : Reg := { off := 0x100034, n1 := 32, s1 := 0x10000, reset := 0x1189, rws := 0x1FFF }
def FCH_TRK : Reg := { off := 0x100038, n1 := 32, s1 := 0x10000, reset := 0x101, rws := 0xFF1 }
def FCH_TRKBASE_LO : Reg := { off := 0x10003C, n1 := 32, s1 := 0x10000, rws := 0xFFFFFFFF } -- ADDR reset: disc.
def FCH_TRKBASE_HI : Reg := { off := 0x100040, n1 := 32, s1 := 0x10000, rws := 0xFF } -- ADDR reset: disc.
def FCH_TRKPOL : Reg := { off := 0x100044, n1 := 32, s1 := 0x10000, n2 := 4, s2 := 0x4, rws := 0x3FFFFFFF }
def FCH_TRKIDX : Reg := { off := 0x100054, n1 := 32, s1 := 0x10000, rw := 0x3FFFF3F }
def FCH_TRKDATA0 : Reg := { off := 0x100058, n1 := 32, s1 := 0x10000, rw := 0xFFFFFFFF }
def FCH_TRKDATA1 : Reg := { off := 0x10005C, n1 := 32, s1 := 0x10000, rw := 0xFFFFFFF }
def FCH_BOD : Reg := { off := 0x100060, n1 := 32, s1 := 0x10000, reset := 0x1, rws := 0x1, ro := 0x300 }
def FCH_STAT : Reg := { off := 0x100064, n1 := 32, s1 := 0x10000, w1c := 0xC, ro := 0x3 }
def FCH_TRAIN : Reg := { off := 0x100068, n1 := 32, s1 := 0x10000, rws := 0xFFFF } -- INTERVAL reset: disc.
def FCH_DIECTL : Reg := { off := 0x10006C, n1 := 32, s1 := 0x10000, wo := 0x33F }
def FCH_RETRYCNT : Reg := { off := 0x100070, n1 := 32, s1 := 0x10000, ro := 0xFFFFFFFF }
def FCH_FAILCNT : Reg := { off := 0x100074, n1 := 32, s1 := 0x10000, ro := 0xFFFFFFFF }
def FCH_TMAX3 : Reg := { off := 0x100078, n1 := 32, s1 := 0x10000, rws := 0xFFFFFFFF } -- TRSLC reset: disc.; TSOFT reset: disc.; TPROGSLC reset: disc.
def FCH_SUSPLIM : Reg := { off := 0x10007C, n1 := 32, s1 := 0x10000, rws := 0xFFF } -- LIMIT reset: disc.
def FCH_DIESTAT : Reg := { off := 0x100100, n1 := 32, s1 := 0x10000, n2 := 64, s2 := 0x4, ro := 0xFFF1F }
def FCH_RRT : Reg := { off := 0x100200, n1 := 32, s1 := 0x10000, n2 := 16, s2 := 0x8, first := 1, rws := 0xFFFFFFFF }
def FCH_RRT4 : Reg := { off := 0x100204, n1 := 32, s1 := 0x10000, n2 := 16, s2 := 0x8, first := 1, rws := 0x0FFFFFFF }
def FCH_COMMIT : Reg := { off := 0x100FF0, n1 := 32, s1 := 0x10000, wo := 0x1 }
def FCH_CSTAT : Reg := { off := 0x100FF4, n1 := 32, s1 := 0x10000, w1c := 0x2, ro := 0x1 }

def FCH_CFG_IFACE : Fld := ⟨FCH_CFG, 0, 2⟩
def FCH_CFG_RATE : Fld := ⟨FCH_CFG, 8, 6⟩
def FCH_CFG_RAW : Fld := ⟨FCH_CFG, 16, 1⟩
def FCH_CFG_DRAINRATE : Fld := ⟨FCH_CFG, 17, 1⟩
def FCH_POP_TARGETS : Fld := ⟨FCH_POP, 0, 5⟩
def FCH_POP_LUNS : Fld := ⟨FCH_POP, 8, 3⟩
def FCH_GEOM_PAGEBITS : Fld := ⟨FCH_GEOM, 0, 5⟩
def FCH_GEOM_PLANES : Fld := ⟨FCH_GEOM, 8, 3⟩
def FCH_GEOM_BLKPP : Fld := ⟨FCH_GEOM, 16, 16⟩
def FCH_TMAX1_TPROG : Fld := ⟨FCH_TMAX1, 0, 16⟩
def FCH_TMAX1_TBERS : Fld := ⟨FCH_TMAX1, 16, 16⟩
def FCH_TMAX2_TR : Fld := ⟨FCH_TMAX2, 0, 8⟩
def FCH_TMAX2_TSUS : Fld := ⟨FCH_TMAX2, 8, 8⟩
def FCH_TMAX2_TNOSUS : Fld := ⟨FCH_TMAX2, 16, 8⟩
def FCH_DRING_LO_ADDR : Fld := ⟨FCH_DRING_LO, 0, 32⟩
def FCH_DRING_HI_ADDR : Fld := ⟨FCH_DRING_HI, 0, 8⟩
def FCH_DRING_HI_SIZE : Fld := ⟨FCH_DRING_HI, 16, 4⟩
def FCH_CRING_LO_ADDR : Fld := ⟨FCH_CRING_LO, 0, 32⟩
def FCH_CRING_HI_ADDR : Fld := ⟨FCH_CRING_HI, 0, 8⟩
def FCH_CRING_HI_SIZE : Fld := ⟨FCH_CRING_HI, 16, 4⟩
def FCH_CRING_WR_INDEX : Fld := ⟨FCH_CRING_WR, 0, 16⟩
def FCH_CRING_WR_PHASE : Fld := ⟨FCH_CRING_WR, 16, 1⟩
def FCH_CRING_RD_INDEX : Fld := ⟨FCH_CRING_RD, 0, 16⟩
def FCH_OPC_SUSP : Fld := ⟨FCH_OPC, 0, 8⟩
def FCH_OPC_RES : Fld := ⟨FCH_OPC, 8, 8⟩
def FCH_OPC_SLCPFX : Fld := ⟨FCH_OPC, 16, 8⟩
def FCH_OPC_SOFTPFX : Fld := ⟨FCH_OPC, 24, 8⟩
def FCH_RETRY_MAX : Fld := ⟨FCH_RETRY, 0, 4⟩
def FCH_OFSCFG_FA : Fld := ⟨FCH_OFSCFG, 0, 8⟩
def FCH_OFSCFG_STEP : Fld := ⟨FCH_OFSCFG, 8, 4⟩
def FCH_OFSCFG_SIGNED : Fld := ⟨FCH_OFSCFG, 12, 1⟩
def FCH_TRK_ENA : Fld := ⟨FCH_TRK, 0, 1⟩
def FCH_TRK_HYST : Fld := ⟨FCH_TRK, 4, 8⟩
def FCH_TRKBASE_LO_ADDR : Fld := ⟨FCH_TRKBASE_LO, 0, 32⟩
def FCH_TRKBASE_HI_ADDR : Fld := ⟨FCH_TRKBASE_HI, 0, 8⟩
def FCH_TRKPOL_POL : Fld := ⟨FCH_TRKPOL, 0, 30⟩
def FCH_TRKIDX_DIE : Fld := ⟨FCH_TRKIDX, 0, 6⟩
def FCH_TRKIDX_BLOCK : Fld := ⟨FCH_TRKIDX, 8, 18⟩
def FCH_TRKDATA0_OFS : Fld := ⟨FCH_TRKDATA0, 0, 32⟩
def FCH_TRKDATA1_OFS : Fld := ⟨FCH_TRKDATA1, 0, 28⟩
def FCH_BOD_ERSUSP : Fld := ⟨FCH_BOD, 0, 1⟩
def FCH_BOD_ASSERTED : Fld := ⟨FCH_BOD, 8, 1⟩
def FCH_BOD_QUIESCED : Fld := ⟨FCH_BOD, 9, 1⟩
def FCH_STAT_DISCOVERED : Fld := ⟨FCH_STAT, 0, 1⟩
def FCH_STAT_TRAINING : Fld := ⟨FCH_STAT, 1, 1⟩
def FCH_STAT_CROVF : Fld := ⟨FCH_STAT, 2, 1⟩
def FCH_STAT_TRAINLATE : Fld := ⟨FCH_STAT, 3, 1⟩
def FCH_TRAIN_INTERVAL : Fld := ⟨FCH_TRAIN, 0, 16⟩
def FCH_DIECTL_DIE : Fld := ⟨FCH_DIECTL, 0, 6⟩
def FCH_DIECTL_RESET : Fld := ⟨FCH_DIECTL, 8, 1⟩
def FCH_DIECTL_RETIRE : Fld := ⟨FCH_DIECTL, 9, 1⟩
def FCH_RETRYCNT_COUNT : Fld := ⟨FCH_RETRYCNT, 0, 32⟩
def FCH_FAILCNT_PGM : Fld := ⟨FCH_FAILCNT, 0, 16⟩
def FCH_FAILCNT_ERS : Fld := ⟨FCH_FAILCNT, 16, 16⟩
def FCH_TMAX3_TRSLC : Fld := ⟨FCH_TMAX3, 0, 8⟩
def FCH_TMAX3_TSOFT : Fld := ⟨FCH_TMAX3, 8, 12⟩
def FCH_TMAX3_TPROGSLC : Fld := ⟨FCH_TMAX3, 20, 12⟩
def FCH_SUSPLIM_LIMIT : Fld := ⟨FCH_SUSPLIM, 0, 12⟩
def FCH_DIESTAT_STATE : Fld := ⟨FCH_DIESTAT, 0, 3⟩
def FCH_DIESTAT_SUSPENDED : Fld := ⟨FCH_DIESTAT, 3, 1⟩
def FCH_DIESTAT_ARMED : Fld := ⟨FCH_DIESTAT, 4, 1⟩
def FCH_DIESTAT_SUSPCNT : Fld := ⟨FCH_DIESTAT, 8, 12⟩
def FCH_RRT_OFS : Fld := ⟨FCH_RRT, 0, 32⟩
def FCH_RRT4_OFS : Fld := ⟨FCH_RRT4, 0, 28⟩
def FCH_COMMIT_GO : Fld := ⟨FCH_COMMIT, 0, 1⟩
def FCH_CSTAT_PENDING : Fld := ⟨FCH_CSTAT, 0, 1⟩
def FCH_CSTAT_REFUSED : Fld := ⟨FCH_CSTAT, 1, 1⟩

/-- Every register of block FCH. -/
def regsFCH : List Reg :=
  [FCH_CFG, FCH_POP, FCH_GEOM, FCH_TMAX1, FCH_TMAX2, FCH_DRING_LO, FCH_DRING_HI, FCH_CRING_LO, FCH_CRING_HI, FCH_CRING_WR, FCH_CRING_RD, FCH_OPC, FCH_RETRY, FCH_OFSCFG, FCH_TRK, FCH_TRKBASE_LO, FCH_TRKBASE_HI, FCH_TRKPOL, FCH_TRKIDX, FCH_TRKDATA0] ++
  [FCH_TRKDATA1, FCH_BOD, FCH_STAT, FCH_TRAIN, FCH_DIECTL, FCH_RETRYCNT, FCH_FAILCNT, FCH_TMAX3, FCH_SUSPLIM, FCH_DIESTAT, FCH_RRT, FCH_RRT4, FCH_COMMIT, FCH_CSTAT]

/-! ### Block ECC (register map of spec/05_media_ecc.md) -/
def ECC_CAP : Reg := { off := 0x300000, reset := 0x84000F0, ro := 0xF7F07FF }
def ECC_NEAR : Reg := { off := 0x300004, reset := 0xA8, rws := 0x7FF }
def ECC_HARD : Reg := { off := 0x300008, reset := 0x101A, rws := 0x3F3F }
def ECC_SOFT : Reg := { off := 0x30000C, reset := 0x3205, rws := 0xFF07 }
def ECC_LLR : Reg := { off := 0x300010, reset := 0x7531, rws := 0xFFFF }
def ECC_SCR : Reg := { off := 0x300014, reset := 0x1, rws := 0x1 }
def ECC_ERASED : Reg := { off := 0x300018, reset := 0x40, rws := 0x3FF }
def ECC_CTL : Reg := { off := 0x30001C, rws := 0x1 }
def ECC_RRING_LO : Reg := { off := 0x300020, rw := 0xFFFFFFFF }
def ECC_RRING_HI : Reg := { off := 0x300024, reset := 0xA0000, rw := 0xF00FF }
def ECC_RRING_WR : Reg := { off := 0x300028, reset := 0x10000, ro := 0x1FFFF }
def ECC_RRING_RD : Reg := { off := 0x30002C, rw := 0xFFFF }
def ECC_STAT : Reg := { off := 0x300030, w1c := 0x1, ro := 0x1FF7F00 }
def ECC_INJ : Reg := { off := 0x300034, rw := 0x801F03FF }
def ECC_CWCNT_LO : Reg := { off := 0x300040, ro := 0xFFFFFFFF }
def ECC_CWCNT_HI : Reg := { off := 0x300044, ro := 0xFFFFFFFF }
def ECC_NEARCNT : Reg := { off := 0x300048, ro := 0xFFFFFFFF }
def ECC_SOFTCNT : Reg := { off := 0x30004C, ro := 0xFFFFFFFF }
def ECC_SOFTOK : Reg := { off := 0x300050, ro := 0xFFFFFFFF }
def ECC_UNCOR : Reg := { off := 0x300054, ro := 0xFFFFFFFF }
def ECC_ERASEDCNT : Reg := { off := 0x300058, ro := 0xFFFFFFFF }
def ECC_STALL : Reg := { off := 0x30005C, ro := 0xFFFFFFFF }
def ECC_SOFTWAIT : Reg := { off := 0x300060, ro := 0xFFFFFFFF }
def ECC_COMMIT : Reg := { off := 0x300FF0, wo := 0x1 }
def ECC_CSTAT : Reg := { off := 0x300FF4, w1c := 0x2, ro := 0x1 }

def ECC_CAP_CAP : Fld := ⟨ECC_CAP, 0, 11⟩
def ECC_CAP_HDEC : Fld := ⟨ECC_CAP, 16, 7⟩
def ECC_CAP_SDEC : Fld := ⟨ECC_CAP, 24, 4⟩
def ECC_NEAR_THRESH : Fld := ⟨ECC_NEAR, 0, 11⟩
def ECC_HARD_ITER : Fld := ⟨ECC_HARD, 0, 6⟩
def ECC_HARD_READRES : Fld := ⟨ECC_HARD, 8, 6⟩
def ECC_SOFT_ENA : Fld := ⟨ECC_SOFT, 0, 1⟩
def ECC_SOFT_PASSES : Fld := ⟨ECC_SOFT, 1, 2⟩
def ECC_SOFT_ITER : Fld := ⟨ECC_SOFT, 8, 8⟩
def ECC_LLR_R0 : Fld := ⟨ECC_LLR, 0, 4⟩
def ECC_LLR_R1 : Fld := ⟨ECC_LLR, 4, 4⟩
def ECC_LLR_R2 : Fld := ⟨ECC_LLR, 8, 4⟩
def ECC_LLR_R3 : Fld := ⟨ECC_LLR, 12, 4⟩
def ECC_SCR_ENA : Fld := ⟨ECC_SCR, 0, 1⟩
def ECC_ERASED_THRESH : Fld := ⟨ECC_ERASED, 0, 10⟩
def ECC_CTL_RECALL : Fld := ⟨ECC_CTL, 0, 1⟩
def ECC_RRING_LO_ADDR : Fld := ⟨ECC_RRING_LO, 0, 32⟩
def ECC_RRING_HI_ADDR : Fld := ⟨ECC_RRING_HI, 0, 8⟩
def ECC_RRING_HI_SIZE : Fld := ⟨ECC_RRING_HI, 16, 4⟩
def ECC_RRING_WR_INDEX : Fld := ⟨ECC_RRING_WR, 0, 16⟩
def ECC_RRING_WR_PHASE : Fld := ⟨ECC_RRING_WR, 16, 1⟩
def ECC_RRING_RD_INDEX : Fld := ⟨ECC_RRING_RD, 0, 16⟩
def ECC_STAT_RROVF : Fld := ⟨ECC_STAT, 0, 1⟩
def ECC_STAT_DECOFF : Fld := ⟨ECC_STAT, 8, 7⟩
def ECC_STAT_SOFTQ : Fld := ⟨ECC_STAT, 16, 9⟩
def ECC_INJ_CNT : Fld := ⟨ECC_INJ, 0, 10⟩
def ECC_INJ_CH : Fld := ⟨ECC_INJ, 16, 5⟩
def ECC_INJ_ARM : Fld := ⟨ECC_INJ, 31, 1⟩
def ECC_CWCNT_LO_COUNT : Fld := ⟨ECC_CWCNT_LO, 0, 32⟩
def ECC_CWCNT_HI_COUNT : Fld := ⟨ECC_CWCNT_HI, 0, 32⟩
def ECC_NEARCNT_COUNT : Fld := ⟨ECC_NEARCNT, 0, 32⟩
def ECC_SOFTCNT_COUNT : Fld := ⟨ECC_SOFTCNT, 0, 32⟩
def ECC_SOFTOK_COUNT : Fld := ⟨ECC_SOFTOK, 0, 32⟩
def ECC_UNCOR_COUNT : Fld := ⟨ECC_UNCOR, 0, 32⟩
def ECC_ERASEDCNT_COUNT : Fld := ⟨ECC_ERASEDCNT, 0, 32⟩
def ECC_STALL_COUNT : Fld := ⟨ECC_STALL, 0, 32⟩
def ECC_SOFTWAIT_COUNT : Fld := ⟨ECC_SOFTWAIT, 0, 32⟩
def ECC_COMMIT_GO : Fld := ⟨ECC_COMMIT, 0, 1⟩
def ECC_CSTAT_PENDING : Fld := ⟨ECC_CSTAT, 0, 1⟩
def ECC_CSTAT_REFUSED : Fld := ⟨ECC_CSTAT, 1, 1⟩

/-- Every register of block ECC. -/
def regsECC : List Reg :=
  [ECC_CAP, ECC_NEAR, ECC_HARD, ECC_SOFT, ECC_LLR, ECC_SCR, ECC_ERASED, ECC_CTL, ECC_RRING_LO, ECC_RRING_HI, ECC_RRING_WR, ECC_RRING_RD, ECC_STAT, ECC_INJ, ECC_CWCNT_LO, ECC_CWCNT_HI, ECC_NEARCNT, ECC_SOFTCNT, ECC_SOFTOK, ECC_UNCOR] ++
  [ECC_ERASEDCNT, ECC_STALL, ECC_SOFTWAIT, ECC_COMMIT, ECC_CSTAT]

/-! ### Block TXE (register map of spec/06_translation.md) -/
def TXE_MAPBASE_LO : Reg := { off := 0x400000, ro := 0xFFFFFFFF } -- ADDR reset: image
def TXE_MAPBASE_HI : Reg := { off := 0x400004, ro := 0xFF } -- ADDR reset: image
def TXE_SEQ_LO : Reg := { off := 0x400008, ro := 0xFFFFFFFF }
def TXE_SEQ_HI : Reg := { off := 0x40000C, ro := 0xFFFFFF }
def TXE_CREAM_FRAC : Reg := { off := 0x400010, rws := 0xFF } -- FRAC reset: image
def TXE_CREAM_MAX : Reg := { off := 0x400014, rws := 0x7FFF } -- GIB reset: image
def TXE_CREAM_MIN : Reg := { off := 0x400018, ro := 0x7FF } -- GIB reset: image
def TXE_CREAM_TGT : Reg := { off := 0x40001C, ro := 0x1FFFFFF }
def TXE_CREAM_OCC : Reg := { off := 0x400020, ro := 0x81FFFFFF }
def TXE_FREE : Reg := { off := 0x400024, ro := 0xFFFFFF }
def TXE_PLACE : Reg := { off := 0x400028, ro := 0x8003FFFF }
def TXE_STAT : Reg := { off := 0x40002C, w1c := 0x7 }
def TXE_CTL : Reg := { off := 0x400030, reset := 0x1, rws := 0x1 }
def TXE_ENTSEL_LO : Reg := { off := 0x400040, rw := 0xFFFFFFFF }
def TXE_ENTSEL_HI : Reg := { off := 0x400044, rw := 0x37FFF, ro := 0x80000000 }
def TXE_ENTVAL_LO : Reg := { off := 0x400048, ro := 0xFFFFFFFF }
def TXE_ENTVAL_HI : Reg := { off := 0x40004C, ro := 0xFF }
def TXE_COMMIT : Reg := { off := 0x400FF0, wo := 0x1 }
def TXE_CSTAT : Reg := { off := 0x400FF4, w1c := 0x2, ro := 0x1 }
def TXE_NSCFG : Reg := { off := 0x401000, n1 := 128, s1 := 0x20, ro := 0x7F } -- IU reset: image; MIRROR reset: image; DECL reset: image
def TXE_NSUNITS_LO : Reg := { off := 0x401004, n1 := 128, s1 := 0x20, ro := 0xFFFFFFFF }
def TXE_NSUNITS_HI : Reg := { off := 0x401008, n1 := 128, s1 := 0x20, ro := 0xFF }
def TXE_NSVALID_LO : Reg := { off := 0x40100C, n1 := 128, s1 := 0x20, ro := 0xFFFFFFFF }
def TXE_NSVALID_HI : Reg := { off := 0x401010, n1 := 128, s1 := 0x20, ro := 0xFF }
def TXE_NSBIRTH_LO : Reg := { off := 0x401014, n1 := 128, s1 := 0x20, ro := 0xFFFFFFFF }
def TXE_NSBIRTH_HI : Reg := { off := 0x401018, n1 := 128, s1 := 0x20, ro := 0xFFFFFF }

def TXE_MAPBASE_LO_ADDR : Fld := ⟨TXE_MAPBASE_LO, 0, 32⟩
def TXE_MAPBASE_HI_ADDR : Fld := ⟨TXE_MAPBASE_HI, 0, 8⟩
def TXE_SEQ_LO_SEQ : Fld := ⟨TXE_SEQ_LO, 0, 32⟩
def TXE_SEQ_HI_SEQ : Fld := ⟨TXE_SEQ_HI, 0, 24⟩
def TXE_CREAM_FRAC_FRAC : Fld := ⟨TXE_CREAM_FRAC, 0, 8⟩
def TXE_CREAM_MAX_GIB : Fld := ⟨TXE_CREAM_MAX, 0, 15⟩
def TXE_CREAM_MIN_GIB : Fld := ⟨TXE_CREAM_MIN, 0, 11⟩
def TXE_CREAM_TGT_MIB : Fld := ⟨TXE_CREAM_TGT, 0, 25⟩
def TXE_CREAM_OCC_MIB : Fld := ⟨TXE_CREAM_OCC, 0, 25⟩
def TXE_CREAM_OCC_BYPASS : Fld := ⟨TXE_CREAM_OCC, 31, 1⟩
def TXE_FREE_GIB : Fld := ⟨TXE_FREE, 0, 24⟩
def TXE_PLACE_COUNT : Fld := ⟨TXE_PLACE, 0, 18⟩
def TXE_PLACE_FULL : Fld := ⟨TXE_PLACE, 31, 1⟩
def TXE_STAT_BADENT : Fld := ⟨TXE_STAT, 0, 1⟩
def TXE_STAT_ENTERR : Fld := ⟨TXE_STAT, 1, 1⟩
def TXE_STAT_PLACEFULL : Fld := ⟨TXE_STAT, 2, 1⟩
def TXE_CTL_FOLD : Fld := ⟨TXE_CTL, 0, 1⟩
def TXE_ENTSEL_LO_LU : Fld := ⟨TXE_ENTSEL_LO, 0, 32⟩
def TXE_ENTSEL_HI_LU : Fld := ⟨TXE_ENTSEL_HI, 0, 8⟩
def TXE_ENTSEL_HI_SLOT : Fld := ⟨TXE_ENTSEL_HI, 8, 7⟩
def TXE_ENTSEL_HI_OP : Fld := ⟨TXE_ENTSEL_HI, 16, 2⟩
def TXE_ENTSEL_HI_BUSY : Fld := ⟨TXE_ENTSEL_HI, 31, 1⟩
def TXE_ENTVAL_LO_ENTRY : Fld := ⟨TXE_ENTVAL_LO, 0, 32⟩
def TXE_ENTVAL_HI_ENTRY : Fld := ⟨TXE_ENTVAL_HI, 0, 8⟩
def TXE_COMMIT_GO : Fld := ⟨TXE_COMMIT, 0, 1⟩
def TXE_CSTAT_PENDING : Fld := ⟨TXE_CSTAT, 0, 1⟩
def TXE_CSTAT_REFUSED : Fld := ⟨TXE_CSTAT, 1, 1⟩
def TXE_NSCFG_IU : Fld := ⟨TXE_NSCFG, 0, 2⟩
def TXE_NSCFG_LBAS : Fld := ⟨TXE_NSCFG, 2, 1⟩
def TXE_NSCFG_MIRROR : Fld := ⟨TXE_NSCFG, 3, 1⟩
def TXE_NSCFG_DECL : Fld := ⟨TXE_NSCFG, 4, 1⟩
def TXE_NSCFG_EXISTS : Fld := ⟨TXE_NSCFG, 5, 1⟩
def TXE_NSCFG_ZEROING : Fld := ⟨TXE_NSCFG, 6, 1⟩
def TXE_NSUNITS_LO_UNITS : Fld := ⟨TXE_NSUNITS_LO, 0, 32⟩
def TXE_NSUNITS_HI_UNITS : Fld := ⟨TXE_NSUNITS_HI, 0, 8⟩
def TXE_NSVALID_LO_VALID : Fld := ⟨TXE_NSVALID_LO, 0, 32⟩
def TXE_NSVALID_HI_VALID : Fld := ⟨TXE_NSVALID_HI, 0, 8⟩
def TXE_NSBIRTH_LO_BIRTHSEQ : Fld := ⟨TXE_NSBIRTH_LO, 0, 32⟩
def TXE_NSBIRTH_HI_BIRTHSEQ : Fld := ⟨TXE_NSBIRTH_HI, 0, 24⟩

/-- Every register of block TXE. -/
def regsTXE : List Reg :=
  [TXE_MAPBASE_LO, TXE_MAPBASE_HI, TXE_SEQ_LO, TXE_SEQ_HI, TXE_CREAM_FRAC, TXE_CREAM_MAX, TXE_CREAM_MIN, TXE_CREAM_TGT, TXE_CREAM_OCC, TXE_FREE, TXE_PLACE, TXE_STAT, TXE_CTL, TXE_ENTSEL_LO, TXE_ENTSEL_HI, TXE_ENTVAL_LO, TXE_ENTVAL_HI, TXE_COMMIT, TXE_CSTAT, TXE_NSCFG] ++
  [TXE_NSUNITS_LO, TXE_NSUNITS_HI, TXE_NSVALID_LO, TXE_NSVALID_HI, TXE_NSBIRTH_LO, TXE_NSBIRTH_HI]

/-! ### Block SKM (register map of spec/07_skim_wear.md) -/
def SKM_CTL : Reg := { off := 0x500000, reset := 0x2807, rws := 0xFF07 }
def SKM_LWM : Reg := { off := 0x500004, reset := 0x40301008, rws := 0xFFFFFFFF }
def SKM_CURVE : Reg := { off := 0x500008, reset := 0x40, rws := 0xFFFF }
def SKM_VICT : Reg := { off := 0x50000C, reset := 0x380, rws := 0x3FF }
def SKM_WL : Reg := { off := 0x500010, reset := 0xC800004, rws := 0xFFFF001F }
def SKM_ENDUR : Reg := { off := 0x500014, reset := 0xA05DC, rws := 0xFFFFFF }
def SKM_FREE : Reg := { off := 0x500018, ro := 0xFFFFFF }
def SKM_STAT : Reg := { off := 0x50001C, w1c := 0x8, ro := 0x17 }
def SKM_SPARE : Reg := { off := 0x500020, ro := 0xFFFF07FF }
def SKM_WEARMIN : Reg := { off := 0x500024, ro := 0xFFFFFF }
def SKM_WEARMAX : Reg := { off := 0x500028, ro := 0xFFFFFF }
def SKM_WEARAVG : Reg := { off := 0x50002C, ro := 0xFFFFFF }
def SKM_RETCNT : Reg := { off := 0x500030, ro := 0xFFFFFF }
def SKM_DIERET : Reg := { off := 0x500034, ro := 0xFFF }
def SKM_BTBASE_LO : Reg := { off := 0x500038, ro := 0xFFFFFFFF } -- ADDR reset: image
def SKM_BTBASE_HI : Reg := { off := 0x50003C, ro := 0xFF } -- ADDR reset: image
def SKM_GTBASE_LO : Reg := { off := 0x500040, ro := 0xFFFFFFFF } -- ADDR reset: image
def SKM_GTBASE_HI : Reg := { off := 0x500044, ro := 0xFF } -- ADDR reset: image
def SKM_RETIRE : Reg := { off := 0x500048, wo := 0x8FFFF7FF }
def SKM_HOSTCW_LO : Reg := { off := 0x500050, ro := 0xFFFFFFFF }
def SKM_HOSTCW_HI : Reg := { off := 0x500054, ro := 0xFFFFFFFF }
def SKM_NANDCW_LO : Reg := { off := 0x500058, ro := 0xFFFFFFFF }
def SKM_NANDCW_HI : Reg := { off := 0x50005C, ro := 0xFFFFFFFF }
def SKM_COMMIT : Reg := { off := 0x500FF0, wo := 0x1 }
def SKM_CSTAT : Reg := { off := 0x500FF4, w1c := 0x2, ro := 0x1 }

def SKM_CTL_BGEN : Fld := ⟨SKM_CTL, 0, 1⟩
def SKM_CTL_WLEN : Fld := ⟨SKM_CTL, 1, 1⟩
def SKM_CTL_RETRECON : Fld := ⟨SKM_CTL, 2, 1⟩
def SKM_CTL_FGPAR : Fld := ⟨SKM_CTL, 8, 4⟩
def SKM_CTL_BGPAR : Fld := ⟨SKM_CTL, 12, 4⟩
def SKM_LWM_RESV : Fld := ⟨SKM_LWM, 0, 8⟩
def SKM_LWM_CRIT : Fld := ⟨SKM_LWM, 8, 8⟩
def SKM_LWM_LOW : Fld := ⟨SKM_LWM, 16, 8⟩
def SKM_LWM_HIGH : Fld := ⟨SKM_LWM, 24, 8⟩
def SKM_CURVE_TOP : Fld := ⟨SKM_CURVE, 0, 16⟩
def SKM_VICT_BGVMAX : Fld := ⟨SKM_VICT, 0, 10⟩
def SKM_WL_SLCW : Fld := ⟨SKM_WL, 0, 5⟩
def SKM_WL_GAP : Fld := ⟨SKM_WL, 16, 16⟩
def SKM_ENDUR_CYCLES : Fld := ⟨SKM_ENDUR, 0, 16⟩
def SKM_ENDUR_SPTHR : Fld := ⟨SKM_ENDUR, 16, 8⟩
def SKM_FREE_F : Fld := ⟨SKM_FREE, 0, 24⟩
def SKM_STAT_FG : Fld := ⟨SKM_STAT, 0, 1⟩
def SKM_STAT_SPENT : Fld := ⟨SKM_STAT, 1, 1⟩
def SKM_STAT_SPARELOW : Fld := ⟨SKM_STAT, 2, 1⟩
def SKM_STAT_NOVICTIM : Fld := ⟨SKM_STAT, 3, 1⟩
def SKM_STAT_WLGAP : Fld := ⟨SKM_STAT, 4, 1⟩
def SKM_SPARE_MINPOS : Fld := ⟨SKM_SPARE, 0, 11⟩
def SKM_SPARE_MINLEFT : Fld := ⟨SKM_SPARE, 16, 16⟩
def SKM_WEARMIN_WEAR : Fld := ⟨SKM_WEARMIN, 0, 24⟩
def SKM_WEARMAX_WEAR : Fld := ⟨SKM_WEARMAX, 0, 24⟩
def SKM_WEARAVG_WEAR : Fld := ⟨SKM_WEARAVG, 0, 24⟩
def SKM_RETCNT_BLOCKS : Fld := ⟨SKM_RETCNT, 0, 24⟩
def SKM_DIERET_DIES : Fld := ⟨SKM_DIERET, 0, 12⟩
def SKM_BTBASE_LO_ADDR : Fld := ⟨SKM_BTBASE_LO, 0, 32⟩
def SKM_BTBASE_HI_ADDR : Fld := ⟨SKM_BTBASE_HI, 0, 8⟩
def SKM_GTBASE_LO_ADDR : Fld := ⟨SKM_GTBASE_LO, 0, 32⟩
def SKM_GTBASE_HI_ADDR : Fld := ⟨SKM_GTBASE_HI, 0, 8⟩
def SKM_RETIRE_POS : Fld := ⟨SKM_RETIRE, 0, 11⟩
def SKM_RETIRE_BLOCK : Fld := ⟨SKM_RETIRE, 12, 16⟩
def SKM_RETIRE_GO : Fld := ⟨SKM_RETIRE, 31, 1⟩
def SKM_HOSTCW_LO_COUNT : Fld := ⟨SKM_HOSTCW_LO, 0, 32⟩
def SKM_HOSTCW_HI_COUNT : Fld := ⟨SKM_HOSTCW_HI, 0, 32⟩
def SKM_NANDCW_LO_COUNT : Fld := ⟨SKM_NANDCW_LO, 0, 32⟩
def SKM_NANDCW_HI_COUNT : Fld := ⟨SKM_NANDCW_HI, 0, 32⟩
def SKM_COMMIT_GO : Fld := ⟨SKM_COMMIT, 0, 1⟩
def SKM_CSTAT_PENDING : Fld := ⟨SKM_CSTAT, 0, 1⟩
def SKM_CSTAT_REFUSED : Fld := ⟨SKM_CSTAT, 1, 1⟩

/-- Every register of block SKM. -/
def regsSKM : List Reg :=
  [SKM_CTL, SKM_LWM, SKM_CURVE, SKM_VICT, SKM_WL, SKM_ENDUR, SKM_FREE, SKM_STAT, SKM_SPARE, SKM_WEARMIN, SKM_WEARMAX, SKM_WEARAVG, SKM_RETCNT, SKM_DIERET, SKM_BTBASE_LO, SKM_BTBASE_HI, SKM_GTBASE_LO, SKM_GTBASE_HI, SKM_RETIRE, SKM_HOSTCW_LO] ++
  [SKM_HOSTCW_HI, SKM_NANDCW_LO, SKM_NANDCW_HI, SKM_COMMIT, SKM_CSTAT]

/-! ### Block STE (register map of spec/08_stripes.md) -/
def STE_GEOM : Reg := { off := 0x600000, ro := 0xFFF3F1F } -- D reset: image; W reset: image; SPG reset: disc.
def STE_CLOSE : Reg := { off := 0x600004, rws := 0x1F } -- TICKS reset: image
def STE_PATROL : Reg := { off := 0x600008, reset := 0x10000, rws := 0x101FF } -- DAYS reset: image
def STE_STREAM : Reg := { off := 0x60000C, reset := 0x4248F8, rws := 0xFFFFFF }
def STE_CTL : Reg := { off := 0x600010, rws := 0x1 }
def STE_MINW : Reg := { off := 0x600014, ro := 0x3F3F }
def STE_LEDGER : Reg := { off := 0x600018, ro := 0x87FF07FF }
def STE_LEDENT : Reg := { off := 0x60001C, ro := 0x8000007F }
def STE_LEDSEQ_LO : Reg := { off := 0x600020, ro := 0xFFFFFFFF }
def STE_LEDSEQ_HI : Reg := { off := 0x600024, ro := 0xFFFFFFFF }
def STE_REBUILD : Reg := { off := 0x600028, ro := 0xFFF0FFF }
def STE_REBLEFT : Reg := { off := 0x60002C, ro := 0xFFFFFF }
def STE_PATCUR : Reg := { off := 0x600030, ro := 0xFFFFFF }
def STE_LOST : Reg := { off := 0x600034, w1c := 0x80000000, ro := 0x3FFF }
def STE_LSCLR : Reg := { off := 0x600038, wo := 0x80001FFF }
def STE_STAT : Reg := { off := 0x60003C, w1c := 0x3, ro := 0x4 }
def STE_GMBASE_LO : Reg := { off := 0x600040, ro := 0xFFFFFFFF } -- ADDR reset: image
def STE_GMBASE_HI : Reg := { off := 0x600044, ro := 0xFF } -- ADDR reset: image
def STE_LSBASE_LO : Reg := { off := 0x600048, ro := 0xFFFFFFFF } -- ADDR reset: image
def STE_LSBASE_HI : Reg := { off := 0x60004C, ro := 0xFF } -- ADDR reset: image
def STE_ROWW : Reg := { off := 0x600080, n1 := 16, s1 := 0x4, ro := 0xFFFFFFFF }
def STE_STRIPES_LO : Reg := { off := 0x6000C0, ro := 0xFFFFFFFF }
def STE_STRIPES_HI : Reg := { off := 0x6000C4, ro := 0xFFFFFFFF }
def STE_PADCW : Reg := { off := 0x6000C8, ro := 0xFFFFFFFF }
def STE_REPLACE : Reg := { off := 0x6000CC, ro := 0xFFFFFFFF }
def STE_PATPASS : Reg := { off := 0x6000D0, ro := 0xFFFFFFFF }
def STE_PATRECON : Reg := { off := 0x6000D4, ro := 0xFFFFFFFF }
def STE_PATFIX : Reg := { off := 0x6000D8, ro := 0xFFFFFFFF }
def STE_PATUNLOC : Reg := { off := 0x6000DC, ro := 0xFFFFFFFF }
def STE_COMMIT : Reg := { off := 0x600FF0, wo := 0x1 }
def STE_CSTAT : Reg := { off := 0x600FF4, w1c := 0x2, ro := 0x1 }

def STE_GEOM_D : Fld := ⟨STE_GEOM, 0, 5⟩
def STE_GEOM_W : Fld := ⟨STE_GEOM, 8, 6⟩
def STE_GEOM_SPG : Fld := ⟨STE_GEOM, 16, 12⟩
def STE_CLOSE_TICKS : Fld := ⟨STE_CLOSE, 0, 5⟩
def STE_PATROL_DAYS : Fld := ⟨STE_PATROL, 0, 9⟩
def STE_PATROL_ENA : Fld := ⟨STE_PATROL, 16, 1⟩
def STE_STREAM_CREAM : Fld := ⟨STE_STREAM, 0, 4⟩
def STE_STREAM_QLC : Fld := ⟨STE_STREAM, 4, 4⟩
def STE_STREAM_FOLD : Fld := ⟨STE_STREAM, 8, 4⟩
def STE_STREAM_SKIM : Fld := ⟨STE_STREAM, 12, 4⟩
def STE_STREAM_COLD : Fld := ⟨STE_STREAM, 16, 4⟩
def STE_STREAM_REBUILD : Fld := ⟨STE_STREAM, 20, 4⟩
def STE_CTL_EVAC : Fld := ⟨STE_CTL, 0, 1⟩
def STE_MINW_W : Fld := ⟨STE_MINW, 0, 6⟩
def STE_MINW_ROW : Fld := ⟨STE_MINW, 8, 6⟩
def STE_LEDGER_DIE0 : Fld := ⟨STE_LEDGER, 0, 11⟩
def STE_LEDGER_DIE1 : Fld := ⟨STE_LEDGER, 16, 11⟩
def STE_LEDGER_PARTNER : Fld := ⟨STE_LEDGER, 31, 1⟩
def STE_LEDENT_ENTRIES : Fld := ⟨STE_LEDENT, 0, 7⟩
def STE_LEDENT_FULL : Fld := ⟨STE_LEDENT, 31, 1⟩
def STE_LEDSEQ_LO_SEQ : Fld := ⟨STE_LEDSEQ_LO, 0, 32⟩
def STE_LEDSEQ_HI_SEQ : Fld := ⟨STE_LEDSEQ_HI, 0, 32⟩
def STE_REBUILD_DIE : Fld := ⟨STE_REBUILD, 0, 11⟩
def STE_REBUILD_ACTIVE : Fld := ⟨STE_REBUILD, 11, 1⟩
def STE_REBUILD_PENDING : Fld := ⟨STE_REBUILD, 16, 12⟩
def STE_REBLEFT_STRIPES : Fld := ⟨STE_REBLEFT, 0, 24⟩
def STE_PATCUR_GROUP : Fld := ⟨STE_PATCUR, 0, 24⟩
def STE_LOST_COUNT : Fld := ⟨STE_LOST, 0, 14⟩
def STE_LOST_OVF : Fld := ⟨STE_LOST, 31, 1⟩
def STE_LSCLR_INDEX : Fld := ⟨STE_LSCLR, 0, 13⟩
def STE_LSCLR_GO : Fld := ⟨STE_LSCLR, 31, 1⟩
def STE_STAT_PATLATE : Fld := ⟨STE_STAT, 0, 1⟩
def STE_STAT_LEDGERFULL : Fld := ⟨STE_STAT, 1, 1⟩
def STE_STAT_DEGRADED : Fld := ⟨STE_STAT, 2, 1⟩
def STE_GMBASE_LO_ADDR : Fld := ⟨STE_GMBASE_LO, 0, 32⟩
def STE_GMBASE_HI_ADDR : Fld := ⟨STE_GMBASE_HI, 0, 8⟩
def STE_LSBASE_LO_ADDR : Fld := ⟨STE_LSBASE_LO, 0, 32⟩
def STE_LSBASE_HI_ADDR : Fld := ⟨STE_LSBASE_HI, 0, 8⟩
def STE_ROWW_W : Fld := ⟨STE_ROWW, 0, 32⟩
def STE_STRIPES_LO_COUNT : Fld := ⟨STE_STRIPES_LO, 0, 32⟩
def STE_STRIPES_HI_COUNT : Fld := ⟨STE_STRIPES_HI, 0, 32⟩
def STE_PADCW_COUNT : Fld := ⟨STE_PADCW, 0, 32⟩
def STE_REPLACE_COUNT : Fld := ⟨STE_REPLACE, 0, 32⟩
def STE_PATPASS_COUNT : Fld := ⟨STE_PATPASS, 0, 32⟩
def STE_PATRECON_COUNT : Fld := ⟨STE_PATRECON, 0, 32⟩
def STE_PATFIX_COUNT : Fld := ⟨STE_PATFIX, 0, 32⟩
def STE_PATUNLOC_COUNT : Fld := ⟨STE_PATUNLOC, 0, 32⟩
def STE_COMMIT_GO : Fld := ⟨STE_COMMIT, 0, 1⟩
def STE_CSTAT_PENDING : Fld := ⟨STE_CSTAT, 0, 1⟩
def STE_CSTAT_REFUSED : Fld := ⟨STE_CSTAT, 1, 1⟩

/-- Every register of block STE. -/
def regsSTE : List Reg :=
  [STE_GEOM, STE_CLOSE, STE_PATROL, STE_STREAM, STE_CTL, STE_MINW, STE_LEDGER, STE_LEDENT, STE_LEDSEQ_LO, STE_LEDSEQ_HI, STE_REBUILD, STE_REBLEFT, STE_PATCUR, STE_LOST, STE_LSCLR, STE_STAT, STE_GMBASE_LO, STE_GMBASE_HI, STE_LSBASE_LO, STE_LSBASE_HI] ++
  [STE_ROWW, STE_STRIPES_LO, STE_STRIPES_HI, STE_PADCW, STE_REPLACE, STE_PATPASS, STE_PATRECON, STE_PATFIX, STE_PATUNLOC, STE_COMMIT, STE_CSTAT]

/-! ### Block CKP (register map of spec/09_power_loss.md) -/
def CKP_CTL : Reg := { off := 0x700000, reset := 0x1, rws := 0x1, wo := 0x6 }
def CKP_PERIOD : Reg := { off := 0x700004, reset := 0x3E8, rws := 0x3FFF }
def CKP_BYTES : Reg := { off := 0x700008, reset := 0x4, rws := 0x7F }
def CKP_DIRTYMAX : Reg := { off := 0x70000C, reset := 0x10000, rws := 0xFFFFF }
def CKP_REFRESH : Reg := { off := 0x700010, reset := 0x20000, rws := 0xFFFFF }
def CKP_AREA : Reg := { off := 0x700014, ro := 0xFFF0FFF }
def CKP_LAST : Reg := { off := 0x700018, ro := 0xFFFFFFFF }
def CKP_CUR : Reg := { off := 0x70001C, ro := 0xFFFFFFFF }
def CKP_ROOTNO : Reg := { off := 0x700020, ro := 0xFFFFFFFF }
def CKP_STAT : Reg := { off := 0x700024, w1c := 0x18, ro := 0x7 }
def CKP_START : Reg := { off := 0x700028, ro := 0x3 }
def CKP_RSTAT : Reg := { off := 0x70002C, ro := 0xF }
def CKP_RTIME : Reg := { off := 0x700030, ro := 0xFFFF }
def CKP_HOLDUP : Reg := { off := 0x700034, ro := 0xFFFF }
def CKP_PAGES : Reg := { off := 0x700038, ro := 0xFFFFFF }
def CKP_REGION_LO : Reg := { off := 0x700100, n1 := 16, s1 := 0x10, ro := 0xFFFFFFFF } -- BASE_LO reset: image
def CKP_REGION_HI : Reg := { off := 0x700104, n1 := 16, s1 := 0x10, ro := 0xFF } -- BASE_HI reset: image
def CKP_REGION_LEN : Reg := { off := 0x700108, n1 := 16, s1 := 0x10, ro := 0xFFFFFF } -- PAGES reset: image
def CKP_COMMIT : Reg := { off := 0x700FF0, wo := 0x1 }
def CKP_CSTAT : Reg := { off := 0x700FF4, w1c := 0x2, ro := 0x1 }

def CKP_CTL_ENA : Fld := ⟨CKP_CTL, 0, 1⟩
def CKP_CTL_NOW : Fld := ⟨CKP_CTL, 1, 1⟩
def CKP_CTL_SHUT : Fld := ⟨CKP_CTL, 2, 1⟩
def CKP_PERIOD_MS : Fld := ⟨CKP_PERIOD, 0, 14⟩
def CKP_BYTES_GIB : Fld := ⟨CKP_BYTES, 0, 7⟩
def CKP_DIRTYMAX_PAGES : Fld := ⟨CKP_DIRTYMAX, 0, 20⟩
def CKP_REFRESH_PAGES : Fld := ⟨CKP_REFRESH, 0, 20⟩
def CKP_AREA_LIMIT : Fld := ⟨CKP_AREA, 0, 12⟩
def CKP_AREA_LIVE : Fld := ⟨CKP_AREA, 16, 12⟩
def CKP_LAST_NUM : Fld := ⟨CKP_LAST, 0, 32⟩
def CKP_CUR_NUM : Fld := ⟨CKP_CUR, 0, 32⟩
def CKP_ROOTNO_NUM : Fld := ⟨CKP_ROOTNO, 0, 32⟩
def CKP_STAT_ACTIVE : Fld := ⟨CKP_STAT, 0, 1⟩
def CKP_STAT_BOD : Fld := ⟨CKP_STAT, 1, 1⟩
def CKP_STAT_QUIESCED : Fld := ⟨CKP_STAT, 2, 1⟩
def CKP_STAT_LATE : Fld := ⟨CKP_STAT, 3, 1⟩
def CKP_STAT_ROOTERR : Fld := ⟨CKP_STAT, 4, 1⟩
def CKP_START_KIND : Fld := ⟨CKP_START, 0, 2⟩
def CKP_RSTAT_CAUSE : Fld := ⟨CKP_RSTAT, 0, 4⟩
def CKP_RTIME_MS : Fld := ⟨CKP_RTIME, 0, 16⟩
def CKP_HOLDUP_NEED : Fld := ⟨CKP_HOLDUP, 0, 16⟩
def CKP_PAGES_PAGES : Fld := ⟨CKP_PAGES, 0, 24⟩
def CKP_REGION_LO_BASE_LO : Fld := ⟨CKP_REGION_LO, 0, 32⟩
def CKP_REGION_HI_BASE_HI : Fld := ⟨CKP_REGION_HI, 0, 8⟩
def CKP_REGION_LEN_PAGES : Fld := ⟨CKP_REGION_LEN, 0, 24⟩
def CKP_COMMIT_GO : Fld := ⟨CKP_COMMIT, 0, 1⟩
def CKP_CSTAT_PENDING : Fld := ⟨CKP_CSTAT, 0, 1⟩
def CKP_CSTAT_REFUSED : Fld := ⟨CKP_CSTAT, 1, 1⟩

/-- Every register of block CKP. -/
def regsCKP : List Reg :=
  [CKP_CTL, CKP_PERIOD, CKP_BYTES, CKP_DIRTYMAX, CKP_REFRESH, CKP_AREA, CKP_LAST, CKP_CUR, CKP_ROOTNO, CKP_STAT, CKP_START, CKP_RSTAT, CKP_RTIME, CKP_HOLDUP, CKP_PAGES, CKP_REGION_LO, CKP_REGION_HI, CKP_REGION_LEN, CKP_COMMIT, CKP_CSTAT]

/-! ### Block HPT (register map of spec/10_host_port.md) -/
def HPT_CTL : Reg := { off := 0x800000, reset := 0x632, rw := 0x732, rwb := 0x1, wo := 0x1000 }
def HPT_PCIID : Reg := { off := 0x800004, reset := 0x72320000, rwb := 0xFFFF, ro := 0xFFFF0000 }
def HPT_SUBSYS : Reg := { off := 0x800008, rwb := 0xFFFFFFFF }
def HPT_LINK : Reg := { off := 0x80000C, ro := 0x77F }
def HPT_QCFG : Reg := { off := 0x800010, ro := 0x1FFF1FFF } -- IOQ reset: image; VEC reset: image
def HPT_STAT : Reg := { off := 0x800014, w1c := 0x1F00, ro := 0x1F }
def HPT_FWRING_LO : Reg := { off := 0x800018, rw := 0xFFFFFFFF }
def HPT_FWRING_HI : Reg := { off := 0x80001C, reset := 0x80000, rw := 0xF00FF }
def HPT_FWWR : Reg := { off := 0x800020, ro := 0xFFF }
def HPT_FWRD : Reg := { off := 0x800024, rw := 0xFFF }
def HPT_FWTO : Reg := { off := 0x800028, reset := 0x2710, rws := 0xFFFF }
def HPT_FWCPL0 : Reg := { off := 0x800030, rw := 0xFFFFFFFF }
def HPT_FWCPL1 : Reg := { off := 0x800034, rw := 0xFFFFFFFF }
def HPT_FWCPL2 : Reg := { off := 0x800038, rw := 0xFFF }
def HPT_FWCPL3 : Reg := { off := 0x80003C, rw := 0x7FFF, wo := 0x80000000 }
def HPT_XFER_LO : Reg := { off := 0x800040, rw := 0xFFFFFFFF }
def HPT_XFER_HI : Reg := { off := 0x800044, rw := 0xFF }
def HPT_XOFS : Reg := { off := 0x800048, rw := 0x1FFFFF }
def HPT_XLEN : Reg := { off := 0x80004C, rw := 0x1FFFFF }
def HPT_XCTL : Reg := { off := 0x800050, rw := 0x10FFF, wo := 0x80000000 }
def HPT_XSTAT : Reg := { off := 0x800054, w1c := 0x6, ro := 0x1 }
def HPT_AEN : Reg := { off := 0x800058, rw := 0xFFFF07, wo := 0x80000000 }
def HPT_CMDS_LO : Reg := { off := 0x800080, ro := 0xFFFFFFFF }
def HPT_CMDS_HI : Reg := { off := 0x800084, ro := 0xFFFFFFFF }
def HPT_TOHOST : Reg := { off := 0x800088, ro := 0xFFFFFFFF }
def HPT_FROMHOST : Reg := { off := 0x80008C, ro := 0xFFFFFFFF }
def HPT_DBERRCNT : Reg := { off := 0x800090, ro := 0xFFFFFFFF }
def HPT_CQSTALL : Reg := { off := 0x800094, ro := 0xFFFFFFFF }
def HPT_FWCMDS : Reg := { off := 0x800098, ro := 0xFFFFFFFF }
def HPT_FWTOCNT : Reg := { off := 0x80009C, ro := 0xFFFFFFFF }
def HPT_COMMIT : Reg := { off := 0x800FF0, wo := 0x1 }
def HPT_CSTAT : Reg := { off := 0x800FF4, w1c := 0x2, ro := 0x1 }

def HPT_CTL_CFGREADY : Fld := ⟨HPT_CTL, 0, 1⟩
def HPT_CTL_LINKEN : Fld := ⟨HPT_CTL, 1, 1⟩
def HPT_CTL_MAXW : Fld := ⟨HPT_CTL, 4, 2⟩
def HPT_CTL_MAXRATE : Fld := ⟨HPT_CTL, 8, 3⟩
def HPT_CTL_RETRAIN : Fld := ⟨HPT_CTL, 12, 1⟩
def HPT_PCIID_VENDOR : Fld := ⟨HPT_PCIID, 0, 16⟩
def HPT_PCIID_DEVICE : Fld := ⟨HPT_PCIID, 16, 16⟩
def HPT_SUBSYS_SVID : Fld := ⟨HPT_SUBSYS, 0, 16⟩
def HPT_SUBSYS_SSID : Fld := ⟨HPT_SUBSYS, 16, 16⟩
def HPT_LINK_UP : Fld := ⟨HPT_LINK, 0, 1⟩
def HPT_LINK_FLIT : Fld := ⟨HPT_LINK, 1, 1⟩
def HPT_LINK_WIDTH : Fld := ⟨HPT_LINK, 2, 2⟩
def HPT_LINK_RATE : Fld := ⟨HPT_LINK, 4, 3⟩
def HPT_LINK_PM : Fld := ⟨HPT_LINK, 8, 3⟩
def HPT_QCFG_IOQ : Fld := ⟨HPT_QCFG, 0, 13⟩
def HPT_QCFG_VEC : Fld := ⟨HPT_QCFG, 16, 13⟩
def HPT_STAT_EN : Fld := ⟨HPT_STAT, 0, 1⟩
def HPT_STAT_RDY : Fld := ⟨HPT_STAT, 1, 1⟩
def HPT_STAT_SHST : Fld := ⟨HPT_STAT, 2, 2⟩
def HPT_STAT_CFS : Fld := ⟨HPT_STAT, 4, 1⟩
def HPT_STAT_DBERR : Fld := ⟨HPT_STAT, 8, 1⟩
def HPT_STAT_CQFULL : Fld := ⟨HPT_STAT, 9, 1⟩
def HPT_STAT_FWFULL : Fld := ⟨HPT_STAT, 10, 1⟩
def HPT_STAT_AENLOST : Fld := ⟨HPT_STAT, 11, 1⟩
def HPT_STAT_NSCHG : Fld := ⟨HPT_STAT, 12, 1⟩
def HPT_FWRING_LO_ADDR : Fld := ⟨HPT_FWRING_LO, 0, 32⟩
def HPT_FWRING_HI_ADDR : Fld := ⟨HPT_FWRING_HI, 0, 8⟩
def HPT_FWRING_HI_SIZE : Fld := ⟨HPT_FWRING_HI, 16, 4⟩
def HPT_FWWR_INDEX : Fld := ⟨HPT_FWWR, 0, 12⟩
def HPT_FWRD_INDEX : Fld := ⟨HPT_FWRD, 0, 12⟩
def HPT_FWTO_MS : Fld := ⟨HPT_FWTO, 0, 16⟩
def HPT_FWCPL0_DW : Fld := ⟨HPT_FWCPL0, 0, 32⟩
def HPT_FWCPL1_DW : Fld := ⟨HPT_FWCPL1, 0, 32⟩
def HPT_FWCPL2_INDEX : Fld := ⟨HPT_FWCPL2, 0, 12⟩
def HPT_FWCPL3_SC : Fld := ⟨HPT_FWCPL3, 0, 8⟩
def HPT_FWCPL3_SCT : Fld := ⟨HPT_FWCPL3, 8, 3⟩
def HPT_FWCPL3_CRD : Fld := ⟨HPT_FWCPL3, 11, 2⟩
def HPT_FWCPL3_MORE : Fld := ⟨HPT_FWCPL3, 13, 1⟩
def HPT_FWCPL3_DNR : Fld := ⟨HPT_FWCPL3, 14, 1⟩
def HPT_FWCPL3_GO : Fld := ⟨HPT_FWCPL3, 31, 1⟩
def HPT_XFER_LO_ADDR : Fld := ⟨HPT_XFER_LO, 0, 32⟩
def HPT_XFER_HI_ADDR : Fld := ⟨HPT_XFER_HI, 0, 8⟩
def HPT_XOFS_BYTES : Fld := ⟨HPT_XOFS, 0, 21⟩
def HPT_XLEN_BYTES : Fld := ⟨HPT_XLEN, 0, 21⟩
def HPT_XCTL_INDEX : Fld := ⟨HPT_XCTL, 0, 12⟩
def HPT_XCTL_DIR : Fld := ⟨HPT_XCTL, 16, 1⟩
def HPT_XCTL_GO : Fld := ⟨HPT_XCTL, 31, 1⟩
def HPT_XSTAT_BUSY : Fld := ⟨HPT_XSTAT, 0, 1⟩
def HPT_XSTAT_DONE : Fld := ⟨HPT_XSTAT, 1, 1⟩
def HPT_XSTAT_ERR : Fld := ⟨HPT_XSTAT, 2, 1⟩
def HPT_AEN_TYPE : Fld := ⟨HPT_AEN, 0, 3⟩
def HPT_AEN_INFO : Fld := ⟨HPT_AEN, 8, 8⟩
def HPT_AEN_LID : Fld := ⟨HPT_AEN, 16, 8⟩
def HPT_AEN_GO : Fld := ⟨HPT_AEN, 31, 1⟩
def HPT_CMDS_LO_COUNT : Fld := ⟨HPT_CMDS_LO, 0, 32⟩
def HPT_CMDS_HI_COUNT : Fld := ⟨HPT_CMDS_HI, 0, 32⟩
def HPT_TOHOST_COUNT : Fld := ⟨HPT_TOHOST, 0, 32⟩
def HPT_FROMHOST_COUNT : Fld := ⟨HPT_FROMHOST, 0, 32⟩
def HPT_DBERRCNT_COUNT : Fld := ⟨HPT_DBERRCNT, 0, 32⟩
def HPT_CQSTALL_COUNT : Fld := ⟨HPT_CQSTALL, 0, 32⟩
def HPT_FWCMDS_COUNT : Fld := ⟨HPT_FWCMDS, 0, 32⟩
def HPT_FWTOCNT_COUNT : Fld := ⟨HPT_FWTOCNT, 0, 32⟩
def HPT_COMMIT_GO : Fld := ⟨HPT_COMMIT, 0, 1⟩
def HPT_CSTAT_PENDING : Fld := ⟨HPT_CSTAT, 0, 1⟩
def HPT_CSTAT_REFUSED : Fld := ⟨HPT_CSTAT, 1, 1⟩

/-- Every register of block HPT. -/
def regsHPT : List Reg :=
  [HPT_CTL, HPT_PCIID, HPT_SUBSYS, HPT_LINK, HPT_QCFG, HPT_STAT, HPT_FWRING_LO, HPT_FWRING_HI, HPT_FWWR, HPT_FWRD, HPT_FWTO, HPT_FWCPL0, HPT_FWCPL1, HPT_FWCPL2, HPT_FWCPL3, HPT_XFER_LO, HPT_XFER_HI, HPT_XOFS, HPT_XLEN, HPT_XCTL] ++
  [HPT_XSTAT, HPT_AEN, HPT_CMDS_LO, HPT_CMDS_HI, HPT_TOHOST, HPT_FROMHOST, HPT_DBERRCNT, HPT_CQSTALL, HPT_FWCMDS, HPT_FWTOCNT, HPT_COMMIT, HPT_CSTAT]

/-! ### Block FAB (register map of spec/11_fabric_herd.md) -/
def FAB_PORTCTL : Reg := { off := 0x900000, n1 := 4, s1 := 0x4, reset := 0x17730000, rws := 0xFFF7FF07 }
def FAB_PORTSTAT : Reg := { off := 0x900010, n1 := 4, s1 := 0x4, ro := 0xFFFF01 }
def FAB_MAC_LO : Reg := { off := 0x900020, n1 := 4, s1 := 0x8, rws := 0xFFFFFFFF }
def FAB_MAC_HI : Reg := { off := 0x900024, n1 := 4, s1 := 0x8, rws := 0xFFFF }
def FAB_IPV4 : Reg := { off := 0x900040, n1 := 4, s1 := 0x4, rws := 0xFFFFFFFF }
def FAB_IPV6 : Reg := { off := 0x900050, n1 := 4, s1 := 0x10, n2 := 4, s2 := 0x4, rws := 0xFFFFFFFF }
def FAB_VLAN : Reg := { off := 0x900090, n1 := 4, s1 := 0x4, rws := 0x1FFF }
def FAB_TCP : Reg := { off := 0x9000A0, reset := 0x18141144, rws := 0x1FFFFFFF }
def FAB_NVT : Reg := { off := 0x9000A4, reset := 0x80403, rws := 0xFF1F03 }
def FAB_ASSOC : Reg := { off := 0x9000A8, reset := 0x40, rws := 0x1FFF }
def FAB_CTXBASE_LO : Reg := { off := 0x9000B0, ro := 0xFFFFFFFF } -- ADDR reset: image
def FAB_CTXBASE_HI : Reg := { off := 0x9000B4, ro := 0xFF } -- ADDR reset: image
def FAB_CONN : Reg := { off := 0x9000B8, ro := 0x1FFF1FFF }
def FAB_STAT : Reg := { off := 0x9000BC, w1c := 0x7 }
def FAB_RXDROP : Reg := { off := 0x9000C0, ro := 0xFFFFFFFF }
def FAB_HDGSTERR : Reg := { off := 0x9000C4, ro := 0xFFFFFFFF }
def FAB_DDGSTERR : Reg := { off := 0x9000C8, ro := 0xFFFFFFFF }
def FAB_RETRANS : Reg := { off := 0x9000CC, ro := 0xFFFFFFFF }
def FAB_RSTSENT : Reg := { off := 0x9000D0, ro := 0xFFFFFFFF }
def FAB_ECNCE : Reg := { off := 0x9000D4, ro := 0xFFFFFFFF }
def FAB_COMMIT : Reg := { off := 0x900FF0, wo := 0x1 }
def FAB_CSTAT : Reg := { off := 0x900FF4, w1c := 0x2, ro := 0x1 }

def FAB_PORTCTL_ENA : Fld := ⟨FAB_PORTCTL, 0, 1⟩
def FAB_PORTCTL_CR : Fld := ⟨FAB_PORTCTL, 1, 1⟩
def FAB_PORTCTL_HERD : Fld := ⟨FAB_PORTCTL, 2, 1⟩
def FAB_PORTCTL_PFCEN : Fld := ⟨FAB_PORTCTL, 8, 8⟩
def FAB_PORTCTL_PCP : Fld := ⟨FAB_PORTCTL, 16, 3⟩
def FAB_PORTCTL_MTU : Fld := ⟨FAB_PORTCTL, 20, 12⟩
def FAB_PORTSTAT_UP : Fld := ⟨FAB_PORTSTAT, 0, 1⟩
def FAB_PORTSTAT_RXPAUSE : Fld := ⟨FAB_PORTSTAT, 8, 8⟩
def FAB_PORTSTAT_TXPAUSE : Fld := ⟨FAB_PORTSTAT, 16, 8⟩
def FAB_MAC_LO_MAC : Fld := ⟨FAB_MAC_LO, 0, 32⟩
def FAB_MAC_HI_MAC : Fld := ⟨FAB_MAC_HI, 0, 16⟩
def FAB_IPV4_ADDR : Fld := ⟨FAB_IPV4, 0, 32⟩
def FAB_IPV6_ADDR : Fld := ⟨FAB_IPV6, 0, 32⟩
def FAB_VLAN_VID : Fld := ⟨FAB_VLAN, 0, 12⟩
def FAB_VLAN_TAG : Fld := ⟨FAB_VLAN, 12, 1⟩
def FAB_TCP_LPORT : Fld := ⟨FAB_TCP, 0, 16⟩
def FAB_TCP_RTOMIN : Fld := ⟨FAB_TCP, 16, 8⟩
def FAB_TCP_RETRIES : Fld := ⟨FAB_TCP, 24, 4⟩
def FAB_TCP_ECN : Fld := ⟨FAB_TCP, 28, 1⟩
def FAB_NVT_HDOK : Fld := ⟨FAB_NVT, 0, 1⟩
def FAB_NVT_DDOK : Fld := ⟨FAB_NVT, 1, 1⟩
def FAB_NVT_GRANTS : Fld := ⟨FAB_NVT, 8, 5⟩
def FAB_NVT_C2HMAX : Fld := ⟨FAB_NVT, 16, 8⟩
def FAB_ASSOC_MAXIOQ : Fld := ⟨FAB_ASSOC, 0, 13⟩
def FAB_CTXBASE_LO_ADDR : Fld := ⟨FAB_CTXBASE_LO, 0, 32⟩
def FAB_CTXBASE_HI_ADDR : Fld := ⟨FAB_CTXBASE_HI, 0, 8⟩
def FAB_CONN_CONTEXTS : Fld := ⟨FAB_CONN, 0, 13⟩
def FAB_CONN_QPAIRS : Fld := ⟨FAB_CONN, 16, 13⟩
def FAB_STAT_CTXFULL : Fld := ⟨FAB_STAT, 0, 1⟩
def FAB_STAT_DGSTERR : Fld := ⟨FAB_STAT, 1, 1⟩
def FAB_STAT_QFULL : Fld := ⟨FAB_STAT, 2, 1⟩
def FAB_RXDROP_COUNT : Fld := ⟨FAB_RXDROP, 0, 32⟩
def FAB_HDGSTERR_COUNT : Fld := ⟨FAB_HDGSTERR, 0, 32⟩
def FAB_DDGSTERR_COUNT : Fld := ⟨FAB_DDGSTERR, 0, 32⟩
def FAB_RETRANS_COUNT : Fld := ⟨FAB_RETRANS, 0, 32⟩
def FAB_RSTSENT_COUNT : Fld := ⟨FAB_RSTSENT, 0, 32⟩
def FAB_ECNCE_COUNT : Fld := ⟨FAB_ECNCE, 0, 32⟩
def FAB_COMMIT_GO : Fld := ⟨FAB_COMMIT, 0, 1⟩
def FAB_CSTAT_PENDING : Fld := ⟨FAB_CSTAT, 0, 1⟩
def FAB_CSTAT_REFUSED : Fld := ⟨FAB_CSTAT, 1, 1⟩

/-- Every register of block FAB. -/
def regsFAB : List Reg :=
  [FAB_PORTCTL, FAB_PORTSTAT, FAB_MAC_LO, FAB_MAC_HI, FAB_IPV4, FAB_IPV6, FAB_VLAN, FAB_TCP, FAB_NVT, FAB_ASSOC, FAB_CTXBASE_LO, FAB_CTXBASE_HI, FAB_CONN, FAB_STAT, FAB_RXDROP, FAB_HDGSTERR, FAB_DDGSTERR, FAB_RETRANS, FAB_RSTSENT, FAB_ECNCE] ++
  [FAB_COMMIT, FAB_CSTAT]

/-! ### Block HRD (register map of spec/11_fabric_herd.md) -/
def HRD_ID : Reg := { off := 0xA00000, ro := 0x3FFF } -- MEMBER reset: image
def HRD_HOPLIM : Reg := { off := 0xA00004, rws := 0xFF } -- LIMIT reset: image
def HRD_CTL : Reg := { off := 0xA00008, reset := 0x588B5, rws := 0x7FFFF }
def HRD_DEADLINE : Reg := { off := 0xA0000C, reset := 0x1388, rws := 0xFFFF }
def HRD_TRANSIT : Reg := { off := 0xA00010, w1c := 0x80000000, ro := 0x1FFF }
def HRD_ORIGIN : Reg := { off := 0xA00040, ro := 0xFFFFFFFF }
def HRD_OWNED : Reg := { off := 0xA00044, ro := 0xFFFFFFFF }
def HRD_TRANSITCNT : Reg := { off := 0xA00048, ro := 0xFFFFFFFF }
def HRD_TIMEOUT : Reg := { off := 0xA0004C, ro := 0xFFFFFFFF }
def HRD_DROP : Reg := { off := 0xA00050, ro := 0xFFFFFFFF }
def HRD_LATE : Reg := { off := 0xA00054, ro := 0xFFFFFFFF }
def HRD_COMMIT : Reg := { off := 0xA00FF0, wo := 0x1 }
def HRD_CSTAT : Reg := { off := 0xA00FF4, w1c := 0x2, ro := 0x1 }
def HRD_MAC_LO : Reg := { off := 0xA01000, n1 := 256, s1 := 0x8, rw := 0xFFFFFFFF }
def HRD_MAC_HI : Reg := { off := 0xA01004, n1 := 256, s1 := 0x8, rw := 0xFFFF }
def HRD_ROUTE0 : Reg := { off := 0xA20000, n1 := 16384, s1 := 0x8, rw := 0xFF07 }
def HRD_ROUTE1 : Reg := { off := 0xA20004, n1 := 16384, s1 := 0x8, rw := 0xFF }

def HRD_ID_MEMBER : Fld := ⟨HRD_ID, 0, 14⟩
def HRD_HOPLIM_LIMIT : Fld := ⟨HRD_HOPLIM, 0, 8⟩
def HRD_CTL_ETYPE : Fld := ⟨HRD_CTL, 0, 16⟩
def HRD_CTL_PCP : Fld := ⟨HRD_CTL, 16, 3⟩
def HRD_DEADLINE_US : Fld := ⟨HRD_DEADLINE, 0, 16⟩
def HRD_TRANSIT_INUSE : Fld := ⟨HRD_TRANSIT, 0, 13⟩
def HRD_TRANSIT_FULL : Fld := ⟨HRD_TRANSIT, 31, 1⟩
def HRD_ORIGIN_COUNT : Fld := ⟨HRD_ORIGIN, 0, 32⟩
def HRD_OWNED_COUNT : Fld := ⟨HRD_OWNED, 0, 32⟩
def HRD_TRANSITCNT_COUNT : Fld := ⟨HRD_TRANSITCNT, 0, 32⟩
def HRD_TIMEOUT_COUNT : Fld := ⟨HRD_TIMEOUT, 0, 32⟩
def HRD_DROP_COUNT : Fld := ⟨HRD_DROP, 0, 32⟩
def HRD_LATE_COUNT : Fld := ⟨HRD_LATE, 0, 32⟩
def HRD_COMMIT_GO : Fld := ⟨HRD_COMMIT, 0, 1⟩
def HRD_CSTAT_PENDING : Fld := ⟨HRD_CSTAT, 0, 1⟩
def HRD_CSTAT_REFUSED : Fld := ⟨HRD_CSTAT, 1, 1⟩
def HRD_MAC_LO_MAC : Fld := ⟨HRD_MAC_LO, 0, 32⟩
def HRD_MAC_HI_MAC : Fld := ⟨HRD_MAC_HI, 0, 16⟩
def HRD_ROUTE0_VALID : Fld := ⟨HRD_ROUTE0, 0, 1⟩
def HRD_ROUTE0_PORT : Fld := ⟨HRD_ROUTE0, 1, 2⟩
def HRD_ROUTE0_HOPS : Fld := ⟨HRD_ROUTE0, 8, 8⟩
def HRD_ROUTE1_MACIDX : Fld := ⟨HRD_ROUTE1, 0, 8⟩

/-- Every register of block HRD. -/
def regsHRD : List Reg :=
  [HRD_ID, HRD_HOPLIM, HRD_CTL, HRD_DEADLINE, HRD_TRANSIT, HRD_ORIGIN, HRD_OWNED, HRD_TRANSITCNT, HRD_TIMEOUT, HRD_DROP, HRD_LATE, HRD_COMMIT, HRD_CSTAT, HRD_MAC_LO, HRD_MAC_HI, HRD_ROUTE0, HRD_ROUTE1]

/-! ### Block LEX (register map of spec/12_segment_service.md) -/
def LEX_CTL : Reg := { off := 0xB00000, rws := 0x1F0, ro := 0x1 } -- ENA reset: image
def LEX_GEOM : Reg := { off := 0xB00004, reset := 0x16, rws := 0x1F }
def LEX_BASE_LO : Reg := { off := 0xB00008, ro := 0xFFFFFFFF } -- ADDR reset: image
def LEX_BASE_HI : Reg := { off := 0xB0000C, ro := 0xFF } -- ADDR reset: image
def LEX_COUNT : Reg := { off := 0xB00010, ro := 0x1FFFFFF }
def LEX_HEAP : Reg := { off := 0xB00014, ro := 0xFFFFFF }
def LEX_STAT : Reg := { off := 0xB00018, w1c := 0x3 }
def LEX_OPKEY : Reg := { off := 0xB00020, n1 := 4, s1 := 0x4, rw := 0xFFFFFFFF }
def LEX_OPCTL : Reg := { off := 0xB00030, rw := 0x7, wo := 0x80000000 }
def LEX_OPSTAT : Reg := { off := 0xB00034, w1c := 0x2, ro := 0x701 }
def LEX_OPLOC : Reg := { off := 0xB00038, rw := 0xFFFFFF }
def LEX_OPDATA : Reg := { off := 0xB00040, n1 := 16, s1 := 0x4, rw := 0xFFFFFFFF }
def LEX_RETR_LO : Reg := { off := 0xB00080, ro := 0xFFFFFFFF }
def LEX_RETR_HI : Reg := { off := 0xB00084, ro := 0xFFFFFFFF }
def LEX_STORES : Reg := { off := 0xB00088, ro := 0xFFFFFFFF }
def LEX_KDNE : Reg := { off := 0xB0008C, ro := 0xFFFFFFFF }
def LEX_CHIT : Reg := { off := 0xB00090, ro := 0xFFFFFFFF }
def LEX_FALLBK : Reg := { off := 0xB00094, ro := 0xFFFFFFFF }
def LEX_FWDREQ : Reg := { off := 0xB00098, ro := 0xFFFFFFFF }
def LEX_COMMIT : Reg := { off := 0xB00FF0, wo := 0x1 }
def LEX_CSTAT : Reg := { off := 0xB00FF4, w1c := 0x2, ro := 0x1 }

def LEX_CTL_ENA : Fld := ⟨LEX_CTL, 0, 1⟩
def LEX_CTL_CCLASS : Fld := ⟨LEX_CTL, 4, 4⟩
def LEX_CTL_FWALL : Fld := ⟨LEX_CTL, 8, 1⟩
def LEX_GEOM_BUCKETLOG : Fld := ⟨LEX_GEOM, 0, 5⟩
def LEX_BASE_LO_ADDR : Fld := ⟨LEX_BASE_LO, 0, 32⟩
def LEX_BASE_HI_ADDR : Fld := ⟨LEX_BASE_HI, 0, 8⟩
def LEX_COUNT_ENTRIES : Fld := ⟨LEX_COUNT, 0, 25⟩
def LEX_HEAP_SLOTS : Fld := ⟨LEX_HEAP, 0, 24⟩
def LEX_STAT_FULL : Fld := ⟨LEX_STAT, 0, 1⟩
def LEX_STAT_BADENT : Fld := ⟨LEX_STAT, 1, 1⟩
def LEX_OPKEY_KEY : Fld := ⟨LEX_OPKEY, 0, 32⟩
def LEX_OPCTL_OP : Fld := ⟨LEX_OPCTL, 0, 3⟩
def LEX_OPCTL_GO : Fld := ⟨LEX_OPCTL, 31, 1⟩
def LEX_OPSTAT_BUSY : Fld := ⟨LEX_OPSTAT, 0, 1⟩
def LEX_OPSTAT_DONE : Fld := ⟨LEX_OPSTAT, 1, 1⟩
def LEX_OPSTAT_RESULT : Fld := ⟨LEX_OPSTAT, 8, 3⟩
def LEX_OPLOC_BUCKET : Fld := ⟨LEX_OPLOC, 0, 22⟩
def LEX_OPLOC_WAY : Fld := ⟨LEX_OPLOC, 22, 2⟩
def LEX_OPDATA_DATA : Fld := ⟨LEX_OPDATA, 0, 32⟩
def LEX_RETR_LO_COUNT : Fld := ⟨LEX_RETR_LO, 0, 32⟩
def LEX_RETR_HI_COUNT : Fld := ⟨LEX_RETR_HI, 0, 32⟩
def LEX_STORES_COUNT : Fld := ⟨LEX_STORES, 0, 32⟩
def LEX_KDNE_COUNT : Fld := ⟨LEX_KDNE, 0, 32⟩
def LEX_CHIT_COUNT : Fld := ⟨LEX_CHIT, 0, 32⟩
def LEX_FALLBK_COUNT : Fld := ⟨LEX_FALLBK, 0, 32⟩
def LEX_FWDREQ_COUNT : Fld := ⟨LEX_FWDREQ, 0, 32⟩
def LEX_COMMIT_GO : Fld := ⟨LEX_COMMIT, 0, 1⟩
def LEX_CSTAT_PENDING : Fld := ⟨LEX_CSTAT, 0, 1⟩
def LEX_CSTAT_REFUSED : Fld := ⟨LEX_CSTAT, 1, 1⟩

/-- Every register of block LEX. -/
def regsLEX : List Reg :=
  [LEX_CTL, LEX_GEOM, LEX_BASE_LO, LEX_BASE_HI, LEX_COUNT, LEX_HEAP, LEX_STAT, LEX_OPKEY, LEX_OPCTL, LEX_OPSTAT, LEX_OPLOC, LEX_OPDATA, LEX_RETR_LO, LEX_RETR_HI, LEX_STORES, LEX_KDNE, LEX_CHIT, LEX_FALLBK, LEX_FWDREQ, LEX_COMMIT] ++
  [LEX_CSTAT]

/-! ### Block PLK (register map of spec/13_pair.md) -/
def PLK_ROLE : Reg := { off := 0xC00000, ro := 0x33 } -- IMAGE reset: image; ACTING reset: log
def PLK_STAT : Reg := { off := 0xC00004, ro := 0xFFF } -- CURRENT reset: log; SYNC reset: log
def PLK_EPOCH : Reg := { off := 0xC00008, ro := 0xFFFFFFFF } -- EPOCH reset: log
def PLK_BASE : Reg := { off := 0xC0000C, ro := 0xFFFFFFFF } -- EPOCH reset: log
def PLK_MSN_LO : Reg := { off := 0xC00010, ro := 0xFFFFFFFF }
def PLK_MSN_HI : Reg := { off := 0xC00014, ro := 0xFFFFFFFF }
def PLK_PEERMSN_LO : Reg := { off := 0xC00018, ro := 0xFFFFFFFF }
def PLK_PEERMSN_HI : Reg := { off := 0xC0001C, ro := 0xFFFFFFFF }
def PLK_RESYNC : Reg := { off := 0xC00020, ro := 0x80FFFFFF }
def PLK_ANA : Reg := { off := 0xC00024, reset := 0xF, ro := 0xF }
def PLK_WITNESS : Reg := { off := 0xC00040, rws := 0xFFFF0007 } -- ENA reset: image; TCPPORT reset: image
def PLK_WITADDR : Reg := { off := 0xC00044, n1 := 4, s1 := 0x4, rws := 0xFFFFFFFF } -- ADDR reset: image
def PLK_RETX : Reg := { off := 0xC00080, ro := 0xFFFFFFFF }
def PLK_HBMISS : Reg := { off := 0xC00084, ro := 0xFFFFFFFF }
def PLK_SPLITS : Reg := { off := 0xC00088, ro := 0xFFFFFFFF }
def PLK_RSMIB : Reg := { off := 0xC0008C, ro := 0xFFFFFFFF }
def PLK_COMMIT : Reg := { off := 0xC00FF0, wo := 0x1 }
def PLK_CSTAT : Reg := { off := 0xC00FF4, w1c := 0x2, ro := 0x1 }

def PLK_ROLE_IMAGE : Fld := ⟨PLK_ROLE, 0, 2⟩
def PLK_ROLE_ACTING : Fld := ⟨PLK_ROLE, 4, 2⟩
def PLK_STAT_LINK : Fld := ⟨PLK_STAT, 0, 1⟩
def PLK_STAT_LANES : Fld := ⟨PLK_STAT, 1, 2⟩
def PLK_STAT_REACH : Fld := ⟨PLK_STAT, 3, 1⟩
def PLK_STAT_STATE : Fld := ⟨PLK_STAT, 4, 4⟩
def PLK_STAT_CURRENT : Fld := ⟨PLK_STAT, 8, 1⟩
def PLK_STAT_SYNC : Fld := ⟨PLK_STAT, 9, 1⟩
def PLK_STAT_MAPVALID : Fld := ⟨PLK_STAT, 10, 1⟩
def PLK_STAT_WITUP : Fld := ⟨PLK_STAT, 11, 1⟩
def PLK_EPOCH_EPOCH : Fld := ⟨PLK_EPOCH, 0, 32⟩
def PLK_BASE_EPOCH : Fld := ⟨PLK_BASE, 0, 32⟩
def PLK_MSN_LO_MSN : Fld := ⟨PLK_MSN_LO, 0, 32⟩
def PLK_MSN_HI_MSN : Fld := ⟨PLK_MSN_HI, 0, 32⟩
def PLK_PEERMSN_LO_MSN : Fld := ⟨PLK_PEERMSN_LO, 0, 32⟩
def PLK_PEERMSN_HI_MSN : Fld := ⟨PLK_PEERMSN_HI, 0, 32⟩
def PLK_RESYNC_REGIONS : Fld := ⟨PLK_RESYNC, 0, 24⟩
def PLK_RESYNC_FULL : Fld := ⟨PLK_RESYNC, 31, 1⟩
def PLK_ANA_STATE : Fld := ⟨PLK_ANA, 0, 4⟩
def PLK_WITNESS_ENA : Fld := ⟨PLK_WITNESS, 0, 1⟩
def PLK_WITNESS_FPORT : Fld := ⟨PLK_WITNESS, 1, 2⟩
def PLK_WITNESS_TCPPORT : Fld := ⟨PLK_WITNESS, 16, 16⟩
def PLK_WITADDR_ADDR : Fld := ⟨PLK_WITADDR, 0, 32⟩
def PLK_RETX_COUNT : Fld := ⟨PLK_RETX, 0, 32⟩
def PLK_HBMISS_COUNT : Fld := ⟨PLK_HBMISS, 0, 32⟩
def PLK_SPLITS_COUNT : Fld := ⟨PLK_SPLITS, 0, 32⟩
def PLK_RSMIB_COUNT : Fld := ⟨PLK_RSMIB, 0, 32⟩
def PLK_COMMIT_GO : Fld := ⟨PLK_COMMIT, 0, 1⟩
def PLK_CSTAT_PENDING : Fld := ⟨PLK_CSTAT, 0, 1⟩
def PLK_CSTAT_REFUSED : Fld := ⟨PLK_CSTAT, 1, 1⟩

/-- Every register of block PLK. -/
def regsPLK : List Reg :=
  [PLK_ROLE, PLK_STAT, PLK_EPOCH, PLK_BASE, PLK_MSN_LO, PLK_MSN_HI, PLK_PEERMSN_LO, PLK_PEERMSN_HI, PLK_RESYNC, PLK_ANA, PLK_WITNESS, PLK_WITADDR, PLK_RETX, PLK_HBMISS, PLK_SPLITS, PLK_RSMIB, PLK_COMMIT, PLK_CSTAT]

/-! ### Block CIP (register map of spec/14_cipher.md) -/
def CIP_CTL : Reg := { off := 0xD00000, reset := 0x100, rws := 0xFFF }
def CIP_CLSWGT : Reg := { off := 0xD00004, n1 := 4, s1 := 0x4, reset := 0x1010101, rws := 0xFFFFFFFF }
def CIP_STAT : Reg := { off := 0xD00014, ro := 0x1F } -- FUSED reset: fuse
def CIP_UCADDR : Reg := { off := 0xD00018, ro := 0xFFFFFFFF } -- VALUE reset: image
def CIP_UCLEN : Reg := { off := 0xD0001C, ro := 0xFFFFFFFF } -- VALUE reset: image
def CIP_KSBASE_LO : Reg := { off := 0xD00020, ro := 0xFFFFFFFF } -- ADDR reset: image
def CIP_KSBASE_HI : Reg := { off := 0xD00024, ro := 0xFF } -- ADDR reset: image
def CIP_KRES : Reg := { off := 0xD00028, w1c := 0x80000000, ro := 0x1FFF }
def CIP_FUSECTL : Reg := { off := 0xD00030, rwb := 0x80000003 }
def CIP_FUSEDATA : Reg := { off := 0xD00040, n1 := 8, s1 := 0x4, wo := 0xFFFFFFFF }
def CIP_JOBS : Reg := { off := 0xD00080, ro := 0xFFFFFFFF }
def CIP_BLK_LO : Reg := { off := 0xD00084, ro := 0xFFFFFFFF }
def CIP_BLK_HI : Reg := { off := 0xD00088, ro := 0xFFFFFFFF }
def CIP_UNTRUSTED : Reg := { off := 0xD0008C, ro := 0xFFFFFFFF }
def CIP_AUTHFAIL : Reg := { off := 0xD00090, ro := 0xFFFFFFFF }
def CIP_NOKEY : Reg := { off := 0xD00094, ro := 0xFFFFFFFF }
def CIP_COMMIT : Reg := { off := 0xD00FF0, wo := 0x1 }
def CIP_CSTAT : Reg := { off := 0xD00FF4, w1c := 0x2, ro := 0x1 }
def CIP_RING_LO : Reg := { off := 0xD01000, n1 := 62, s1 := 0x20, rw := 0xFFFFFFFF }
def CIP_RING_HI : Reg := { off := 0xD01004, n1 := 62, s1 := 0x20, reset := 0x60000, rw := 0xF00FF }
def CIP_TAIL : Reg := { off := 0xD01008, n1 := 62, s1 := 0x20, rw := 0xFFF }
def CIP_HEAD : Reg := { off := 0xD0100C, n1 := 62, s1 := 0x20, ro := 0xFFF }
def CIP_CHSTAT : Reg := { off := 0xD01010, n1 := 62, s1 := 0x20, ro := 0x3F } -- CLASS reset: image
def CIP_RING_LOP : Reg := { off := 0xD02000, n1 := 2, s1 := 0x20, rw := 0xFFFFFFFF }
def CIP_RING_HIP : Reg := { off := 0xD02004, n1 := 2, s1 := 0x20, reset := 0x60000, rw := 0xF00FF }
def CIP_TAILP : Reg := { off := 0xD02008, n1 := 2, s1 := 0x20, rw := 0xFFF }
def CIP_HEADP : Reg := { off := 0xD0200C, n1 := 2, s1 := 0x20, ro := 0xFFF }
def CIP_CHSTATP : Reg := { off := 0xD02010, n1 := 2, s1 := 0x20, ro := 0x3F } -- CLASS reset: image

def CIP_CTL_XCLASS : Fld := ⟨CIP_CTL, 0, 4⟩
def CIP_CTL_STEPS : Fld := ⟨CIP_CTL, 4, 8⟩
def CIP_CLSWGT_WGT : Fld := ⟨CIP_CLSWGT, 0, 32⟩
def CIP_STAT_UCVALID : Fld := ⟨CIP_STAT, 0, 1⟩
def CIP_STAT_UCFAIL : Fld := ⟨CIP_STAT, 1, 1⟩
def CIP_STAT_FUSED : Fld := ⟨CIP_STAT, 2, 3⟩
def CIP_UCADDR_VALUE : Fld := ⟨CIP_UCADDR, 0, 32⟩
def CIP_UCLEN_VALUE : Fld := ⟨CIP_UCLEN, 0, 32⟩
def CIP_KSBASE_LO_ADDR : Fld := ⟨CIP_KSBASE_LO, 0, 32⟩
def CIP_KSBASE_HI_ADDR : Fld := ⟨CIP_KSBASE_HI, 0, 8⟩
def CIP_KRES_RESIDENT : Fld := ⟨CIP_KRES, 0, 13⟩
def CIP_KRES_FULL : Fld := ⟨CIP_KRES, 31, 1⟩
def CIP_FUSECTL_SEL : Fld := ⟨CIP_FUSECTL, 0, 2⟩
def CIP_FUSECTL_GO : Fld := ⟨CIP_FUSECTL, 31, 1⟩
def CIP_FUSEDATA_KEY : Fld := ⟨CIP_FUSEDATA, 0, 32⟩
def CIP_JOBS_COUNT : Fld := ⟨CIP_JOBS, 0, 32⟩
def CIP_BLK_LO_COUNT : Fld := ⟨CIP_BLK_LO, 0, 32⟩
def CIP_BLK_HI_COUNT : Fld := ⟨CIP_BLK_HI, 0, 32⟩
def CIP_UNTRUSTED_COUNT : Fld := ⟨CIP_UNTRUSTED, 0, 32⟩
def CIP_AUTHFAIL_COUNT : Fld := ⟨CIP_AUTHFAIL, 0, 32⟩
def CIP_NOKEY_COUNT : Fld := ⟨CIP_NOKEY, 0, 32⟩
def CIP_COMMIT_GO : Fld := ⟨CIP_COMMIT, 0, 1⟩
def CIP_CSTAT_PENDING : Fld := ⟨CIP_CSTAT, 0, 1⟩
def CIP_CSTAT_REFUSED : Fld := ⟨CIP_CSTAT, 1, 1⟩
def CIP_RING_LO_ADDR : Fld := ⟨CIP_RING_LO, 0, 32⟩
def CIP_RING_HI_ADDR : Fld := ⟨CIP_RING_HI, 0, 8⟩
def CIP_RING_HI_SIZE : Fld := ⟨CIP_RING_HI, 16, 4⟩
def CIP_TAIL_INDEX : Fld := ⟨CIP_TAIL, 0, 12⟩
def CIP_HEAD_INDEX : Fld := ⟨CIP_HEAD, 0, 12⟩
def CIP_CHSTAT_CLASS : Fld := ⟨CIP_CHSTAT, 0, 4⟩
def CIP_CHSTAT_HW : Fld := ⟨CIP_CHSTAT, 4, 1⟩
def CIP_CHSTAT_BUSY : Fld := ⟨CIP_CHSTAT, 5, 1⟩
def CIP_RING_LOP_ADDR : Fld := ⟨CIP_RING_LOP, 0, 32⟩
def CIP_RING_HIP_ADDR : Fld := ⟨CIP_RING_HIP, 0, 8⟩
def CIP_RING_HIP_SIZE : Fld := ⟨CIP_RING_HIP, 16, 4⟩
def CIP_TAILP_INDEX : Fld := ⟨CIP_TAILP, 0, 12⟩
def CIP_HEADP_INDEX : Fld := ⟨CIP_HEADP, 0, 12⟩
def CIP_CHSTATP_CLASS : Fld := ⟨CIP_CHSTATP, 0, 4⟩
def CIP_CHSTATP_HW : Fld := ⟨CIP_CHSTATP, 4, 1⟩
def CIP_CHSTATP_BUSY : Fld := ⟨CIP_CHSTATP, 5, 1⟩

/-- Every register of block CIP. -/
def regsCIP : List Reg :=
  [CIP_CTL, CIP_CLSWGT, CIP_STAT, CIP_UCADDR, CIP_UCLEN, CIP_KSBASE_LO, CIP_KSBASE_HI, CIP_KRES, CIP_FUSECTL, CIP_FUSEDATA, CIP_JOBS, CIP_BLK_LO, CIP_BLK_HI, CIP_UNTRUSTED, CIP_AUTHFAIL, CIP_NOKEY, CIP_COMMIT, CIP_CSTAT, CIP_RING_LO, CIP_RING_HI] ++
  [CIP_TAIL, CIP_HEAD, CIP_CHSTAT, CIP_RING_LOP, CIP_RING_HIP, CIP_TAILP, CIP_HEADP, CIP_CHSTATP]

end Sys2Proof.Machine
end

