-- ==== Sys2Proof/Machine/RegMapB.lean ====
section
/-! DEFINITION. The register maps of the blocks SRM to JDP, as spec/ lays them out (R9, R12, R15). -/

namespace Sys2Proof.Machine

/-! ### Block SRM (register map of spec/15_sram_buffers_dma.md) -/
def SRM_CTL : Reg := { off := 0xE00000, reset := 0x3, rws := 0x3 }
def SRM_SCRUB : Reg := { off := 0xE00004, reset := 0x3E8, rws := 0x3FFF }
def SRM_STAT : Reg := { off := 0xE00008, w1c := 0x16, ro := 0x7F09 }
def SRM_CECNT : Reg := { off := 0xE0000C, ro := 0xFFFFFFFF }
def SRM_UECNT : Reg := { off := 0xE00010, ro := 0xFFFFFFFF }
def SRM_CEADDR : Reg := { off := 0xE00014, ro := 0xFFFFFFFF }
def SRM_UEADDR : Reg := { off := 0xE00018, ro := 0xFFFFFFFF }
def SRM_SCRUBPASS : Reg := { off := 0xE0001C, ro := 0xFFFFFFFF }
def SRM_TEST : Reg := { off := 0xE00020, rw := 0xFF077F03 }
def SRM_TESTRD : Reg := { off := 0xE00024, ro := 0xFF }
def SRM_COMMIT : Reg := { off := 0xE00FF0, wo := 0x1 }
def SRM_CSTAT : Reg := { off := 0xE00FF4, w1c := 0x2, ro := 0x1 }

def SRM_CTL_SCRUB : Fld := ⟨SRM_CTL, 0, 1⟩
def SRM_CTL_WBACK : Fld := ⟨SRM_CTL, 1, 1⟩
def SRM_SCRUB_MS : Fld := ⟨SRM_SCRUB, 0, 14⟩
def SRM_STAT_INITDONE : Fld := ⟨SRM_STAT, 0, 1⟩
def SRM_STAT_CE : Fld := ⟨SRM_STAT, 1, 1⟩
def SRM_STAT_UE : Fld := ⟨SRM_STAT, 2, 1⟩
def SRM_STAT_TESTACT : Fld := ⟨SRM_STAT, 3, 1⟩
def SRM_STAT_LATE : Fld := ⟨SRM_STAT, 4, 1⟩
def SRM_STAT_BANK : Fld := ⟨SRM_STAT, 8, 7⟩
def SRM_CECNT_COUNT : Fld := ⟨SRM_CECNT, 0, 32⟩
def SRM_UECNT_COUNT : Fld := ⟨SRM_UECNT, 0, 32⟩
def SRM_CEADDR_OFFSET : Fld := ⟨SRM_CEADDR, 0, 27⟩
def SRM_CEADDR_MASTER : Fld := ⟨SRM_CEADDR, 27, 5⟩
def SRM_UEADDR_OFFSET : Fld := ⟨SRM_UEADDR, 0, 27⟩
def SRM_UEADDR_MASTER : Fld := ⟨SRM_UEADDR, 27, 5⟩
def SRM_SCRUBPASS_COUNT : Fld := ⟨SRM_SCRUBPASS, 0, 32⟩
def SRM_TEST_ENA : Fld := ⟨SRM_TEST, 0, 1⟩
def SRM_TEST_RAWRD : Fld := ⟨SRM_TEST, 1, 1⟩
def SRM_TEST_BANK : Fld := ⟨SRM_TEST, 8, 7⟩
def SRM_TEST_CORE : Fld := ⟨SRM_TEST, 16, 3⟩
def SRM_TEST_CHK : Fld := ⟨SRM_TEST, 24, 8⟩
def SRM_TESTRD_RDCHK : Fld := ⟨SRM_TESTRD, 0, 8⟩
def SRM_COMMIT_GO : Fld := ⟨SRM_COMMIT, 0, 1⟩
def SRM_CSTAT_PENDING : Fld := ⟨SRM_CSTAT, 0, 1⟩
def SRM_CSTAT_REFUSED : Fld := ⟨SRM_CSTAT, 1, 1⟩

/-- Every register of block SRM. -/
def regsSRM : List Reg :=
  [SRM_CTL, SRM_SCRUB, SRM_STAT, SRM_CECNT, SRM_UECNT, SRM_CEADDR, SRM_UEADDR, SRM_SCRUBPASS, SRM_TEST, SRM_TESTRD, SRM_COMMIT, SRM_CSTAT]

/-! ### Block BPM (register map of spec/15_sram_buffers_dma.md) -/
def BPM_CTL : Reg := { off := 0xF00000, reset := 0x1, rws := 0x1 }
def BPM_STBASE_LO : Reg := { off := 0xF00008, ro := 0xFFFFFFFF } -- ADDR reset: image
def BPM_STBASE_HI : Reg := { off := 0xF0000C, ro := 0xFF } -- ADDR reset: image
def BPM_STAT : Reg := { off := 0xF00010, w1c := 0x7 }
def BPM_BADFREECNT : Reg := { off := 0xF00014, ro := 0xFFFFFFFF }
def BPM_PCFG : Reg := { off := 0xF00040, n1 := 4, s1 := 0x20, ro := 0x1FFFFFF } -- COUNT reset: image; DRAM reset: image
def BPM_PBASE_LO : Reg := { off := 0xF00044, n1 := 4, s1 := 0x20, ro := 0xFFFFFFFF } -- ADDR reset: image
def BPM_PBASE_HI : Reg := { off := 0xF00048, n1 := 4, s1 := 0x20, ro := 0xFF } -- ADDR reset: image
def BPM_PFREE : Reg := { off := 0xF0004C, n1 := 4, s1 := 0x20, ro := 0xFFFFFF } -- FREE reset: image
def BPM_PMIN : Reg := { off := 0xF00050, n1 := 4, s1 := 0x20, rw := 0xFFFFFF } -- MIN reset: image
def BPM_PLOW : Reg := { off := 0xF00054, n1 := 4, s1 := 0x20, rws := 0xFFFFFF }
def BPM_PFAIL : Reg := { off := 0xF00058, n1 := 4, s1 := 0x20, ro := 0xFFFFFFFF }
def BPM_ALLOC : Reg := { off := 0xF00100, n1 := 9, s1 := 0x10, wo := 0x7FFFF }
def BPM_RES : Reg := { off := 0xF00104, n1 := 9, s1 := 0x10, ro := 0xFFFFFFFF }
def BPM_TARGET : Reg := { off := 0xF00108, n1 := 9, s1 := 0x10, rw := 0x1F }
def BPM_OP : Reg := { off := 0xF0010C, n1 := 9, s1 := 0x10, wo := 0x1FFFFFFF }
def BPM_COMMIT : Reg := { off := 0xF00FF0, wo := 0x1 }
def BPM_CSTAT : Reg := { off := 0xF00FF4, w1c := 0x2, ro := 0x1 }

def BPM_CTL_SPILL : Fld := ⟨BPM_CTL, 0, 1⟩
def BPM_STBASE_LO_ADDR : Fld := ⟨BPM_STBASE_LO, 0, 32⟩
def BPM_STBASE_HI_ADDR : Fld := ⟨BPM_STBASE_HI, 0, 8⟩
def BPM_STAT_BADFREE : Fld := ⟨BPM_STAT, 0, 1⟩
def BPM_STAT_BADOP : Fld := ⟨BPM_STAT, 1, 1⟩
def BPM_STAT_EMPTY : Fld := ⟨BPM_STAT, 2, 1⟩
def BPM_BADFREECNT_COUNT : Fld := ⟨BPM_BADFREECNT, 0, 32⟩
def BPM_PCFG_COUNT : Fld := ⟨BPM_PCFG, 0, 24⟩
def BPM_PCFG_DRAM : Fld := ⟨BPM_PCFG, 24, 1⟩
def BPM_PBASE_LO_ADDR : Fld := ⟨BPM_PBASE_LO, 0, 32⟩
def BPM_PBASE_HI_ADDR : Fld := ⟨BPM_PBASE_HI, 0, 8⟩
def BPM_PFREE_FREE : Fld := ⟨BPM_PFREE, 0, 24⟩
def BPM_PMIN_MIN : Fld := ⟨BPM_PMIN, 0, 24⟩
def BPM_PLOW_LOW : Fld := ⟨BPM_PLOW, 0, 24⟩
def BPM_PFAIL_COUNT : Fld := ⟨BPM_PFAIL, 0, 32⟩
def BPM_ALLOC_SIZE : Fld := ⟨BPM_ALLOC, 0, 19⟩
def BPM_RES_HANDLE : Fld := ⟨BPM_RES, 0, 32⟩
def BPM_TARGET_OWNER : Fld := ⟨BPM_TARGET, 0, 5⟩
def BPM_OP_INDEX : Fld := ⟨BPM_OP, 0, 24⟩
def BPM_OP_POOL : Fld := ⟨BPM_OP, 24, 2⟩
def BPM_OP_OP : Fld := ⟨BPM_OP, 26, 3⟩
def BPM_COMMIT_GO : Fld := ⟨BPM_COMMIT, 0, 1⟩
def BPM_CSTAT_PENDING : Fld := ⟨BPM_CSTAT, 0, 1⟩
def BPM_CSTAT_REFUSED : Fld := ⟨BPM_CSTAT, 1, 1⟩

/-- Every register of block BPM. -/
def regsBPM : List Reg :=
  [BPM_CTL, BPM_STBASE_LO, BPM_STBASE_HI, BPM_STAT, BPM_BADFREECNT, BPM_PCFG, BPM_PBASE_LO, BPM_PBASE_HI, BPM_PFREE, BPM_PMIN, BPM_PLOW, BPM_PFAIL, BPM_ALLOC, BPM_RES, BPM_TARGET, BPM_OP, BPM_COMMIT, BPM_CSTAT]

/-! ### Block DMA (register map of spec/15_sram_buffers_dma.md) -/
def DMA_GSTAT : Reg := { off := 0x1000000, w1c := 0x1 }
def DMA_ERRADDR_LO : Reg := { off := 0x1000004, ro := 0xFFFFFFFF }
def DMA_ERRADDR_HI : Reg := { off := 0x1000008, ro := 0x1FF }
def DMA_ACTIVE_LO : Reg := { off := 0x100000C, ro := 0xFFFFFFFF }
def DMA_ACTIVE_HI : Reg := { off := 0x1000010, ro := 0xFFFFFFFF }
def DMA_DONE_LO : Reg := { off := 0x1000014, w1c := 0xFFFFFFFF }
def DMA_DONE_HI : Reg := { off := 0x1000018, w1c := 0xFFFFFFFF }
def DMA_XFERS : Reg := { off := 0x100001C, ro := 0xFFFFFFFF }
def DMA_STOPS : Reg := { off := 0x1000020, ro := 0xFFFFFFFF }
def DMA_SRC_LO : Reg := { off := 0x1001000, n1 := 64, s1 := 0x40, ro := 0xFFFFFFFF }
def DMA_SRC_HI : Reg := { off := 0x1001004, n1 := 64, s1 := 0x40, ro := 0xFF }
def DMA_DST_LO : Reg := { off := 0x1001008, n1 := 64, s1 := 0x40, ro := 0xFFFFFFFF }
def DMA_DST_HI : Reg := { off := 0x100100C, n1 := 64, s1 := 0x40, ro := 0xFF }
def DMA_CNT : Reg := { off := 0x1001010, n1 := 64, s1 := 0x40, ro := 0x1FFFFFF }
def DMA_CHSTAT : Reg := { off := 0x1001014, n1 := 64, s1 := 0x40, w1c := 0x8, ro := 0x77 }
def DMA_NSRC_LO : Reg := { off := 0x1001018, n1 := 64, s1 := 0x40, rw := 0xFFFFFFFF }
def DMA_NSRC_HI : Reg := { off := 0x100101C, n1 := 64, s1 := 0x40, rw := 0xFF }
def DMA_NDST_LO : Reg := { off := 0x1001020, n1 := 64, s1 := 0x40, rw := 0xFFFFFFFF }
def DMA_NDST_HI : Reg := { off := 0x1001024, n1 := 64, s1 := 0x40, rw := 0xFF }
def DMA_NCNT : Reg := { off := 0x1001028, n1 := 64, s1 := 0x40, rw := 0x1FFFFFF }
def DMA_NCTL : Reg := { off := 0x100102C, n1 := 64, s1 := 0x40, rw := 0x1, wo := 0x6 }
def DMA_SRCCFG : Reg := { off := 0x1001030, n1 := 64, s1 := 0x40, rw := 0x3 }
def DMA_DSTCFG : Reg := { off := 0x1001034, n1 := 64, s1 := 0x40, rw := 0x3 }

def DMA_GSTAT_STOPPED : Fld := ⟨DMA_GSTAT, 0, 1⟩
def DMA_ERRADDR_LO_ADDR : Fld := ⟨DMA_ERRADDR_LO, 0, 32⟩
def DMA_ERRADDR_HI_ADDR : Fld := ⟨DMA_ERRADDR_HI, 0, 8⟩
def DMA_ERRADDR_HI_WRITE : Fld := ⟨DMA_ERRADDR_HI, 8, 1⟩
def DMA_ACTIVE_LO_CH : Fld := ⟨DMA_ACTIVE_LO, 0, 32⟩
def DMA_ACTIVE_HI_CH : Fld := ⟨DMA_ACTIVE_HI, 0, 32⟩
def DMA_DONE_LO_CH : Fld := ⟨DMA_DONE_LO, 0, 32⟩
def DMA_DONE_HI_CH : Fld := ⟨DMA_DONE_HI, 0, 32⟩
def DMA_XFERS_COUNT : Fld := ⟨DMA_XFERS, 0, 32⟩
def DMA_STOPS_COUNT : Fld := ⟨DMA_STOPS, 0, 32⟩
def DMA_SRC_LO_ADDR : Fld := ⟨DMA_SRC_LO, 0, 32⟩
def DMA_SRC_HI_ADDR : Fld := ⟨DMA_SRC_HI, 0, 8⟩
def DMA_DST_LO_ADDR : Fld := ⟨DMA_DST_LO, 0, 32⟩
def DMA_DST_HI_ADDR : Fld := ⟨DMA_DST_HI, 0, 8⟩
def DMA_CNT_BYTES : Fld := ⟨DMA_CNT, 0, 25⟩
def DMA_CHSTAT_STATE : Fld := ⟨DMA_CHSTAT, 0, 2⟩
def DMA_CHSTAT_SHADOW : Fld := ⟨DMA_CHSTAT, 2, 1⟩
def DMA_CHSTAT_DONE : Fld := ⟨DMA_CHSTAT, 3, 1⟩
def DMA_CHSTAT_ERR : Fld := ⟨DMA_CHSTAT, 4, 3⟩
def DMA_NSRC_LO_ADDR : Fld := ⟨DMA_NSRC_LO, 0, 32⟩
def DMA_NSRC_HI_ADDR : Fld := ⟨DMA_NSRC_HI, 0, 8⟩
def DMA_NDST_LO_ADDR : Fld := ⟨DMA_NDST_LO, 0, 32⟩
def DMA_NDST_HI_ADDR : Fld := ⟨DMA_NDST_HI, 0, 8⟩
def DMA_NCNT_BYTES : Fld := ⟨DMA_NCNT, 0, 25⟩
def DMA_NCTL_IRQ : Fld := ⟨DMA_NCTL, 0, 1⟩
def DMA_NCTL_LOAD : Fld := ⟨DMA_NCTL, 1, 1⟩
def DMA_NCTL_ABORT : Fld := ⟨DMA_NCTL, 2, 1⟩
def DMA_SRCCFG_SWAP : Fld := ⟨DMA_SRCCFG, 0, 2⟩
def DMA_DSTCFG_SWAP : Fld := ⟨DMA_DSTCFG, 0, 2⟩

/-- Every register of block DMA. -/
def regsDMA : List Reg :=
  [DMA_GSTAT, DMA_ERRADDR_LO, DMA_ERRADDR_HI, DMA_ACTIVE_LO, DMA_ACTIVE_HI, DMA_DONE_LO, DMA_DONE_HI, DMA_XFERS, DMA_STOPS, DMA_SRC_LO, DMA_SRC_HI, DMA_DST_LO, DMA_DST_HI, DMA_CNT, DMA_CHSTAT, DMA_NSRC_LO, DMA_NSRC_HI, DMA_NDST_LO, DMA_NDST_HI, DMA_NCNT] ++
  [DMA_NCTL, DMA_SRCCFG, DMA_DSTCFG]

/-! ### Block DRC (register map of spec/16_dram.md) -/
def DRC_CFG : Reg := { off := 0x1100000, ro := 0x3FFFF } -- GIB reset: image; RATE reset: image; RANKS reset: image; X16 reset: table; DENS reset: table
def DRC_INIT : Reg := { off := 0x1100004, wo := 0x1 }
def DRC_INITSTAT : Reg := { off := 0x1100008, ro := 0xFFFFF00F }
def DRC_CHCTL : Reg := { off := 0x110000C, rw := 0xF, ro := 0xF0 }
def DRC_REF : Reg := { off := 0x1100010, reset := 0x20, rws := 0xFF, ro := 0xFFFFFF00 }
def DRC_PAGE : Reg := { off := 0x1100014, reset := 0x1000000, rws := 0xFFFF0003 }
def DRC_RH : Reg := { off := 0x1100018, reset := 0x8000005, rws := 0xFFFF000F }
def DRC_SCRUB : Reg := { off := 0x110001C, reset := 0x12C1, rws := 0xFFF1 }
def DRC_CTL : Reg := { off := 0x1100020, reset := 0x1, rws := 0x1 }
def DRC_STAT : Reg := { off := 0x1100024, w1c := 0xF }
def DRC_CEADDR_LO : Reg := { off := 0x1100028, ro := 0xFFFFFFFF }
def DRC_CEADDR_HI : Reg := { off := 0x110002C, ro := 0x1F1F }
def DRC_UEADDR_LO : Reg := { off := 0x1100030, ro := 0xFFFFFFFF }
def DRC_UEADDR_HI : Reg := { off := 0x1100034, ro := 0x1F1F }
def DRC_CECNT : Reg := { off := 0x1100040, ro := 0xFFFFFFFF }
def DRC_UECNT : Reg := { off := 0x1100044, ro := 0xFFFFFFFF }
def DRC_RHREF : Reg := { off := 0x1100048, ro := 0xFFFFFFFF }
def DRC_INORDER : Reg := { off := 0x110004C, ro := 0xFFFFFFFF }
def DRC_SCRUBPASS : Reg := { off := 0x1100050, ro := 0xFFFFFFFF }
def DRC_TEMPCNT : Reg := { off := 0x1100054, ro := 0xFFFFFFFF }
def DRC_COMMIT : Reg := { off := 0x1100FF0, wo := 0x1 }
def DRC_CSTAT : Reg := { off := 0x1100FF4, w1c := 0x2, ro := 0x1 }
def DRC_DLY : Reg := { off := 0x1101000, n1 := 4, s1 := 0x100, n2 := 64, s2 := 0x4, rw := 0xFFFFFFFF }

def DRC_CFG_GIB : Fld := ⟨DRC_CFG, 0, 8⟩
def DRC_CFG_RATE : Fld := ⟨DRC_CFG, 8, 6⟩
def DRC_CFG_RANKS : Fld := ⟨DRC_CFG, 14, 1⟩
def DRC_CFG_X16 : Fld := ⟨DRC_CFG, 15, 1⟩
def DRC_CFG_DENS : Fld := ⟨DRC_CFG, 16, 2⟩
def DRC_INIT_GO : Fld := ⟨DRC_INIT, 0, 1⟩
def DRC_INITSTAT_DONE : Fld := ⟨DRC_INITSTAT, 0, 1⟩
def DRC_INITSTAT_FAIL : Fld := ⟨DRC_INITSTAT, 1, 1⟩
def DRC_INITSTAT_CAUSE : Fld := ⟨DRC_INITSTAT, 2, 2⟩
def DRC_INITSTAT_LANEFAIL : Fld := ⟨DRC_INITSTAT, 12, 20⟩
def DRC_CHCTL_HOLD : Fld := ⟨DRC_CHCTL, 0, 4⟩
def DRC_CHCTL_HELD : Fld := ⟨DRC_CHCTL, 4, 4⟩
def DRC_REF_POLL : Fld := ⟨DRC_REF, 0, 8⟩
def DRC_REF_DOUBLE : Fld := ⟨DRC_REF, 8, 4⟩
def DRC_REF_TRFC : Fld := ⟨DRC_REF, 12, 10⟩
def DRC_REF_TREFI : Fld := ⟨DRC_REF, 22, 10⟩
def DRC_PAGE_MODE : Fld := ⟨DRC_PAGE, 0, 2⟩
def DRC_PAGE_IDLE : Fld := ⟨DRC_PAGE, 16, 16⟩
def DRC_RH_ENA : Fld := ⟨DRC_RH, 0, 1⟩
def DRC_RH_RADIUS : Fld := ⟨DRC_RH, 1, 3⟩
def DRC_RH_THRESH : Fld := ⟨DRC_RH, 16, 16⟩
def DRC_SCRUB_ENA : Fld := ⟨DRC_SCRUB, 0, 1⟩
def DRC_SCRUB_SEC : Fld := ⟨DRC_SCRUB, 4, 12⟩
def DRC_CTL_WBACK : Fld := ⟨DRC_CTL, 0, 1⟩
def DRC_STAT_CE : Fld := ⟨DRC_STAT, 0, 1⟩
def DRC_STAT_UE : Fld := ⟨DRC_STAT, 1, 1⟩
def DRC_STAT_ADDRERR : Fld := ⟨DRC_STAT, 2, 1⟩
def DRC_STAT_SCRUBLATE : Fld := ⟨DRC_STAT, 3, 1⟩
def DRC_CEADDR_LO_OFFSET : Fld := ⟨DRC_CEADDR_LO, 0, 32⟩
def DRC_CEADDR_HI_OFFSET : Fld := ⟨DRC_CEADDR_HI, 0, 5⟩
def DRC_CEADDR_HI_MASTER : Fld := ⟨DRC_CEADDR_HI, 8, 5⟩
def DRC_UEADDR_LO_OFFSET : Fld := ⟨DRC_UEADDR_LO, 0, 32⟩
def DRC_UEADDR_HI_OFFSET : Fld := ⟨DRC_UEADDR_HI, 0, 5⟩
def DRC_UEADDR_HI_MASTER : Fld := ⟨DRC_UEADDR_HI, 8, 5⟩
def DRC_CECNT_COUNT : Fld := ⟨DRC_CECNT, 0, 32⟩
def DRC_UECNT_COUNT : Fld := ⟨DRC_UECNT, 0, 32⟩
def DRC_RHREF_COUNT : Fld := ⟨DRC_RHREF, 0, 32⟩
def DRC_INORDER_COUNT : Fld := ⟨DRC_INORDER, 0, 32⟩
def DRC_SCRUBPASS_COUNT : Fld := ⟨DRC_SCRUBPASS, 0, 32⟩
def DRC_TEMPCNT_COUNT : Fld := ⟨DRC_TEMPCNT, 0, 32⟩
def DRC_COMMIT_GO : Fld := ⟨DRC_COMMIT, 0, 1⟩
def DRC_CSTAT_PENDING : Fld := ⟨DRC_CSTAT, 0, 1⟩
def DRC_CSTAT_REFUSED : Fld := ⟨DRC_CSTAT, 1, 1⟩
def DRC_DLY_BYTES : Fld := ⟨DRC_DLY, 0, 32⟩

/-- Every register of block DRC. -/
def regsDRC : List Reg :=
  [DRC_CFG, DRC_INIT, DRC_INITSTAT, DRC_CHCTL, DRC_REF, DRC_PAGE, DRC_RH, DRC_SCRUB, DRC_CTL, DRC_STAT, DRC_CEADDR_LO, DRC_CEADDR_HI, DRC_UEADDR_LO, DRC_UEADDR_HI, DRC_CECNT, DRC_UECNT, DRC_RHREF, DRC_INORDER, DRC_SCRUBPASS, DRC_TEMPCNT] ++
  [DRC_COMMIT, DRC_CSTAT, DRC_DLY]

/-! ### Block CFL (register map of spec/17_code_flash_boot.md) -/
def CFL_CTL : Reg := { off := 0x1200000, reset := 0x100, rw := 0xFF00, rwb := 0x1 }
def CFL_ADDR : Reg := { off := 0x1200004, rw := 0xFFFFFF }
def CFL_DATA_LO : Reg := { off := 0x1200008, reset := 0xFFFFFFFF, rw := 0xFFFFFFFF }
def CFL_DATA_HI : Reg := { off := 0x120000C, reset := 0xFFFFFFFF, rw := 0xFFFFFFFF }
def CFL_CMD : Reg := { off := 0x1200010, rw := 0x7, wo := 0x80000000 }
def CFL_STAT : Reg := { off := 0x1200014, w1c := 0xFE0, ro := 0xFF001F }
def CFL_CEADDR : Reg := { off := 0x1200018, ro := 0xF8FFFFFF }
def CFL_UEADDR : Reg := { off := 0x120001C, ro := 0xF8FFFFFF }
def CFL_BOERASE : Reg := { off := 0x1200020, w1c := 0x80000000, ro := 0x1FFF }
def CFL_CECNT : Reg := { off := 0x1200030, ro := 0xFFFFFFFF }
def CFL_UECNT : Reg := { off := 0x1200034, ro := 0xFFFFFFFF }
def CFL_PGMCNT : Reg := { off := 0x1200038, ro := 0xFFFFFFFF }
def CFL_ERSCNT : Reg := { off := 0x120003C, ro := 0xFFFFFFFF }
def CFL_MODE : Reg := { off := 0x1200100, n1 := 128, s1 := 0x4, rw := 0xFFFFFFFF }

def CFL_CTL_GUARD : Fld := ⟨CFL_CTL, 0, 1⟩
def CFL_CTL_WARN : Fld := ⟨CFL_CTL, 8, 8⟩
def CFL_ADDR_OFFSET : Fld := ⟨CFL_ADDR, 0, 24⟩
def CFL_DATA_LO_DATA : Fld := ⟨CFL_DATA_LO, 0, 32⟩
def CFL_DATA_HI_DATA : Fld := ⟨CFL_DATA_HI, 0, 32⟩
def CFL_CMD_OP : Fld := ⟨CFL_CMD, 0, 3⟩
def CFL_CMD_GO : Fld := ⟨CFL_CMD, 31, 1⟩
def CFL_STAT_BUSY0 : Fld := ⟨CFL_STAT, 0, 1⟩
def CFL_STAT_BUSY1 : Fld := ⟨CFL_STAT, 1, 1⟩
def CFL_STAT_SUSP0 : Fld := ⟨CFL_STAT, 2, 1⟩
def CFL_STAT_SUSP1 : Fld := ⟨CFL_STAT, 3, 1⟩
def CFL_STAT_FWBUSY : Fld := ⟨CFL_STAT, 4, 1⟩
def CFL_STAT_DONE : Fld := ⟨CFL_STAT, 5, 1⟩
def CFL_STAT_NOTERASED : Fld := ⟨CFL_STAT, 6, 1⟩
def CFL_STAT_REFUSED : Fld := ⟨CFL_STAT, 7, 1⟩
def CFL_STAT_PGMFAIL : Fld := ⟨CFL_STAT, 8, 1⟩
def CFL_STAT_ERSFAIL : Fld := ⟨CFL_STAT, 9, 1⟩
def CFL_STAT_WARN : Fld := ⟨CFL_STAT, 10, 1⟩
def CFL_STAT_UE : Fld := ⟨CFL_STAT, 11, 1⟩
def CFL_STAT_CBCNT : Fld := ⟨CFL_STAT, 16, 8⟩
def CFL_CEADDR_OFFSET : Fld := ⟨CFL_CEADDR, 0, 24⟩
def CFL_CEADDR_MASTER : Fld := ⟨CFL_CEADDR, 27, 5⟩
def CFL_UEADDR_OFFSET : Fld := ⟨CFL_UEADDR, 0, 24⟩
def CFL_UEADDR_MASTER : Fld := ⟨CFL_UEADDR, 27, 5⟩
def CFL_BOERASE_SECTOR : Fld := ⟨CFL_BOERASE, 0, 12⟩
def CFL_BOERASE_BANK : Fld := ⟨CFL_BOERASE, 12, 1⟩
def CFL_BOERASE_VALID : Fld := ⟨CFL_BOERASE, 31, 1⟩
def CFL_CECNT_COUNT : Fld := ⟨CFL_CECNT, 0, 32⟩
def CFL_UECNT_COUNT : Fld := ⟨CFL_UECNT, 0, 32⟩
def CFL_PGMCNT_COUNT : Fld := ⟨CFL_PGMCNT, 0, 32⟩
def CFL_ERSCNT_COUNT : Fld := ⟨CFL_ERSCNT, 0, 32⟩
def CFL_MODE_TWICE : Fld := ⟨CFL_MODE, 0, 32⟩

/-- Every register of block CFL. -/
def regsCFL : List Reg :=
  [CFL_CTL, CFL_ADDR, CFL_DATA_LO, CFL_DATA_HI, CFL_CMD, CFL_STAT, CFL_CEADDR, CFL_UEADDR, CFL_BOERASE, CFL_CECNT, CFL_UECNT, CFL_PGMCNT, CFL_ERSCNT, CFL_MODE]

/-! ### Block BOT (register map of spec/17_code_flash_boot.md) -/
def BOT_ID : Reg := { off := 0x1300000, reset := 0xB07232, ro := 0x1FFFFFF } -- GRADE reset: fuse
def BOT_BOOT : Reg := { off := 0x1300004, ro := 0x1FFFFFF }
def BOT_CAUSE : Reg := { off := 0x1300008, ro := 0x3F7 }
def BOT_SWAP : Reg := { off := 0x130000C, wo := 0x80000000 }
def BOT_SEAL : Reg := { off := 0x1300010, rwb := 0x1 }
def BOT_RESUME_LO : Reg := { off := 0x1300014, rwb := 0xFFFFFFFF }
def BOT_RESUME_HI : Reg := { off := 0x1300018, rwb := 0xFF }
def BOT_CORERUN : Reg := { off := 0x130001C, rwb := 0xFE }
def BOT_STAT : Reg := { off := 0x1300020, w1c := 0xE, ro := 0x1 }
def BOT_DENYCNT : Reg := { off := 0x1300024, ro := 0xFFFFFFFF }
def BOT_RENA_LO : Reg := { off := 0x1300028, rwb := 0xFFFFFFFF }
def BOT_RENA_HI : Reg := { off := 0x130002C, rwb := 0xFFFFFFFF }
def BOT_ENTRY_LO : Reg := { off := 0x1300040, n1 := 8, s1 := 0x8, first := 1, rwb := 0xFFFFFFFF }
def BOT_ENTRY_HI : Reg := { off := 0x1300044, n1 := 8, s1 := 0x8, first := 1, rwb := 0xFF }
def BOT_RBASE : Reg := { off := 0x1301000, n1 := 64, s1 := 0x20, rwb := 0xFFFFFFF }
def BOT_RLIM : Reg := { off := 0x1301004, n1 := 64, s1 := 0x20, rwb := 0xFFFFFFF }
def BOT_RR : Reg := { off := 0x1301008, n1 := 64, s1 := 0x20, rwb := 0xFFFFFFFF }
def BOT_RW : Reg := { off := 0x130100C, n1 := 64, s1 := 0x20, rwb := 0xFFFFFFFF }
def BOT_RX : Reg := { off := 0x1301010, n1 := 64, s1 := 0x20, rwb := 0xFFFFFFFF }

def BOT_ID_PART : Fld := ⟨BOT_ID, 0, 16⟩
def BOT_ID_STEP : Fld := ⟨BOT_ID, 16, 8⟩
def BOT_ID_GRADE : Fld := ⟨BOT_ID, 24, 1⟩
def BOT_BOOT_BANK : Fld := ⟨BOT_BOOT, 0, 1⟩
def BOT_BOOT_COUNT0 : Fld := ⟨BOT_BOOT, 1, 12⟩
def BOT_BOOT_COUNT1 : Fld := ⟨BOT_BOOT, 13, 12⟩
def BOT_CAUSE_RESET : Fld := ⟨BOT_CAUSE, 0, 3⟩
def BOT_CAUSE_RECOV : Fld := ⟨BOT_CAUSE, 4, 4⟩
def BOT_CAUSE_RCVSRC : Fld := ⟨BOT_CAUSE, 8, 2⟩
def BOT_SWAP_GO : Fld := ⟨BOT_SWAP, 31, 1⟩
def BOT_SEAL_SEAL : Fld := ⟨BOT_SEAL, 0, 1⟩
def BOT_RESUME_LO_ADDR : Fld := ⟨BOT_RESUME_LO, 0, 32⟩
def BOT_RESUME_HI_ADDR : Fld := ⟨BOT_RESUME_HI, 0, 8⟩
def BOT_CORERUN_RUN : Fld := ⟨BOT_CORERUN, 1, 7⟩
def BOT_STAT_SEALED : Fld := ⟨BOT_STAT, 0, 1⟩
def BOT_STAT_SWAPDONE : Fld := ⟨BOT_STAT, 1, 1⟩
def BOT_STAT_SWAPERR : Fld := ⟨BOT_STAT, 2, 1⟩
def BOT_STAT_DENY : Fld := ⟨BOT_STAT, 3, 1⟩
def BOT_DENYCNT_COUNT : Fld := ⟨BOT_DENYCNT, 0, 32⟩
def BOT_RENA_LO_ENA : Fld := ⟨BOT_RENA_LO, 0, 32⟩
def BOT_RENA_HI_ENA : Fld := ⟨BOT_RENA_HI, 0, 32⟩
def BOT_ENTRY_LO_ADDR : Fld := ⟨BOT_ENTRY_LO, 0, 32⟩
def BOT_ENTRY_HI_ADDR : Fld := ⟨BOT_ENTRY_HI, 0, 8⟩
def BOT_RBASE_PAGE : Fld := ⟨BOT_RBASE, 0, 28⟩
def BOT_RLIM_PAGE : Fld := ⟨BOT_RLIM, 0, 28⟩
def BOT_RR_MASTERS : Fld := ⟨BOT_RR, 0, 32⟩
def BOT_RW_MASTERS : Fld := ⟨BOT_RW, 0, 32⟩
def BOT_RX_MASTERS : Fld := ⟨BOT_RX, 0, 32⟩

/-- Every register of block BOT. -/
def regsBOT : List Reg :=
  [BOT_ID, BOT_BOOT, BOT_CAUSE, BOT_SWAP, BOT_SEAL, BOT_RESUME_LO, BOT_RESUME_HI, BOT_CORERUN, BOT_STAT, BOT_DENYCNT, BOT_RENA_LO, BOT_RENA_HI, BOT_ENTRY_LO, BOT_ENTRY_HI, BOT_RBASE, BOT_RLIM, BOT_RR, BOT_RW, BOT_RX]

/-! ### Block LAY (register map of spec/02_layout_image.md) -/
def LAY_STAT : Reg := { off := 0x1400000, ro := 0x1FF03 }
def LAY_FAILOFF : Reg := { off := 0x1400004, ro := 0xFFFF }
def LAY_SERIAL_LO : Reg := { off := 0x1400008, ro := 0xFFFFFFFF }
def LAY_SERIAL_HI : Reg := { off := 0x140000C, ro := 0xFFFFFFFF }
def LAY_GALUK : Reg := { off := 0x1400010, ro := 0xFFFFFFFF }
def LAY_CRC : Reg := { off := 0x1400014, ro := 0xFFFFFFFF }
def LAY_DRAMUSE : Reg := { off := 0x1400018, ro := 0xFFFFF }
def LAY_USABLE : Reg := { off := 0x140001C, ro := 0xFFFFFF }

def LAY_STAT_STATE : Fld := ⟨LAY_STAT, 0, 2⟩
def LAY_STAT_REASON : Fld := ⟨LAY_STAT, 8, 8⟩
def LAY_STAT_SLOT : Fld := ⟨LAY_STAT, 16, 1⟩
def LAY_FAILOFF_OFFSET : Fld := ⟨LAY_FAILOFF, 0, 16⟩
def LAY_SERIAL_LO_SERIAL : Fld := ⟨LAY_SERIAL_LO, 0, 32⟩
def LAY_SERIAL_HI_SERIAL : Fld := ⟨LAY_SERIAL_HI, 0, 32⟩
def LAY_GALUK_VERSION : Fld := ⟨LAY_GALUK, 0, 32⟩
def LAY_CRC_CRC : Fld := ⟨LAY_CRC, 0, 32⟩
def LAY_DRAMUSE_MIB : Fld := ⟨LAY_DRAMUSE, 0, 20⟩
def LAY_USABLE_GIB : Fld := ⟨LAY_USABLE, 0, 24⟩

/-- Every register of block LAY. -/
def regsLAY : List Reg :=
  [LAY_STAT, LAY_FAILOFF, LAY_SERIAL_LO, LAY_SERIAL_HI, LAY_GALUK, LAY_CRC, LAY_DRAMUSE, LAY_USABLE]

/-! ### Block EVR (register map of spec/18_cores_events_mailboxes.md) -/
def EVR_SWRAISE : Reg := { off := 0x1500000, wo := 0x8000003F }
def EVR_MTIME_LO : Reg := { off := 0x1500004, ro := 0xFFFFFFFF }
def EVR_MTIME_HI : Reg := { off := 0x1500008, ro := 0xFFFFFFFF }
def EVR_STAT : Reg := { off := 0x150000C, w1c := 0xFF }
def EVR_RAW : Reg := { off := 0x1500100, n1 := 20, s1 := 0x4, w1c := 0xFFFFFFFF }
def EVR_PEND_LO : Reg := { off := 0x1500400, n1 := 8, s1 := 0x40, ro := 0xFFFFFFFF }
def EVR_PEND_HI : Reg := { off := 0x1500404, n1 := 8, s1 := 0x40, ro := 0xFFFFFFFF }
def EVR_INSV_LO : Reg := { off := 0x1500408, n1 := 8, s1 := 0x40, ro := 0xFFFFFFFF }
def EVR_INSV_HI : Reg := { off := 0x150040C, n1 := 8, s1 := 0x40, ro := 0xFFFFFFFF }
def EVR_RING_LO : Reg := { off := 0x1500410, n1 := 8, s1 := 0x40, rw := 0xFFFFFFFF }
def EVR_RING_HI : Reg := { off := 0x1500414, n1 := 8, s1 := 0x40, reset := 0x80000, rw := 0xF00FF }
def EVR_RWR : Reg := { off := 0x1500418, n1 := 8, s1 := 0x40, reset := 0x1000, ro := 0x1FFF }
def EVR_RRD : Reg := { off := 0x150041C, n1 := 8, s1 := 0x40, rw := 0xFFF }
def EVR_MTIMECMP_LO : Reg := { off := 0x1500420, n1 := 8, s1 := 0x40, reset := 0xFFFFFFFF, rw := 0xFFFFFFFF }
def EVR_MTIMECMP_HI : Reg := { off := 0x1500424, n1 := 8, s1 := 0x40, reset := 0xFFFFFFFF, rw := 0xFFFFFFFF }
def EVR_WDOG : Reg := { off := 0x1500428, n1 := 8, s1 := 0x40, rw := 0xFFFF, ro := 0x30000 }
def EVR_CORE : Reg := { off := 0x150042C, n1 := 8, s1 := 0x40, rw := 0x1, ro := 0xFE } -- ROLE reset: image
def EVR_ROUTE0 : Reg := { off := 0x1501000, n1 := 640, s1 := 0x8, rw := 0x3F1F }
def EVR_ROUTE1 : Reg := { off := 0x1501004, n1 := 640, s1 := 0x8, reset := 0x1, rw := 0xF }

def EVR_SWRAISE_INDEX : Fld := ⟨EVR_SWRAISE, 0, 6⟩
def EVR_SWRAISE_GO : Fld := ⟨EVR_SWRAISE, 31, 1⟩
def EVR_MTIME_LO_COUNT : Fld := ⟨EVR_MTIME_LO, 0, 32⟩
def EVR_MTIME_HI_COUNT : Fld := ⟨EVR_MTIME_HI, 0, 32⟩
def EVR_STAT_RECOVF : Fld := ⟨EVR_STAT, 0, 8⟩
def EVR_RAW_RAISED : Fld := ⟨EVR_RAW, 0, 32⟩
def EVR_PEND_LO_VEC : Fld := ⟨EVR_PEND_LO, 0, 32⟩
def EVR_PEND_HI_VEC : Fld := ⟨EVR_PEND_HI, 0, 32⟩
def EVR_INSV_LO_VEC : Fld := ⟨EVR_INSV_LO, 0, 32⟩
def EVR_INSV_HI_VEC : Fld := ⟨EVR_INSV_HI, 0, 32⟩
def EVR_RING_LO_ADDR : Fld := ⟨EVR_RING_LO, 0, 32⟩
def EVR_RING_HI_ADDR : Fld := ⟨EVR_RING_HI, 0, 8⟩
def EVR_RING_HI_SIZE : Fld := ⟨EVR_RING_HI, 16, 4⟩
def EVR_RWR_INDEX : Fld := ⟨EVR_RWR, 0, 12⟩
def EVR_RWR_PHASE : Fld := ⟨EVR_RWR, 12, 1⟩
def EVR_RRD_INDEX : Fld := ⟨EVR_RRD, 0, 12⟩
def EVR_MTIMECMP_LO_CMP : Fld := ⟨EVR_MTIMECMP_LO, 0, 32⟩
def EVR_MTIMECMP_HI_CMP : Fld := ⟨EVR_MTIMECMP_HI, 0, 32⟩
def EVR_WDOG_PERIOD : Fld := ⟨EVR_WDOG, 0, 16⟩
def EVR_WDOG_WARNED : Fld := ⟨EVR_WDOG, 16, 1⟩
def EVR_WDOG_EXPIRED : Fld := ⟨EVR_WDOG, 17, 1⟩
def EVR_CORE_MSIP : Fld := ⟨EVR_CORE, 0, 1⟩
def EVR_CORE_HALTED : Fld := ⟨EVR_CORE, 1, 1⟩
def EVR_CORE_ROLE : Fld := ⟨EVR_CORE, 2, 3⟩
def EVR_CORE_HALTCAUSE : Fld := ⟨EVR_CORE, 5, 3⟩
def EVR_ROUTE0_ENA : Fld := ⟨EVR_ROUTE0, 0, 1⟩
def EVR_ROUTE0_REC : Fld := ⟨EVR_ROUTE0, 1, 1⟩
def EVR_ROUTE0_CORE : Fld := ⟨EVR_ROUTE0, 2, 3⟩
def EVR_ROUTE0_VEC : Fld := ⟨EVR_ROUTE0, 8, 6⟩
def EVR_ROUTE1_PRIO : Fld := ⟨EVR_ROUTE1, 0, 4⟩

/-- Every register of block EVR. -/
def regsEVR : List Reg :=
  [EVR_SWRAISE, EVR_MTIME_LO, EVR_MTIME_HI, EVR_STAT, EVR_RAW, EVR_PEND_LO, EVR_PEND_HI, EVR_INSV_LO, EVR_INSV_HI, EVR_RING_LO, EVR_RING_HI, EVR_RWR, EVR_RRD, EVR_MTIMECMP_LO, EVR_MTIMECMP_HI, EVR_WDOG, EVR_CORE, EVR_ROUTE0, EVR_ROUTE1]

/-! ### Block MBX (register map of spec/18_cores_events_mailboxes.md) -/
def MBX_RLATCH : Reg := { off := 0x1600000, ro := 0xFFFFFFFF }
def MBX_FULL_LO : Reg := { off := 0x1600004, ro := 0xFFFFFFFF }
def MBX_FULL_HI : Reg := { off := 0x1600008, ro := 0xFFFFFFFF }
def MBX_REJCNT : Reg := { off := 0x160000C, ro := 0xFFFFFFFF }
def MBX_CFG : Reg := { off := 0x1600100, n1 := 64, s1 := 0x4, reset := 0x1, rwb := 0x7 }
def MBX_SENDLO : Reg := { off := 0x1601000, n1 := 64, s1 := 0x10, wo := 0xFFFFFFFF }
def MBX_SENDHI : Reg := { off := 0x1601004, n1 := 64, s1 := 0x10, wo := 0xFFFF00FF }
def MBX_RECV : Reg := { off := 0x1601008, n1 := 64, s1 := 0x10, ro := 0xFFFF01FF }
def MBX_PEEK : Reg := { off := 0x160100C, n1 := 64, s1 := 0x10, ro := 0xFFFF01FF }

def MBX_RLATCH_PTR : Fld := ⟨MBX_RLATCH, 0, 32⟩
def MBX_FULL_LO_FULL : Fld := ⟨MBX_FULL_LO, 0, 32⟩
def MBX_FULL_HI_FULL : Fld := ⟨MBX_FULL_HI, 0, 32⟩
def MBX_REJCNT_COUNT : Fld := ⟨MBX_REJCNT, 0, 32⟩
def MBX_CFG_DOMAIN : Fld := ⟨MBX_CFG, 0, 3⟩
def MBX_SENDLO_PTR : Fld := ⟨MBX_SENDLO, 0, 32⟩
def MBX_SENDHI_PTR : Fld := ⟨MBX_SENDHI, 0, 8⟩
def MBX_SENDHI_TAG : Fld := ⟨MBX_SENDHI, 16, 16⟩
def MBX_RECV_PTR : Fld := ⟨MBX_RECV, 0, 8⟩
def MBX_RECV_VALID : Fld := ⟨MBX_RECV, 8, 1⟩
def MBX_RECV_TAG : Fld := ⟨MBX_RECV, 16, 16⟩
def MBX_PEEK_PTR : Fld := ⟨MBX_PEEK, 0, 8⟩
def MBX_PEEK_VALID : Fld := ⟨MBX_PEEK, 8, 1⟩
def MBX_PEEK_TAG : Fld := ⟨MBX_PEEK, 16, 16⟩

/-- Every register of block MBX. -/
def regsMBX : List Reg :=
  [MBX_RLATCH, MBX_FULL_LO, MBX_FULL_HI, MBX_REJCNT, MBX_CFG, MBX_SENDLO, MBX_SENDHI, MBX_RECV, MBX_PEEK]

/-! ### Block FLT (register map of spec/19_faults.md) -/
def FLT_CTL : Reg := { off := 0x1700000, reset := 0x1, rw := 0x1, wo := 0x2 }
def FLT_RTEST : Reg := { off := 0x1700004, reset := 0x1F4, rw := 0x3FF }
def FLT_STAT : Reg := { off := 0x1700008, w1c := 0x1D, ro := 0x2 }
def FLT_LINE : Reg := { off := 0x170000C, w1c := 0xFFFFFFFF }
def FLT_CAUSE : Reg := { off := 0x1700010, ro := 0xFFFFFFFF }
def FLT_RAILSTAT : Reg := { off := 0x1700014, w1c := 0xFFFFFFFF }
def FLT_REACT0 : Reg := { off := 0x1700018, reset := 0x55555555, rw := 0xFFFFFFFF }
def FLT_REACT1 : Reg := { off := 0x170001C, reset := 0x51014515, rw := 0x3FFFFFFF, ro := 0xC0000000 }
def FLT_FIRST0 : Reg := { off := 0x1700020, ro := 0xFFFFFFFF }
def FLT_FIRST1 : Reg := { off := 0x1700024, ro := 0x801F7FFF }
def FLT_FIRST2 : Reg := { off := 0x1700028, ro := 0xFFFFFFFF }
def FLT_FIRST3 : Reg := { off := 0x170002C, ro := 0xFFFFFFFF }
def FLT_HISTWR : Reg := { off := 0x1700030, ro := 0xF }
def FLT_ERRCNT : Reg := { off := 0x1700034, ro := 0xFFFFFFFF }
def FLT_HIST0 : Reg := { off := 0x1700100, n1 := 16, s1 := 0x10, ro := 0xFFFFFFFF }
def FLT_HIST1 : Reg := { off := 0x1700104, n1 := 16, s1 := 0x10, ro := 0x801F7FFF }
def FLT_HIST2 : Reg := { off := 0x1700108, n1 := 16, s1 := 0x10, ro := 0xFFFFFFFF }
def FLT_HIST3 : Reg := { off := 0x170010C, n1 := 16, s1 := 0x10, ro := 0xFFFFFFFF }

def FLT_CTL_RAILCHK : Fld := ⟨FLT_CTL, 0, 1⟩
def FLT_CTL_HCLR : Fld := ⟨FLT_CTL, 1, 1⟩
def FLT_RTEST_MS : Fld := ⟨FLT_RTEST, 0, 10⟩
def FLT_STAT_FIRST : Fld := ⟨FLT_STAT, 0, 1⟩
def FLT_STAT_FAULT : Fld := ⟨FLT_STAT, 1, 1⟩
def FLT_STAT_HISTOVF : Fld := ⟨FLT_STAT, 2, 1⟩
def FLT_STAT_CLRREF : Fld := ⟨FLT_STAT, 3, 1⟩
def FLT_STAT_FRESET : Fld := ⟨FLT_STAT, 4, 1⟩
def FLT_LINE_LINES : Fld := ⟨FLT_LINE, 0, 32⟩
def FLT_CAUSE_LINES : Fld := ⟨FLT_CAUSE, 0, 32⟩
def FLT_RAILSTAT_LINES : Fld := ⟨FLT_RAILSTAT, 0, 32⟩
def FLT_REACT0_REACT : Fld := ⟨FLT_REACT0, 0, 32⟩
def FLT_REACT1_REACT : Fld := ⟨FLT_REACT1, 0, 30⟩
def FLT_REACT1_SELF : Fld := ⟨FLT_REACT1, 30, 2⟩
def FLT_FIRST0_ADDR : Fld := ⟨FLT_FIRST0, 0, 32⟩
def FLT_FIRST1_ADDR : Fld := ⟨FLT_FIRST1, 0, 8⟩
def FLT_FIRST1_MASTER : Fld := ⟨FLT_FIRST1, 8, 5⟩
def FLT_FIRST1_TYPE : Fld := ⟨FLT_FIRST1, 13, 2⟩
def FLT_FIRST1_LINE : Fld := ⟨FLT_FIRST1, 16, 5⟩
def FLT_FIRST1_VALID : Fld := ⟨FLT_FIRST1, 31, 1⟩
def FLT_FIRST2_TS : Fld := ⟨FLT_FIRST2, 0, 32⟩
def FLT_FIRST3_TS : Fld := ⟨FLT_FIRST3, 0, 32⟩
def FLT_HISTWR_INDEX : Fld := ⟨FLT_HISTWR, 0, 4⟩
def FLT_ERRCNT_COUNT : Fld := ⟨FLT_ERRCNT, 0, 32⟩
def FLT_HIST0_ADDR : Fld := ⟨FLT_HIST0, 0, 32⟩
def FLT_HIST1_ADDR : Fld := ⟨FLT_HIST1, 0, 8⟩
def FLT_HIST1_MASTER : Fld := ⟨FLT_HIST1, 8, 5⟩
def FLT_HIST1_TYPE : Fld := ⟨FLT_HIST1, 13, 2⟩
def FLT_HIST1_LINE : Fld := ⟨FLT_HIST1, 16, 5⟩
def FLT_HIST1_VALID : Fld := ⟨FLT_HIST1, 31, 1⟩
def FLT_HIST2_TS : Fld := ⟨FLT_HIST2, 0, 32⟩
def FLT_HIST3_TS : Fld := ⟨FLT_HIST3, 0, 32⟩

/-- Every register of block FLT. -/
def regsFLT : List Reg :=
  [FLT_CTL, FLT_RTEST, FLT_STAT, FLT_LINE, FLT_CAUSE, FLT_RAILSTAT, FLT_REACT0, FLT_REACT1, FLT_FIRST0, FLT_FIRST1, FLT_FIRST2, FLT_FIRST3, FLT_HISTWR, FLT_ERRCNT, FLT_HIST0, FLT_HIST1, FLT_HIST2, FLT_HIST3]

/-! ### Block PWR (register map of spec/20_power.md) -/
def PWR_MODE : Reg := { off := 0x1800000, ro := 0x7177 }
def PWR_PSREQ : Reg := { off := 0x1800004, rw := 0x7, wo := 0x80000000 }
def PWR_CTL : Reg := { off := 0x1800008, rwb := 0x2, wo := 0x1 }
def PWR_STAT : Reg := { off := 0x180000C, w1c := 0x3 }
def PWR_DOMSTAT : Reg := { off := 0x1800010, reset := 0x1, ro := 0xFF0F0FFF }
def PWR_VSET : Reg := { off := 0x1800040, n1 := 8, s1 := 0x4, w1s := 0xFFFFFFFF }
def PWR_VCLR : Reg := { off := 0x1800060, n1 := 8, s1 := 0x4, w1c := 0xFFFFFFFF }
def PWR_READY : Reg := { off := 0x1800080, w1s := 0xFF }
def PWR_WAKE : Reg := { off := 0x1800084, w1c := 0x7 }
def PWR_DEMAND : Reg := { off := 0x1800088, reset := 0x7D, rws := 0x3FF }
def PWR_DVFS : Reg := { off := 0x180008C, reset := 0x32, rws := 0x1FF }
def PWR_SAVE : Reg := { off := 0x1800090, rw := 0x3FF, ro := 0xFF0000 }
def PWR_RETAIN : Reg := { off := 0x18000A0, n1 := 3, s1 := 0x4, reset := 0xFFFFFFFF, rw := 0xFFFFFFFF }
def PWR_TEMP : Reg := { off := 0x18000B0, reset := 0x730000, rwb := 0xFF0000, ro := 0x10007FF } -- TRIP reset: grade
def PWR_VTRIM : Reg := { off := 0x18000B4, ro := 0x1F } -- VT reset: fuse
def PWR_WAKEENT_LO : Reg := { off := 0x18000C0, n1 := 8, s1 := 0x8, rw := 0xFFFFFFFF }
def PWR_WAKEENT_HI : Reg := { off := 0x18000C4, n1 := 8, s1 := 0x8, rw := 0xFF }
def PWR_OWNER : Reg := { off := 0x1800100, n1 := 8, s1 := 0x10, n2 := 4, s2 := 0x4, ro := 0xFFFFFFFF } -- OWNER reset: image
def PWR_COMMIT : Reg := { off := 0x1800FF0, wo := 0x1 }
def PWR_CSTAT : Reg := { off := 0x1800FF4, w1c := 0x2, ro := 0x1 }

def PWR_MODE_CUR : Fld := ⟨PWR_MODE, 0, 3⟩
def PWR_MODE_PS : Fld := ⟨PWR_MODE, 4, 3⟩
def PWR_MODE_BUSY : Fld := ⟨PWR_MODE, 8, 1⟩
def PWR_MODE_PREV : Fld := ⟨PWR_MODE, 12, 3⟩
def PWR_PSREQ_PS : Fld := ⟨PWR_PSREQ, 0, 3⟩
def PWR_PSREQ_GO : Fld := ⟨PWR_PSREQ, 31, 1⟩
def PWR_CTL_RECOV : Fld := ⟨PWR_CTL, 0, 1⟩
def PWR_CTL_TEST : Fld := ⟨PWR_CTL, 1, 1⟩
def PWR_STAT_PSREF : Fld := ⟨PWR_STAT, 0, 1⟩
def PWR_STAT_VOTEREF : Fld := ⟨PWR_STAT, 1, 1⟩
def PWR_DOMSTAT_ON : Fld := ⟨PWR_DOMSTAT, 0, 8⟩
def PWR_DOMSTAT_QUAD : Fld := ⟨PWR_DOMSTAT, 8, 4⟩
def PWR_DOMSTAT_DEMAND : Fld := ⟨PWR_DOMSTAT, 16, 4⟩
def PWR_DOMSTAT_MOVING : Fld := ⟨PWR_DOMSTAT, 24, 8⟩
def PWR_VSET_VOTE : Fld := ⟨PWR_VSET, 0, 32⟩
def PWR_VCLR_VOTE : Fld := ⟨PWR_VCLR, 0, 32⟩
def PWR_READY_CORE : Fld := ⟨PWR_READY, 0, 8⟩
def PWR_WAKE_CLKREQ : Fld := ⟨PWR_WAKE, 0, 1⟩
def PWR_WAKE_SMBUS : Fld := ⟨PWR_WAKE, 1, 1⟩
def PWR_WAKE_CMD : Fld := ⟨PWR_WAKE, 2, 1⟩
def PWR_DEMAND_IDLE : Fld := ⟨PWR_DEMAND, 0, 10⟩
def PWR_DVFS_SETTLE : Fld := ⟨PWR_DVFS, 0, 9⟩
def PWR_SAVE_COUNT : Fld := ⟨PWR_SAVE, 0, 10⟩
def PWR_SAVE_ERR : Fld := ⟨PWR_SAVE, 16, 8⟩
def PWR_RETAIN_BANK : Fld := ⟨PWR_RETAIN, 0, 32⟩
def PWR_TEMP_TJ : Fld := ⟨PWR_TEMP, 0, 11⟩
def PWR_TEMP_TRIP : Fld := ⟨PWR_TEMP, 16, 8⟩
def PWR_TEMP_HOT : Fld := ⟨PWR_TEMP, 24, 1⟩
def PWR_VTRIM_VT : Fld := ⟨PWR_VTRIM, 0, 5⟩
def PWR_WAKEENT_LO_ADDR : Fld := ⟨PWR_WAKEENT_LO, 0, 32⟩
def PWR_WAKEENT_HI_ADDR : Fld := ⟨PWR_WAKEENT_HI, 0, 8⟩
def PWR_OWNER_OWNER : Fld := ⟨PWR_OWNER, 0, 32⟩
def PWR_COMMIT_GO : Fld := ⟨PWR_COMMIT, 0, 1⟩
def PWR_CSTAT_PENDING : Fld := ⟨PWR_CSTAT, 0, 1⟩
def PWR_CSTAT_REFUSED : Fld := ⟨PWR_CSTAT, 1, 1⟩

/-- Every register of block PWR. -/
def regsPWR : List Reg :=
  [PWR_MODE, PWR_PSREQ, PWR_CTL, PWR_STAT, PWR_DOMSTAT, PWR_VSET, PWR_VCLR, PWR_READY, PWR_WAKE, PWR_DEMAND, PWR_DVFS, PWR_SAVE, PWR_RETAIN, PWR_TEMP, PWR_VTRIM, PWR_WAKEENT_LO, PWR_WAKEENT_HI, PWR_OWNER, PWR_COMMIT, PWR_CSTAT]

/-! ### Block PMU (register map of spec/21_perf_debug.md) -/
def PMU_GCTL : Reg := { off := 0x1900000, rw := 0x3, ro := 0x4 }
def PMU_GCMD : Reg := { off := 0x1900004, wo := 0xF }
def PMU_STAT : Reg := { off := 0x1900008, w1c := 0x6, ro := 0x1 }
def PMU_USER : Reg := { off := 0x190000C, rw := 0xFF }
def PMU_SNAPBASE_LO : Reg := { off := 0x1900010, rw := 0xFFFFFFFF }
def PMU_SNAPBASE_HI : Reg := { off := 0x1900014, rw := 0xFF }
def PMU_SAMPLE : Reg := { off := 0x1900018, rw := 0x7 }
def PMU_SPC_LO : Reg := { off := 0x1900020, ro := 0xFFFFFFFF }
def PMU_SPC_HI : Reg := { off := 0x1900024, ro := 0x800000FF }
def PMU_OVF : Reg := { off := 0x1900040, n1 := 8, s1 := 0x4, w1c := 0xFFFFFFFF }
def PMU_CNT_LO : Reg := { off := 0x1901000, n1 := 256, s1 := 0x10, rw := 0xFFFFFFFF }
def PMU_CNT_HI : Reg := { off := 0x1901004, n1 := 256, s1 := 0x10, rw := 0xFFFF }
def PMU_SEL : Reg := { off := 0x1901008, n1 := 256, s1 := 0x10, rw := 0x1FFFF }
def PMU_THR : Reg := { off := 0x190100C, n1 := 256, s1 := 0x10, rw := 0xFF01FFFF }

def PMU_GCTL_ENA : Fld := ⟨PMU_GCTL, 0, 1⟩
def PMU_GCTL_FRZOVF : Fld := ⟨PMU_GCTL, 1, 1⟩
def PMU_GCTL_FROZEN : Fld := ⟨PMU_GCTL, 2, 1⟩
def PMU_GCMD_FREEZE : Fld := ⟨PMU_GCMD, 0, 1⟩
def PMU_GCMD_UNFREEZE : Fld := ⟨PMU_GCMD, 1, 1⟩
def PMU_GCMD_SNAP : Fld := ⟨PMU_GCMD, 2, 1⟩
def PMU_GCMD_CLEAR : Fld := ⟨PMU_GCMD, 3, 1⟩
def PMU_STAT_SNAPBUSY : Fld := ⟨PMU_STAT, 0, 1⟩
def PMU_STAT_SNAPREF : Fld := ⟨PMU_STAT, 1, 1⟩
def PMU_STAT_SAMPLEOVF : Fld := ⟨PMU_STAT, 2, 1⟩
def PMU_USER_READ : Fld := ⟨PMU_USER, 0, 8⟩
def PMU_SNAPBASE_LO_ADDR : Fld := ⟨PMU_SNAPBASE_LO, 0, 32⟩
def PMU_SNAPBASE_HI_ADDR : Fld := ⟨PMU_SNAPBASE_HI, 0, 8⟩
def PMU_SAMPLE_CORE : Fld := ⟨PMU_SAMPLE, 0, 3⟩
def PMU_SPC_LO_PC : Fld := ⟨PMU_SPC_LO, 0, 32⟩
def PMU_SPC_HI_PC : Fld := ⟨PMU_SPC_HI, 0, 8⟩
def PMU_SPC_HI_VALID : Fld := ⟨PMU_SPC_HI, 31, 1⟩
def PMU_OVF_OVF : Fld := ⟨PMU_OVF, 0, 32⟩
def PMU_CNT_LO_COUNT : Fld := ⟨PMU_CNT_LO, 0, 32⟩
def PMU_CNT_HI_COUNT : Fld := ⟨PMU_CNT_HI, 0, 16⟩
def PMU_SEL_EVENT : Fld := ⟨PMU_SEL, 0, 12⟩
def PMU_SEL_MODE : Fld := ⟨PMU_SEL, 12, 2⟩
def PMU_SEL_CHAIN : Fld := ⟨PMU_SEL, 14, 1⟩
def PMU_SEL_OVFEV : Fld := ⟨PMU_SEL, 15, 1⟩
def PMU_SEL_SAMPLE : Fld := ⟨PMU_SEL, 16, 1⟩
def PMU_THR_N : Fld := ⟨PMU_THR, 0, 17⟩
def PMU_THR_QUEUE : Fld := ⟨PMU_THR, 24, 8⟩

/-- Every register of block PMU. -/
def regsPMU : List Reg :=
  [PMU_GCTL, PMU_GCMD, PMU_STAT, PMU_USER, PMU_SNAPBASE_LO, PMU_SNAPBASE_HI, PMU_SAMPLE, PMU_SPC_LO, PMU_SPC_HI, PMU_OVF, PMU_CNT_LO, PMU_CNT_HI, PMU_SEL, PMU_THR]

/-! ### Block JDP (register map of spec/21_perf_debug.md) -/
def JDP_STAT : Reg := { off := 0x1A00000, ro := 0xFF01 }
def JDP_CCTL : Reg := { off := 0x1A01000, n1 := 8, s1 := 0x1000, rw := 0x300, wo := 0x1F }
def JDP_CSTAT : Reg := { off := 0x1A01004, n1 := 8, s1 := 0x1000, w1c := 0x100, ro := 0x7F }
def JDP_RSEL : Reg := { off := 0x1A01008, n1 := 8, s1 := 0x1000, rw := 0x3FFF, wo := 0x80000000 }
def JDP_RDATA_LO : Reg := { off := 0x1A0100C, n1 := 8, s1 := 0x1000, rw := 0xFFFFFFFF }
def JDP_RDATA_HI : Reg := { off := 0x1A01010, n1 := 8, s1 := 0x1000, rw := 0xFFFFFFFF }
def JDP_BP_LO : Reg := { off := 0x1A01100, n1 := 8, s1 := 0x1000, n2 := 8, s2 := 0x8, rw := 0xFFFFFFFF }
def JDP_BP_HI : Reg := { off := 0x1A01104, n1 := 8, s1 := 0x1000, n2 := 8, s2 := 0x8, rw := 0xFF }
def JDP_WP_LO : Reg := { off := 0x1A01200, n1 := 8, s1 := 0x1000, n2 := 4, s2 := 0x10, rw := 0xFFFFFFFF }
def JDP_WP_HI : Reg := { off := 0x1A01204, n1 := 8, s1 := 0x1000, n2 := 4, s2 := 0x10, rw := 0xFF }
def JDP_WP_MASK : Reg := { off := 0x1A01208, n1 := 8, s1 := 0x1000, n2 := 4, s2 := 0x10, rw := 0x3F }
def JDP_WP_CTL : Reg := { off := 0x1A0120C, n1 := 8, s1 := 0x1000, n2 := 4, s2 := 0x10, rw := 0x3 }

def JDP_STAT_ATTACHED : Fld := ⟨JDP_STAT, 0, 1⟩
def JDP_STAT_SPLIT : Fld := ⟨JDP_STAT, 8, 8⟩
def JDP_CCTL_HALT : Fld := ⟨JDP_CCTL, 0, 1⟩
def JDP_CCTL_RESUME : Fld := ⟨JDP_CCTL, 1, 1⟩
def JDP_CCTL_STEP : Fld := ⟨JDP_CCTL, 2, 1⟩
def JDP_CCTL_SPLIT : Fld := ⟨JDP_CCTL, 3, 1⟩
def JDP_CCTL_IINV : Fld := ⟨JDP_CCTL, 4, 1⟩
def JDP_CCTL_STEPIE : Fld := ⟨JDP_CCTL, 8, 1⟩
def JDP_CCTL_EBRK : Fld := ⟨JDP_CCTL, 9, 1⟩
def JDP_CSTAT_HALTED : Fld := ⟨JDP_CSTAT, 0, 1⟩
def JDP_CSTAT_CAUSE : Fld := ⟨JDP_CSTAT, 1, 3⟩
def JDP_CSTAT_INDEX : Fld := ⟨JDP_CSTAT, 4, 3⟩
def JDP_CSTAT_RERR : Fld := ⟨JDP_CSTAT, 8, 1⟩
def JDP_RSEL_NUM : Fld := ⟨JDP_RSEL, 0, 12⟩
def JDP_RSEL_CSR : Fld := ⟨JDP_RSEL, 12, 1⟩
def JDP_RSEL_WRITE : Fld := ⟨JDP_RSEL, 13, 1⟩
def JDP_RSEL_GO : Fld := ⟨JDP_RSEL, 31, 1⟩
def JDP_RDATA_LO_DATA : Fld := ⟨JDP_RDATA_LO, 0, 32⟩
def JDP_RDATA_HI_DATA : Fld := ⟨JDP_RDATA_HI, 0, 32⟩
def JDP_BP_LO_ENA : Fld := ⟨JDP_BP_LO, 0, 1⟩
def JDP_BP_LO_ADDR : Fld := ⟨JDP_BP_LO, 1, 31⟩
def JDP_BP_HI_ADDR : Fld := ⟨JDP_BP_HI, 0, 8⟩
def JDP_WP_LO_ADDR : Fld := ⟨JDP_WP_LO, 0, 32⟩
def JDP_WP_HI_ADDR : Fld := ⟨JDP_WP_HI, 0, 8⟩
def JDP_WP_MASK_MASK : Fld := ⟨JDP_WP_MASK, 0, 6⟩
def JDP_WP_CTL_R : Fld := ⟨JDP_WP_CTL, 0, 1⟩
def JDP_WP_CTL_W : Fld := ⟨JDP_WP_CTL, 1, 1⟩

/-- Every register of block JDP. -/
def regsJDP : List Reg :=
  [JDP_STAT, JDP_CCTL, JDP_CSTAT, JDP_RSEL, JDP_RDATA_LO, JDP_RDATA_HI, JDP_BP_LO, JDP_BP_HI, JDP_WP_LO, JDP_WP_HI, JDP_WP_MASK, JDP_WP_CTL]

end Sys2Proof.Machine
end

