-- ==== Sys2Proof/Machine/BlocksA.lean ====
section
/-! DEFINITION. State of the blocks of the control part of the device, beside their registers: cores, event router, mailboxes, fault collector, SRAM, buffer pools, DMA, DRAM controller, code flash, boot control, power, debug. -/

namespace Sys2Proof.Machine

/-- One logical core (R375, R376): its general registers, program counter, privilege and CSRs, its reservation (A extension)
and its instruction cache.  mip is not stored: it is computed from the event router (R376). -/
structure Core where
  /-- The core has been released (R368, R369) and not put back in reset. -/
  released   : Bool := false
  /-- General registers x1 to x31; x0 is never listed. -/
  x          : SMap DWord := []
  pc         : DWord := 0
  /-- User mode; false is machine mode. -/
  user       : Bool := false
  mstatusMIE  : Bool := false
  mstatusMPIE : Bool := false
  /-- mstatus.MPP is user mode (0); false is machine mode (3). -/
  mstatusMPPU : Bool := false
  mstatusMPRV : Bool := false
  mstatusTW   : Bool := false
  mie        : DWord := 0
  mtvec      : DWord := 0
  mscratch   : DWord := 0
  mepc       : DWord := 0
  mcause     : DWord := 0
  mtval      : DWord := 0
  mcounteren : DWord := 0
  mcountinhibit : DWord := 0
  mcycle     : DWord := 0
  minstret   : DWord := 0
  mevthresh  : Nat := 0
  mfaultinfo : Nat := 0
  /-- Waiting in WFI. -/
  wfi        : Bool := false
  /-- The 8-byte-aligned address reserved by LR, if a reservation is held. -/
  resv       : Option Nat := none
  /-- Instruction cache: 16-bit parcels held, by address (R375). -/
  icache     : SMap (BitVec 16) := []
  /-- A STEP is under way: the pair halts after its next instruction (R423). -/
  stepping   : Bool := false
  /-- The breakpoint that halted the pair does not match again at the instruction it halted before (R424). -/
  skipBp     : Bool := false
  deriving DecidableEq, Repr

/-- Event router state beside EVR's registers (R381): keyed by core × 64 + vector. -/
structure Evr where
  /-- Highest PRIO that raised the pending vector since it was last claimed. -/
  prio     : SMap Nat := []
  /-- Priority of a vector in service. -/
  insvPrio : SMap Nat := []
  deriving DecidableEq, Repr

/-- Mailbox state (R384, R385): messages by mailbox as tag × 2^40 + pointer, send latches by master, receive latches by
master. -/
structure Mbx where
  msgs      : SMap Nat := []
  sendLatch : SMap Word := []
  rlatch    : SMap Word := []
  deriving DecidableEq, Repr

/-- Fault collector state beside FLT's registers. -/
structure Flt where
  /-- History entries written and not read since (R393). -/
  unread    : SMap Bool := []
  /-- Reaction 3 drives the brown-out signal (R394). -/
  bodDrive  : Bool := false
  /-- A reset into BOOT is due (reaction 3 with CKP quiesced). -/
  resetDue  : Bool := false
  /-- FAULT_N is driven low (R388, R395). -/
  faultN    : Bool := false
  /-- Lines whose last rail test failed: bit k for line k (R389, R390). -/
  lastFail  : Nat := 0
  deriving DecidableEq, Repr

/-- SRAM control state beside SRM's registers: a corrected-error event has been raised since the last boundary (R325). -/
structure Srm where
  ceTick : Bool := false
  deriving DecidableEq, Repr

/-- A hardware allocation that waits (R333): who asked, how many bytes, and a tag of the asking block. -/
structure HwAlloc where
  master : Nat
  bytes  : Nat
  tag    : Nat
  deriving DecidableEq, Repr

/-- Buffer pool manager state (R334): per pool the on-chip cache and the ring of free handles, the waiting allocations, and the
allocations served (tag, handle). -/
structure Bpm where
  cache  : SMap (List Nat) := []
  ring   : SMap (List Nat) := []
  wait   : List HwAlloc := []
  served : SMap Nat := []
  deriving DecidableEq, Repr

/-- DMA state beside DMA's registers (R337, R341): the IRQ bit loaded with each channel's shadow and active set. -/
structure Dma where
  irqShadow : SMap Bool := []
  irqActive : SMap Bool := []
  last      : Nat := 63
  deriving DecidableEq, Repr

/-- One DRAM bank (R354, R355): the open row, the page predictor, the activate table of (row, count) pairs. -/
structure DBank where
  openRow : Option Nat := none
  pred    : Nat := 2
  table   : List (Nat × Nat) := []
  deriving DecidableEq, Repr

/-- DRAM controller state beside DRC's registers. -/
structure Drc where
  /-- Banks by ((channel × 2 + rank) × 8 + bank group) × 4 + bank. -/
  banks    : SMap DBank := []
  /-- Initialisation is running (R349). -/
  initBusy : Bool := false
  /-- Every rank is in self-refresh (R351). -/
  selfRef  : Bool := true
  /-- Polls in a row, per channel, at which no device asked for doubled refresh (R352). -/
  coolPolls : SMap Nat := []
  /-- A corrected-error event has been raised since the last boundary (R346). -/
  ceTick   : Bool := false
  deriving DecidableEq, Repr

/-- A code-flash operation (R360): who asked (a master ID, or 31 for BOT_SWAP), whether it erases, its byte offset from
0x00_1000_0000, and the 64 data bits and 8 check bits a program is to leave. -/
structure FlashOp where
  who    : Nat
  erase  : Bool
  offset : Nat
  data   : DWord := 0
  chkb   : Byte := 0
  deriving DecidableEq, Repr

/-- Code-flash controller state, per bank 0 and 1: the running operation, the operations waiting in arrival order, and the
suspended erase (R360, R364). -/
structure Cfl where
  run   : SMap FlashOp := []
  queue : List FlashOp := []
  susp  : SMap FlashOp := []
  /-- Machine time at which a bank's erase was last resumed; the master whose suspend waits for 500 µs since then (R364). -/
  resumed : SMap Nat := []
  suspWait : SMap Nat := []
  ceTick : Bool := false
  deriving DecidableEq, Repr

/-- Boot control state: the boot block has been entered (step 5 of R368), the swap is being programmed, the recovery image has
been entered. -/
structure Bot where
  bootRun  : Bool := false
  recovRun : Bool := false
  /-- A recovery image is to be authenticated and started (R28, R374). -/
  recovWait : Bool := false
  /-- How far CONFIG has come (R48): 0 the image is to be checked, 1 its fields are written, 2 the dies are discovered, 3 CKP has started up. -/
  layStep  : Nat := 0
  /-- Bytes 24–31 of the running boot block's header (R366). -/
  revision : Nat := 0
  deriving DecidableEq, Repr

/-- Power manager state beside PWR's registers (R399–R412). -/
structure Pwr where
  /-- Domains powering up (true) or dropping (false), by number. -/
  moving     : SMap Bool := []
  /-- MEDIA quads powering up (true) or dropping (false). -/
  movingQuad : SMap Bool := []
  /-- Ticks in a row without an entry queued for a quad that has a demand (R403). -/
  idleTicks  : SMap Nat := []
  /-- The power state whose core and interconnect clocks run (R33, R36). -/
  clk        : Nat := 0
  /-- Power state that takes effect at the next boundary (R407). -/
  psPend     : Option Nat := none
  /-- PS4 entry is under way (R410). -/
  dormEntry  : Bool := false
  /-- PS3 entry is under way: its DVFS steps have not ended (R34, R408). -/
  drainEntry : Bool := false
  /-- The mode and power state in force before PS4 (R27, R412). -/
  modeBefore : Nat := 2
  psBefore   : Nat := 0
  /-- Retention mask recorded at the retention point (R411): bit b for SRAM bank b. -/
  retained   : Nat := 0
  /-- A command arrived during PS4 entry and is held (R34). -/
  cmdHeld    : Bool := false
  /-- The DORMANT exit is running (R412). -/
  exiting    : Bool := false
  /-- Mode changes that are due at the next boundary (R29): RECOVERY with its BOT_CAUSE.RECOV code, SPENT, SOLO, SERVICE. -/
  recovDue   : Option Nat := none
  spentDue   : Bool := false
  soloDue    : Bool := false
  serviceDue : Bool := false
  /-- The 100 MHz reference is absent (R20, R390 line 28). -/
  refAbsent  : Bool := false
  /-- CLKREQ# is asserted. -/
  clkreq     : Bool := true
  /-- The supplies are up and RESET_N is high. -/
  powered    : Bool := false
  resetN     : Bool := false
  /-- A brown-out has been signalled since the last power-on (R201). -/
  brownOut   : Bool := false
  /-- DORMANT has passed its retention point, and step 1 of the exit has not ended (R411, R436). -/
  retention  : Bool := false
  /-- PWR_TEMP.TRIP as written since entry to BOOT; without a write it is the grade's value (R447). -/
  trip       : Option Nat := none
  deriving DecidableEq, Repr

/-- Performance monitor state beside PMU's registers (R413–R420): whether the value of a counter in edge mode was non-zero in the previous cycle;
overflows that have not been reported; snapshots taken since CTRL powered up; the bytes of the snapshot being written. -/
structure Pmu where
  prev   : SMap Bool := []
  due    : List Nat := []
  snapNo : Nat := 0
  snap   : Nat := 0
  deriving DecidableEq, Repr

/-- Debug port state (R421, R422): the bus address and AUTOINC; SEQ and REG of the last accepted write and read, and what the read returned; the
bus access in progress (write, address, data), and the data of a bus read that has ended and has not been collected; the error status. -/
structure Jdp where
  jba     : Nat := 0
  autoinc : Bool := false
  lastW   : Option (Bool × Nat) := none
  lastR   : Option (Bool × Nat × Nat) := none
  busy    : Option (Bool × Nat × Nat) := none
  done    : Option Nat := none
  berr    : Bool := false
  crcerr  : Bool := false
  berrcnt : Nat := 0
  deriving DecidableEq, Repr

/-- Checkpoint engine state that DRAM writes touch: the dirty pages by region × 2^32 + page number (R203). -/
structure CkpDirty where
  pages : SMap Bool := []
  deriving DecidableEq, Repr

end Sys2Proof.Machine
end

