-- ==== Sys2Proof/Machine/BlocksB.lean ====
section
/-! DEFINITION. State of the media blocks, beside their registers: the Churn and its queues, the flash channels and dies, the ECC complex, translation, Skim, the stripe engine. -/

namespace Sys2Proof.Machine

/-- A transfer descriptor (R88). -/
structure Desc where
  addr  : Nat
  cw    : Nat
  slc   : Bool
  row   : Nat
  plane : Nat
  col   : Nat
  /-- Words 4–7 (R111). -/
  aux   : Nat
  deriving DecidableEq, Repr

/-- One step of a tick program (R54); a managed step carries its descriptor and the job it belongs to. -/
structure Step where
  op     : Nat
  subop  : Nat := 0
  target : Nat := 0
  lun    : Nat := 0
  planes : Nat := 0
  wait   : Bool := false
  tag    : Nat := 0
  w1     : Nat := 0
  desc   : Option Desc := none
  job    : Option Nat := none
  deriving DecidableEq, Repr

/-- An array operation on a die: the START step, its busy time, its suspends, and whether a brown-out stopped it
(STATUS 8). -/
structure ArrOp where
  step  : Step
  /-- EVR_MTIME when it last became busy, the busy time before that, EVR_MTIME of its START, and of the SUSPEND in progress (R93, R453). -/
  start : Nat := 0
  acc   : Nat := 0
  born  : Nat := 0
  suspAt : Nat := 0
  susp  : Nat := 0
  bod   : Bool := false
  deriving DecidableEq, Repr

/-- A loaded page of a die's load record (R89): ROW with plane bits 0, the SLC bit, which of four codewords. -/
structure Loaded where
  row  : Nat := 0
  slc  : Bool := false
  mask : Nat := 0
  deriving DecidableEq, Repr

/-- A die beside its FCH_DIESTAT fields. -/
structure Die where
  /-- The operation that runs (busy or suspending). -/
  run     : Option ArrOp := none
  /-- EVR_MTIME when it last became ready (R182). -/
  ready   : Nat := 0
  /-- The suspended operation that is held. -/
  held    : Option ArrOp := none
  armed   : Option Step := none
  /-- The armed START waits for an operation that is not suspended for it (R57, R66). -/
  armedWait : Bool := false
  /-- The SUSPEND step whose suspend is in progress. -/
  susp    : Option Step := none
  /-- Continuation record (R59): descriptor (its ring index, or for managed work 65,536 + 16 × job + its number) and bursts moved. -/
  cont    : Option (Nat × Nat) := none
  /-- Load record (R89) by plane × 4 + page type. -/
  load    : SMap Loaded := []
  /-- The read-offset vector last written to the LUN: threshold i at bits 4i (R98). -/
  lastVec : Nat := 0
  /-- The parameter bytes last written to the LUN: threshold i at bits 8i (R98). -/
  lastBytes : Nat := 0
  /-- The last page read started was a soft read (R118, R124). -/
  soft    : Bool := false
  /-- A target reset is running (R95), or waits for the next boundary. -/
  resetting : Bool := false
  resetDue  : Bool := false
  /-- EVR_MTIME of the Reset (R93). -/
  resetAt   : Nat := 0
  /-- A step or internal poll read this die's status in the present tick; a step did (R453). -/
  polled  : Bool := false
  stepRead : Bool := false
  deriving DecidableEq, Repr

/-- A channel sequencer beside its registers. -/
structure Chan where
  /-- Steps of the installed program not yet ended. -/
  prog    : List Step := []
  /-- Bursts that the step at the head has moved. -/
  moved   : Nat := 0
  /-- A transfer step of the program has begun (R56). -/
  transfer : Bool := false
  /-- The program built for the next boundary. -/
  next    : List Step := []
  nextCarry : Bool := false
  /-- The present program was copied from the shadow row: DREADY clears at install. -/
  nextDirect : Bool := false
  /-- A burst is held for lack of a codeword buffer (R112). -/
  held    : Bool := false
  /-- The next target to retrain (R84). -/
  trainTarget : Nat := 0
  /-- EVR_MTIME of the last training; the full rate in 100 MT/s units; by target, the delays trained for the full rate and for 800 MT/s (R83, R84). -/
  trainAt : Nat := 0
  full    : Nat := 0
  delays  : SMap (Nat × Nat) := []
  /-- What the extended-timing descriptors of the channel's dies declare, by target: read and write preamble, on-die termination code, training flags
  (R81). -/
  timing  : SMap (Nat × Nat × Nat × Nat) := []
  /-- The tracker's on-chip cache (R100): accumulators by (die × 2^16 + block) × 4 + page type, as two's complement of 12 bits. -/
  acc     : SMap Nat := []
  /-- The 256 blocks whose entries are cached, least recently used first. -/
  cached  : List Nat := []
  /-- Steps completed and dropped in the present tick (TCK_CHSTAT reports them after it). -/
  nExec   : Nat := 0
  nDrop   : Nat := 0
  /-- The installed program is a carry-over program (R70). -/
  carry   : Bool := false
  deriving DecidableEq, Repr

/-- A codeword that a read names: plane, position, its index in descriptor order, what became of it (0 undecided, 1 decoded,
2 erased, 3 failed hard decoding, 4 uncorrectable, 5 reconstructed), and its corrected bits. -/
structure Cw where
  plane : Nat
  col   : Nat
  st    : Nat := 0
  cb    : Nat := 0
  deriving DecidableEq, Repr

/-- Whose work a job is. -/
inductive Client where
  | none
  /-- A direct-mode read: only the result ring hears of it. -/
  | direct
  /-- A read of a host command (or a delivery): its id, and the index of the first codeword in the command's data. -/
  | host (cmd first : Nat)
  /-- A stripe member's program: group, stripe, member position. -/
  | member (group stripe member : Nat)
  /-- An erase of a die block: group (0xFFFFFF for an old ledger block), die block. -/
  | erase (group block : Nat)
  /-- A read of a unit that moves: the move, and the first codeword of the unit that this read covers. -/
  | copy (move first : Nat)
  /-- A merge's read of current data (R147): merge, first codeword. -/
  | merge (id first : Nat)
  /-- A read of a stripe's member for patrol, rebuild or reconstruction: scan, member position. -/
  | scan (id member : Nat)
  /-- A ledger page (kind 0) on ledger die no, or another device structure's page. -/
  | metaPage (kind no : Nat)
  deriving DecidableEq, Repr

/-- A piece of managed media work: an entry of one of the four queues of a channel (R60), until it is done. -/
structure Job where
  ch     : Nat
  die    : Nat
  /-- 0 read, 1 write, 2 skim, 3 patrol queue. -/
  q      : Nat
  /-- SUBOP of its START. -/
  op     : Nat
  row    : Nat
  planes : Nat
  descs  : List Desc := []
  /-- Descriptors whose transfer step has ended. -/
  sent   : Nat := 0
  client : Client := .none
  /-- 0 queued; 1 START placed; 2 in array; 3 awaiting data-out; 4 in ECC; 10 awaiting DATA_IN; 11 loaded; 12 START placed;
  13 programming or erasing; 5 done. -/
  phase  : Nat := 0
  /-- Treated as the oldest on its die (R99, R120). -/
  oldest : Bool := false
  /-- It was not admitted at its first cutoff (R66). -/
  late   : Bool := false
  /-- Retry level, soft pass (0 none), and the tick of its queueing. -/
  level  : Nat := 0
  pass   : Nat := 0
  cws    : List Cw := []
  /-- Decoded information bits by codeword index. -/
  got    : SMap Nat := []
  n10    : Nat := 0
  n01    : Nat := 0
  iter   : Nat := 0
  near   : Bool := false
  soft   : Bool := false
  /-- Unsatisfied checks of failed hard decodes, by 16 × retry level + codeword (R116). -/
  unsat  : SMap Nat := []
  /-- The late start of this read has been counted (R66). -/
  rdl    : Bool := false
  /-- A boundary ended it, and its continuation was discarded (R59, R125). -/
  cutShort : Bool := false
  /-- STATUS of the START record when done, or the read's result status. -/
  status : Nat := 0
  /-- It consumes a write credit when its stripe's first member starts (R63). -/
  credit : Bool := false
  tag    : Nat := 0
  /-- CONTEXT of its descriptor (R111), and the descriptor's ring index in direct mode. -/
  context : Nat := 0
  dix    : Nat := 0
  /-- The tick it was admitted to (R64). -/
  due    : Option Nat := none
  /-- Background Skim: placed only when the channel's read and write queues are empty (R165). -/
  bg     : Bool := false
  deriving DecidableEq, Repr

/-- Churn state beside TCK's registers. -/
structure Tck where
  jobs    : SMap Job := []
  nextJob : Nat := 1
  /-- Credits left for the STARTs of the program being built. -/
  credits : Nat := 1024
  /-- The cutoff of the present tick has passed. -/
  cut     : Bool := false
  deriving DecidableEq, Repr

/-- A codeword buffer of the ECC complex (R112). -/
structure CwBuf where
  ch    : Nat
  die   : Nat
  job   : Nat
  /-- Index into the job's codewords. -/
  idx   : Nat
  row   : Nat
  plane : Nat
  col   : Nat
  /-- Stored bits: H of a soft read; S1 and S2 follow (R118). -/
  bits  : BitVec 36864
  s1    : Option (BitVec 36864) := none
  s2    : Option (BitVec 36864) := none
  soft  : Bool := false
  /-- Read-queue codewords are decoded first (R112). -/
  pri   : Bool := false
  /-- A decoder has taken it (R112). -/
  taken : Bool := false
  deriving DecidableEq, Repr

/-- ECC state beside ECC's registers. -/
structure Ecc where
  bufs    : SMap CwBuf := []
  nextBuf : Nat := 0
  /-- Jobs that wait for room in the soft job queue (R120), in order. -/
  softWait : List Nat := []
  /-- Codewords of the soft job queue that are reserved, by job. -/
  softRes : SMap Nat := []
  /-- Blocks for which EV_ECC_NEAR has been raised since the last boundary, by die position × 2^16 + block (R123). -/
  nearSeen : List Nat := []
  hardOff : Nat := 0
  softOff : Nat := 0
  deriving DecidableEq, Repr

/-- A unit that is placed or waits to be placed (R135, R143). -/
structure UnitRec where
  slot  : Nat
  lu    : Nat
  /-- Codewords. -/
  n     : Nat
  /-- Tag TYPE: 1 host data, 3 trim unit, 4 group marker, 5 ledger page, 6 checkpoint page, 7 trailer. -/
  type  : Nat := 1
  seq   : Nat := 0
  moves : Nat := 0
  /-- Source CWA and STATE of a copy (R145). -/
  src   : Option (Nat × Nat) := none
  data  : Nat := 0
  /-- The command it belongs to. -/
  cmd   : Option Nat := none
  stream : Nat := 0
  /-- It has been re-placed (R184): what the medium holds of it is invalid. -/
  dead  : Bool := false
  deriving DecidableEq, Repr

/-- A run of a unit's codewords in a stripe: member position, first codeword slot of the member (its CWA less the CWA of the
member's first codeword), how many, which codeword of the unit it begins with. -/
structure Piece where
  unit   : Nat
  member : Nat
  o      : Nat
  n      : Nat
  ofs    : Nat
  deriving DecidableEq, Repr

/-- A unit that is read in order to move (R145): where it is mapped, where its copy goes, what has been read. -/
structure Move where
  slot   : Nat
  lu     : Nat
  n      : Nat
  cwa    : Nat
  st     : Nat
  stream : Nat
  /-- The group it leaves. -/
  group  : Nat
  /-- Codewords read, by index in the unit. -/
  got    : SMap Nat := []
  deriving DecidableEq, Repr

/-- The reads of a stripe's members: 0 patrol, 1 rebuild, 2 reconstruction for a read. -/
structure Scan where
  kind   : Nat
  group  : Nat
  stripe : Nat
  /-- The read that waits (kind 2). -/
  job    : Nat := 0
  /-- Codewords read, and positions that could not be read, by member × 1024 + slot. -/
  got    : SMap Nat := []
  bad    : List Nat := []
  deriving DecidableEq, Repr

/-- A stripe from its first placement until it is appended or abandoned. -/
structure Stripe where
  group  : Nat
  idx    : Nat
  stream : Nat
  /-- 0 filling, 1 closed, 2 started, 3 complete, 4 appended but holding a unit that runs on into another stripe. -/
  st     : Nat := 0
  /-- No further unit goes into it (R183). -/
  full   : Bool := false
  pieces : List Piece := []
  /-- TCK_COUNT of the boundary that followed the first placement (R183). -/
  first  : Option Nat := none
  /-- Member positions that have reported, with STATUS. -/
  done   : SMap Nat := []
  deriving DecidableEq, Repr

/-- A group that the ledger holds (R185, R188). -/
structure Group where
  stream : Nat
  cream  : Bool
  w0     : Nat
  /-- Members: die position, die block, DROP. -/
  mem    : List (Nat × Nat × Nat)
  closeckp : Option Nat := none
  endS   : Nat := 2047
  /-- Next stripe to be taken by a filling stripe. -/
  next   : Nat := 0
  /-- Its entry is programmed on both ledger dies and acknowledged (R185). -/
  durable : Bool := false
  /-- The turn at which its stream last took a stripe of it (R182). -/
  turn    : Nat := 0
  /-- The ledger names it (R185, R186). -/
  led    : Bool := true
  deriving DecidableEq, Repr

/-- Stripe engine state beside STE's registers. -/
structure Ste where
  groups  : SMap Group := []
  stripes : List Stripe := []
  units   : SMap UnitRec := []
  nextUnit : Nat := 0
  moves   : SMap Move := []
  nextMove : Nat := 0
  scans   : SMap Scan := []
  nextScan : Nat := 0
  /-- Placed units that await room in their stream again (R184), and finished copies. -/
  backlog : List Nat := []
  /-- Stripes taken so far (R182), and the cream stripes in the order in which they were taken (R152): group, stripe. -/
  turns   : Nat := 0
  cream   : List (Nat × Nat) := []
  /-- A ledger change awaits a ledger write; a page awaits its programs and the partner's acknowledgement. -/
  ledDirty : Bool := false
  ledWait  : Bool := false
  ledAck   : Bool := false
  ledDone  : Nat := 0
  /-- Groups whose entries stand as the page under way records them. -/
  ledIn    : List Nat := []
  /-- A replacement snapshot is to be programmed (R189). -/
  ledMoving : Bool := false
  /-- Next page of the ledger block on each ledger die. -/
  ledPage : SMap Nat := []
  ledBlock : SMap Nat := []
  /-- Dies retired since the last boundary (R191), and the rebuild queue (R194). -/
  retired : List Nat := []
  rebPend : List Nat := []
  rebuildQ : List Nat := []
  /-- Stripes of a missing die that a rebuild has handled (R194, R195): group, stripe, die position. -/
  rebDone : List (Nat × Nat × Nat) := []
  /-- Stripes patrolled in the present pass. -/
  patDone : List (Nat × Nat) := []
  /-- Patrol pass: running, next group and stripe, stripes per second. -/
  patOn   : Bool := false
  patPace : Nat := 0
  /-- Lost-stripe overflow count (R196). -/
  lostOvf : Nat := 0
  bypass  : Bool := false
  deriving DecidableEq, Repr

/-- An entry of the placement table (R143). -/
structure Place where
  slot : Nat
  lu   : Nat
  count : Nat
  high : Nat
  deriving DecidableEq, Repr

/-- A merge in progress (R147): the unit, its buffer once complete, the bytes each partial write puts over it. -/
structure Merge where
  slot  : Nat
  lu    : Nat
  n     : Nat
  /-- The merged buffer, once the current data has been read and overlaid. -/
  buf   : Option Nat := none
  /-- Codewords of current data read. -/
  got   : SMap Nat := []
  /-- First byte, byte count and bytes of the write. -/
  ofs   : Nat
  len   : Nat
  bytes : Nat
  cmd   : Nat
  job   : Option Nat := none
  /-- The unit that carries the merged data once it is placed. -/
  unit  : Option Nat := none
  deriving DecidableEq, Repr

/-- Translation state beside TXE's registers. -/
structure Txe where
  /-- The reverse tags that are current: (slot, LU) by the CWA that the unit's map entry holds. -/
  rev    : SMap (Nat × Nat) := []
  place  : List Place := []
  merges : SMap Merge := []
  nextMerge : Nat := 0
  /-- Units written and waiting to be placed, by command, in arrival order (R143). -/
  waiting : List (Nat × List UnitRec) := []
  /-- Slots whose entries are being zeroed (R153): slot and the command that created it. -/
  zeroing : List (Nat × Nat) := []
  /-- Deletions: slot, step, command, checkpoint number that must complete (R154). -/
  deleting : List (Nat × Nat × Nat × Nat) := []
  /-- NSZE of each slot in LBAs, and its slot maximum in units. -/
  nsze   : SMap Nat := []
  maxUnits : SMap Nat := []
  /-- From the NAMESPACE records: NSID, XTS key index, flags (bit 1 visible on PCIe, bit 2 on fabric) of each declared slot. -/
  nsid   : SMap Nat := []
  key    : SMap Nat := []
  flags  : SMap Nat := []
  /-- Usable capacity in bytes (R47). -/
  usable : Nat := 0
  /-- Trims that wait, by command, and trim units that are placed, by SEQ: ranges (slot, first LU, count) (R148). -/
  trimQ  : List (Nat × List (Nat × Nat × Nat)) := []
  trims  : List (Nat × List (Nat × Nat × Nat)) := []
  /-- An entry operation that waits for the unit to leave the placement table (R156): op, slot, LU. -/
  entWait : Option (Nat × Nat × Nat) := none
  deriving DecidableEq, Repr

/-- Skim state beside SKM's registers and its DRAM tables. -/
structure Skm where
  /-- Spare count of each die by position (R169). -/
  spare  : SMap Nat := []
  sp0    : Nat := 0
  /-- Dies out of service by position. -/
  out    : SMap Bool := []
  /-- 20-bit credit accumulator (R165). -/
  acc    : Nat := 0
  /-- Victims in flight: group, whether foreground, whether static. -/
  victims : List (Nat × Bool × Bool) := []
  /-- Die blocks whose valid units are to be relocated: die position, block (R168, R170). -/
  reloc  : List (Nat × Nat) := []
  /-- Die blocks erased of a group that is erasing: die position, die block. -/
  erased  : List (Nat × Nat) := []
  /-- Old ledger die blocks behind the fence (R189): die position, die block, fence number. -/
  oldBlocks : List (Nat × Nat × Nat) := []
  /-- Groups that STE hands over after a rebuild with EVAC (R194). -/
  prio   : List Nat := []
  /-- Jobs placed before a group entered fenced: group and the highest job number then (R163). -/
  fences : SMap Nat := []
  /-- Retirements by cause 1–4 and factory marks (6); entries to foreground Skim (R175). -/
  byCause : SMap Nat := []
  fgCount : Nat := 0
  /-- Foreground Skim is active and no group can be its victim (R165). -/
  noVictim : Bool := false
  deriving DecidableEq, Repr

end Sys2Proof.Machine
end

