-- ==== Sys2Proof/Machine/BlocksC.lean ====
section
/-! DEFINITION. State of checkpoints. -/

namespace Sys2Proof.Machine

/-- Checkpoint engine state beside CKP's registers (R203–R212). -/
structure Ckp where
  /-- A trigger other than the timed ones is outstanding: NOW, an early checkpoint for STE, a namespace created or deleted, a die
  retired, a lost-stripe entry, the shutdown (R205). -/
  want    : Bool := false
  /-- Machine time, and host codewords placed, when the last checkpoint began. -/
  began   : Nat := 0
  hostCw  : Nat := 0
  /-- Of the checkpoint in progress: 1 pages, 2 directory pages, 3 trailer, 0 none. -/
  phase   : Nat := 0
  /-- Snapshot (R206): TXE_SEQ, ledger sequence number, TCK_COUNT, ledger groups with their appended-stripe bitmaps, and the ledger dies with
their blocks. -/
  seq     : Nat := 0
  ledSeq  : Nat := 0
  tick    : Nat := 0
  groups  : List (Nat × Nat) := []
  leds    : List (Nat × Nat) := []
  /-- CWA of the latest copy of each directory page. -/
  dirLoc  : SMap Nat := []
  /-- The checkpoint in progress is to be CLEAN; the last complete one was. -/
  cleanRun  : Bool := false
  cleanDone : Bool := false
  /-- Pages written so far. -/
  pages   : Nat := 0
  /-- The shutdown of R212 runs; it is complete and clean; HPT asked for it. -/
  shut    : Bool := false
  clean   : Bool := false
  shn     : Bool := false
  /-- Live checkpoint groups, oldest first. -/
  live    : List Nat := []
  /-- Root records being written, the first one first (R211): why (0 a checkpoint group, 1 a clean shutdown, 2 the end of start-up, 3 a write after a
shutdown), and the code-flash operations left, of which the first is under way. -/
  recs    : List (Nat × List FlashOp) := []
  /-- Appended stripes of every ledger group: bit s for stripe s. -/
  appended : SMap Nat := []
  /-- Slot of the root log from which the next free one is sought. -/
  rootSlot : Nat := 0
  /-- Machine time at the end of step 6 of R48; the closing checkpoint of start-up runs, with the CKP_START.KIND that it will set (R214). -/
  t0      : Nat := 0
  closing : Option Nat := none
  /-- Case 2 of R190: the partner's copy has been asked for. -/
  asked   : Bool := false
  deriving DecidableEq, Repr

end Sys2Proof.Machine
end

