-- ==== Sys2Proof/Machine/BlocksD.lean ====
section
/-! DEFINITION. State of commands in flight, of the host port and of the cipher's key cache. -/

namespace Sys2Proof.Machine

/-- An NVMe command in flight, from its fetch until its completion is posted (R228–R241). -/
structure Cmd where
  /-- 0 the PCIe controller; 1 + a the fabric controller whose admin queue is connection context a; 8192 a herd request served
  here; 8193 a mirrored write of the partner; 8194 a namespace operation of the partner; 8195 resync work. -/
  port   : Nat := 0
  sq     : Nat := 0
  cid    : Nat := 0
  /-- The 64-byte submission queue entry. -/
  sqe    : Nat := 0
  /-- TCK_COUNT_LO at fetch (R239). -/
  tick   : Nat := 0
  /-- 0 fetched; 1 to be looked up; 2 reading; 3 merging or waiting for placement; 4 placed; 5 trim waiting; 6 to be completed;
  7 with firmware; 8 an asynchronous event request held; 9 waiting for a namespace operation; 10 waiting for the partner;
  11 forwarded to the owner; 12 a delivery whose codewords have all been read; 13 waiting for write data of the fabric; 14 waiting for
  the buffer of a fallback. -/
  phase  : Nat := 0
  sct    : Nat := 0
  sc     : Nat := 0
  /-- CRD, MORE and DNR of a firmware completion (HPT_FWCPL3 bits 14:11). -/
  stx    : Nat := 0
  dw0    : Nat := 0
  dw1    : Nat := 0
  slot   : Nat := 0
  slba   : Nat := 0
  /-- LBAs. -/
  nlb    : Nat := 0
  /-- Write data as fetched from the host. -/
  data   : Nat := 0
  /-- Codewords read, by index from the first codeword that the command touches. -/
  got    : SMap Nat := []
  /-- Where its data lies in host memory, as its PRPs or SGL say (address, bytes), and the status it fails with where they are invalid (R235). -/
  segs   : List (Nat × Nat) := []
  segErr : Nat := 0
  /-- Passed to STE, TXE or the firmware ring (R233). -/
  passed : Bool := false
  /-- STE has placed a unit of it in an open stripe (R31). -/
  stored : Bool := false
  /-- Its completion is discarded (R230). -/
  dropped : Bool := false
  /-- Its index in the firmware ring. -/
  fw     : Option Nat := none
  /-- The partner's part of a mirrored write is outstanding (R288). -/
  mirror : Bool := false
  /-- The TAG and MSN of a mirrored write, and whether the partner's MACK has arrived. -/
  tag    : Nat := 0
  msn    : Option Nat := none
  acked  : Bool := false
  /-- The status of the partner's MNAK (R290), to be posted once its own units are appended. -/
  nak    : Nat := 0
  /-- Its own units are appended (R146). -/
  appended : Bool := false
  /-- A Retrieve being delivered (R273). -/
  kv     : Bool := false
  /-- The kind of a mirrored write (R288): 1 Write, 2 Write Zeroes, 3 Deallocate, 4 Store; its ranges for kinds 2 and 3. -/
  kind   : Nat := 0
  ranges : List (Nat × Nat × Nat) := []
  deriving DecidableEq, Repr

/-- A submission queue: ring base, entries, head, tail, its completion queue, priority class, the command that deletes it. -/
structure Sq where
  base : Nat := 0
  size : Nat := 0
  head : Nat := 0
  tail : Nat := 0
  cq   : Nat := 0
  prio : Nat := 0
  del  : Option Nat := none
  deriving DecidableEq, Repr

/-- A completion queue: ring base, entries, head, tail, phase tag, vector, interrupts enabled, entries posted and not signalled. -/
structure Cq where
  base : Nat := 0
  size : Nat := 0
  head : Nat := 0
  tail : Nat := 0
  phase : Bool := true
  vec  : Nat := 0
  ien  : Bool := false
  unsig : Nat := 0
  deriving DecidableEq, Repr

/-- An entry of the firmware ring that holds its slot (R239): its command, whether it is cancelled or timed out, when it was
written. -/
structure FwEnt where
  cmd  : Nat
  dead : Bool := false
  at'  : Nat := 0
  deriving DecidableEq, Repr

/-- Host port state beside HPT's registers (R220–R243). -/
structure Hpt where
  /-- Configuration space dwords that differ from their reset value, by offset. -/
  cfg   : SMap Nat := []
  /-- CC, AQA, ASQ, ACQ. -/
  cc    : Nat := 0
  aqa   : Nat := 0
  asq   : Nat := 0
  acq   : Nat := 0
  sqs   : SMap Sq := []
  cqs   : SMap Cq := []
  /-- Features by identifier; Interrupt Vector Configuration by 256 + vector (R237). -/
  feats : SMap Nat := []
  /-- MSI-X table dwords and pending bits. -/
  msix  : SMap Nat := []
  pba   : SMap Bool := []
  /-- Outstanding Asynchronous Event Requests, oldest first, and events queued for them (R243). -/
  aers  : List Nat := []
  aenQ  : List Nat := []
  fw    : SMap FwEnt := []
  /-- Commands that wait for room in the firmware ring, with their REASON. -/
  fwWait : List (Nat × Nat) := []
  /-- The transfer that runs: ring index, direction, device address, offset, length (R240). -/
  xfer  : Option (Nat × Nat × Nat × Nat × Nat) := none
  /-- The slot that a controller holds by Reserve Slot (R238): controller, slot. -/
  reserved : SMap Nat := []
  /-- Controllers that a slot's namespace is attached to. -/
  attach : SMap (List Nat) := []
  /-- Formats that run (R238): slot, step (0 waiting, 1 cleared), command, checkpoint number to wait for. -/
  format : List (Nat × Nat × Nat × Nat) := []
  /-- The queue served last and how many commands it has been served in this turn (R228). -/
  turn   : Nat × Nat := (0, 0)
  /-- Commands taken in the present round by priority class, with weighted round robin. -/
  wrr    : SMap Nat := []
  /-- An abort or a reset stops fetching (R201, R230). -/
  stopped : Bool := false
  /-- Commands whose completions have been counted as held for a full queue (R229). -/
  held   : List Nat := []
  /-- HPT_STAT and HPT_LINK in the save area of DORMANT (R231). -/
  saved  : Option (Word × Word) := none
  /-- The number of the next command in flight. -/
  nextCmd : Nat := 1
  deriving DecidableEq, Repr

/-- A key in the key cache (R318): TYPE, USE, GEN and the unwrapped material. -/
structure KeyRec where
  type : Nat
  use  : Nat
  gen  : Nat := 0
  key  : Nat
  deriving DecidableEq, Repr

end Sys2Proof.Machine
end

