-- ==== Sys2Proof/Machine/BlocksE.lean ====
section
/-! DEFINITION. State of the pair link, the Lexicon, the fabric port, herd forwarding and the cipher complex, beside their registers. -/

namespace Sys2Proof.Machine

/-- A frame sent on the pair link (R284). -/
structure PFrame where
  seq   : Nat
  type  : Nat
  flags : Nat
  msn   : Nat
  tag   : Nat
  payload : Nat
  /-- Payload bytes. -/
  n     : Nat
  deriving DecidableEq, Repr

/-- A mirrored write of the partner that is still arriving (R288). -/
structure RxWrite where
  slot  : Nat
  kind  : Nat
  lba   : Nat
  nlb   : Nat
  data  : Nat
  /-- Data bytes so far. -/
  bytes : Nat
  deriving DecidableEq, Repr

/-- Pair link state (R283–R304). -/
structure Plk where
  /-- Lanes in lock. -/
  lanes  : Nat := 0
  /-- TXSEQ of the next frame sent, and next TXSEQ expected from the partner. -/
  txseq  : Nat := 0
  rxseq  : Nat := 0
  /-- Frames sent and not yet acknowledged, oldest first. -/
  unacked : List PFrame := []
  /-- A HELLO of the partner has arrived, and it has acknowledged ours. -/
  helloIn  : Bool := false
  helloOut : Bool := false
  /-- The partner's HELLO: acting role, EPOCH, BASE, CURRENT, SYNC, MAPVALID. -/
  pActing : Nat := 0
  pEpoch : Nat := 0
  pBase  : Nat := 0
  pCurrent : Bool := false
  pSync  : Bool := false
  pMapValid : Bool := false
  /-- Heartbeat: the partner reports SPENT. -/
  pSpent : Bool := false
  /-- Link loss has been declared and not healed. -/
  lost   : Bool := false
  /-- Reachability has begun the loss timer; machine time of the last heartbeat; one arrived since the last HEARTBEAT_SEND. -/
  alive  : Bool := false
  hbAt   : Nat := 0
  hbSeen : Bool := false
  /-- HELLO has been sent since the link trained; machine time of the declaration of loss. -/
  helloSent : Bool := false
  lossAt : Nat := 0
  /-- The partner's image role, image SERIAL and herd member ID. -/
  pImage : Nat := 0
  pSerial : Nat := 0
  pHerd  : Nat := 0
  /-- A CLAIM awaits its reply; the half fences without one and claims again each second. -/
  claiming : Bool := false
  /-- MSN last assigned or received, and the highest appended with every lower one. -/
  lastMsn : Option Nat := none
  done    : List Nat := []
  /-- MSNs that this half will not place: writes refused or dropped (R290, R230). -/
  skip    : List Nat := []
  nextTag : Nat := 0
  /-- Mirrored writes of the partner that are still arriving, by TAG. -/
  rx      : SMap RxWrite := []
  /-- Change maps (R301), by slot × 2^32 + region; the partner's, received as RSMAP. -/
  map     : SMap Bool := []
  pMap    : SMap Bool := []
  /-- RSMAP words received; the source may copy. -/
  rsWords : Nat := 0
  rsReady : Bool := false
  /-- Mirrored writes placed here that the partner has not acknowledged: MSN, slot, first byte, byte after the last. -/
  outst   : List (Nat × Nat × Nat × Nat) := []
  /-- The region under copy: its reads are in flight (R303). -/
  region  : Option Nat := none
  /-- Namespace operations sent to the partner: command, TAG, status once known. -/
  nsops   : List (Nat × Nat × Option Nat) := []
  /-- Operations of the partner carried out here: command, TAG. -/
  nsPeer  : List (Nat × Nat) := []
  /-- The partner's ledger page held here (R292): its sequence number and the 16,384 bytes. -/
  ledger  : Option (Nat × Nat) := none
  /-- LREQ has been sent and awaits its answer; the copy that LRSP returned. -/
  lreq    : Bool := false
  lrsp    : Option Nat := none
  /-- Pair log (R287): record number last written, pair ID. -/
  logNo   : Nat := 0
  logSlot : Nat := 0
  /-- Operations of the pair log that have not ended, the first in hand; the pair states, each with what follows it, that wait for the records. -/
  logOps  : List FlashOp := []
  due     : List (Nat × Nat) := []
  pairId  : Nat := 0
  /-- Witness TCP connection: 0 closed, 1 SYN sent, 2 open. -/
  wit     : Nat := 0
  /-- NSID, IU and maximum size of the mirrored slots of the partner, as its HELLO gave them. -/
  pSlots  : List (Nat × Nat × Nat) := []
  deriving DecidableEq, Repr

/-- A Retrieve under delivery (R273). -/
structure Deliv where
  slot   : Nat
  /-- First codeword of the extent in the namespace, codewords, value bytes, bytes to send, bytes sent. -/
  cw     : Nat
  n      : Nat
  len    : Nat
  limit  : Nat
  sent   : Nat := 0
  /-- Delivery key index; none with NODELIV. -/
  dkey   : Option Nat
  key    : Nat
  deriving DecidableEq, Repr

/-- Lexicon state (R265–R282). -/
structure Lex where
  deliv : SMap Deliv := []
  /-- 64-byte lines of the area that the on-chip cache holds, least recently used first. -/
  cache : List Nat := []
  /-- Fallback records of commands that wait for the firmware ring: command, entry-offset-80 state (R275). -/
  fb    : SMap Nat := []
  /-- Fallbacks that wait for a buffer, by command: cause, bytes sent, snapshot. -/
  fbWait : SMap (Nat × Nat × Nat) := []
  /-- Vendor Lexicon commands that firmware has carried out: status, DW0, and what completion waits for (0 nothing, 1 the commit of LEX, 2 + k
  checkpoint k). -/
  vend  : SMap (Nat × Nat × Nat) := []
  deriving DecidableEq, Repr

/-- A connection context (R249). -/
structure Ctx where
  /-- 0 free, 1 syn-received, 2 tcp-open, 3 nvme-open, 4 bound, 5 closing. -/
  state : Nat := 0
  port  : Nat := 0
  /-- Source MAC of the SYN, the peer's address and TCP port, its family. -/
  mac   : Nat := 0
  addr  : Nat := 0
  rport : Nat := 0
  v6    : Bool := false
  /-- Sequence numbers: next expected, next to send, oldest unacknowledged. -/
  rcv   : Nat := 0
  snd   : Nat := 0
  una   : Nat := 0
  retries : Nat := 0
  /-- EVR_MTIME when the oldest unacknowledged segment was last sent or uncovered (R250). -/
  sentAt : Nat := 0
  /-- What the SYN negotiated: the peer's MSS, its window scale, timestamps, ECN (R250). -/
  mss   : Nat := 536
  wscale : Option Nat := none
  ts    : Bool := false
  ecn   : Bool := false
  /-- Congestion window and slow-start threshold; the estimate of RFC 8257 in units of 2^-10, the bytes acknowledged and those with CE feedback in its
  observation window, where that window ends, and where the round trip of the last reduction for loss ends (R250). -/
  cwnd  : Nat := 0
  ssth  : Nat := 0
  alpha : Nat := 0
  ackd  : Nat := 0
  ackCe : Nat := 0
  winEnd  : Nat := 0
  lossEnd : Nat := 0
  hdgst : Bool := false
  ddgst : Bool := false
  hpda  : Nat := 0
  maxr2t : Nat := 0
  /-- The context of its association's admin queue, and whether it is an I/O queue. -/
  assoc : Nat := 0
  io    : Bool := false
  /-- KATO in ms, and the machine time of the last admin command. -/
  kato  : Nat := 0
  last  : Nat := 0
  /-- Submission queue head reported. -/
  sqhd  : Nat := 0
  qsize : Nat := 0
  /-- CC and CSTS of a fabric controller. -/
  cc    : Nat := 0
  csts  : Nat := 0
  deriving DecidableEq, Repr

/-- Fabric port state (R246–R254). -/
structure Fab where
  ctxs  : SMap Ctx := []
  /-- Write data that a capsule's command still waits for, by command: bytes received, bytes wanted, bytes granted. -/
  h2c   : SMap (Nat × Nat × Nat) := []
  /-- TCP and I/O queue pair counts of the QUEUES record. -/
  maxCtx : Nat := 0
  maxQp  : Nat := 0
  /-- The connection's queue from which a command was taken last (R254). -/
  turn   : Nat := 0
  /-- Bytes in the receive buffer, by 8 × port + priority (R248). -/
  fill   : SMap Nat := []
  down  : Bool := false
  deriving DecidableEq, Repr

/-- A transit entry (R258): ingress port and source MAC, egress port, and the machine time at which its DEADLINE expires. -/
structure Transit where
  port : Nat
  mac  : Nat
  out  : Nat
  deadline : Nat
  deriving DecidableEq, Repr

/-- A REQ that this member serves as owner (R260). -/
structure Served where
  origin : Nat
  txid   : Nat
  port   : Nat
  mac    : Nat
  key    : Nat
  /-- Host buffer size. -/
  buf    : Nat
  /-- Hop count back is counted afresh; DEADLINE as it arrived. -/
  deadline : Nat
  deriving DecidableEq, Repr

/-- Herd forwarding state (R255–R261). -/
structure Hrd where
  /-- By ORIGIN × 2^32 + TXID. -/
  transit : SMap Transit := []
  /-- REQs sent as origin, by TXID: command, bytes received in order, machine time of sending. -/
  origin  : SMap (Nat × Nat × Nat) := []
  nextTx  : Nat := 0
  /-- REQs served as owner, by command. -/
  serve   : SMap Served := []
  deriving DecidableEq, Repr

/-- A cipher job on a sequencer (R309, R313). -/
structure CipJob where
  ch     : Nat
  /-- Ring index of the descriptor, and its 64 bytes. -/
  index  : Nat
  desc   : Nat
  /-- Registers V0–V15, key slots 1–3 as (length, key), program position in instructions, program start. -/
  v      : SMap (BitVec 128) := []
  k      : SMap (Nat × Nat) := []
  pc     : Nat := 0
  start  : Nat := 0
  /-- Input bytes used, output bytes written, instructions executed, failed check. -/
  inp    : Nat := 0
  outp   : Nat := 0
  steps  : Nat := 0
  failed : Bool := false
  /-- Which input block each register's bytes correspond to: its valid byte count. -/
  last   : Nat := 16
  /-- Ended, with its STATUS. -/
  ended  : Option Nat := none
  deriving DecidableEq, Repr

/-- Cipher complex state (R305–R322). -/
structure Cip where
  /-- Sequencers 0–3. -/
  seqs   : SMap CipJob := []
  /-- Ordinary jobs set aside at a slice point, by sequencer. -/
  saved  : SMap CipJob := []
  /-- Class of each ordinary channel (CIPHER record). -/
  cls    : SMap Nat := []
  /-- Descriptors of each channel taken and not yet completed. -/
  taken  : SMap Nat := []
  /-- Instruction memory: word i of the loaded microcode, its entry table. -/
  imem   : SMap Nat := []
  entry  : SMap Nat := []
  /-- Fuse keys programmed since manufacture: key k. -/
  fuse   : SMap Nat := []
  fuseData : SMap Word := []
  fuseRun : Option Nat := none
  /-- Round robin positions: class served last, channel of each class served last, and the class's share used. -/
  rrCls  : Nat := 0
  rrUsed : Nat := 0
  rrCh   : SMap Nat := []
  deriving DecidableEq, Repr

end Sys2Proof.Machine
end

