-- ==== Sys2Proof/Machine/Output.lean ====
section
/-! DEFINITION. What the device puts on its boundary: the model's record of outputs, in the order they appear.  No command reads it back. -/

namespace Sys2Proof.Machine

/-- One output. -/
inductive Output where
  /-- An access on the control bus or data interconnect ended with an error response: master, address. -/
  | busError (master addr : Nat)
  /-- A read answered a master outside the cores (JDP): master, address, data. -/
  | busData (master addr data : Nat)
  /-- A command on a NAND bus: channel, die index, what (OP × 16 + SUBOP of R55; 256 Reset, 257 a feature write, 258 a training at the rate that
  row gives, 259 a prefix, 260 Read ID, 261 Read Parameter Page, copy row, 262 Set Features with interface + 256 × rate), row or parameter,
  plane mask (258: the kinds of training). -/
  | nand (ch die op row planes : Nat)
  /-- A codeword burst to a die: channel, die index, plane, codeword position, ROW of its page, the 36,864 bits. -/
  | burst (ch die plane col row bits : Nat)
  /-- A frame or message on a link: which (PCIe, fabric port, pair, SMBus, debug port), its kind, its fields. -/
  | frame (link kind : String) (args : List Nat)
  deriving DecidableEq, Repr

end Sys2Proof.Machine
end

