-- ==== Sys2Proof/Machine/State.lean ====
section
/-! DEFINITION. The state of the device: plain data, holding everything the spec gives it. -/

namespace Sys2Proof.Machine

/-- Why a step stops with a fault. -/
inductive Fault where
  /-- Raised by a command that enters a case the spec lists as undefined and gives no effect for (R6); name says which one.
  Safe: nothing can be proved of what follows. -/
  | undefinedCase (name : String)
  deriving DecidableEq, Repr

/-- Why a step has no meaning. -/
inductive Refusal where
  /-- Raised by an arm of exec whose command has no meaning in this model yet. Safe: nothing can be proved of such a step. -/
  | notModelled (mnemonic : String)
  deriving DecidableEq, Repr

/-- The whole device.  A field that is the model's own, not the spec's, says so. -/
structure State where
  /-- The registers (R9, R15): the word at an offset from 0x00_4000_0000, listed where it differs from its reset value.  A word with RWS bits holds
  its staged copy here (R72). -/
  regs  : SMap Word := []
  /-- The copies in force of the RWS bits (R72), by offset. -/
  force : SMap Word := []
  /-- The pending copies (R72): the words of a commit request by the block's base, then by offset. -/
  pend  : SMap (SMap Word) := []
  /-- The high halves that a read of a LO register latches (R10), by offset. -/
  latch : SMap Word := []
  /-- Memory (R17): the listed bytes of SRAM, always-on memory, code flash and DRAM by address. -/
  mem   : List Host.Cell := []
  /-- By 8-byte SRAM word and 4-byte DRAM beat: how the stored check bits differ from those of the stored data (R323, R345). -/
  chk   : SMap Byte := []
  /-- The same for 8-byte code-flash words (R359). -/
  fchk  : SMap Byte := []
  /-- What the device has put on its boundary, oldest first.  The model's own field. -/
  out   : List Output := []
  /-- How many free values have been used.  The model's own field. -/
  free  : Nat := 0
  /-- The logical cores 0 to 7 (R375). -/
  cores : SMap Core := []
  /-- Event router (R380–R383, R386). -/
  evr   : Evr := {}
  /-- Mailboxes (R384, R385). -/
  mbx   : Mbx := {}
  /-- Fault collector (R387–R398). -/
  flt   : Flt := {}
  /-- SRAM control (R323–R330). -/
  srm   : Srm := {}
  /-- Buffer pool manager (R331–R336). -/
  bpm   : Bpm := {}
  /-- DMA engine (R337–R342). -/
  dma   : Dma := {}
  /-- DRAM controller (R343–R357). -/
  drc   : Drc := {}
  /-- Code-flash controller (R358–R364). -/
  cfl   : Cfl := {}
  /-- Boot control (R365–R374). -/
  bot   : Bot := {}
  /-- Power manager (R399–R412). -/
  pwr   : Pwr := {}
  /-- The Churn: queues, jobs, the program being built (R52–R71). -/
  tck   : Tck := {}
  /-- The 32 media channels (R79, R88–R91). -/
  chans : SMap Chan := []
  /-- The dies, by 64 × channel + die (R80–R104). -/
  dies  : SMap Die := []
  /-- ECC complex (R107–R128). -/
  ecc   : Ecc := {}
  /-- Translation engine (R129–R157). -/
  txe   : Txe := {}
  /-- Skim engine (R158–R176). -/
  skm   : Skm := {}
  /-- Stripe engine (R177–R197). -/
  ste   : Ste := {}
  /-- Checkpoint engine (R198–R219). -/
  ckp   : Ckp := {}
  /-- Commands in flight, by the model's command number (R228–R241). -/
  cmds  : SMap Cmd := []
  /-- Host port (R220–R245). -/
  hpt   : Hpt := {}
  /-- The key cache (R318), by entry. -/
  keys  : SMap KeyRec := []
  /-- Pair link (R283–R304). -/
  plk   : Plk := {}
  /-- Lexicon engine (R263–R282). -/
  lex   : Lex := {}
  /-- Fabric ports (R246–R254). -/
  fab   : Fab := {}
  /-- Herd router (R255–R262). -/
  hrd   : Hrd := {}
  /-- Cipher engine (R305–R321). -/
  cip   : Cip := {}
  /-- Performance monitor (R413–R420). -/
  pmu   : Pmu := {}
  /-- Debug port (R421–R427). -/
  jdp   : Jdp := {}
  /-- Pages that DRAM writes have dirtied (R203). -/
  dirty : CkpDirty := {}
  /-- Commands that wait, the next one first.  The model's own field. -/
  pending : List Instr := []
  deriving DecidableEq, Repr

/-- The device right after power-on (the row POWER_ON, R20, R28), with nothing on its boundary and no command waiting.  Every register is at the
reset value its map gives, but for those that entering BOOT changes: SRM_STAT, BOT_CAUSE, EVR_RAW (EV_PWR_MODE), EVR_CORE of cores 1 to 7, which are held
(R368), and PWR_DOMSTAT.  Register values that the spec does not give are those of notes/assumptions/2.md.  Memory lists nothing. -/
def State.reset : State :=
  { regs := [(0x00E00008, 1), (0x01300008, 1), (0x01500128, 1), (0x0150046C, 0x82), (0x015004AC, 0x82), (0x015004EC, 0x82), (0x0150052C, 0x82),
      (0x0150056C, 0x82), (0x015005AC, 0x82), (0x015005EC, 0x82), (0x01800010, 0x4B)],
    cores := [(0, { released := true })],
    pwr := { powered := true, resetN := true } }

end Sys2Proof.Machine
end

