-- ==== Sys2Proof/Machine/Ops.lean ====
section
/-! DEFINITION. The named operations over registers, time, free values, events and faults. -/

namespace Sys2Proof.Machine

/-- The outcome of a meaning. -/
abbrev Out := Host.Outcome State Fault Refusal

/-! ### Registers -/

/-- The word of register r at indices i, j, k (R9). -/
def State.reg (s : State) (r : Reg) (i : Nat := 0) (j : Nat := 0) (k : Nat := 0) : Word := mget r.reset s.regs (r.at i j k)

/-- Write a word of register r; only bits that hold a value are kept (R11, R12). -/
def State.setReg (s : State) (r : Reg) (v : Word) (i : Nat := 0) (j : Nat := 0) (k : Nat := 0) : State :=
  { s with regs := mput r.reset s.regs (r.at i j k) (v &&& r.mask) }

/-- A field's stored value: for an RWS field the staged copy (R72). -/
def State.fld (s : State) (f : Fld) (i : Nat := 0) (j : Nat := 0) (k : Nat := 0) : Nat :=
  nbits (s.reg f.reg i j k).toNat f.lo f.width

/-- A field is not 0. -/
def State.flag (s : State) (f : Fld) (i : Nat := 0) (j : Nat := 0) (k : Nat := 0) : Bool := s.fld f i j k != 0

/-- The bits of a field. -/
def Fld.bits (f : Fld) : Nat := (2 ^ f.width - 1) <<< f.lo

/-- Replace a field within a word. -/
def putField (w : Word) (f : Fld) (v : Nat) : Word :=
  (w &&& ~~~(BitVec.ofNat 32 f.bits)) ||| BitVec.ofNat 32 ((v % 2 ^ f.width) <<< f.lo)

/-- A ring's SIZE outside its range is taken as the nearer bound (R450). -/
def clampSize (r : Reg) (v : Word) : Word :=
  let f (lo hi : Nat) : Word := putField v ⟨r, 16, 4⟩ (max lo (min hi (nbits v.toNat 16 4)))
  let is (x : Reg) : Bool := r.off = x.off
  if is FCH_DRING_HI then f 6 16 else if is FCH_CRING_HI || is ECC_RRING_HI then f 4 16 else if is HPT_FWRING_HI || is EVR_RING_HI then f 4 12
  else if is CIP_RING_HI || is CIP_RING_HIP then f 2 12 else v

/-- Write a field, the value cut to its width. -/
def State.setFld (s : State) (f : Fld) (v : Nat) (i : Nat := 0) (j : Nat := 0) (k : Nat := 0) : State :=
  s.setReg f.reg (putField (s.reg f.reg i j k) f v) i j k

/-- The word in force of register r (R72): its RWS bits as last committed. -/
def State.inForce (s : State) (r : Reg) (i : Nat := 0) (j : Nat := 0) (k : Nat := 0) : Word :=
  mget r.reset s.force (r.at i j k) &&& r.rws

/-- Field f is an RWS field. -/
def Fld.staged (f : Fld) : Bool := (f.reg.rws.toNat &&& f.bits) != 0

/-- The value of a field that the hardware acts on: the in-force copy of an RWS field (R72), the stored value of any other. -/
def State.cur (s : State) (f : Fld) (i : Nat := 0) (j : Nat := 0) (k : Nat := 0) : Nat :=
  if f.staged then nbits (s.inForce f.reg i j k).toNat f.lo f.width else s.fld f i j k

/-- The value in force is not 0. -/
def State.on (s : State) (f : Fld) (i : Nat := 0) (j : Nat := 0) (k : Nat := 0) : Bool := s.cur f i j k != 0

/-- Set an RWS field and its in-force copy at once, as LAY does in CONFIG (R44, R48). -/
def State.install (s : State) (f : Fld) (v : Nat) (i : Nat := 0) (j : Nat := 0) (k : Nat := 0) : State :=
  let s := s.setFld f v i j k
  let a := f.reg.at i j k
  { s with force := mput f.reg.reset s.force a (putField (mget f.reg.reset s.force a) f v) }

/-- Count up by n, wrapping at the field's width. -/
def State.inc (s : State) (f : Fld) (n : Nat := 1) (i : Nat := 0) (j : Nat := 0) : State :=
  s.setFld f (s.fld f i j + n) i j

/-- The 64-bit value of a LO and HI register pair. -/
def State.pair (s : State) (lo hi : Fld) (i : Nat := 0) (j : Nat := 0) : Nat := s.fld lo i j + 2 ^ 32 * s.fld hi i j

/-- Write a LO and HI register pair. -/
def State.setPair (s : State) (lo hi : Fld) (v : Nat) (i : Nat := 0) (j : Nat := 0) : State :=
  (s.setFld lo (v % 2 ^ 32) i j).setFld hi (v / 2 ^ 32) i j

/-- Count a 64-bit LO and HI pair up. -/
def State.incPair (s : State) (lo hi : Fld) (n : Nat := 1) : State := s.setPair lo hi (s.pair lo hi + n)

/-! ### Outputs and free values -/

/-- Put an output on the boundary. -/
def State.emit (s : State) (o : Output) : State := { s with out := s.out ++ [o] }

/-- The next free value as a number, and the state that has used it. -/
def State.fresh (s : State) : Nat × State := (Config.freeNat s.free, { s with free := s.free + 1 })

/-- The next free value as a word of w bits, and the state that has used it. -/
def State.freshBits (s : State) (w : Nat) : BitVec w × State := (Config.freeValue w s.free, { s with free := s.free + 1 })

/-! ### Mode, domains and time -/

/-- Modes (R25). -/
def mBOOT : Nat := 0
def mCONFIG : Nat := 1
def mSERVICE : Nat := 2
def mSOLO : Nat := 3
def mDRAIN : Nat := 4
def mDORMANT : Nat := 5
def mSPENT : Nat := 6
def mRECOVERY : Nat := 7

/-- The mode in force (R25). -/
def State.mode (s : State) : Nat := s.fld PWR_MODE_CUR

/-- Domains (R44): AON, CTRL, MEDIA, HOST, FABRIC, DRAM, CIPHER, LEX. -/
def dAON : Nat := 0
def dCTRL : Nat := 1
def dMEDIA : Nat := 2
def dHOST : Nat := 3
def dFABRIC : Nat := 4
def dDRAM : Nat := 5
def dCIPHER : Nat := 6
def dLEX : Nat := 7

/-- Domain d is powered (PWR_DOMSTAT.ON). -/
def State.domOn (s : State) (d : Nat) : Bool := nbit (s.fld PWR_DOMSTAT_ON) d

/-- The MEDIA quad of a channel is powered (R79: eight channels to a quad). -/
def State.quadOn (s : State) (ch : Nat) : Bool := nbit (s.fld PWR_DOMSTAT_QUAD) (ch / 8)

/-- EVR_MTIME. -/
def State.mtime (s : State) : Nat := s.pair EVR_MTIME_LO_COUNT EVR_MTIME_HI_COUNT

/-- The tick period in reference cycles (R52). -/
def State.tickCycles (s : State) : Nat := 100 * s.cur TCK_PERIOD_PERIOD

/-! ### Performance monitor (R413–R416) -/

/-- The PMU counts: its domain is up, it is enabled and not frozen (R413). -/
def State.pmuOn (s : State) : Bool := s.flag PMU_GCTL_ENA && !s.flag PMU_GCTL_FROZEN && s.domOn dCTRL

/-- Interconnect cycles in one 100 MHz reference cycle at the clock in force (R33). -/
def State.busCycles (s : State) : Nat :=
  let ps := s.pwr.clk
  if ps = 0 then 12 else if ps = 1 then 9 else if ps = 2 then 6 else 3

/-- The counters whose MODE is not 0, in order. -/
def State.pmuActive (s : State) : List Nat :=
  s.regs.filterMap fun e =>
    if PMU_SEL.off ≤ e.1 && e.1 < PMU_SEL.off + 4096 && (e.1 - PMU_SEL.off) % 16 = 0 && nbits e.2.toNat 12 2 != 0 then some ((e.1 - PMU_SEL.off) / 16) else none

/-- Counter i takes its own source: it is no chained counter (R416). -/
def State.pmuOwn (s : State) (i : Nat) : Bool := !(s.flag PMU_SEL_CHAIN i && i != 0)

/-- Add k to counter i; an overflow sets its PMU_OVF bit, is due to be reported, and carries into counter i + 1 where that is chained and enabled
(R416).  fuel bounds the chain. -/
def pmuAdd (fuel i k : Nat) (s : State) : State :=
  match fuel with
  | 0 => s
  | fuel + 1 =>
    if k = 0 then s else
    let v := s.pair PMU_CNT_LO_COUNT PMU_CNT_HI_COUNT i + k
    let s := s.setPair PMU_CNT_LO_COUNT PMU_CNT_HI_COUNT (v % 2 ^ 48) i
    if v < 2 ^ 48 then s else
    let s := s.setFld PMU_OVF_OVF (s.fld PMU_OVF_OVF (i / 32) ||| 2 ^ (i % 32)) (i / 32)
    let s := { s with pmu.due := s.pmu.due ++ [i] }
    if i < 255 && s.flag PMU_SEL_CHAIN (i + 1) && s.flag PMU_SEL_MODE (i + 1) then pmuAdd fuel (i + 1) (v / 2 ^ 48) s else s

/-- Counters in edge or sum mode that count EVENT src add k (R414). -/
def pmuCount (src k : Nat) (s : State) : State :=
  if !s.pmuOn then s else
  s.pmuActive.foldl (fun s i =>
    if i < 192 && s.pmuOwn i && s.fld PMU_SEL_EVENT i = src && s.fld PMU_SEL_MODE i != 2 then pmuAdd 256 i k s else s) s

/-- A value that is between 0 and n and that the spec gives no rule for. -/
def upTo (n : Nat) (s : State) : State × Nat :=
  let (v, s) := s.fresh
  (s, v % (n + 1))

/-- The power domain of an event source's block (R15, R383). -/
def evDomain (n : Nat) : Nat :=
  if n < 16 then dCTRL else if n < 64 then dMEDIA else if n < 128 then dCTRL else if n < 144 then dHOST
  else if n < 176 then dFABRIC else if n < 192 then dLEX else if n < 208 then dFABRIC else if n < 224 then dCIPHER
  else if n < 272 then dCTRL else if n < 288 then dDRAM else if n < 320 then dCTRL else if n < 352 then dAON
  else if n < 368 then dCTRL else if n < 384 then dAON else dCTRL

/-- The value of EVENT e in a cycle in which no command acts (R414); the spec gives no rule for when a bus, a decoder, an AES core, a data beat or a stall is
in progress in a cycle: those values are free within their ranges.  The highest value comes with it. -/
def pmuValue (e : Nat) (s : State) : State × Nat :=
  if e < 0x280 then (s, b2n (s.domOn (evDomain e) && nbit (s.fld EVR_RAW_RAISED (e / 32)) (e % 32)))
  else if e = 0x400 then (s, 1)
  else if 0x410 ≤ e && e < 0x418 then (s, b2n ((mget {} s.cores (e - 0x410)).wfi && !s.flag EVR_CORE_HALTED (e - 0x410)))
  else if 0x418 ≤ e && e < 0x420 then upTo 1 s
  else if 0x420 ≤ e && e < 0x440 then if s.domOn dMEDIA then upTo 1 s else (s, 0)
  else if e = 0x440 then (s, if s.domOn dMEDIA then (s.ecc.bufs.filter fun b => b.2.taken && !b.2.soft).length else 0)
  else if e = 0x441 then (s, if s.domOn dMEDIA then (s.ecc.bufs.filter fun b => b.2.taken && b.2.soft).length else 0)
  else if e = 0x442 then if s.domOn dCIPHER then upTo 16 s else (s, 0)
  else if e = 0x443 then (s, ((List.range 64).filter fun n => s.fld DMA_CHSTAT_STATE n = 1).length)
  else if 0x448 ≤ e && e < 0x44C then if s.domOn dDRAM then upTo 1 s else (s, 0)
  else if e = 0x44C then if s.domOn dHOST then upTo 1 s else (s, 0)
  else if e = 0x44D then if s.domOn dFABRIC then upTo 1 s else (s, 0)
  else (s, 0)

/-- The occupancy of queue q of R415; none where the table does not list it.  The queues of DRC have no state of their own: their occupancies are free within
their range. -/
def pmuOccupancy (q : Nat) (s : State) : State × Option Nat :=
  if q < 128 then (s, some (s.tck.jobs.filter fun j => j.2.ch = q % 32 && j.2.q = q / 32 && j.2.phase != 5).length)
  else if q = 128 then (s, some ((s.ecc.softRes.map (·.2)).foldl (· + ·) 0))
  else if q = 129 then (s, some s.ecc.bufs.length)
  else if q = 130 then (s, some s.txe.place.length)
  else if q = 131 then (s, some (s.ste.groups.filter (·.2.led)).length)
  else if q = 132 then (s, some (s.hrd.transit.length + s.hrd.origin.length))
  else if q = 133 then (s, some s.hpt.fw.length)
  else if 136 ≤ q && q < 144 then
    let (s, v) := upTo 64 s
    (s, some v)
  else if 144 ≤ q && q < 148 then (s, some (s.fld BPM_PCFG_COUNT (q - 144) - s.fld BPM_PFREE_FREE (q - 144)))
  else if 148 ≤ q && q < 156 then
    let n := q - 148
    let size := 2 ^ s.fld EVR_RING_HI_SIZE n
    (s, some ((s.fld EVR_RWR_INDEX n + size - s.fld EVR_RRD_INDEX n % size) % size))
  else (s, none)

/-- Counter i over c interconnect cycles in which no command acts (R414, R415). -/
def pmuTick (c i : Nat) (s : State) : State :=
  if !s.pmuOwn i then s
  else if 192 ≤ i then
    let (s, o) := pmuOccupancy (s.fld PMU_THR_QUEUE i) s
    match o with
    | some v => if s.fld PMU_THR_N i < v then pmuAdd 256 i c s else s
    | none => s
  else
    let e := s.fld PMU_SEL_EVENT i
    let mode := s.fld PMU_SEL_MODE i
    if e < 0x280 && mode != 2 then s else
    let (s, v) := pmuValue e s
    if mode = 3 then pmuAdd 256 i (v * c) s
    else if mode = 2 then (if v = 0 then s else pmuAdd 256 i c s)
    else
      let was := mget false s.pmu.prev i
      let s := { s with pmu.prev := mput false s.pmu.prev i (v != 0) }
      if v != 0 && !was then pmuAdd 256 i 1 s else s

/-- The PMU over n reference cycles. -/
def pmuPass (n : Nat) (s : State) : State :=
  if s.pmuOn && n != 0 then s.pmuActive.foldl (fun s i => pmuTick (n * s.busCycles) i s) s else s

/-- n reference cycles pass: machine time advances, and the position within the tick while the Churn runs (R21, R52). -/
def State.pass (s : State) (n : Nat) : State :=
  let s := (pmuPass n s).setPair EVR_MTIME_LO_COUNT EVR_MTIME_HI_COUNT (s.mtime + n)
  if s.mode = mDORMANT then s else s.setFld TCK_PHASE_CYCLES (min (s.fld TCK_PHASE_CYCLES + n) s.tickCycles)

/-! ### Raw memory -/

/-- What an address that memory does not list reads as: the boot ROM's own contents, erased code flash, and 0 elsewhere
(R328 zeroes SRAM; the spec gives always-on memory and DRAM no contents at power-on). -/
def memDefault (a : Nat) : Byte :=
  if a < 0x40000 then Config.bootRom a else if 0x10000000 ≤ a && a < 0x11000000 then 0xFF else 0

/-- The stored byte at address a. -/
def State.byte (s : State) (a : Nat) : Byte := mget (memDefault a) s.mem a

/-- Store a byte, keeping the canonical form. -/
def memPut (m : List Host.Cell) (a : Nat) (b : Byte) : List Host.Cell := mput (memDefault a) m a b

/-- Store bytes at rising addresses. -/
def memPuts (m : List Host.Cell) (a : Nat) : List Byte → List Host.Cell
  | [] => m
  | b :: r => memPuts (memPut m a b) (a + 1) r

/-- The stored bytes at a … a + n − 1 as a little-endian number. -/
def State.rawNat (s : State) (a n : Nat) : Nat := ofLe ((List.range n).map fun i => s.byte (a + i))

/-- The memory is in canonical form. -/
def Memory.wf (m : List Host.Cell) : Bool := sortedFrom none m && m.all fun c => c.2 != memDefault c.1

/-- The check-bit unit an address belongs to: an 8-byte SRAM word (R323) or a 4-byte DRAM beat (R345). -/
def chkUnit (a : Nat) : Nat := if a < 0x1000000000 then a - a % 8 else a - a % 4

/-- Mark the check bits of every unit in a … a + n − 1 valid. -/
def clearChk (c : SMap Byte) (a n : Nat) : SMap Byte := c.filter fun e => !(chkUnit a ≤ e.1 && e.1 < a + n)

/-- CKP marks the 16 KiB pages of regions 1 to 8 that a DRAM write touches (R203). -/
def ckpMark (s : State) (a n : Nat) : State :=
  if a < 0x1000000000 || n = 0 then s else
  (rangeFrom 1 8).foldl (fun s r =>
    let base := s.fld CKP_REGION_LO_BASE_LO r + 2 ^ 32 * s.fld CKP_REGION_HI_BASE_HI r
    let pages := s.fld CKP_REGION_LEN_PAGES r
    if pages = 0 || a + n ≤ base || base + pages * 16384 ≤ a then s else
      let p0 := (max a base - base) / 16384
      let p1 := min ((a + n - 1 - base) / 16384) (pages - 1)
      { s with dirty.pages := (rangeFrom p0 (p1 + 1 - p0)).foldl (fun m p => mput false m (r * 2 ^ 32 + p) true) s.dirty.pages }) s

/-- A core's reservation lies in the bytes a … a + n − 1. -/
def Core.reserves (c : Core) (a n : Nat) : Bool :=
  match c.resv with
  | some r => a < r + 8 && r < a + n
  | none => false

/-- A store ends every reservation of the bytes it touches (the A extension of R375). -/
def breakResv (s : State) (a n : Nat) : State :=
  if s.cores.any fun e => e.2.reserves a n then
    { s with cores := s.cores.map fun e => (e.1, if e.2.reserves a n then { e.2 with resv := none } else e.2) }
  else s

/-- Write n bytes of v at a with fresh check bits, without any access check. -/
def State.poke (s : State) (a n v : Nat) : State :=
  breakResv (ckpMark { s with mem := memPuts s.mem a (leBytes n v), chk := clearChk s.chk a n } a n) a n

/-! ### Address map and access map -/

/-- Kinds of address (R17). -/
inductive Region where
  | rom | flash | sram | regs | aon | dram | none
  deriving DecidableEq, Repr

/-- Installed DRAM in bytes (R18). -/
def State.dramBytes (s : State) : Nat := s.fld DRC_CFG_GIB * 2 ^ 30

/-- The region of an address (R17, R18). -/
def State.region (s : State) (a : Nat) : Region :=
  if a < 0x40000 then .rom
  else if 0x10000000 ≤ a && a < 0x11000000 then .flash
  else if 0x20000000 ≤ a && a < 0x26000000 then .sram
  else if 0x40000000 ≤ a && a < 0x41B00000 then .regs
  else if 0x80000000 ≤ a && a < 0x80010000 then .aon
  else if 0x1000000000 ≤ a && a < 0x1000000000 + s.dramBytes then .dram
  else .none

/-- Access types, with their code in the fault collector's records (FLT_FIRST1.TYPE). -/
inductive Acc where
  | read | write | fetch | amo
  deriving DecidableEq, Repr

/-- The code of an access type: 0 read, 1 write, 2 fetch; an AMO is recorded as the write it makes. -/
def Acc.code : Acc → Nat
  | .read => 0
  | .write => 1
  | .fetch => 2
  | .amo => 1

/-- Region i of the access map is enabled and contains address a (R370). -/
def State.mapHit (s : State) (a i : Nat) : Bool :=
  let ena := if i < 32 then nbit (s.fld BOT_RENA_LO_ENA) i else nbit (s.fld BOT_RENA_HI_ENA) (i - 32)
  ena && s.fld BOT_RBASE_PAGE i ≤ s.fld BOT_RLIM_PAGE i && s.fld BOT_RBASE_PAGE i ≤ a / 4096 && a / 4096 ≤ s.fld BOT_RLIM_PAGE i

/-- The access map allows master m an access of type ty at address a (R370, R372). -/
def State.mapAllows (s : State) (m : Nat) (ty : Acc) (a : Nat) : Bool :=
  if s.flag BOT_STAT_SEALED then
    match (List.range 64).find? (s.mapHit a) with
    | none => false
    | some i =>
      let r := nbit (s.fld BOT_RR_MASTERS i) m
      let w := nbit (s.fld BOT_RW_MASTERS i) m
      match ty with
      | .read => r
      | .write => w
      | .fetch => m < 8 && nbit (s.fld BOT_RX_MASTERS i) m
      | .amo => r && w
  else m != 8

/-- The pages that n bytes at a touch. -/
def pagesOf (a n : Nat) : List Nat := rangeFrom (a / 4096) ((a + max n 1 - 1) / 4096 + 1 - a / 4096)

/-- The access map allows every page of a range. -/
def State.mapAllowsAll (s : State) (m : Nat) (ty : Acc) (a n : Nat) : Bool :=
  (pagesOf a n).all fun p => s.mapAllows m ty (p * 4096)

/-! ### Events -/

/-- The 16 bytes of an event record (R382). -/
def evRecord (src vec prio phase count payload : Nat) : Nat :=
  (src % 1024 + vec % 64 * 2 ^ 10 + prio % 16 * 2 ^ 16 + phase % 2 * 2 ^ 31) + count % 2 ^ 32 * 2 ^ 32 + payload % 2 ^ 64 * 2 ^ 64

/-- Master m can write a record of n bytes at address a (R451). -/
def State.ringWritable (s : State) (m a n : Nat) : Bool :=
  (match s.region a with | .sram => true | .dram => true | .aon => true | _ => false)
    && s.region (a + n - 1) = s.region a && s.mapAllowsAll m .write a n

/-- Write an event record into core n's ring, or discard it when the ring is full (R382).  Answers the address of a write that
ended with an error response (R451), and whether the ring was full. -/
def evPut (s : State) (n src vec prio payload : Nat) : State × Option Nat × Bool :=
  let size := 2 ^ s.fld EVR_RING_HI_SIZE n
  let wr := s.fld EVR_RWR_INDEX n
  let next := (wr + 1) % size
  if next = s.fld EVR_RRD_INDEX n % size then
    (s.setFld EVR_STAT_RECOVF (s.fld EVR_STAT_RECOVF ||| 2 ^ n), none, true)
  else
    let phase := s.fld EVR_RWR_PHASE n
    let a := s.fld EVR_RING_LO_ADDR n + 2 ^ 32 * s.fld EVR_RING_HI_ADDR n + 16 * wr
    let ok := s.ringWritable n a 16
    let s' := if ok then s.poke a 16 (evRecord src vec prio phase (s.fld TCK_COUNT_LO_COUNT) payload) else s
    let s' := s'.setFld EVR_RWR_INDEX next n
    let s' := if next = 0 then s'.setFld EVR_RWR_PHASE (1 - phase) n else s'
    (s', if ok then none else some a, false)

/-- Raise source src with its record payload (R380, R381).  Answers the core and address of a record write that failed, and
whether the target ring was full. -/
def raise1 (s : State) (src payload : Nat) : State × Option (Nat × Nat) × Bool :=
  if !evAssigned src || !s.domOn (evDomain src) then (s, none, false) else
  let s := pmuCount src 1 (s.setFld ⟨EVR_RAW, src % 32, 1⟩ 1 (src / 32))
  if !s.flag EVR_ROUTE0_ENA src then (s, none, false) else
  let n := s.fld EVR_ROUTE0_CORE src
  let vec := s.fld EVR_ROUTE0_VEC src
  let prio := s.fld EVR_ROUTE1_PRIO src
  let s := if vec < 32 then s.setFld EVR_PEND_LO_VEC (s.fld EVR_PEND_LO_VEC n ||| 2 ^ vec) n
           else s.setFld EVR_PEND_HI_VEC (s.fld EVR_PEND_HI_VEC n ||| 2 ^ (vec - 32)) n
  let s := { s with evr.prio := mmod 0 s.evr.prio (n * 64 + vec) (max prio) }
  if !s.flag EVR_ROUTE0_REC src then (s, none, false) else
  let (s, f, full) := evPut s n src vec prio payload
  (s, f.map fun a => (n, a), full)

/-- Raise sources in turn; keep the first record write that failed.  A full ring raises EV_EVR_RECOVF in its turn (R382),
whose own record is then discarded without a further raise. -/
def raises : List (Nat × Nat) → State → State × Option (Nat × Nat)
  | [], s => (s, none)
  | (src, pl) :: r, s =>
    let (s, f, full) := raise1 s src pl
    let s := if full then (raise1 s EV_EVR_RECOVF 0).1 else s
    let (s, f') := raises r s
    (s, f.or f')

/-! ### The fault collector -/

/-- Reaction of fault line l (R394). -/
def State.reaction (s : State) (l : Nat) : Nat :=
  if l < 16 then nbits (s.reg FLT_REACT0).toNat (2 * l) 2 else nbits (s.reg FLT_REACT1).toNat (2 * (l - 16)) 2

/-- FLT_STAT.FAULT and FAULT_N follow the latched lines and their reactions (R395). -/
def fltSettle (s : State) : State :=
  let lines := s.fld FLT_LINE_LINES
  let fault := (List.range 32).any fun l => nbit lines l && s.reaction l != 0
  let s := s.setFld FLT_STAT_FAULT (b2n fault)
  { s with flt.faultN := fault }

/-- Write one 16-byte fault record at four registers of indices i (R392, R393). -/
def fltRecord (s : State) (r0 r1 r2 r3 : Reg) (i line addr master ty : Nat) : State :=
  let t := s.mtime
  let w1 := addr / 2 ^ 32 % 256 + master % 32 * 2 ^ 8 + ty % 4 * 2 ^ 13 + line % 32 * 2 ^ 16 + 2 ^ 31
  (((s.setReg r0 (BitVec.ofNat 32 addr) i).setReg r1 (BitVec.ofNat 32 w1) i).setReg r2 (BitVec.ofNat 32 t) i).setReg r3 (BitVec.ofNat 32 (t / 2 ^ 32)) i

/-- Latch, record and react to an occurrence on a line (R391, R394); answers the events it raises (the records of EV_FLT_FIRST
and EV_FLT_ERROR carry the line number and the history index). -/
def fltLatch (s : State) (line addr master ty : Nat) : State × List (Nat × Nat) :=
  let s := s.setFld FLT_LINE_LINES (s.fld FLT_LINE_LINES ||| 2 ^ line)
  let i := s.fld FLT_HISTWR_INDEX
  let ovf := mget false s.flt.unread i
  let s := fltRecord s FLT_HIST0 FLT_HIST1 FLT_HIST2 FLT_HIST3 i line addr master ty
  let s := { s with flt.unread := mput false s.flt.unread i true }
  let s := s.setFld FLT_HISTWR_INDEX (i + 1)
  let s := if ovf then s.setFld FLT_STAT_HISTOVF 1 else s
  let pl := line + 32 * i
  let first := !s.flag FLT_STAT_FIRST
  let s := if first then (fltRecord s FLT_FIRST0 FLT_FIRST1 FLT_FIRST2 FLT_FIRST3 0 line addr master ty).setFld FLT_STAT_FIRST 1 else s
  let s := s.inc FLT_ERRCNT_COUNT
  let r := s.reaction line
  let s := fltSettle s
  let m := s.mode
  let s := if r = 2 && m != mBOOT && m != mCONFIG && m != mRECOVERY then { s with pwr.recovDue := some 6 } else s
  let s := if r = 3 then { s with flt.bodDrive := true, flt.resetDue := s.flt.resetDue || s.flag CKP_STAT_QUIESCED } else s
  (s, (if ovf then [(EV_FLT_HISTOVF, 0)] else []) ++ [(EV_FLT_ERROR, pl)] ++ (if first then [(EV_FLT_FIRST, pl)] else []))

/-- Count a denial by the sealed map: BOT_DENYCNT, BOT_STAT.DENY; the record of EV_BOT_DENY carries the address, the master
and the access type (R371); a denial of JDP also raises EV_JDP_DENY (R427). -/
def denyMark (s : State) (a m ty : Nat) : State × List (Nat × Nat) :=
  ((s.inc BOT_DENYCNT_COUNT).setFld BOT_STAT_DENY 1,
   (EV_BOT_DENY, a % 2 ^ 40 + m % 32 * 2 ^ 40 + ty % 4 * 2 ^ 45) :: (if m = 8 then [(EV_JDP_DENY, a % 2 ^ 40)] else []))

/-- Raise sources.  A record write that ends with an error response is an access fault of line 22 (R451); further failures while
that occurrence is being reported merge with it (R387). -/
def raiseAll (es : List (Nat × Nat)) (s : State) : State :=
  match raises es s with
  | (s, none) => s
  | (s, some (m, a)) =>
    let denied := !s.mapAllows m .write a
    let (s, e1) := if denied then denyMark s a m 1 else (s, [])
    let (s, e2) := fltLatch s 22 a m 1
    (raises (e1 ++ e2) s).1

/-- Raise one source (R380). -/
def raise (src : Nat) (payload : Nat) (s : State) : State := raiseAll [(src, payload)] s

/-- An occurrence on a fault line (R391). -/
def occur (line addr master ty : Nat) (s : State) : State :=
  let (s, es) := fltLatch s line addr master ty
  raiseAll es s

/-- An access ends with an error response that the fault collector records on line 22 (R18, R19, R449, R451). -/
def accessError (m : Nat) (ty : Acc) (a : Nat) (s : State) : State :=
  (occur 22 a m ty.code s).emit (.busError m a)

/-- An access is denied by the access map (R371), or is one of JDP before the seal (R372: an error response, not a denial). -/
def accessDenied (m : Nat) (ty : Acc) (a : Nat) (s : State) : State :=
  if s.flag BOT_STAT_SEALED then
    let (s, e1) := denyMark s a m ty.code
    let (s, e2) := fltLatch s 22 a m ty.code
    (raiseAll (e1 ++ e2) s).emit (.busError m a)
  else s.emit (.busError m a)

end Sys2Proof.Machine
end

