-- ==== Sys2Proof/Machine/MemOps.lean ====
section
/-! DEFINITION. Accesses to memory by any bus master: the address map (R17–R19), the access map (R370–R372), SRAM words (R325–R327, R330), DRAM lines (R344–R346) with their banks (R354, R355), code-flash words (R359, R361, R364), always-on memory and boot ROM. -/

namespace Sys2Proof.Machine

/-- How an access ends: with data, with an error response (info is its mfaultinfo code, R376), or not yet. -/
inductive MemR where
  | ok (v : Nat)
  | err (info : Nat)
  | wait
  deriving DecidableEq, Repr

/-! ### SRAM -/

/-- Test mode applies to an access by master m at address a (R330). -/
def State.sramTest (s : State) (m a : Nat) : Bool :=
  s.flag SRM_TEST_ENA && m < 8 && s.fld SRM_TEST_CORE = m && s.fld SRM_TEST_BANK = (a - 0x20000000) / 0x100000

/-- The record of an SRM event: the byte offset and the master ID. -/
def srmPayload (a m : Nat) : Nat := (a - 0x20000000) % 2 ^ 27 + m % 32 * 2 ^ 27

/-- A corrected SRAM read (R325): count, record, and the event at most once per tick boundary. -/
def srmCorrected (s : State) (m a : Nat) : State :=
  let s := (s.inc SRM_CECNT_COUNT).setFld SRM_STAT_CE 1
  let s := (s.setFld SRM_CEADDR_OFFSET (a - 0x20000000)).setFld SRM_CEADDR_MASTER m
  if s.srm.ceTick then s else raise EV_SRM_CE (srmPayload a m) { s with srm.ceTick := true }

/-- An uncorrectable SRAM read (R327). -/
def srmUncorrectable (s : State) (m a : Nat) (ty : Acc) : State :=
  let s := if s.flag SRM_STAT_UE then s else (s.setFld SRM_UEADDR_OFFSET (a - 0x20000000)).setFld SRM_UEADDR_MASTER m
  let s := (s.setFld SRM_STAT_UE 1).inc SRM_UECNT_COUNT
  occur 16 a m ty.code (raise EV_SRM_UNCOR (srmPayload a m) s)

/-- Read the SRAM word at the 8-byte-aligned address a, decoded (R325, R327).  back: a corrected word is written back. -/
def sramWord (s : State) (m : Nat) (ty : Acc) (a : Nat) (back : Bool) : State × Option Nat :=
  let d := s.rawNat a 8
  let diff := (mget 0 s.chk a).toNat
  match eccDecode 7 71 diff with
  | .clean => (s, some d)
  | .bad => (srmUncorrectable s m a ty, none)
  | .fixCheck =>
    let s := if back then { s with chk := mdel s.chk a } else s
    (srmCorrected s m a, some d)
  | .fixData j =>
    let d := d ^^^ 2 ^ j
    let s := if back then s.poke a 8 d else s
    (srmCorrected s m a, some d)

/-- Read an SRAM word as master m: raw in test mode (R330), else decoded with the write-back that SRM_CTL.WBACK selects. -/
def sramRead1 (s : State) (m : Nat) (ty : Acc) (a : Nat) : State × Option Nat :=
  if s.sramTest m a && s.flag SRM_TEST_RAWRD then
    let d := s.rawNat a 8
    (s.setFld SRM_TESTRD_RDCHK (chk72 d ^^^ (mget 0 s.chk a).toNat), some d)
  else sramWord s m ty a (s.on SRM_CTL_WBACK)

/-- The 8-byte words that a … a + n − 1 touch. -/
def wordsOf (a n : Nat) : List Nat := (rangeFrom (a / 8) ((a + max n 1 - 1) / 8 + 1 - a / 8)).map (8 * ·)

/-- Read words in turn with f until one fails; the words as one little-endian number. -/
def readWords (f : State → Nat → State × Option Nat) : List Nat → State → State × Option Nat
  | [], s => (s, some 0)
  | a :: r, s =>
    match f s a with
    | (s, none) => (s, none)
    | (s, some d) =>
      match readWords f r s with
      | (s, none) => (s, none)
      | (s, some h) => (s, some (d + 2 ^ 64 * h))

/-- The n bytes from a out of the words that cover them. -/
def cutBytes (a n v : Nat) : Nat := v / 2 ^ (8 * (a % 8)) % 2 ^ (8 * n)

/-- Read n bytes of SRAM. -/
def sramRead (s : State) (m : Nat) (ty : Acc) (a n : Nat) : State × MemR :=
  match readWords (fun s w => sramRead1 s m ty w) (wordsOf a n) s with
  | (s, some v) => (s, .ok (cutBytes a n v))
  | (s, none) => (s, .err 1)

/-- Write bytes lo … hi − 1 (of the write that starts at a with value v) that lie in the SRAM word w (R326, R330). -/
def sramWriteWord (s : State) (m a n v w : Nat) : State × MemR :=
  let lo := max a w
  let hi := min (a + n) (w + 8)
  let part := v / 2 ^ (8 * (lo - a)) % 2 ^ (8 * (hi - lo))
  let test := s.sramTest m w
  if hi - lo = 8 then
    let s := s.poke w 8 part
    (if test then { s with chk := mput 0 s.chk w (BitVec.ofNat 8 (s.fld SRM_TEST_CHK ^^^ chk72 part)) } else s, .ok 0)
  else if test then (s.emit (.busError m w), .err 1)
  else
    match sramWord s m .write w false with
    | (s, none) => (s, .err 1)
    | (s, some old) =>
      let sh := 8 * (lo - w)
      let msk := (2 ^ (8 * (hi - lo)) - 1) <<< sh
      (s.poke w 8 ((old - (old &&& msk)) + part <<< sh), .ok 0)

/-- Write parts in turn until one fails. -/
def writeParts (f : State → Nat → State × MemR) : List Nat → State → State × MemR
  | [], s => (s, .ok 0)
  | a :: r, s =>
    match f s a with
    | (s, .ok _) => writeParts f r s
    | (s, e) => (s, e)

/-! ### DRAM -/

/-- Where a DRAM offset lies (R344): channel, rank, bank group, bank, row. -/
structure DLoc where
  ch : Nat
  rank : Nat
  bg : Nat
  bank : Nat
  row : Nat
  deriving DecidableEq, Repr

/-- Decode a DRAM offset from the low bits upward (R344). -/
def State.dloc (s : State) (off : Nat) : DLoc :=
  let bgw := if s.flag DRC_CFG_X16 then 2 else 3
  let rkw := if s.flag DRC_CFG_RANKS then 1 else 0
  { ch := nbits off 6 2, bg := nbits off 14 bgw, bank := nbits off (14 + bgw) 2,
    rank := nbits off (16 + bgw) rkw, row := off >>> (16 + bgw + rkw) }

/-- The key of a bank in Drc.banks. -/
def DLoc.key (l : DLoc) : Nat := ((l.ch * 2 + l.rank) * 8 + l.bg) * 4 + l.bank

/-- The rows of a bank: what is left of the installed capacity above the other fields (R343, R344). -/
def State.dramRows (s : State) : Nat :=
  let bgw := if s.flag DRC_CFG_X16 then 2 else 3
  let rkw := if s.flag DRC_CFG_RANKS then 1 else 0
  s.dramBytes >>> (16 + bgw + rkw)

/-- The lowest count in an activate table. -/
def tblMin (t : List (Nat × Nat)) : Nat :=
  match t with
  | [] => 0
  | e :: r => r.foldl (fun m x => min m x.2) e.2

/-- Replace the first entry with the lowest count. -/
def tblReplace (t : List (Nat × Nat)) (low row : Nat) : List (Nat × Nat) :=
  match t with
  | [] => []
  | e :: r => if e.2 = low then (row, low + 1) :: r else e :: tblReplace r low row

/-- Count an activate of a row in a 64-entry activate table (R355). -/
def tblCount (t : List (Nat × Nat)) (row : Nat) : List (Nat × Nat) :=
  if t.any (·.1 == row) then t.map fun e => if e.1 = row then (e.1, e.2 + 1) else e
  else if t.length < 64 then t ++ [(row, 1)]
  else tblReplace t (tblMin t) row

/-- A bank serves an access to a row: page hit or activate, the predictor (R354), the activate table and the neighbour refresh
(R355), and whether the row stays open. -/
def dramTouch (s : State) (off : Nat) : State :=
  let l := s.dloc off
  let b := mget {} s.drc.banks l.key
  let hit := b.openRow = some l.row
  let pred := if hit then min 3 (b.pred + 1) else if b.openRow.isSome then b.pred - 1 else b.pred
  let (table, hot) :=
    if hit || !s.on DRC_RH_ENA then (b.table, false) else
      let t := tblCount b.table l.row
      if t.any fun e => e.1 = l.row && s.cur DRC_RH_THRESH ≤ e.2 then
        (t.map fun e => if e.1 = l.row then (e.1, tblMin t) else e, true)
      else (t, false)
  let mode := s.cur DRC_PAGE_MODE
  let stay := if mode = 1 then true else if mode = 2 then false else 2 ≤ pred
  let s := if hot then s.inc DRC_RHREF_COUNT else s
  { s with drc.banks := mput {} s.drc.banks l.key { openRow := if stay && !hot then some l.row else none, pred := pred, table := table } }

/-- The record of a DRC event: the channel, the DRAM offset and the master ID. -/
def drcPayload (off m : Nat) : Nat := nbits off 6 2 + off % 2 ^ 37 * 4 + m % 32 * 2 ^ 39

/-- A line of DRAM offset off holds an error that decodes as e in the beat at address b. -/
def beatErrors (s : State) (line : Nat) : List (Nat × Nat) :=
  (s.chk.filter fun e => line ≤ e.1 && e.1 < line + 64).map fun e => (e.1, e.2.toNat)

/-- Record a DRAM address in a LO and HI address register pair (DRC_CEADDR, DRC_UEADDR). -/
def drcAddr (s : State) (lo hiO hiM : Fld) (off m : Nat) : State :=
  ((s.setFld lo (off % 2 ^ 32 / 64 * 64)).setFld hiO (off / 2 ^ 32)).setFld hiM m

/-- Read the DRAM line at the 64-byte-aligned address a, decoded beat by beat (R346).  back: corrected beats are written back. -/
def dramLine (s : State) (m : Nat) (ty : Acc) (a : Nat) (back : Bool) : State × Option Nat :=
  let off := a - 0x1000000000
  let s := dramTouch s off
  let errs := beatErrors s a
  let data := s.rawNat a 64
  let bad := errs.any fun e => eccDecode 6 38 (e.2 % 128) = .bad
  let adr := errs.any fun e => eccDecode 6 38 (e.2 % 128) != .bad && nbit e.2 7
  if bad || adr then
    let s := if adr then raise EV_DRC_ADDRERR (drcPayload off m) (s.setFld DRC_STAT_ADDRERR 1) else s
    let s := if s.flag DRC_STAT_UE then s else drcAddr s DRC_UEADDR_LO_OFFSET DRC_UEADDR_HI_OFFSET DRC_UEADDR_HI_MASTER off m
    let s := (s.setFld DRC_STAT_UE 1).inc DRC_UECNT_COUNT
    (occur 17 a m ty.code (raise EV_DRC_UNCOR (drcPayload off m) s), none)
  else if errs.isEmpty then (s, some data)
  else
    let fixed := errs.foldl (fun d e =>
      match eccDecode 6 38 (e.2 % 128) with
      | .fixData j => d ^^^ 2 ^ (8 * (e.1 - a) + j)
      | _ => d) data
    let s := s.inc DRC_CECNT_COUNT errs.length
    let s := (drcAddr s DRC_CEADDR_LO_OFFSET DRC_CEADDR_HI_OFFSET DRC_CEADDR_HI_MASTER off m).setFld DRC_STAT_CE 1
    let s := if back then { s with mem := memPuts s.mem a (leBytes 64 fixed), chk := clearChk s.chk a 64 } else s
    let s := if s.drc.ceTick then s else raise EV_DRC_CE (drcPayload off m) { s with drc.ceTick := true }
    (s, some fixed)

/-- DRAM serves requests: its domain is up, it is initialised and out of self-refresh, and the channel of the address is not
held (R349–R351). -/
def State.dramReady (s : State) (a : Nat) : Bool :=
  s.domOn dDRAM && s.flag DRC_INITSTAT_DONE && !s.drc.selfRef && !s.drc.initBusy
    && !nbit (s.fld DRC_CHCTL_HELD) (nbits (a - 0x1000000000) 6 2)

/-- The 64-byte lines that a … a + n − 1 touch. -/
def linesOf (a n : Nat) : List Nat := (rangeFrom (a / 64) ((a + max n 1 - 1) / 64 + 1 - a / 64)).map (64 * ·)

/-- Read n bytes of DRAM, line by line. -/
def dramRead (s : State) (m : Nat) (ty : Acc) (a n : Nat) : List Nat → State × MemR
  | [] => (s, .ok 0)
  | l :: r =>
    match dramLine s m ty l (s.on DRC_CTL_WBACK) with
    | (s, none) => (s, .err 2)
    | (s, some d) =>
      let lo := max a l
      let hi := min (a + n) (l + 64)
      let v := d / 2 ^ (8 * (lo - l)) % 2 ^ (8 * (hi - lo))
      match dramRead s m ty a n r with
      | (s, .ok w) => (s, .ok (v * 2 ^ (8 * (lo - a)) + w))
      | (s, e) => (s, e)

/-- Write the bytes of a DRAM write that lie in line l: a full line replaces it, a narrower write is a read-modify-write
(R344). -/
def dramWriteLine (s : State) (m a n v l : Nat) : State × MemR :=
  let lo := max a l
  let hi := min (a + n) (l + 64)
  let part := v / 2 ^ (8 * (lo - a)) % 2 ^ (8 * (hi - lo))
  if hi - lo = 64 then ((dramTouch s (l - 0x1000000000)).poke l 64 part, .ok 0)
  else
    match dramLine s m .write l false with
    | (s, none) => (s, .err 2)
    | (s, some old) =>
      let sh := 8 * (lo - l)
      let msk := (2 ^ (8 * (hi - lo)) - 1) <<< sh
      (breakResv (ckpMark { s with mem := memPuts s.mem l (leBytes 64 ((old - (old &&& msk)) + part <<< sh)), chk := clearChk s.chk l 64 } lo (hi - lo)) lo (hi - lo), .ok 0)

/-! ### Code flash -/

/-- The bank of a code-flash byte offset. -/
def cflBank (off : Nat) : Nat := off / 0x800000

/-- The sector at a code-flash byte offset is in twice-program mode (R361). -/
def State.cflTwice (s : State) (off : Nat) : Bool := nbit (s.fld CFL_MODE_TWICE (off / 4096 / 32)) (off / 4096 % 32)

/-- The record of a CFL event: the offset and the master ID. -/
def cflPayload (off m : Nat) : Nat := off % 2 ^ 24 + m % 32 * 2 ^ 24

/-- An uncorrectable code-flash read (R359). -/
def cflUncorrectable (s : State) (m off : Nat) (ty : Acc) : State :=
  let s := if s.flag CFL_STAT_UE then s else (s.setFld CFL_UEADDR_OFFSET off).setFld CFL_UEADDR_MASTER m
  let s := (s.setFld CFL_STAT_UE 1).inc CFL_UECNT_COUNT
  occur 18 (0x10000000 + off) m ty.code (raise EV_CFL_UNCOR (cflPayload off m) s)

/-- The stored check byte of the code-flash word at address a; an erased word has 0xFF. -/
def State.flashChk (s : State) (a : Nat) : Nat := (mget 0xFF s.fchk a).toNat

/-- Read the code-flash word at the 8-byte-aligned address a (R359, R361); the sector of a suspended erase reads undefined data
(R364). -/
def cflWord (s : State) (m : Nat) (ty : Acc) (a : Nat) : State × Option Nat :=
  let off := a - 0x10000000
  let d := s.rawNat a 8
  match mfind s.cfl.susp (cflBank off) with
  | some op =>
    if op.offset / 4096 = off / 4096 then
      let (v, s) := s.freshBits 64
      (s, some v.toNat)
    else cflDecode s m ty a off d
  | none => cflDecode s m ty a off d
where
  cflDecode (s : State) (m : Nat) (ty : Acc) (a off d : Nat) : State × Option Nat :=
    if s.cflTwice off then
      if d % 2 ^ 32 = d / 2 ^ 32 then (s, some d) else (cflUncorrectable s m off ty, none)
    else
      let fix (s : State) (d : Nat) : State × Option Nat :=
        let s := ((s.inc CFL_CECNT_COUNT).setFld CFL_CEADDR_OFFSET off).setFld CFL_CEADDR_MASTER m
        (if s.cfl.ceTick then s else raise EV_CFL_CE (cflPayload off m) { s with cfl.ceTick := true }, some d)
      match eccDecode 7 71 (chk72 d ^^^ s.flashChk a) with
      | .clean => (s, some d)
      | .bad => (cflUncorrectable s m off ty, none)
      | .fixCheck => fix s d
      | .fixData j => fix s (d ^^^ 2 ^ j)

/-- A bank that a range of code-flash addresses touches is programming or erasing (R364). -/
def State.cflBusy (s : State) (a n : Nat) : Bool :=
  (mfind s.cfl.run (cflBank (a - 0x10000000))).isSome || (mfind s.cfl.run (cflBank (a + max n 1 - 1 - 0x10000000))).isSome

/-- The commit store (R77): what it holds is State.force; the layout of its bytes is not given. -/
def commitStore (a n : Nat) : Bool :=
  a < 0x8000C000 && 0x8000A000 < a + n || a < 0x80010000 && 0x8000F000 < a + n

/-- The area that a store by a core, JDP or the DMA engine at a … a + n − 1 would reach, where the spec leaves the effect undefined: the commit store,
DRC's copy of the delay table, any CKP_REGION range, the state entries of BPM (undefined cases of chapters 3, 6 to 9, 12, 14 to 16). -/
def State.storeUndef (s : State) (m a n : Nat) : Option String :=
  if 9 < m || !s.mapAllowsAll m .write a n then none
  else if commitStore a n then some "a store to the commit store"
  else if a < 0x8000E400 && 0x8000E000 < a + n then some "a store to the delay table in always-on memory"
  else
    let hit (base len : Nat) : Bool := len != 0 && a < base + len && base < a + n
    if (List.range 16).any fun r => hit (s.fld CKP_REGION_LO_BASE_LO r + 2 ^ 32 * s.fld CKP_REGION_HI_BASE_HI r) (s.fld CKP_REGION_LEN_PAGES r * 16384)
    then some "a store to a checkpointed region by a master other than its owner and CKP"
    else if hit (s.fld BPM_STBASE_LO_ADDR + 2 ^ 32 * s.fld BPM_STBASE_HI_ADDR) (4 * (List.range 4).foldl (fun t k => t + s.fld BPM_PCFG_COUNT k) 0)
    then some "a store to BPM's state entries" else none

/-! ### Any master, any address on the data interconnect -/

/-- Read n bytes at address a as master m (R17–R19, R370–R372).  Register space is reached on the control bus only; a read of it
here ends with an error response. -/
def memRead (s : State) (m : Nat) (ty : Acc) (a n : Nat) : State × MemR :=
  if !s.mapAllowsAll m ty a n then (accessDenied m ty a s, .err 0)
  else if s.region (a + max n 1 - 1) != s.region a then (accessError m ty a s, .err 4)
  else
    match s.region a with
    | .none => (accessError m ty a s, .err 4)
    | .regs => (accessError m ty a s, .err 4)
    | .rom => (s, .ok (s.rawNat a n))
    | .aon =>
      if commitStore a n then
        let (v, s) := s.freshBits (8 * n)
        (s, .ok v.toNat)
      else (s, .ok (s.rawNat a n))
    | .sram => sramRead s m ty a n
    | .dram => if (linesOf a n).all s.dramReady then dramRead s m ty a n (linesOf a n) else (s, .wait)
    | .flash =>
      if s.cflBusy a n then (s, .wait) else
      match readWords (fun s w => cflWord s m ty w) (wordsOf a n) s with
      | (s, some v) => (s, .ok (cutBytes a n v))
      | (s, none) => (s, .err 3)

/-- Write n bytes of v at address a as master m.  Boot ROM and code flash refuse plain stores (R19). -/
def memWrite (s : State) (m : Nat) (ty : Acc) (a n v : Nat) : State × MemR :=
  if !s.mapAllowsAll m ty a n then (accessDenied m ty a s, .err 0)
  else if s.region (a + max n 1 - 1) != s.region a then (accessError m ty a s, .err 4)
  else
    match s.region a with
    | .none => (accessError m ty a s, .err 4)
    | .regs => (accessError m ty a s, .err 4)
    | .rom => (accessError m ty a s, .err 4)
    | .flash => (accessError m ty a s, .err 4)
    | .aon => (s.poke a n v, .ok 0)
    | .sram => writeParts (fun s w => sramWriteWord s m a n v w) (wordsOf a n) s
    | .dram =>
      if (linesOf a n).all s.dramReady then writeParts (fun s l => dramWriteLine s m a n v l) (linesOf a n) s else (s, .wait)

/-- A write by a hardware block into a ring or a table of its own (R16, R451): checked like any other access and lost, with its record, when it ends with an
error response.  DESIGN CHOICE (log 83): a write that DRAM holds back is in place at once. -/
def ringWrite (s : State) (m a n v : Nat) : State :=
  match memWrite s m .write a n v with
  | (_, .wait) => s.poke a n v
  | (s, _) => s

/-- A read by a hardware block of a table of its own (R16, R371): what a read that fails records and counts.  The value that the block goes on with is the
stored one. -/
def blkRead (m a n : Nat) (s : State) : State :=
  match memRead s m .read a n with
  | (_, .wait) => s
  | (s, _) => s

/-- The value of an access that ended with data. -/
def MemR.val : MemR → Option Nat
  | .ok v => some v
  | _ => none

end Sys2Proof.Machine
end

