-- ==== Sys2Proof/Machine/Faults.lean ====
section
/-! DEFINITION. Family: the fault collector FLT (spec/19_faults.md). -/

namespace Sys2Proof.Machine

/-- A write of a register by master m that acts through f: checked by the access map like any access (R370). -/
def regCmd (m : Nat) (r : Reg) (i : Nat) (f : State → State) (s : State) : State :=
  let a := 0x40000000 + r.at i 0 0
  if s.mapAllows m .write a then f s else accessDenied m .write a s

/-- The domain of a fault line's source (R15, R390). -/
def lineDomain (l : Nat) : Nat :=
  if l = 17 then dDRAM else if l = 19 || l = 25 then dMEDIA else if l = 20 then dCIPHER else if l = 26 then dFABRIC
  else if l = 28 || l = 30 || l = 31 then dAON else dCTRL

/-- The cause of fault line l is present (R390): a block whose domain is down reads as absent. -/
def State.cause (s : State) (l : Nat) : Bool :=
  s.domOn (lineDomain l) &&
  (if l < 8 then s.flag EVR_CORE_HALTED l && s.fld EVR_CORE_HALTCAUSE l = 1
   else if l < 16 then s.flag EVR_WDOG_EXPIRED (l - 8)
   else if l = 16 then s.flag SRM_STAT_UE
   else if l = 17 then s.flag DRC_STAT_UE || s.flag DRC_STAT_ADDRERR
   else if l = 18 then s.flag CFL_STAT_UE
   else if l = 21 then s.flag DMA_GSTAT_STOPPED
   else if l = 27 then s.flag CKP_STAT_BOD
   else if l = 28 then s.pwr.refAbsent && !(s.mode = mDORMANT && !s.pwr.clkreq)
   else if l = 30 then s.flt.lastFail != 0
   else false)

/-- FLT_CAUSE as it reads: bit k is the cause of line k. -/
def State.causes (s : State) : Nat := (List.range 32).foldl (fun n l => if s.cause l then n + 2 ^ l else n) 0

/-- A line's source can reach the collector: in DORMANT a line whose source domain is down reads idle (R396). -/
def State.lineLive (s : State) (l : Nat) : Bool := s.mode != mDORMANT || s.domOn (lineDomain l)

/-- REFERENCE_CLOCK_LOSS (R390 line 28, R20): the reference has been absent for 1 µs where it may not be. -/
def execReferenceClockLoss (s : State) : Out :=
  if s.pwr.powered && (s.mode != mDORMANT || s.pwr.clkreq) then
    .next (occur 28 0 31 3 { s with pwr.refAbsent := true })
  else .next s

/-- FAULT_OCCURRENCE (R391): a source signals an occurrence on a line. -/
def execFaultOccurrence (line : Fin 32) (addr : Addr) (master : MasterId) (ty : Fin 4) (s : State) : Out :=
  .next (if s.lineLive line then occur line addr.toNat master ty s else s)

/-- A rail fault on a line (R389): FLT_RAILSTAT, line 30 with the broken line's number, EV_FLT_RAIL. -/
def railFault (l : Nat) (s : State) : State :=
  let i := s.fld FLT_HISTWR_INDEX
  let s := s.setFld FLT_RAILSTAT_LINES (s.fld FLT_RAILSTAT_LINES ||| 2 ^ l)
  let (s, es) := fltLatch s 30 l 31 3
  raiseAll (es ++ [(EV_FLT_RAIL, l + 32 * i)]) s

/-- RAIL_TEST (R389): one sweep over the 32 lines, in line order; bad has the lines that fail their slot. -/
def execRailTest (bad : Word) (s : State) : Out :=
  if s.flag FLT_CTL_RAILCHK && s.mode != mDORMANT then
    let s := { s with flt.lastFail := bad.toNat }
    .next ((List.range 32).foldl (fun s l => if nbit bad.toNat l then railFault l s else s) s)
  else .next s

/-- RAIL_FAULT (R387): a line's code reads invalid at two consecutive samples, while rail checking is on. -/
def execRailFault (line : Fin 32) (s : State) : Out :=
  .next (if s.flag FLT_CTL_RAILCHK then railFault line s else s)

/-- COLLECTOR_DISAGREEMENT (R388): line 31 latches in both collectors and FAULT_N is driven. -/
def execCollectorDisagreement (s : State) : Out := .next (occur 31 0 31 3 s)

/-- Clear the lines of a W1C write of FLT_LINE whose cause is absent (R395). -/
def fltLineClear (mask : Nat) (s : State) : State :=
  let want := s.fld FLT_LINE_LINES &&& mask
  let held := (List.range 32).foldl (fun n l => if nbit want l && s.cause l then n + 2 ^ l else n) 0
  let was := s.flag FLT_STAT_FAULT
  let s := s.setFld FLT_LINE_LINES (s.fld FLT_LINE_LINES - (want - held))
  let s := if held = 0 then s else s.setFld FLT_STAT_CLRREF 1
  let s := fltSettle s
  if was && !s.flag FLT_STAT_FAULT then raise EV_FLT_CLEARED 0 s else s

/-- FAULT_LINE_CLEAR (R395). -/
def execFaultLineClear (m : MasterId) (mask : Word) (s : State) : Out :=
  .next (regCmd m FLT_LINE 0 (fltLineClear mask.toNat) s)

/-- FIRST_ERROR_REARM (R392): writing FLT_STAT.FIRST. -/
def execFirstErrorRearm (m : MasterId) (s : State) : Out :=
  .next (regCmd m FLT_STAT 0 (fun s => s.setFld FLT_STAT_FIRST 0) s)

/-- Empty the fault history (R393). -/
def fltHistClear (s : State) : State :=
  let s := (List.range 16).foldl (fun s i =>
    (((s.setReg FLT_HIST0 0 i).setReg FLT_HIST1 0 i).setReg FLT_HIST2 0 i).setReg FLT_HIST3 0 i) s
  { s.setFld FLT_HISTWR_INDEX 0 with flt.unread := [] }

/-- HISTORY_CLEAR (R393): FLT_CTL.HCLR. -/
def execHistoryClear (m : MasterId) (s : State) : Out := .next (regCmd m FLT_CTL 0 fltHistClear s)

end Sys2Proof.Machine
end

