-- ==== Sys2Proof/Machine/CodeFlash.lean ====
section
/-! DEFINITION. Family: the code-flash controller CFL and the boot selector (spec/17_code_flash_boot.md, R358–R367). -/

namespace Sys2Proof.Machine

/-- The boot selector counter of each bank (R358): bank offset 0x000B_0000 to 0x000B_3FFF. -/
def inSelector (off : Nat) : Bool := 0xB0000 ≤ off % 0x800000 && off % 0x800000 < 0xB4000

/-- The code-flash word at offset off has a bit that reads 0 in a raw read of its 72 bits (R361, R367). -/
def State.wordUsed (s : State) (off : Nat) : Bool :=
  s.rawNat (0x10000000 + off) 8 != 2 ^ 64 - 1 || s.flashChk (0x10000000 + off) != 0xFF

/-- The words of bank b's selector area that count (R367). -/
def State.selCount (s : State) (b : Nat) : Nat :=
  ((List.range 2048).filter fun i => s.wordUsed (b * 0x800000 + 0xB0000 + 8 * i)).length

/-- The bank that the last BOOT chose (R367: a swap takes effect at the next BOOT). -/
def State.activeBank (s : State) : Nat := s.fld BOT_BOOT_BANK

/-- Store the 72 bits of a code-flash word. -/
def flashPut (s : State) (off data chkb : Nat) : State :=
  { s with mem := memPuts s.mem (0x10000000 + off) (leBytes 8 data)
           fchk := mput 0xFF s.fchk (0x10000000 + off) (BitVec.ofNat 8 chkb) }

/-- Erase a sector: every word all ones. -/
def flashErase (s : State) (off : Nat) : State :=
  let a := 0x10000000 + off / 4096 * 4096
  { s with mem := s.mem.filter (fun c => !(a ≤ c.1 && c.1 < a + 4096))
           fchk := s.fchk.filter (fun c => !(a ≤ c.1 && c.1 < a + 4096)) }

/-- The busy and suspended bits of CFL_STAT follow the engines. -/
def cflStat (s : State) : State :=
  let b (m : SMap FlashOp) (k : Nat) := b2n (mfind m k).isSome
  let fw := (s.cfl.run.any fun e => e.2.who < 9) || (s.cfl.queue.any fun o => o.who < 9) || !s.cfl.suspWait.isEmpty
  (((((s.setFld CFL_STAT_BUSY0 (b s.cfl.run 0)).setFld CFL_STAT_BUSY1 (b s.cfl.run 1)).setFld CFL_STAT_SUSP0 (b s.cfl.susp 0)).setFld
    CFL_STAT_SUSP1 (b s.cfl.susp 1)).setFld CFL_STAT_FWBUSY (b2n fw))

/-- A firmware command ends: DONE and EV_CFL_DONE (R360). -/
def cflEnd (op : FlashOp) (s : State) : State :=
  if op.who < 9 then raise EV_CFL_DONE (cflPayload op.offset op.who) (s.setFld CFL_STAT_DONE 1) else s

/-- The program an operation asks for is refused because a bit would have to return to 1 (R361). -/
def State.notErased (s : State) (op : FlashOp) : Bool :=
  if s.cflTwice op.offset then
    (op.data.toNat % 2 ^ 32) &&& (2 ^ 32 - 1 - s.rawNat (0x10000000 + op.offset) 4) != 0
  else s.wordUsed op.offset

/-- Start operations that wait, in arrival order, for banks that are free (R360).  A program of a word that is not erased applies
no pulse and ends at once (R361). -/
def cflStart : List FlashOp → State → State
  | [], s => s
  | op :: r, s =>
    let b := cflBank op.offset
    if (mfind s.cfl.run b).isSome then
      let s := cflStart r s
      { s with cfl.queue := op :: s.cfl.queue }
    else if !op.erase && s.notErased op then
      let s := raise EV_CFL_REFUSED (cflPayload op.offset op.who) (s.setFld CFL_STAT_NOTERASED 1)
      let s := if op.who = 20 then s.setFld CKP_STAT_ROOTERR 1 else s
      cflStart r (cflEnd op s)
    else cflStart r { s with cfl.run := mins s.cfl.run b op }

/-- Take the waiting operations up. -/
def cflKick (s : State) : State := cflStat (cflStart s.cfl.queue { s with cfl.queue := [] })

/-- An operation is running, waits, or is held. -/
def State.cflHas (s : State) (op : FlashOp) : Bool :=
  s.cfl.queue.contains op || (s.cfl.run.any fun e => e.2 = op) || s.cfl.susp.any fun e => e.2 = op

/-- Queue an operation and start it when its bank is free. -/
def cflSubmit (op : FlashOp) (s : State) : State := cflKick { s with cfl.queue := s.cfl.queue ++ [op] }

/-- The refusals of R363 for a program or erase of master m at offset off. -/
def State.cflRefuses (s : State) (m off : Nat) (erase : Bool) : Bool :=
  let b := cflBank off
  let guardArea := b = s.activeBank && off % 0x800000 < 0x90000
  off % 8 != 0 || 0xFFFFF8 < off || inSelector off
    || (s.flag CFL_CTL_GUARD && guardArea)
    || (s.flag BOT_STAT_SEALED && !s.mapAllows m .write (0x10000000 + off))
    || (match mfind s.cfl.susp b with
        | some op => erase || op.offset / 4096 = off / 4096
        | none => false)

/-- Refuse an operation: REFUSED and EV_CFL_REFUSED (R363). -/
def cflRefuse (m off : Nat) (s : State) : State := raise EV_CFL_REFUSED (cflPayload off m) (s.setFld CFL_STAT_REFUSED 1)

/-- A refused or unerased program of CKP's root log is a failure of its record (R211). -/
def rootErr (op : FlashOp) (s : State) : State := if op.who = 20 then s.setFld CKP_STAT_ROOTERR 1 else s

/-- CKP (20) or PLK (21) asks for an operation: checked like firmware's (R363, R370). -/
def cflSubmitHw (op : FlashOp) (s : State) : State :=
  if s.cflRefuses op.who op.offset op.erase then rootErr op (cflRefuse op.who op.offset s) else cflSubmit op s

/-- CFL_CMD.GO with OP 1: program the word of CFL_ADDR with CFL_DATA (R361). -/
def cflProgram (m : Nat) (s : State) : State :=
  let off := s.fld CFL_ADDR_OFFSET
  if s.cflRefuses m off false then cflRefuse m off s else
  let lo := s.fld CFL_DATA_LO_DATA
  let d := if s.cflTwice off then lo + 2 ^ 32 * lo else lo + 2 ^ 32 * s.fld CFL_DATA_HI_DATA
  cflSubmit { who := m, erase := false, offset := off, data := BitVec.ofNat 64 d, chkb := BitVec.ofNat 8 (chk72 d) } s

/-- CFL_CMD.GO with OP 2: erase the sector of CFL_ADDR (R360). -/
def cflErase (m : Nat) (s : State) : State :=
  let off := s.fld CFL_ADDR_OFFSET
  if s.cflRefuses m off true then cflRefuse m off s else
  cflSubmit { who := m, erase := true, offset := off } s

/-- Hold the erase that runs in bank b. -/
def cflHold (m b : Nat) (op : FlashOp) (s : State) : State :=
  cflKick (cflEnd { who := m, erase := true, offset := op.offset }
    { s with cfl.run := mdel s.cfl.run b, cfl.susp := mins s.cfl.susp b op, cfl.suspWait := mdel s.cfl.suspWait b })

/-- 500 µs have passed since the erase of bank b was last resumed (R364). -/
def State.mayHold (s : State) (b : Nat) : Bool := match mfind s.cfl.resumed b with | some t => t + 50000 ≤ s.mtime | none => true

/-- CFL_CMD.GO with OP 3: hold the erase that runs in the bank of CFL_ADDR, or wait until it may be held (R360, R363, R364). -/
def cflSuspend (m : Nat) (s : State) : State :=
  let off := s.fld CFL_ADDR_OFFSET
  let b := cflBank off
  match mfind s.cfl.run b with
  | some op =>
    if !op.erase then cflRefuse m off s
    else if s.mayHold b then cflHold m b op s
    else cflStat { s with cfl.suspWait := mins s.cfl.suspWait b m }
  | none => cflRefuse m off s

/-- A suspend that waited takes effect. -/
def cflHoldDue (s : State) : State :=
  s.cfl.suspWait.foldl (fun s e => match mfind s.cfl.run e.1 with
    | some op => if s.mayHold e.1 then cflHold e.2 e.1 op s else s
    | none => s) s

/-- CFL_CMD.GO with OP 4: continue the suspended erase of the bank of CFL_ADDR, after operations already in the bank (R360, R363). -/
def cflResume (m : Nat) (s : State) : State :=
  let off := s.fld CFL_ADDR_OFFSET
  let b := cflBank off
  match mfind s.cfl.susp b with
  | some op => cflSubmit op { s with cfl.susp := mdel s.cfl.susp b, cfl.resumed := mins s.cfl.resumed b s.mtime }
  | none => cflRefuse m off s

/-- CFL_CMD written with GO: the four operations; others are refused. -/
def cflGo (m op : Nat) (s : State) : State :=
  let s := s.setFld CFL_CMD_OP op
  if op = 1 then cflProgram m s else if op = 2 then cflErase m s else if op = 3 then cflSuspend m s
  else if op = 4 then cflResume m s else cflRefuse m (s.fld CFL_ADDR_OFFSET) s

/-- A GO of a program or erase while FWBUSY is 1 is an undefined case (R360 and the chapter's list). -/
def cflGoChecked (m op : Nat) (s : State) : Out :=
  if s.flag CFL_STAT_FWBUSY && op != 3 then .fault (.undefinedCase "CFL_CMD written while CFL_STAT.FWBUSY is 1")
  else .next (regCmd m CFL_CMD 0 (cflGo m op) s)

/-- WORD_PROGRAM (R361). -/
def execWordProgram (m : MasterId) (s : State) : Out := cflGoChecked m 1 s

/-- ERASE_SECTOR (R360). -/
def execEraseSector (m : MasterId) (s : State) : Out := cflGoChecked m 2 s

/-- SUSPEND_ERASE (R364). -/
def execSuspendErase (m : MasterId) (s : State) : Out := cflGoChecked m 3 s

/-- RESUME_ERASE (R360). -/
def execResumeErase (m : MasterId) (s : State) : Out := cflGoChecked m 4 s

/-- The program running in a bank ends (R362); miss has the bits (data in 63:0, check byte in 71:64) that read back other than intended. -/
def flashProgramDone (bank : Nat) (miss : BitVec 72) (s : State) : State :=
  match mfind s.cfl.run bank with
  | none => s
  | some op =>
    if op.erase then s else
    let twice := s.cflTwice op.offset
    let mData := miss.toNat % 2 ^ 64
    let mChk := if twice then 0 else miss.toNat / 2 ^ 64
    let s := flashPut s op.offset (op.data.toNat ^^^ mData) (if twice then s.flashChk (0x10000000 + op.offset) else op.chkb.toNat ^^^ mChk)
    let n := popCount 64 mData + popCount 8 mChk
    let s := { s with cfl.run := mdel s.cfl.run bank }
    let s := (s.inc CFL_PGMCNT_COUNT).setFld CFL_STAT_CBCNT n
    let warn := s.fld CFL_CTL_WARN
    let s := if warn != 0 && warn ≤ n then raise EV_CFL_WARN (cflPayload op.offset op.who) (s.setFld CFL_STAT_WARN 1) else s
    let s := if op.who = 20 && (2 ≤ n || (twice && 1 ≤ n)) then s.setFld CKP_STAT_ROOTERR 1 else s
    let s := if 2 ≤ n || (twice && 1 ≤ n) then raise EV_CFL_PGMFAIL (cflPayload op.offset op.who) (s.setFld CFL_STAT_PGMFAIL 1) else s
    let s := cflEnd op s
    let s := if op.who = 31 then raise EV_BOT_SWAP 0 (s.setFld BOT_STAT_SWAPDONE 1) else s
    cflKick s

/-- The erase running in a bank ends (R360), with every word all ones or, after 40 ms, with ERSFAIL; the spec does not give what a failed erase leaves in the
sector. -/
def flashEraseDone (bank : Nat) (ok : Bool) (s : State) : State :=
  match mfind s.cfl.run bank with
  | none => s
  | some op =>
    if !op.erase then s else
    let s := { flashErase s op.offset with cfl.run := mdel s.cfl.run bank, cfl.resumed := mdel s.cfl.resumed bank, cfl.suspWait := mdel s.cfl.suspWait bank }
    let s := s.inc CFL_ERSCNT_COUNT
    let s := if ok then s else
      let (d, s) := s.freshBits 32768
      let (c, s) := s.freshBits 4096
      let base := op.offset / 4096 * 4096
      let s := (List.range 512).foldl (fun s i =>
        flashPut s (base + 8 * i) (nbits d.toNat (64 * i) 64) (nbits c.toNat (8 * i) 8)) s
      let s := if op.who = 20 then s.setFld CKP_STAT_ROOTERR 1 else s
      raise EV_CFL_ERSFAIL (cflPayload op.offset op.who) (s.setFld CFL_STAT_ERSFAIL 1)
    cflKick (cflEnd op s)

/-- BOT_SWAP.GO (R367): program the lowest word of the inactive bank's counter area that does not count, with all 72 bits 0. -/
def botSwap (s : State) : State :=
  let c0 := s.selCount 0
  let c1 := s.selCount 1
  let act := s.activeBank
  let ok := if act = 0 then c1 = c0 && c1 < 2048 else c0 + 1 = c1 && c0 < 2048
  if !ok then s.setFld BOT_STAT_SWAPERR 1 else
  let base := (1 - act) * 0x800000 + 0xB0000
  match (List.range 2048).find? fun i => !s.wordUsed (base + 8 * i) with
  | none => s.setFld BOT_STAT_SWAPERR 1
  | some i => cflSubmit { who := 31, erase := false, offset := base + 8 * i, data := 0, chkb := 0 } s

/-- BOOT_BLOCK_SWAP (R367). -/
def execBootBlockSwap (m : MasterId) (s : State) : Out := .next (regCmd m BOT_SWAP 0 botSwap s)

/-- Flip stored bits of the code-flash word at offset off: data bits 63:0, check byte 71:64. -/
def flashUpset (off flips : Nat) (s : State) : State :=
  let w := off / 8 * 8
  if flips = 0 then s else
    flashPut s w (s.rawNat (0x10000000 + w) 8 ^^^ flips % 2 ^ 64) (s.flashChk (0x10000000 + w) ^^^ flips / 2 ^ 64)

/-- Answer a master's read with its data. -/
def answerRead (m a : Nat) (r : State × MemR) : State :=
  match r.2 with
  | .ok v => r.1.emit (.busData m a v)
  | .err info => if info = 1 || info = 2 || info = 3 then r.1.emit (.busError m a) else r.1
  | .wait => r.1

/-- CODE_FLASH_READ (R359): a master reads n bytes; flips are the bits of the first word that have changed in the cells since they
were written. -/
def execCodeFlashRead (m : MasterId) (off : BitVec 24) (n : Fin 65) (fetch : Bool) (flips : BitVec 72) (s : State) : Out :=
  let a := 0x10000000 + off.toNat
  let s := flashUpset off.toNat flips.toNat s
  .next (answerRead m a (memRead s m (if fetch then .fetch else .read) a n))

/-- A brown-out: a running program is completed later, a running erase is suspended and recorded in CFL_BOERASE (R201, R365). -/
def cflBrownOut (s : State) : State :=
  let hold (s : State) (b : Nat) : State :=
    match mfind s.cfl.run b with
    | some op =>
      if op.erase then
        let s := { s with cfl.run := mdel s.cfl.run b, cfl.susp := mins s.cfl.susp b op }
        ((s.setFld CFL_BOERASE_SECTOR (op.offset % 0x800000 / 4096)).setFld CFL_BOERASE_BANK b).setFld CFL_BOERASE_VALID 1
      else s
    | none => s
  cflStat (hold (hold { s with cfl.queue := [], cfl.suspWait := [] } 0) 1)

end Sys2Proof.Machine
end

