-- ==== Sys2Proof/Machine/SramDma.lean ====
section
/-! DEFINITION. Families: SRAM control SRM, the buffer pool manager BPM and the DMA engine (spec/15_sram_buffers_dma.md). -/

namespace Sys2Proof.Machine

/-! ### SRAM -/

/-- Flip stored bits of the SRAM word that holds offset off: data bits 63:0, check byte 71:64. -/
def sramUpset (off flips : Nat) (s : State) : State :=
  if flips = 0 then s else
  let a := 0x20000000 + off / 8 * 8
  let d := s.rawNat a 8
  let d' := d ^^^ flips % 2 ^ 64
  let diff := chk72 d ^^^ chk72 d' ^^^ flips / 2 ^ 64
  { s with mem := memPuts s.mem a (leBytes 8 d')
           chk := mput 0 s.chk a (mget 0 s.chk a ^^^ BitVec.ofNat 8 diff) }

/-- SRAM_READ (R325): a master reads n bytes; flips are the bits of the first word that have changed since they were written. -/
def execSramRead (m : MasterId) (off : BitVec 27) (n : Fin 65) (fetch : Bool) (flips : BitVec 72) (s : State) : Out :=
  .next (answerRead m (0x20000000 + off.toNat)
    (memRead (sramUpset off.toNat flips.toNat s) m (if fetch then .fetch else .read) (0x20000000 + off.toNat) n))

/-- The state after a write, with the error response of an uncorrectable word or beat on the boundary. -/
def answerWrite (m a : Nat) (r : State × MemR) : State :=
  match r.2 with
  | .err info => if info = 1 || info = 2 || info = 3 then r.1.emit (.busError m a) else r.1
  | _ => r.1

/-- SRAM_WRITE (R326): a master writes n bytes of v. -/
def execSramWrite (m : MasterId) (off : BitVec 27) (n : Fin 65) (v : BitVec 512) (flips : BitVec 72) (s : State) : Out :=
  .next (answerWrite m (0x20000000 + off.toNat)
    (memWrite (sramUpset off.toNat flips.toNat s) m .write (0x20000000 + off.toNat) n (v.toNat % 2 ^ (8 * n.val))))

/-- The scrub engine runs: enabled, and not in DORMANT (R329). -/
def State.sramScrubOn (s : State) : Bool := s.on SRM_CTL_SCRUB && s.mode != mDORMANT && s.domOn dCTRL

/-- SRAM_SCRUB_PASS (R329): a pass over every word of every powered bank, in bank order; the bank under test is skipped (R330).
Only words whose check bits disagree can change anything. -/
def execSramScrubPass (s : State) : Out :=
  if !s.sramScrubOn then .next s else
  let skip (a : Nat) : Bool := s.flag SRM_TEST_ENA && (a - 0x20000000) / 0x100000 = s.fld SRM_TEST_BANK
  let words := (mkeys s.chk).filter fun a => a < 0x1000000000 && !skip a
  let s := words.foldl (fun s a => (sramWord s 24 .read a true).1) s
  .next ((s.setFld SRM_STAT_BANK 95).inc SRM_SCRUBPASS_COUNT)

/-- SRAM_SCRUB_LATE (R329): a pass has not ended when MS expires; line 29 has an occurrence (R390). -/
def execSramScrubLate (s : State) : Out :=
  if !s.sramScrubOn then .next s else
  .next (occur 29 0 24 3 (raise EV_SRM_SCRUBLATE 0 (s.setFld SRM_STAT_LATE 1)))

/-! ### Buffer pools -/

/-- Bytes of a buffer of pool k (R331). -/
def poolSize (k : Nat) : Nat := 4096 * 4 ^ k

/-- The handle of buffer i of pool k (R332). -/
def handleOf (k i : Nat) : Nat := i + k * 2 ^ 24 + 2 ^ 31

/-- Index and pool of a handle. -/
def handleIdx (h : Nat) : Nat := h % 2 ^ 24
def handlePool (h : Nat) : Nat := nbits h 24 2

/-- The address of a handle's buffer (R331). -/
def State.bufAddr (s : State) (h : Nat) : Nat :=
  let k := handlePool h
  s.fld BPM_PBASE_LO_ADDR k + 2 ^ 32 * s.fld BPM_PBASE_HI_ADDR k + handleIdx h * poolSize k

/-- The address of a handle's state entry. -/
def State.bufEntryAddr (s : State) (h : Nat) : Nat :=
  let k := handlePool h
  let below := (List.range k).foldl (fun n j => n + s.fld BPM_PCFG_COUNT j) 0
  s.fld BPM_STBASE_LO_ADDR + 2 ^ 32 * s.fld BPM_STBASE_HI_ADDR + 4 * (below + handleIdx h)

/-- A state entry's fields: OWNER, ALLOC, FREEING, SHARE. -/
structure BufEntry where
  owner   : Nat
  alloc   : Bool
  freeing : Bool
  share   : Nat
  deriving DecidableEq, Repr

/-- Read a handle's state entry. -/
def State.bufEntry (s : State) (h : Nat) : BufEntry :=
  let w := s.rawNat (s.bufEntryAddr h) 4
  { owner := nbits w 0 5, alloc := nbit w 5, freeing := nbit w 6, share := nbits w 8 8 }

/-- Write a handle's state entry. -/
def setBufEntry (s : State) (h : Nat) (e : BufEntry) : State :=
  ringWrite s 22 (s.bufEntryAddr h) 4 (e.owner % 32 + b2n e.alloc * 32 + b2n e.freeing * 64 + e.share % 256 * 256)

/-- Free buffers of pool k, in ring and cache together (R334). -/
def State.poolFree (s : State) (k : Nat) : Nat := (mget [] s.bpm.cache k).length + (mget [] s.bpm.ring k).length

/-- BPM_PFREE and BPM_PMIN follow the free buffers; EV_BPM_LOW when they fall below PLOW (R334). -/
def poolSettle (k requester : Nat) (s : State) : State :=
  let was := s.fld BPM_PFREE_FREE k
  let now := s.poolFree k
  let s := s.setFld BPM_PFREE_FREE now k
  let s := if now < s.fld BPM_PMIN_MIN k then s.setFld BPM_PMIN_MIN now k else s
  let low := s.cur BPM_PLOW_LOW k
  if low != 0 && now < low && low ≤ was then raise EV_BPM_LOW (k + 4 * requester) s else s

/-- The pool that serves n bytes: the smallest whose buffers hold them and whose COUNT is not 0; with SPILL, the next larger pool
with a free buffer (R333).  Answers the first pool tried and the pool that serves. -/
def State.poolFor (s : State) (n : Nat) : Option Nat × Option Nat :=
  match (List.range 4).find? fun k => max n 1 ≤ poolSize k && s.fld BPM_PCFG_COUNT k != 0 with
  | none => (none, none)
  | some k =>
    if s.poolFree k != 0 then (some k, some k)
    else if s.on BPM_CTL_SPILL then (some k, (List.range 4).find? fun j => k < j && s.fld BPM_PCFG_COUNT j != 0 && s.poolFree j != 0)
    else (some k, none)

/-- Move up to 32 handles of pool k from the ring to the cache (R334). -/
def poolRefill (k : Nat) (s : State) : State :=
  let r := mget [] s.bpm.ring k
  { s with bpm.cache := mput [] s.bpm.cache k (mget [] s.bpm.cache k ++ r.take 32), bpm.ring := mput [] s.bpm.ring k (r.drop 32) }

/-- Take a free buffer of pool k for a master: free buffers are handed out in no particular order (R334), so which one of the
cache is a free choice. -/
def poolTake (k m : Nat) (s : State) : State × Nat :=
  let s := if (mget [] s.bpm.cache k).isEmpty then poolRefill k s else s
  let c := mget [] s.bpm.cache k
  let (r, s) := s.fresh
  let i := r % max 1 c.length
  let h := nth 0 c i
  let s := { s with bpm.cache := mput [] s.bpm.cache k (c.eraseIdx i) }
  let s := setBufEntry s h { owner := m, alloc := true, freeing := false, share := 0 }
  (poolSettle k m s, h)

/-- A hardware allocation (R333): served now, or it waits.  tag names the piece of work that asks. -/
def hwAlloc (m n tag : Nat) (s : State) : State × Option Nat :=
  match mfind s.bpm.served tag with
  | some h => ({ s with bpm.served := mdel s.bpm.served tag }, some h)
  | none =>
    match (s.poolFor n).2 with
    | some k =>
      let (s, h) := poolTake k m s
      (s, some h)
    | none =>
      if s.bpm.wait.any (·.tag == tag) then (s, none) else ({ s with bpm.wait := s.bpm.wait ++ [⟨m, n, tag⟩] }, none)

/-- Ignore an operation other than a FREE (R336): BADOP. -/
def bpmBadOp (h m owner : Nat) (s : State) : State := raise EV_BPM_BADOP (h % 2 ^ 32 + m * 2 ^ 32 + owner * 2 ^ 37) (s.setFld BPM_STAT_BADOP 1)

/-- Ignore a FREE (R336): BADFREE. -/
def bpmBadFree (h m owner : Nat) (s : State) : State :=
  raise EV_BPM_BADFREE (h % 2 ^ 32 + m * 2 ^ 32 + owner * 2 ^ 37) ((s.setFld BPM_STAT_BADFREE 1).inc BPM_BADFREECNT_COUNT)

/-- A firmware allocation through group m (R333). -/
def bpmAlloc (m n : Nat) (s : State) : State :=
  if 262144 < n then bpmBadOp 0 m 0 (s.setFld BPM_RES_HANDLE 0 m) else
  match s.poolFor n with
  | (_, some k) =>
    let (s, h) := poolTake k m s
    s.setFld BPM_RES_HANDLE h m
  | (first, none) =>
    let s := s.setFld BPM_RES_HANDLE 0 m
    let k := first.getD 3
    let s := s.inc BPM_PFAIL_COUNT 1 k
    raise EV_BPM_EMPTY (k + 4 * m) (s.setFld BPM_STAT_EMPTY 1)

/-- A write of a BPM group register by a master other than its own is ignored and treated under R336. -/
def bpmGroup (m group : Nat) (f : State → State) (s : State) : State := if m = group then f s else bpmBadOp 0 m 0 s

/-- BPM_ALLOC (R333). -/
def execBpmAlloc (m : MasterId) (group : Fin 9) (size : BitVec 19) (s : State) : Out :=
  .next (regCmd m BPM_ALLOC group (bpmGroup m group (bpmAlloc m size.toNat)) s)

/-- Serve waiting hardware allocations, in the order they wait, as far as buffers are free. -/
def serveWaiting : List HwAlloc → State → State
  | [], s => s
  | w :: r, s =>
    match (s.poolFor w.bytes).2 with
    | some k =>
      let (s, h) := poolTake k w.master s
      serveWaiting r { s with bpm.served := mins s.bpm.served w.tag h, bpm.wait := s.bpm.wait.filter fun x => x.tag != w.tag }
    | none => serveWaiting r s

/-- HW_ALLOC_SERVED (R333): a waiting hardware allocation is served when a buffer is free. -/
def execHwAllocServed (s : State) : Out := .next (serveWaiting s.bpm.wait s)

/-- Return a buffer to its pool's free ring. -/
def bufReturn (h : Nat) (s : State) : State :=
  let k := handlePool h
  let s := setBufEntry s h { owner := (s.bufEntry h).owner, alloc := false, freeing := false, share := 0 }
  poolSettle k 22 { s with bpm.cache := mput [] s.bpm.cache k (mget [] s.bpm.cache k ++ [h]) }

/-- The operand of an operation names a buffer: VALID pool and INDEX below COUNT (R336). -/
def State.bufNamed (s : State) (h : Nat) : Bool := handleIdx h < s.fld BPM_PCFG_COUNT (handlePool h)

/-- FREE by a requester (R335, R336). -/
def bpmFree (m h : Nat) (s : State) : State :=
  let e := s.bufEntry h
  if !s.bufNamed h then bpmBadOp h m 0 s
  else if !e.alloc || e.owner != m || e.freeing then bpmBadFree h m e.owner s
  else if e.share = 0 then bufReturn h s
  else setBufEntry s h { e with freeing := true }

/-- SHARE (R335). -/
def bpmShare (m h : Nat) (s : State) : State :=
  let e := s.bufEntry h
  if s.bufNamed h && e.alloc && !e.freeing && e.share < 255 then setBufEntry s h { e with share := e.share + 1 } else bpmBadOp h m e.owner s

/-- UNSHARE (R335): the buffer is freed when the last share ends after a FREE. -/
def bpmUnshare (m h : Nat) (s : State) : State :=
  let e := s.bufEntry h
  if s.bufNamed h && e.alloc && 0 < e.share then
    if e.share = 1 && e.freeing then bufReturn h s else setBufEntry s h { e with share := e.share - 1 }
  else bpmBadOp h m e.owner s

/-- PASS (R335): its condition does not name ALLOC. -/
def bpmPass (m h target : Nat) (s : State) : State :=
  let e := s.bufEntry h
  if s.bufNamed h && e.owner = m && !e.freeing then setBufEntry s h { e with owner := target } else bpmBadOp h m e.owner s

/-- A BPM_OP write: the group must be the requester's own for L0–L7 and JDP; a hardware master asks internally (R335, R336). -/
def bpmOp (m group : Nat) (f : State → State) (s : State) : State := if m < 9 then regCmd m BPM_OP group (bpmGroup m group f) s else f s

/-- FREE (R335). -/
def execFree (m : MasterId) (group : Fin 9) (pool : Fin 4) (idx : BitVec 24) (s : State) : Out :=
  .next (bpmOp m group (bpmFree m (handleOf pool idx.toNat)) s)

/-- SHARE (R335). -/
def execShare (m : MasterId) (group : Fin 9) (pool : Fin 4) (idx : BitVec 24) (s : State) : Out :=
  .next (bpmOp m group (bpmShare m (handleOf pool idx.toNat)) s)

/-- UNSHARE (R335). -/
def execUnshare (m : MasterId) (group : Fin 9) (pool : Fin 4) (idx : BitVec 24) (s : State) : Out :=
  .next (bpmOp m group (bpmUnshare m (handleOf pool idx.toNat)) s)

/-- PASS (R335): firmware names the target in BPM_TARGET, a hardware master in its request. -/
def execPass (m : MasterId) (group : Fin 9) (pool : Fin 4) (idx : BitVec 24) (target : MasterId) (s : State) : Out :=
  let t := if m.val < 9 then s.fld BPM_TARGET_OWNER group else target.val
  .next (bpmOp m group (bpmPass m (handleOf pool idx.toNat) t) s)

/-- A BPM_OP write of word w to group `group` by master m (R335, R336). -/
def bpmOpWrite (m group : Nat) (w : Word) (s : State) : State :=
  let v := w.toNat
  let h := handleOf (nbits v 24 2) (v % 2 ^ 24)
  bpmGroup m group (fun s =>
    match nbits v 26 3 with
    | 1 => bpmFree m h s
    | 2 => bpmShare m h s
    | 3 => bpmUnshare m h s
    | 4 => bpmPass m h (s.fld BPM_TARGET_OWNER group) s
    | _ => bpmBadOp h m 0 s) s

/-- FREE_RING_REFILL (R334): the cache of a pool holds fewer than 16 handles. -/
def execFreeRingRefill (pool : Fin 4) (s : State) : Out :=
  .next (if (mget [] s.bpm.cache pool).length < 16 then poolRefill pool s else s)

/-- FREE_RING_SPILL (R334): the cache of a pool holds more than 48 handles; 32 go to the ring. -/
def execFreeRingSpill (pool : Fin 4) (s : State) : Out :=
  let c := mget [] s.bpm.cache pool
  if 48 < c.length then
    .next { s with bpm.ring := mput [] s.bpm.ring pool (mget [] s.bpm.ring pool ++ c.take 32), bpm.cache := mput [] s.bpm.cache pool (c.drop 32) }
  else .next s

/-! ### DMA -/

/-- Set a channel's state and its bit of DMA_ACTIVE (R338). -/
def dmaState (n st : Nat) (s : State) : State :=
  let s := s.setFld DMA_CHSTAT_STATE st n
  let put (f : Fld) (b : Nat) (s : State) : State :=
    let v := s.fld f
    let v0 := if nbit v b then v - 2 ^ b else v
    s.setFld f (if st = 1 then v0 + 2 ^ b else v0)
  if n < 32 then put DMA_ACTIVE_LO_CH n s else put DMA_ACTIVE_HI_CH (n - 32) s

/-- DONE of channel n: CHSTAT, DMA_DONE, and EV_DMA_DONE when IRQ was 1 (R338). -/
def dmaDone (n : Nat) (s : State) : State :=
  let s := (s.setFld DMA_CHSTAT_DONE 1 n).inc DMA_XFERS_COUNT
  let s := if n < 32 then s.setFld DMA_DONE_LO_CH (s.fld DMA_DONE_LO_CH ||| 2 ^ n) else s.setFld DMA_DONE_HI_CH (s.fld DMA_DONE_HI_CH ||| 2 ^ (n - 32))
  if mget false s.dma.irqActive n then raise EV_DMA_DONE n s else s

/-- A channel halts with an error code (R338, R340). -/
def dmaHalt (n err : Nat) (s : State) : State := raise EV_DMA_HALT (n + 64 * err) ((dmaState n 2 s).setFld DMA_CHSTAT_ERR err n)

/-- The alignment a swap mode asks for (R339). -/
def swapAlign (k : Nat) : Nat := if k = 0 then 1 else if k = 1 then 2 else 4

/-- Active source, destination and count of channel n. -/
def State.dmaSrc (s : State) (n : Nat) : Nat := s.pair DMA_SRC_LO_ADDR DMA_SRC_HI_ADDR n
def State.dmaDst (s : State) (n : Nat) : Nat := s.pair DMA_DST_LO_ADDR DMA_DST_HI_ADDR n
def State.dmaCnt (s : State) (n : Nat) : Nat := s.fld DMA_CNT_BYTES n

/-- The loaded shadow set of channel n moves to the active set (R337–R339). -/
def dmaMoveIn (n : Nat) (s : State) : State :=
  let s := s.setPair DMA_SRC_LO_ADDR DMA_SRC_HI_ADDR (s.pair DMA_NSRC_LO_ADDR DMA_NSRC_HI_ADDR n) n
  let s := s.setPair DMA_DST_LO_ADDR DMA_DST_HI_ADDR (s.pair DMA_NDST_LO_ADDR DMA_NDST_HI_ADDR n) n
  let s := (s.setFld DMA_CNT_BYTES (s.fld DMA_NCNT_BYTES n) n).setFld DMA_CHSTAT_SHADOW 0 n
  let s : State := { s.setFld DMA_CHSTAT_ERR 0 n with dma.irqActive := mput false s.dma.irqActive n (mget false s.dma.irqShadow n) }
  let al := max (swapAlign (s.fld DMA_SRCCFG_SWAP n)) (swapAlign (s.fld DMA_DSTCFG_SWAP n))
  if s.dmaCnt n = 0 then dmaDone n (dmaState n 0 s)
  else if s.dmaSrc n % al != 0 || s.dmaDst n % al != 0 || s.dmaCnt n % al != 0 then dmaHalt n 2 s
  else dmaState n 1 s

/-- DMA_NCTL.LOAD with its IRQ bit (R337). -/
def dmaLoad (n : Nat) (irq : Bool) (s : State) : State :=
  if s.flag DMA_CHSTAT_SHADOW n then raise EV_DMA_SHADOWBUSY n s else
  let s := (s.setFld DMA_NCTL_IRQ (b2n irq) n).setFld DMA_CHSTAT_SHADOW 1 n
  let s := { s with dma.irqShadow := mput false s.dma.irqShadow n irq }
  if s.fld DMA_CHSTAT_STATE n = 0 && !s.flag DMA_GSTAT_STOPPED then dmaMoveIn n s else s

/-- DMA_LOAD (R337). -/
def execDmaLoad (m : MasterId) (n : Fin 64) (irq : Bool) (s : State) : Out := .next (regCmd m DMA_NCTL n (dmaLoad n irq) s)

/-- DMA_NCTL.ABORT: back to idle without DONE, the shadow set discarded (R338). -/
def dmaAbort (n : Nat) (s : State) : State := (dmaState n 0 s).setFld DMA_CHSTAT_SHADOW 0 n

/-- DMA_ABORT (R338). -/
def execDmaAbort (m : MasterId) (n : Fin 64) (s : State) : Out := .next (regCmd m DMA_NCTL n (dmaAbort n) s)

/-- Swap the bytes of a beat (R339). -/
def swapBytes (k : Nat) : List Byte → List Byte
  | a :: b :: c :: d :: r =>
    (if k = 1 then [b, a, d, c] else if k = 2 then [d, c, b, a] else if k = 3 then [c, d, a, b] else [a, b, c, d]) ++ swapBytes k r
  | [a, b] => if k = 1 then [b, a] else [a, b]
  | l => l

/-- An error response stops the whole engine (R341). -/
def dmaStop (addr : Nat) (write : Bool) (s : State) : State :=
  let s := (List.range 64).foldl (fun s n =>
    if s.fld DMA_CHSTAT_STATE n = 1 then (dmaState n 3 s).setFld DMA_CHSTAT_ERR 3 n else s) s
  let s := s.setFld DMA_GSTAT_STOPPED 1
  let s := ((s.setFld DMA_ERRADDR_LO_ADDR addr).setFld DMA_ERRADDR_HI_ADDR (addr / 2 ^ 32)).setFld DMA_ERRADDR_HI_WRITE (b2n write)
  occur 21 addr 9 (b2n write) (raise EV_DMA_STOP (addr % 2 ^ 40) (s.inc DMA_STOPS_COUNT))

/-- One beat of an active channel: read, swap, write, advance (R339–R341). -/
def dmaBeat (n : Nat) (s : State) : State :=
  let src := s.dmaSrc n
  let dst := s.dmaDst n
  let cnt := s.dmaCnt n
  let b := min 64 cnt
  match memRead s 9 .read src b with
  | (_, .wait) => s
  | (s, .err 1) => dmaHalt n 1 s
  | (s, .err _) => dmaStop src false s
  | (s', .ok v) =>
    let bytes := swapBytes (s.fld DMA_DSTCFG_SWAP n) (swapBytes (s.fld DMA_SRCCFG_SWAP n) (leBytes b v))
    match memWrite s' 9 .write dst b (ofLe bytes) with
    | (_, .wait) => s
    | (s, .err _) => dmaStop dst true s
    | (s, .ok _) =>
      ((s.setPair DMA_SRC_LO_ADDR DMA_SRC_HI_ADDR (src + b) n).setPair DMA_DST_LO_ADDR DMA_DST_HI_ADDR (dst + b) n).setFld DMA_CNT_BYTES (cnt - b) n

/-- The channel whose turn it is (R339): the first active one with bytes left after the channel that had the last turn. -/
def State.dmaTurn (s : State) : Option Nat :=
  ((List.range 64).map fun i => (s.dma.last + 1 + i) % 64).find? fun n => s.fld DMA_CHSTAT_STATE n = 1 && s.dmaCnt n != 0

/-- DMA_BEAT (R339): the channels take turns, so a beat of a channel whose turn it is not does nothing yet.  A destination that overlaps the source and starts above it is an undefined case. -/
def execDmaBeat (n : Fin 64) (s : State) : Out :=
  if s.dmaTurn = some n.val then
    if s.dmaSrc n < s.dmaDst n && s.dmaDst n < s.dmaSrc n + s.dmaCnt n then
      .fault (.undefinedCase "DMA destination overlaps its source and starts above it")
    else match s.storeUndef 9 (s.dmaDst n) (min 64 (s.dmaCnt n)) with
      | some w => .fault (.undefinedCase w)
      | none => .next (dmaBeat n { s with dma.last := n })
  else .next s

/-- DMA_TRANSFER_DONE (R338): the last write is acknowledged; a loaded shadow set moves in. -/
def execDmaTransferDone (n : Fin 64) (s : State) : Out :=
  if s.fld DMA_CHSTAT_STATE n = 1 && s.dmaCnt n = 0 then
    let s := dmaDone n (dmaState n 0 s)
    .next (if s.flag DMA_CHSTAT_SHADOW n && !s.flag DMA_GSTAT_STOPPED then dmaMoveIn n s else s)
  else .next s

/-- Clearing DMA_GSTAT.STOPPED resumes stopped channels and starts waiting loads (R341). -/
def dmaResume (s : State) : State :=
  if !s.flag DMA_GSTAT_STOPPED then s else
  let s := s.setFld DMA_GSTAT_STOPPED 0
  (List.range 64).foldl (fun s n =>
    if s.fld DMA_CHSTAT_STATE n = 3 then (dmaState n 1 s).setFld DMA_CHSTAT_ERR 0 n
    else if s.fld DMA_CHSTAT_STATE n = 0 && s.flag DMA_CHSTAT_SHADOW n then dmaMoveIn n s else s) s

/-- DMA_RESUME (R341). -/
def execDmaResume (m : MasterId) (s : State) : Out := .next (regCmd m DMA_GSTAT 0 dmaResume s)

end Sys2Proof.Machine
end

