-- ==== Sys2Proof/Machine/Dram.lean ====
section
/-! DEFINITION. Family: the DRAM controller DRC (spec/16_dram.md). -/

namespace Sys2Proof.Machine

/-- XOR the stored bits of the beat that holds DRAM offset off: data bits 31:0, check byte 39:32. -/
def dramUpset (off flips : Nat) (s : State) : State :=
  if flips = 0 then s else
  let a := 0x1000000000 + off / 4 * 4
  let d := s.rawNat a 4
  let d' := d ^^^ flips % 2 ^ 32
  let diff := chkBeat d 0 ^^^ chkBeat d' 0 ^^^ flips / 2 ^ 32
  { s with mem := memPuts s.mem a (leBytes 4 d')
           chk := mput 0 s.chk a (mget 0 s.chk a ^^^ BitVec.ofNat 8 diff) }

/-- DRAM_READ (R346): a master reads n bytes; flips are the bits of the first beat that have changed since they were written;
queuedWrite says that the read's row matches a queued write of the same bank, which enters in-order mode (R353). -/
def execDramRead (m : MasterId) (off : BitVec 37) (n : Fin 65) (fetch : Bool) (flips : BitVec 40) (queuedWrite : Bool) (s : State) : Out :=
  let a := 0x1000000000 + off.toNat
  let s := dramUpset off.toNat flips.toNat s
  let s := if queuedWrite && s.region a = .dram && s.dramReady a then s.inc DRC_INORDER_COUNT else s
  .next (answerRead m a (memRead s m (if fetch then .fetch else .read) a n))

/-- DRAM_WRITE (R344): a master writes n bytes of v. -/
def execDramWrite (m : MasterId) (off : BitVec 37) (n : Fin 65) (v : BitVec 512) (flips : BitVec 40) (s : State) : Out :=
  let a := 0x1000000000 + off.toNat
  match s.storeUndef m a n with
  | some w => .fault (.undefinedCase w)
  | none => .next (answerWrite m a (memWrite (dramUpset off.toNat flips.toNat s) m .write a n (v.toNat % 2 ^ (8 * n.val))))

/-- Byte i of the delay table of channel c (R347, R348). -/
def State.dlyByte (s : State) (c i : Nat) : Nat := nbits (s.fld DRC_DLY_BYTES c (i / 4)) (8 * (i % 4)) 8

/-- Bytes 216 and 217 agree between the channels and give an organisation of R343 for the installed capacity and ranks. -/
def State.dramOrgOk (s : State) : Bool :=
  let wd := s.dlyByte 0 216
  let dn := s.dlyByte 0 217
  let agree := (List.range 4).all fun c => s.dlyByte c 216 = wd && s.dlyByte c 217 = dn
  let ranks := 1 + s.fld DRC_CFG_RANKS
  agree && [(8, 1, 0, 1), (16, 1, 1, 1), (16, 0, 0, 1), (32, 0, 1, 1), (32, 1, 1, 2), (64, 0, 2, 1), (64, 0, 1, 2), (128, 0, 2, 2)].contains
    (s.fld DRC_CFG_GIB, wd, dn, ranks)

/-- DRC_INIT.GO (R349): the sequence starts; DRC takes the device width and density from the delay table and reports the refresh
timings it sets (JESD79-5B's tREFI of 3.9 µs in 10 ns units, and tRFC1 by density). -/
def dramInit (s : State) : State :=
  let dn := s.dlyByte 0 217
  let s := (s.setFld DRC_CFG_X16 (s.dlyByte 0 216)).setFld DRC_CFG_DENS dn
  let s := (s.setFld DRC_REF_TREFI 390).setFld DRC_REF_TRFC (if dn = 0 then 195 else if dn = 1 then 295 else 410)
  { s.setReg DRC_INITSTAT 0 with drc.initBusy := true }

/-- DRAM_INIT (R349). -/
def execDramInit (m : MasterId) (s : State) : Out := .next (regCmd m DRC_INIT 0 dramInit s)

/-- REFRESH (R352): REFab to a rank; a refresh closes all rows of the rank (R354). -/
def execRefresh (ch : Fin 4) (rank : Fin 2) (s : State) : Out :=
  if s.domOn dDRAM && s.flag DRC_INITSTAT_DONE && !s.drc.selfRef then
    .next { s with drc.banks := (List.range 32).foldl (fun b k =>
      mmod {} b ((ch.val * 2 + rank.val) * 32 + k) fun x => { x with openRow := none }) s.drc.banks }
  else .next s

/-- A channel changes between normal and doubled refresh (R352). -/
def dramDouble (c : Nat) (dbl : Bool) (s : State) : State :=
  let v := s.fld DRC_REF_DOUBLE
  let s := s.setFld DRC_REF_DOUBLE (if dbl then v ||| 2 ^ c else v - 2 ^ c)
  let s := if dbl then s.inc DRC_TEMPCNT_COUNT else s
  raise EV_DRC_TEMPHI c s

/-- MR4_POLL (R352): bit c of hot says that a device of channel c reports a refresh rate for temperatures above 85 °C. -/
def execMr4Poll (hot : BitVec 4) (s : State) : Out :=
  if !(s.domOn dDRAM && s.flag DRC_INITSTAT_DONE && !s.drc.selfRef) then .next s else
  .next ((List.range 4).foldl (fun s c =>
    let dbl := nbit (s.fld DRC_REF_DOUBLE) c
    if nbit hot.toNat c then
      let s := { s with drc.coolPolls := mput 0 s.drc.coolPolls c 0 }
      if dbl then s else dramDouble c true s
    else
      let k := mget 0 s.drc.coolPolls c + 1
      if dbl && 2 ≤ k then dramDouble c false { s with drc.coolPolls := mput 0 s.drc.coolPolls c 0 }
      else { s with drc.coolPolls := mput 0 s.drc.coolPolls c (if dbl then k else 0) }) s)

/-- REFRESH_WINDOW (R355): every activate table of the channel is cleared. -/
def execRefreshWindow (ch : Fin 4) (s : State) : Out :=
  .next { s with drc.banks := (List.range 64).foldl (fun b k => mmod {} b (ch.val * 64 + k) fun x => { x with table := [] }) s.drc.banks }

/-- ROW_IDLE_CLOSE (R354): an open row with no hit for DRC_PAGE.IDLE cycles is closed, but in mode 1. -/
def execRowIdleClose (ch : Fin 4) (rank : Fin 2) (bg : Fin 8) (bank : Fin 4) (s : State) : Out :=
  if s.cur DRC_PAGE_MODE = 1 then .next s else
  .next { s with drc.banks := mmod {} s.drc.banks (((ch.val * 2 + rank.val) * 8 + bg.val) * 4 + bank.val) fun x => { x with openRow := none } }

/-- A write of DRC_CHCTL.HOLD: bank operations in progress are complete between steps, so HELD follows at once (R350). -/
def dramHold (mask : Nat) (s : State) : State := (s.setFld DRC_CHCTL_HOLD mask).setFld DRC_CHCTL_HELD mask

/-- CHANNEL_HOLD (R350). -/
def execChannelHold (m : MasterId) (mask : BitVec 4) (s : State) : Out := .next (regCmd m DRC_CHCTL 0 (dramHold mask.toNat) s)

/-- The DRAM scrub runs (R356). -/
def State.dramScrubOn (s : State) : Bool :=
  s.on DRC_SCRUB_ENA && s.mode != mDORMANT && s.domOn dDRAM && s.flag DRC_INITSTAT_DONE && !s.drc.selfRef

/-- DRAM_SCRUB_PASS (R356): a pass over installed DRAM in address order.  Only lines whose check bits disagree can change
anything. -/
def execDramScrubPass (s : State) : Out :=
  if !s.dramScrubOn then .next s else
  let lines := (((mkeys s.chk).filter fun a => s.region a = .dram).map fun a => a / 64 * 64).eraseDups
  let s := lines.foldl (fun s a => (dramLine s 23 .read a true).1) s
  .next (s.inc DRC_SCRUBPASS_COUNT)

/-- DRAM_SCRUB_LATE (R356): a pass overruns SEC; line 29 has an occurrence (R390). -/
def execDramScrubLate (s : State) : Out :=
  if !s.dramScrubOn then .next s else
  .next (occur 29 0 23 3 (raise EV_DRC_SCRUBLATE 0 (s.setFld DRC_STAT_SCRUBLATE 1)))

/-- Write a DRC_DLY word: it takes effect at once, and the always-on copy follows (R348, R350). -/
def dlyWrite (c w : Nat) (v : Word) (s : State) : State :=
  (s.setReg DRC_DLY v c w).poke (0x8000E000 + 256 * c + 4 * w) 4 v.toNat

end Sys2Proof.Machine
end

