-- ==== Sys2Proof/Machine/Aes.lean ====
section
/-! DEFINITION. AES (FIPS 197) as the cipher complex's cores compute it (R305), and the modes that the model computes itself: XTS (R314, R315) and CTR (R272). -/

namespace Sys2Proof.Machine

/-- Doubling in the AES field (polynomial 0x11B). -/
def aesDbl (b : Byte) : Byte := (b <<< 1) ^^^ (if b.getLsbD 7 then 0x1B else 0)

/-- The product in the AES field. -/
def aesMul (a b : Byte) : Byte :=
  ((List.range 8).foldl (fun (acc : Byte × Byte) i => ((if a.getLsbD i then acc.1 ^^^ acc.2 else acc.1), aesDbl acc.2)) (0, b)).1

/-- The inverse in the AES field, with 0 to 0: the 254th power. -/
def aesInv (b : Byte) : Byte :=
  ((List.range 7).foldl (fun (acc : Byte × Byte) _ => let q := aesMul acc.2 acc.2; (aesMul acc.1 q, q)) (1, b)).1

/-- The S-box and its inverse. -/
def sbox (b : Byte) : Byte :=
  let i := aesInv b
  i ^^^ i.rotateLeft 1 ^^^ i.rotateLeft 2 ^^^ i.rotateLeft 3 ^^^ i.rotateLeft 4 ^^^ 0x63
def sboxInv (b : Byte) : Byte := aesInv (b.rotateLeft 1 ^^^ b.rotateLeft 3 ^^^ b.rotateLeft 6 ^^^ 0x05)

/-- The S-box as a table. -/
def sboxTable : Array Byte := ((List.range 256).map fun i => sbox (BitVec.ofNat 8 i)).toArray
def sboxInvTable : Array Byte := ((List.range 256).map fun i => sboxInv (BitVec.ofNat 8 i)).toArray
def subByte (b : Byte) : Byte := sboxTable.getD b.toNat 0
def subByteInv (b : Byte) : Byte := sboxInvTable.getD b.toNat 0

/-- Byte i of a list. -/
def bAt (l : List Byte) (i : Nat) : Byte := nth 0 l i

/-- XOR of byte lists. -/
def xorBytes (a b : List Byte) : List Byte := List.zipWith (· ^^^ ·) a b

/-- Key expansion: words of four bytes; nk = 4 (AES-128) or 8 (AES-256). -/
def expandKey (key : List Byte) : List (List Byte) :=
  let nk := key.length / 4
  let w0 := (List.range nk).map fun i => (key.drop (4 * i)).take 4
  let total := 4 * (nk + 7)
  ((List.range (total - nk)).foldl (fun (acc : Array (List Byte) × Byte) t =>
    let i := nk + t
    let prev := acc.1.getD (i - 1) []
    let base := acc.1.getD (i - nk) []
    if i % nk = 0 then
      let r := [bAt prev 1, bAt prev 2, bAt prev 3, bAt prev 0].map subByte
      (acc.1.push (xorBytes base (xorBytes r [acc.2, 0, 0, 0])), aesDbl acc.2)
    else if nk = 8 && i % 8 = 4 then (acc.1.push (xorBytes base (prev.map subByte)), acc.2)
    else (acc.1.push (xorBytes base prev), acc.2)) (w0.toArray, 1)).1.toList

/-- Round key r as 16 bytes. -/
def roundKey (ws : List (List Byte)) (r : Nat) : List Byte := ((ws.drop (4 * r)).take 4).flatten

/-- ShiftRows and its inverse on 16 bytes in column order. -/
def shiftRows (l : List Byte) : List Byte := (List.range 16).map fun i => bAt l ((i + 4 * (i % 4)) % 16)
def shiftRowsInv (l : List Byte) : List Byte := (List.range 16).map fun i => bAt l ((i + 12 * (i % 4)) % 16)

/-- A column times a circulant of coefficients. -/
def mixWith (c0 c1 c2 c3 : Byte) (l : List Byte) : List Byte :=
  (List.range 16).map fun i =>
    let q := i / 4 * 4
    let x (k : Nat) : Byte := bAt l (q + (i + k) % 4)
    aesMul c0 (x 0) ^^^ aesMul c1 (x 1) ^^^ aesMul c2 (x 2) ^^^ aesMul c3 (x 3)

/-- Encrypt a block with a key of 16 or 32 bytes. -/
def aesEnc (key blk : List Byte) : List Byte :=
  let ws := expandKey key
  let nr := key.length / 4 + 6
  let s := xorBytes blk (roundKey ws 0)
  let s := (rangeFrom 1 (nr - 1)).foldl (fun s r => xorBytes (mixWith 2 3 1 1 (shiftRows (s.map subByte))) (roundKey ws r)) s
  xorBytes (shiftRows (s.map subByte)) (roundKey ws nr)

/-- Decrypt a block. -/
def aesDec (key blk : List Byte) : List Byte :=
  let ws := expandKey key
  let nr := key.length / 4 + 6
  let s := xorBytes blk (roundKey ws nr)
  let s := (rangeFrom 1 (nr - 1)).reverse.foldl (fun s r => mixWith 14 11 13 9 (xorBytes ((shiftRowsInv s).map subByteInv) (roundKey ws r))) s
  xorBytes ((shiftRowsInv s).map subByteInv) (roundKey ws 0)

/-- Multiply an XTS tweak by x (IEEE 1619): a 128-bit little-endian number. -/
def xtsDouble (t : Nat) : Nat := (t * 2) % 2 ^ 128 ^^^ (if nbit t 127 then 0x87 else 0)

/-- XTS-AES-256 over one 4,096-byte data unit (R315); key is key 1 (32 bytes) and then key 2. -/
def xtsUnit (enc : Bool) (key : List Byte) (dun v : Nat) : Nat :=
  let k1 := key.take 32
  let k2 := (key.drop 32).take 32
  let t0 := ofLe (aesEnc k2 (leBytes 16 dun))
  ((List.range 256).foldl (fun (acc : Nat × Nat) i =>
    let x := nbits v (128 * i) 128 ^^^ acc.2
    let y := ofLe (if enc then aesEnc k1 (leBytes 16 x) else aesDec k1 (leBytes 16 x)) ^^^ acc.2
    (acc.1 + y * 2 ^ (128 * i), xtsDouble acc.2)) (0, t0)).1

/-- AES-CTR keystream applied to n bytes from block index blk of a 16-byte big-endian counter block (the counter is its low 64
bits, R272). -/
def ctrApply (key : List Byte) (icb : List Byte) (blk : Nat) (data : List Byte) : List Byte :=
  let base := ofBe icb
  let hi := base / 2 ^ 64
  ((List.range (ceilDiv data.length 16)).map fun i =>
    let c := hi * 2 ^ 64 + (base + blk + i) % 2 ^ 64
    xorBytes ((data.drop (16 * i)).take 16) (aesEnc key (leBytes 16 c).reverse)).flatten

end Sys2Proof.Machine
end

