-- ==== Sys2Proof/Machine/Ldpc.lean ====
section
/-! DEFINITION. The codeword (R107–R110): the quasi-cyclic LDPC code with circulants of 128 bits, its encoder and parity check, the scrambler, CRC-32C. -/

namespace Sys2Proof.Machine

/-- A codeword: 4,608 bytes (R107). -/
abbrev CwBits := BitVec 36864

/-- The information part of a codeword: 4,096 data bytes and the 16-byte metadata field (R107). -/
abbrev InfoBits := BitVec 32896

/-- Block column j of 128 bits (R108). -/
def cwBlock {w : Nat} (c : BitVec w) (j : Nat) : BitVec 128 := c.extractLsb' (128 * j) 128

/-- Syndromes of the 31 block rows taken over the information columns: a circulant with shift s connects row t to bit
(t + s) mod 128 (R108). -/
def infoSyndrome {w : Nat} (c : BitVec w) (r : Nat) : BitVec 128 :=
  (List.range 4).foldl (fun acc k =>
    -- columns j with (j + 8k) mod 31 = r
    let j0 := (r + 31 * 8 - 8 * k) % 31
    (List.range 9).foldl (fun acc n =>
      let j := j0 + 31 * n
      if j < 257 then acc ^^^ (cwBlock c j).rotateRight ((37 * j + 61 * k + 13) % 128) else acc) acc) 0

/-- The parity blocks by accumulation (R109): block 0 is q(0), block p is q(p) XOR block p − 1. -/
def parityBlocks {w : Nat} (c : BitVec w) : List (BitVec 128) :=
  ((List.range 31).foldl (fun (acc : List (BitVec 128) × BitVec 128) r =>
    let p := infoSyndrome c r ^^^ acc.2
    (p :: acc.1, p)) ([], 0)).1.reverse

/-- Encode: the information bits followed by the 31 parity blocks (R107, R109). -/
def ldpcEncode (info : InfoBits) : CwBits :=
  let par := (parityBlocks info).reverse.foldl (fun (acc : Nat) b => acc * 2 ^ 128 + b.toNat) 0
  BitVec.ofNat 36864 (info.toNat + par * 2 ^ 32896)

/-- The number of unsatisfied checks of a stored codeword (R108): row r joins its information columns with parity columns r and
r − 1. -/
def unsatisfied (c : CwBits) : Nat :=
  (List.range 31).foldl (fun n r =>
    let p := infoSyndrome c r ^^^ cwBlock c (257 + r) ^^^ (if r = 0 then 0 else cwBlock c (256 + r))
    n + popCount 128 p.toNat) 0

/-- Every parity check is satisfied. -/
def ldpcOk (c : CwBits) : Bool := unsatisfied c = 0

/-! ### CRC-32C -/

/-- One bit step of the reflected CRC-32C register (Castagnoli polynomial, R14). -/
def crcBit (r : BitVec 32) : BitVec 32 := if r.getLsbD 0 then (r >>> 1) ^^^ 0x82F63B78#32 else r >>> 1

/-- One byte. -/
def crcByte (r : BitVec 32) (b : Byte) : BitVec 32 :=
  (List.range 8).foldl (fun r _ => crcBit r) (r ^^^ b.setWidth 32)

/-- CRC-32C of a byte string: initial value and final XOR of all ones. -/
def crc32c (l : List Byte) : BitVec 32 := (l.foldl crcByte 0xFFFFFFFF#32) ^^^ 0xFFFFFFFF#32

/-! ### Scrambler -/

/-- One step of the 32-bit Fibonacci LFSR x^32 + x^22 + x^2 + x + 1: the output bit and the next state (R110).  DESIGN CHOICE (log 85): it shifts left, bit 31
before the shift is the output, and the seed loads bit for bit; the spec gives the polynomial only. -/
def lfsrStep (r : BitVec 32) : Bool × BitVec 32 :=
  let fb := (r.getLsbD 31 ^^ r.getLsbD 21) ^^ (r.getLsbD 1 ^^ r.getLsbD 0)
  (r.getLsbD 31, (r <<< 1) ||| (if fb then 1 else 0))

/-- n output bits from a state, first bit least significant. -/
def lfsrBits : Nat → BitVec 32 → Nat → Nat → Nat
  | 0, _, _, acc => acc
  | n + 1, r, i, acc =>
    let (b, r') := lfsrStep r
    lfsrBits n r' (i + 1) (if b then acc + 2 ^ i else acc)

/-- The scrambler's seed: the CRC-32C of channel, die index, ROW, plane × 4 + position, 0 and SEEDMIX; 0 is replaced by 1 (R110). -/
def scrSeed (ch die row pos mix : Nat) : BitVec 32 :=
  let s := crc32c (leBytes 1 ch ++ leBytes 1 die ++ leBytes 4 row ++ leBytes 1 pos ++ leBytes 1 0 ++ leBytes 4 mix)
  if s = 0 then 1 else s

/-- The 4,112 bytes that the scrambler XORs to data and metadata (R110). -/
def scrStream (seed : BitVec 32) : InfoBits := BitVec.ofNat 32896 (lfsrBits 32896 seed 0 0)

/-- The positions 37k, k < CNT, that error injection inverts (R127). -/
def injectMask (cnt : Nat) : CwBits :=
  BitVec.ofNat 36864 ((List.range (min cnt 996)).foldl (fun n k => n + 2 ^ (37 * k)) 0)

end Sys2Proof.Machine
end

