-- ==== Sys2Proof/Machine/Media.lean ====
section
/-! DEFINITION. Named operations over the media tables: the geometry of dies (R85, R133, R135), the map (R131, R132), the block table (R158), the group table (R159), groups, members and stripes (R177–R179). -/

namespace Sys2Proof.Machine

/-! ### Geometry -/

/-- Ceiling of log2 of 1 to 4 planes. -/
def planeBits (planes : Nat) : Nat := if planes ≤ 1 then 0 else if planes = 2 then 1 else 2

/-- Planes, plane bits, page bits and blocks per plane of a channel (FCH_GEOM). -/
def State.planes (s : State) (ch : Nat) : Nat := s.fld FCH_GEOM_PLANES ch
def State.pb (s : State) (ch : Nat) : Nat := planeBits (s.planes ch)
def State.pageBits (s : State) (ch : Nat) : Nat := s.fld FCH_GEOM_PAGEBITS ch
def State.blkpp (s : State) : Nat := (List.range 32).foldl (fun n c => max n (s.fld FCH_GEOM_BLKPP c)) 0

/-- Channel and die index of a die position (R133). -/
def posCh (pos : Nat) : Nat := pos / 64 % 32
def posDie (pos : Nat) : Nat := pos % 64

/-- State of the die at a position (R92). -/
def State.dieState (s : State) (pos : Nat) : Nat := s.fld FCH_DIESTAT_STATE (posCh pos) (posDie pos)

/-- Write a die's state. -/
def setDieState (s : State) (pos v : Nat) : State := s.setFld FCH_DIESTAT_STATE v (posCh pos) (posDie pos)

/-- The die at a position beside its registers. -/
def State.die (s : State) (pos : Nat) : Die := mget {} s.dies pos

/-- Update a die. -/
def modDie (s : State) (pos : Nat) (f : Die → Die) : State := { s with dies := mmod {} s.dies pos f }

/-- The channel beside its registers. -/
def State.chan (s : State) (ch : Nat) : Chan := mget {} s.chans ch

/-- Update a channel. -/
def modChan (s : State) (ch : Nat) (f : Chan → Chan) : State := { s with chans := mmod {} s.chans ch f }

/-- A die is present (found, though it may be retired). -/
def State.populated (s : State) (pos : Nat) : Bool := s.dieState pos != 0

/-- A die is in service: present, not retired, and not taken out of service by SKM (R171). -/
def State.inService (s : State) (pos : Nat) : Bool :=
  s.dieState pos != 0 && s.dieState pos != 6 && !mget false s.skm.out pos

/-- All die positions. -/
def allPos : List Nat := List.range 2048

/-- Fields of a CWA on its die's channel: block within the plane, page, plane, codeword (R133). -/
def State.cwaCw (_ : State) (cwa : Nat) : Nat := cwa % 4
def cwaPos (cwa : Nat) : Nat := cwa >>> 26 % 2048
def State.cwaPlane (s : State) (cwa : Nat) : Nat := nbits cwa 2 (s.pb (posCh (cwa >>> 26)))
def State.cwaPage (s : State) (cwa : Nat) : Nat :=
  let ch := posCh (cwa >>> 26)
  nbits cwa (2 + s.pb ch) (s.pageBits ch)
def State.cwaBlk (s : State) (cwa : Nat) : Nat :=
  let ch := posCh (cwa >>> 26)
  (cwa % 2 ^ 26) >>> (2 + s.pb ch + s.pageBits ch)

/-- The CWA of the first codeword of a page of a die block (R133). -/
def State.cwaOf (s : State) (pos blk page : Nat) : Nat :=
  let ch := posCh pos
  (pos <<< 26) + (((blk <<< s.pageBits ch) + page) <<< (2 + s.pb ch))

/-- The ROW of a page: block within the plane, plane code, page (R85). -/
def State.rowOf (s : State) (ch blk plane page : Nat) : Nat := (((blk <<< s.pb ch) + plane) <<< s.pageBits ch) + page

/-- Block number, plane code, block within the plane and page of a ROW. -/
def State.rowBlock (s : State) (ch row : Nat) : Nat := row >>> s.pageBits ch
def State.rowPlane (s : State) (ch row : Nat) : Nat := s.rowBlock ch row % 2 ^ s.pb ch
def State.rowBlk (s : State) (ch row : Nat) : Nat := s.rowBlock ch row >>> s.pb ch
def State.rowPage (s : State) (ch row : Nat) : Nat := row % 2 ^ s.pageBits ch

/-- The ROW with its plane bits replaced. -/
def State.rowWithPlane (s : State) (ch row plane : Nat) : Nat := s.rowOf ch (s.rowBlk ch row) plane (s.rowPage ch row)

/-! ### The map (R131, R132) -/

/-- Codewords of a unit by IU code (R44, R130): 4, 16, 64, 256 KiB. -/
def iuCw (iu : Nat) : Nat := 4 ^ iu

/-- The map address of an entry (R131). -/
def State.mapAddr (s : State) (slot lu : Nat) : Nat :=
  let before := (List.range slot).foldl (fun n j => n + mget 0 s.txe.maxUnits j) 0
  s.fld TXE_MAPBASE_LO_ADDR + 2 ^ 32 * s.fld TXE_MAPBASE_HI_ADDR + 5 * before + 5 * lu

/-- A map entry as it stands: CWA in bits 36:0, STATE in bits 39:37 (R132). -/
def State.mapEntry (s : State) (slot lu : Nat) : Nat := s.rawNat (s.mapAddr slot lu) 5

def entCwa (e : Nat) : Nat := e % 2 ^ 37
def entSt (e : Nat) : Nat := nbits e 37 3
def entOf (cwa st : Nat) : Nat := cwa % 2 ^ 37 + st * 2 ^ 37

/-- Mark the map pages that hold a byte of an entry dirty (R136); the map is checkpoint region 0. -/
def mapDirty (s : State) (slot lu : Nat) : State :=
  let ofs := s.mapAddr slot lu - (s.fld TXE_MAPBASE_LO_ADDR + 2 ^ 32 * s.fld TXE_MAPBASE_HI_ADDR)
  { s with dirty.pages := mput false (mput false s.dirty.pages (ofs / 16384) true) ((ofs + 4) / 16384) true }

/-- The slot holds a namespace. -/
def State.nsExists (s : State) (slot : Nat) : Bool := s.flag TXE_NSCFG_EXISTS slot

/-- Units of a slot's namespace. -/
def State.nsUnits (s : State) (slot : Nat) : Nat := s.fld TXE_NSUNITS_LO_UNITS slot + 2 ^ 32 * s.fld TXE_NSUNITS_HI_UNITS slot

/-- Codewords of a unit of a slot. -/
def State.slotCw (s : State) (slot : Nat) : Nat := iuCw (s.fld TXE_NSCFG_IU slot)

/-- The entry maps a location. -/
def mapped (e : Nat) : Bool := entSt e = 1 || entSt e = 2

/-! ### Block table and group table -/

/-- A block table entry (R158). -/
structure Bt where
  state   : Nat := 0
  slc     : Bool := false
  suspect : Bool := false
  cause   : Nat := 0
  wear    : Nat := 0
  group   : Nat := 0
  deriving DecidableEq, Repr

def State.btAddr (s : State) (pos b : Nat) : Nat :=
  s.fld SKM_BTBASE_LO_ADDR + 2 ^ 32 * s.fld SKM_BTBASE_HI_ADDR + (pos * s.blkpp + b) * 8

/-- Read the entry of die block b of a die. -/
def State.bt (s : State) (pos b : Nat) : Bt :=
  let w := s.rawNat (s.btAddr pos b) 8
  { state := nbits w 0 2, slc := nbit w 2, suspect := nbit w 3, cause := nbits w 4 4, wear := nbits w 8 24, group := nbits w 32 24 }

/-- Write an entry, as SKM (R16). -/
def setBt (s : State) (pos b : Nat) (e : Bt) : State :=
  ringWrite s 19 (s.btAddr pos b) 8 (e.state % 4 + b2n e.slc * 4 + b2n e.suspect * 8 + e.cause % 16 * 16 + e.wear % 2 ^ 24 * 256 + e.group % 2 ^ 24 * 2 ^ 32)

def State.gtAddr (s : State) (g : Nat) : Nat := s.fld SKM_GTBASE_LO_ADDR + 2 ^ 32 * s.fld SKM_GTBASE_HI_ADDR + 16 * g

/-- Fields of a group table entry (R159): VALID, STATE, FENCE, CLOSED. -/
def State.gtValid (s : State) (g : Nat) : Nat := s.rawNat (s.gtAddr g) 4
def State.gtState (s : State) (g : Nat) : Nat := nbits (s.rawNat (s.gtAddr g + 4) 4) 0 3
def State.gtCream (s : State) (g : Nat) : Bool := nbit (s.rawNat (s.gtAddr g + 4) 4) 3
def State.gtFence (s : State) (g : Nat) : Nat := s.rawNat (s.gtAddr g + 8) 4
def State.gtClosed (s : State) (g : Nat) : Nat := s.rawNat (s.gtAddr g + 12) 4

/-- TXE counts VALID (R159), SKM keeps STATE (R160). -/
def setGtValid (s : State) (g v : Nat) : State := ringWrite s 14 (s.gtAddr g) 4 v
def setGtState (s : State) (g st : Nat) : State :=
  let w := s.rawNat (s.gtAddr g + 4) 4
  ringWrite s 19 (s.gtAddr g + 4) 4 (w - w % 8 + st)

/-- Group indices in use: those of groups that the stripe engine knows. -/
def State.groupIdx (s : State) : List Nat := mkeys s.ste.groups

/-! ### Checkpoint numbers (R204) -/

/-- Number a is at or above number b, modulo 2^32. -/
def ckAtLeast (a b : Nat) : Bool := (a + 2 ^ 32 - b) % 2 ^ 32 < 2 ^ 31

/-- The number of the next map checkpoint to begin: CKP_CUR, or one above it while that one is in progress. -/
def State.nextCkp (s : State) : Nat := (s.fld CKP_CUR_NUM + b2n (s.flag CKP_STAT_ACTIVE)) % 2 ^ 32

/-! ### Groups and stripes (R177–R179) -/

/-- The stripe engine's record of a group. -/
def State.grp (s : State) (g : Nat) : Option Group := mfind s.ste.groups g

/-- Members of a group at a stripe, in ascending channel order: those not dropped before it (R188). -/
def Group.at (g : Group) (stripe : Nat) : List (Nat × Nat) := (g.mem.filter fun m => stripe < m.2.2).map fun m => (m.1, m.2.1)

/-- Width at a stripe, and data members. -/
def Group.width (g : Group) (stripe : Nat) : Nat := (g.at stripe).length
def Group.dataN (g : Group) (stripe : Nat) : Nat := g.width stripe - 2

/-- The data index of member position j in a stripe of width w; w − 2 is P and w − 1 is Q (R179). -/
def dataIdx (w stripe j : Nat) : Nat := (j + 2 * w - (stripe + 2) % w) % w

/-- The member position of data index i. -/
def dataMember (w stripe i : Nat) : Nat := (stripe + 2 + i) % w

/-- Codeword slots of a member of a stripe, as CWAs number them: 4 × 2^PB in SLC mode, 16 × 2^PB in QLC mode (R178). -/
def State.memberSlots (s : State) (cream : Bool) (ch : Nat) : Nat := (if cream then 4 else 16) * 2 ^ s.pb ch

/-- A codeword slot of a member exists: its plane code names a plane. -/
def State.slotOk (s : State) (ch o : Nat) : Bool := o / 4 % 2 ^ s.pb ch < s.planes ch

/-- Codewords of a member. -/
def State.memberCw (s : State) (cream : Bool) (ch : Nat) : Nat := (if cream then 4 else 16) * s.planes ch

/-- The channel of a group's first member (every member has the same geometry, R49). -/
def Group.ch (g : Group) : Nat := match g.mem with | [] => 0 | m :: _ => posCh m.1

/-- Codewords of data that a stripe holds. -/
def State.stripeDataCw (s : State) (g : Group) (stripe : Nat) : Nat := g.dataN stripe * s.memberCw g.cream g.ch

/-- Stripes of a group (R178). -/
def State.stripesOf (s : State) (g : Group) : Nat := 2 ^ (s.pageBits g.ch - 2)

/-- Stripes of a group that may have ended early (R188). -/
def State.stripesIn (s : State) (g : Group) : Nat := min (s.stripesOf g) g.endS

/-- First page of a stripe on its members: page s in SLC mode, page 4s in QLC mode (R178). -/
def pageOfStripe (cream : Bool) (stripe : Nat) : Nat := if cream then stripe else 4 * stripe

/-- The stripe that a page belongs to. -/
def stripeOfPage (cream : Bool) (page : Nat) : Nat := if cream then page else page / 4

/-- The CWA of slot o of member j of a stripe. -/
def State.slotCwa (s : State) (g : Group) (stripe j o : Nat) : Nat :=
  let m := nth (0, 0) (g.at stripe) j
  s.cwaOf m.1 m.2 (pageOfStripe g.cream stripe) + o

/-- The group, and its index, that holds the die block of a CWA. -/
def State.groupOfCwa (s : State) (cwa : Nat) : Nat := (s.bt (cwaPos cwa) (s.cwaBlk cwa)).group

/-- The stripe of a CWA within its group. -/
def State.stripeOfCwa (s : State) (cwa : Nat) : Nat := stripeOfPage (s.gtCream (s.groupOfCwa cwa)) (s.cwaPage cwa)

/-- The member position and the slot of a CWA in its stripe. -/
def State.memberOfCwa (s : State) (g : Group) (cwa : Nat) : Option (Nat × Nat) :=
  let stripe := stripeOfPage g.cream (s.cwaPage cwa)
  ((g.at stripe).findIdx? fun m => m.1 = cwaPos cwa && m.2 = s.cwaBlk cwa).map fun j =>
    (j, cwa - s.cwaOf (cwaPos cwa) (s.cwaBlk cwa) (pageOfStripe g.cream stripe))

/-- A stripe in the works. -/
def State.stripe (s : State) (g stripe : Nat) : Option Stripe := s.ste.stripes.find? fun x => x.group = g && x.idx = stripe

/-- Replace a stripe's record. -/
def setStripe (s : State) (x : Stripe) : State :=
  { s with ste.stripes := s.ste.stripes.map fun y => if y.group = x.group && y.idx = x.idx then x else y }

/-- Remove a stripe's record. -/
def dropStripe (s : State) (g i : Nat) : State := { s with ste.stripes := s.ste.stripes.filter fun y => !(y.group = g && y.idx = i) }

/-- Serialise a group's ledger entry (224 bytes, R188). -/
def groupEntry (gi : Nat) (g : Group) : Nat :=
  let d0 := match g.mem with | [] => 0 | m :: _ => posDie m.1
  gi % 2 ^ 24 + g.stream % 8 * 2 ^ 24 + b2n g.cream * 2 ^ 27 + g.w0 * 2 ^ 32 + (g.w0 - 2) * 2 ^ 40 + d0 * 2 ^ 48
    + (g.closeckp.getD 0xFFFFFFFF) * 2 ^ 64 + g.endS * 2 ^ 96
    + g.mem.zipIdx.foldl (fun n mi => n + (mi.1.1 % 2048 + mi.1.2.1 % 65536 * 2 ^ 11 + mi.1.2.2 % 2048 * 2 ^ 27) * 2 ^ (8 * (32 + 6 * mi.2))) 0

def State.gmAddr (s : State) (g : Nat) : Nat := s.fld STE_GMBASE_LO_ADDR + 2 ^ 32 * s.fld STE_GMBASE_HI_ADDR + 256 * g

/-- Write a group's entry into the group map, as STE (R16), keeping its degraded mask. -/
def putGroupMap (gi : Nat) (s : State) : State :=
  match s.grp gi with
  | some g => ringWrite s 15 (s.gmAddr gi) 224 (groupEntry gi g)
  | none => s

/-- The degraded mask of a group: bit j for member j at open (R194). -/
def State.degraded (s : State) (g : Nat) : Nat := s.rawNat (s.gmAddr g + 224) 4
def setDegraded (s : State) (g v : Nat) : State := ringWrite s 15 (s.gmAddr g + 224) 4 v

/-- Replace a group's record and its group map entry. -/
def setGroup (s : State) (gi : Nat) (g : Group) : State := putGroupMap gi { s with ste.groups := mins s.ste.groups gi g }

/-- A stripe of a group is complete, as far as the stripe engine knows: appended (R144).  Of a group that no list of appended stripes names, as one that
left the ledger before the last start, every stripe counts (DEDUCED, log 91). -/
def State.stripeComplete (s : State) (gi i : Nat) : Bool :=
  match mfind s.ckp.appended gi with
  | some m => nbit m i
  | none => true

/-! ### Jobs -/

/-- Queue a job; answers its id. -/
def addJob (j : Job) (s : State) : State × Nat :=
  let id := s.tck.nextJob
  ({ s with tck.jobs := mins s.tck.jobs id j, tck.nextJob := id + 1 }, id)

/-- Update a job, if it is still there. -/
def modJob (s : State) (id : Nat) (f : Job → Job) : State :=
  match mfind s.tck.jobs id with
  | some j => { s with tck.jobs := mins s.tck.jobs id (f j) }
  | none => s

/-- Forget a job. -/
def delJob (s : State) (id : Nat) : State := { s with tck.jobs := mdel s.tck.jobs id }

/-- Withdraw pieces of work whose START has not been issued, with their steps in the programs. -/
def withdraw (p : Job → Bool) (s : State) : State :=
  let gone := (s.tck.jobs.filter fun e => p e.2).map Prod.fst
  let of (st : Step) : Bool := match st.job with | some id => gone.contains id | none => false
  { s with
    tck.jobs := s.tck.jobs.filter fun e => !p e.2
    chans := s.chans.map fun e =>
      let begun := match e.2.prog with | st :: _ => of st | [] => false
      (e.1, { e.2 with prog := e.2.prog.filter fun st => !of st, next := e.2.next.filter fun st => !of st, moved := if begun then 0 else e.2.moved }) }

/-- Split the codewords cwa … cwa + n − 1, all of one die block, into one read per page (R140, R117): the job without its client,
and the index of its first codeword. -/
def State.pageReads (s : State) (cwa n : Nat) (slc : Bool) : List (Job × Nat) :=
  let pos := cwaPos cwa
  let ch := posCh pos
  let per := 4 * 2 ^ s.pb ch
  let p0 := cwa / per
  let p1 := (cwa + max n 1 - 1) / per
  (rangeFrom p0 (p1 + 1 - p0)).map fun p =>
    let a := max cwa (p * per)
    let b := min (cwa + n) ((p + 1) * per)
    let blk := s.cwaBlk a
    let page := s.cwaPage a
    let pl := (List.range (b - a)).map fun i => (s.cwaPlane (a + i), (a + i) % 4)
    let mask := pl.foldl (fun m x => m ||| 2 ^ x.1) 0
    let first := nth (0, 0) pl 0
    let plane := if popCount 4 mask = 1 then first.1 else 0
    let row := s.rowOf ch blk plane page
    ({ ch := ch, die := posDie pos, q := 0, op := if slc then 1 else 0, row := row, planes := mask,
       descs := [{ addr := 0, cw := b - a, slc := slc, row := row, plane := first.1, col := first.2, aux := 0 }],
       cws := pl.map fun x => { plane := x.1, col := x.2 } }, a - cwa)

/-- Queue the reads of codewords for a client, in queue q. -/
def placeRead (cwa n : Nat) (slc : Bool) (q : Nat) (client : Nat → Client) (s : State) : State :=
  (s.pageReads cwa n slc).foldl (fun s jf => (addJob { jf.1 with q := q, client := client jf.2 } s).1) s

end Sys2Proof.Machine
end

