-- ==== Sys2Proof/Machine/StripeOps.lean ====
section
/-! DEFINITION. Named operations of the stripe engine: tags (R137), syndromes (R180, R181), the contents of a stripe, placement (R135, R143, R182, R183), closing (R183), drops (R188) and re-placement (R184). -/

namespace Sys2Proof.Machine

/-! ### GF(2^8) over codewords (R180, R181) -/

/-- The byte 1 in each of the 4,112 bytes. -/
def ones8 : InfoBits := BitVec.ofNat 32896 ((2 ^ 32896 - 1) / 255)

/-- Multiply every byte by g = 2 modulo the polynomial 0x11D. -/
def gfDouble (v : InfoBits) : InfoBits :=
  let hi := (v >>> 7) &&& ones8
  ((v &&& ~~~(hi <<< 7)) <<< 1) ^^^ hi ^^^ (hi <<< 2) ^^^ (hi <<< 3) ^^^ (hi <<< 4)

/-- Multiply every byte by g^i. -/
def gfPow : Nat → InfoBits → InfoBits
  | 0, v => v
  | i + 1, v => gfPow i (gfDouble v)

/-- Multiply every byte by the byte c. -/
def gfMul (c : Byte) (v : InfoBits) : InfoBits :=
  (List.range 8).foldl (fun acc i => if c.getLsbD i then acc ^^^ gfPow i v else acc) 0

/-- Double a byte. -/
def gfDbl (b : Byte) : Byte := (b <<< 1) ^^^ (if b.getLsbD 7 then 0x1D else 0)

/-- The product of two bytes. -/
def gfMul8 (a b : Byte) : Byte :=
  ((List.range 8).foldl (fun (acc : Byte × Byte) i => ((if a.getLsbD i then acc.1 ^^^ acc.2 else acc.1), gfDbl acc.2)) (0, b)).1

/-- g^i as a byte. -/
def gfG : Nat → Byte
  | 0 => 1
  | i + 1 => gfDbl (gfG i)

/-- The inverse of a byte: its 254th power. -/
def gfInv (b : Byte) : Byte :=
  (List.range 7).foldl (fun (acc : Byte × Byte) _ => let q := gfMul8 acc.2 acc.2; (gfMul8 acc.1 q, q)) (1, b) |>.1

/-- P and Q over the data members' codewords, in data index order (R180). -/
def synP (d : List InfoBits) : InfoBits := d.foldl (· ^^^ ·) 0
def synQ (d : List InfoBits) : InfoBits := d.zipIdx.foldl (fun acc di => acc ^^^ gfPow di.2 di.1) 0

/-- Reconstruct the missing members of one codeword position (R181).  cw gives the codewords that were read, by data index (w − 2
is P, w − 1 is Q); answers the codeword with index x, or none where three or more are missing. -/
def reconstruct (w : Nat) (cw : Nat → Option InfoBits) (x : Nat) : Option InfoBits :=
  match cw x with
  | some v => some v
  | none =>
    let dn := w - 2
    let miss := (List.range w).filter fun i => (cw i).isNone
    let have' := (List.range dn).filter fun i => (cw i).isSome
    let sp := have'.foldl (fun acc i => acc ^^^ (cw i).getD 0) 0
    let sq := have'.foldl (fun acc i => acc ^^^ gfPow i ((cw i).getD 0)) 0
    let missD := miss.filter (· < dn)
    if 2 < miss.length then none else
    let dataVal (i : Nat) : Option InfoBits :=
      match cw dn, cw (dn + 1), missD with
      | some p, _, [_] => some (p ^^^ sp)
      | none, some q, [_] => some (gfMul (gfInv (gfG i)) (q ^^^ sq))
      | some p, some q, [a, b] =>
        let pxy := p ^^^ sp
        let qxy := q ^^^ sq
        let da := gfMul (gfInv (gfG a ^^^ gfG b)) (qxy ^^^ gfPow b pxy)
        if i = a then some da else some (pxy ^^^ da)
      | _, _, _ => none
    if x < dn then dataVal x
    else
      let all := (List.range dn).map fun i => match cw i with | some v => some v | none => dataVal i
      if all.all Option.isSome then
        let d := all.map fun o => o.getD 0
        some (if x = dn then synP d else synQ d)
      else none

/-! ### Codewords of units -/

/-- The reverse tag of codeword c of a unit (R137; R207 for checkpoint pages and trailers). -/
def State.tagOf (s : State) (u : UnitRec) (c : Nat) : Nat :=
  let iuc := if u.type = 1 then s.fld TXE_NSCFG_IU u.slot else 0
  let lu := if u.type = 7 then u.lu + c else u.lu
  let idx := if u.type = 7 then 0 else c
  u.type % 16 + iuc % 4 * 2 ^ 4 + u.slot % 256 * 2 ^ 8 + lu % 2 ^ 40 * 2 ^ 16 + idx % 64 * 2 ^ 56 + u.seq % 2 ^ 56 * 2 ^ 64 + min u.moves 255 * 2 ^ 120

/-- Codeword c of a unit: 4,096 data bytes and the tag. -/
def State.unitCw (s : State) (u : UnitRec) (c : Nat) : InfoBits :=
  BitVec.ofNat 32896 ((u.data >>> (32768 * c)) % 2 ^ 32768 + s.tagOf u c * 2 ^ 32768)

/-- A pad codeword: zeros and a tag of TYPE 2 (R180). -/
def padCw : InfoBits := BitVec.ofNat 32896 (2 * 2 ^ 32768)

/-- The data codeword at slot o of member j of a stripe. -/
def State.dataCw (s : State) (x : Stripe) (j o : Nat) : InfoBits :=
  match x.pieces.find? fun p => p.member = j && p.o ≤ o && o < p.o + p.n with
  | none => padCw
  | some p =>
    match mfind s.ste.units p.unit with
    | none => padCw
    | some u => s.unitCw u (p.ofs + (o - p.o))

/-- The codeword at slot o of member j of a stripe: data, P or Q (R179, R180). -/
def State.memberCwAt (s : State) (g : Group) (x : Stripe) (j o : Nat) : InfoBits :=
  let w := g.width x.idx
  let i := dataIdx w x.idx j
  if i < w - 2 then s.dataCw x j o else
    let d := (List.range (w - 2)).map fun i => s.dataCw x (dataMember w x.idx i) o
    if i = w - 2 then synP d else synQ d

/-! ### Group states (R160) and the fence (R163) -/

/-- A copy out of group g is under way. -/
def State.copiesOut (s : State) (g : Nat) : Bool :=
  s.ste.moves.any (fun m => m.2.group = g) ||
  s.ste.units.any fun u => !u.2.dead && (match u.2.src with | some (c, _) => s.groupOfCwa c = g | none => false)

/-- A group enters fenced: FENCE, and the reads placed before (R163). -/
def enterFenced (g : Nat) (s : State) : State :=
  let s := ringWrite (setGtState s g 4) 19 (s.gtAddr g + 8) 4 s.nextCkp
  { s with skm.fences := mins s.skm.fences g s.tck.nextJob, skm.victims := s.skm.victims.filter fun v => v.1 != g }

/-- Take the transitions of R160 that wait for VALID to be 0. -/
def groupSettle (g : Nat) (s : State) : State :=
  if s.gtValid g != 0 then s
  else if s.gtState g = 2 then enterFenced g s
  else if s.gtState g = 3 && !s.copiesOut g then enterFenced g s
  else s

/-- Put a group into the state closed and record when (R160, R159). -/
def closeGroup (gi : Nat) (s : State) : State :=
  if s.gtState gi = 1 then ringWrite (setGtState s gi 2) 19 (s.gtAddr gi + 12) 4 (s.fld TCK_COUNT_LO_COUNT) else s

/-- Every stripe of a closed group is appended, abandoned or unused: CLOSECKP (R185 step 4). -/
def groupDone (gi : Nat) (s : State) : State :=
  match s.grp gi with
  | none => s
  | some g =>
    if g.closeckp.isNone && 2 ≤ s.gtState gi && !(s.ste.stripes.any fun x => x.group = gi) then
      let s := setGroup { s with ste.ledDirty := true } gi { g with closeckp := some s.nextCkp }
      if g.stream = 6 then s else groupSettle gi s
    else s

/-! ### Placement -/

/-- The width of row r: in-service dies, at most D + 2 (R177). -/
def State.rowDies (s : State) (r : Nat) : List Nat := ((List.range 32).map fun c => c * 64 + r).filter s.inService
def State.rowWidth (s : State) (r : Nat) : Nat := min (s.fld STE_GEOM_D + 2) (s.rowDies r).length

/-- Member j of a stripe holds data. -/
def isData (w stripe j : Nat) : Bool := dataIdx w stripe j < w - 2

/-- Slots o … o + n − 1 of member j of a stripe are free and exist. -/
def State.slotsFree (s : State) (g : Group) (x : Stripe) (j o n : Nat) : Bool :=
  (List.range n).all (fun i => s.slotOk g.ch (o + i)) && x.pieces.all fun p => p.member != j || o + n ≤ p.o || p.o + p.n ≤ o

/-- Where a unit of n codewords fits in a stripe: one member, aligned to n (R135).  n is at most the slots of a member. -/
def State.findSpot (s : State) (g : Group) (x : Stripe) (n : Nat) : Option (Nat × Nat) :=
  let w := g.width x.idx
  let m := s.memberSlots g.cream g.ch
  let js := (List.range (w - 2)).map (dataMember w x.idx)
  js.findSome? fun j => ((List.range (m / n)).find? fun k => s.slotsFree g x j (k * n) n).map fun k => (j, k * n)

/-- Every data codeword of a stripe is placed. -/
def State.stripeFull (s : State) (g : Group) (x : Stripe) : Bool :=
  s.stripeDataCw g x.idx ≤ x.pieces.foldl (fun n p => n + p.n) 0

/-- Add a unit; answers its id. -/
def addUnit (u : UnitRec) (s : State) : State × Nat :=
  let id := s.ste.nextUnit
  ({ s with ste.units := mins s.ste.units id u, ste.nextUnit := id + 1 }, id)

/-- Put a piece into a stripe. -/
def addPiece (g : Group) (x : Stripe) (p : Piece) (s : State) : State :=
  let x := { x with pieces := x.pieces ++ [p] }
  setStripe s { x with full := x.full || s.stripeFull g x }

/-- Take the next stripe of a group as a filling stripe.  Stripe 0 begins with the group marker: codeword 0 of data members 0
and 1 (R190). -/
def takeStripe (gi : Nat) (g : Group) (s : State) : State :=
  let x : Stripe := { group := gi, idx := g.next, stream := g.stream }
  let s := { s with
    ste.groups := mins s.ste.groups gi { g with next := g.next + 1, turn := s.ste.turns + 1 }
    ste.stripes := s.ste.stripes ++ [x]
    ste.turns := s.ste.turns + 1
    ste.cream := if g.stream = 0 then s.ste.cream ++ [(gi, x.idx)] else s.ste.cream }
  if g.next = 0 then
    let e := groupEntry gi g
    let data := e + (crc32c (leBytes 224 e)).toNat * 2 ^ 1792
    let (s, u) := addUnit { slot := 0, lu := 0, n := 1, type := 4, data := data, stream := g.stream } s
    let w := g.width 0
    let x := { x with pieces := [0, 1].map fun i => { unit := u, member := dataMember w 0 i, o := 0, n := 1, ofs := 0 } }
    setStripe s x
  else s

/-- Stripes of a group that a filling stripe may still take: below END and below the group's size. -/
def State.stripesLeft (s : State) (g : Group) : Nat := s.stripesIn g - g.next

/-- The filling groups of a stream (R182). -/
def State.fillingGroups (s : State) (stream : Nat) : List (Nat × Group) :=
  s.ste.groups.filter fun e => e.2.stream = stream && e.2.closeckp.isNone && 0 < s.stripesLeft e.2

/-- The best element of a list under a strict order: the first that no later one beats. -/
def bestBy {α : Type} (better : α → α → Bool) : List α → Option α
  | [] => none
  | a :: r => some (r.foldl (fun b x => if better x b then x else b) a)

/-- When the member dies of a group's next stripe became ready (R182): the last of them, and none while one is not idle (DEDUCED, log 92). -/
def State.readySince (s : State) (g : Group) : Option Nat :=
  let ds := (g.at g.next).map Prod.fst
  if ds.all fun p => s.dieState p = 1 then some (ds.foldl (fun n p => max n (s.die p).ready) 0) else none

/-- Group a comes before group b in the rotation (R182): its member dies became ready earlier, and of two that tie, the one whose turn was longer ago. -/
def State.turnBefore (s : State) (a b : Nat × Group) : Bool :=
  match s.readySince a.2, s.readySince b.2 with
  | some x, some y => x < y || (x = y && a.2.turn < b.2.turn)
  | some _, none => true
  | none, some _ => false
  | none, none => a.2.turn < b.2.turn

/-- Open the next filling stripe of a stream, in the rotation of its filling groups (R182). -/
def openStripe (stream : Nat) (s : State) : Option State :=
  (bestBy s.turnBefore (s.fillingGroups stream)).map fun e => takeStripe e.1 e.2 s

/-- The filling stripe of one of some streams. -/
def State.filling (s : State) (streams : List Nat) : Option Stripe :=
  s.ste.stripes.find? fun x => x.st = 0 && !x.full && streams.contains x.stream

/-- Place a unit that is larger than a member of a cream stripe: the same member in consecutive stripes, from an aligned one
(R178).  q is how many. -/
def placeWide (uid : Nat) (gi : Nat) (g : Group) (x : Stripe) (m q : Nat) (s : State) : Option State :=
  let js := (List.range (g.width x.idx)).filter fun j => (List.range q).all fun i => isData (g.width x.idx) (x.idx + i) j
  let same := (List.range q).all fun i => g.at (x.idx + i) = g.at x.idx
  let later := (rangeFrom (x.idx + 1) (q - 1))
  let emptyAt (j i : Nat) : Bool := match s.stripe gi i with
    | none => g.next ≤ i
    | some y => y.st = 0 && s.slotsFree g y j 0 m
  if x.idx % q != 0 || !same || s.stripesIn g < x.idx + q then none else
  match js.find? fun j => s.slotsFree g x j 0 m && later.all (emptyAt j) with
  | none => none
  | some j =>
    let s := later.foldl (fun s i => match s.stripe gi i, s.grp gi with
      | none, some g => takeStripe gi g s
      | _, _ => s) s
    some ((List.range q).foldl (fun s i => match s.stripe gi (x.idx + i) with
      | some y => addPiece g y { unit := uid, member := j, o := 0, n := m, ofs := i * m } s
      | none => s) s)

/-- Place a unit in a stripe, if it fits. -/
def placeIn (uid n : Nat) (x : Stripe) (s : State) : Option State :=
  match s.grp x.group with
  | none => none
  | some g =>
    let m := s.memberSlots g.cream g.ch
    if n ≤ m then
      (s.findSpot g x n).map fun jo => addPiece g x { unit := uid, member := jo.1, o := jo.2, n := n, ofs := 0 } s
    else placeWide uid x.group g x m (n / m) s

/-- Place a unit into the filling stripe of some streams; next gives the stream in which a new stripe is opened when the unit does
not fit (R182, R183).  Answers none when no stripe can take it. -/
def placeUnit (streams : List Nat) (next : State → Nat × State) : Nat → Nat → Nat → State → Option State
  | 0, _, _, _ => none
  | fuel + 1, uid, n, s =>
    match s.filling streams with
    | some x =>
      match placeIn uid n x s with
      | some s => some s
      | none => placeUnit streams next fuel uid n (setStripe s { x with full := true })
    | none =>
      let (st, s) := next s
      match openStripe st s with
      | some s => placeUnit streams next fuel uid n s
      | none => none

/-! ### The cream layer's share (R150, R151) -/

/-- The data capacity, in codewords, of the cream stripes that are open or hold a unit not yet folded (R150). -/
def State.creamOcc (s : State) : Nat :=
  let open' := (s.ste.stripes.filter fun x => x.stream = 0).map fun x => (x.group, x.idx)
  let held := (s.txe.rev.filterMap fun e => let g := s.groupOfCwa e.1; if s.gtCream g then some (g, s.stripeOfCwa e.1) else none)
  (open' ++ held).eraseDups.foldl (fun n gi => n + match s.grp gi.1 with | some g => s.stripeDataCw g gi.2 | none => 0) 0

/-- TXE_CREAM_OCC in MiB. -/
def occSettle (s : State) : State := s.setFld TXE_CREAM_OCC_MIB (s.creamOcc / 256)

/-- The stream in which the next host-write stripe opens (R150): cream when the occupancy with it stays within the target. -/
def hostNext (s : State) : Nat × State :=
  let cap := match bestBy s.turnBefore (s.fillingGroups 0) with
    | some e => s.stripeDataCw e.2 e.2.next
    | none => s.fld STE_GEOM_D * 4 * ((List.range 32).foldl (fun n c => max n (s.planes c)) 0)
  let cream : Bool := s.creamOcc + cap ≤ s.fld TXE_CREAM_TGT_MIB * 256
  let was := s.flag TXE_CREAM_OCC_BYPASS
  let s := s.setFld TXE_CREAM_OCC_BYPASS (b2n !cream)
  let s := if was = cream then raise EV_TXE_BYPASS 0 s else s
  (if cream then 0 else 1, s)

/-- The filling stripe of stream 6, if any, takes no more (R209: a stripe of its own). -/
def endFilling (s : State) : State :=
  match s.filling [6] with
  | some x => setStripe s { x with full := true }
  | none => s

/-- Open a stripe of stream 6 for a trailer; stripe 0 of a group begins with the group's marker, and is passed over. -/
def openLone (s : State) : Option State :=
  match openStripe 6 (endFilling s) with
  | none => none
  | some s => if (s.filling [6]).any fun x => x.idx = 0 then openStripe 6 (endFilling s) else some s

/-- Place a trailer of n codewords (R209): a stripe of its own, from codeword 0 of data member 0 on, member by member. -/
def placeLone (uid n : Nat) (s : State) : Option State :=
  (openLone s).bind fun s =>
    (s.filling [6]).bind fun x => (s.grp x.group).map fun g =>
      let m := s.memberCw g.cream g.ch
      let pieces := (List.range (ceilDiv n (max 1 m))).map fun i =>
        ({ unit := uid, member := dataMember (g.width x.idx) x.idx i, o := 0, n := min m (n - i * m), ofs := i * m } : Piece)
      setStripe s { x with pieces := x.pieces ++ pieces, full := true }

/-- Place a unit: a host write's or a trim's in a cream or a QLC stripe as the occupancy stands (R150, R151), a trailer in a stripe of its own, any other
in its stream. -/
def placeTry (uid : Nat) (u : UnitRec) (s : State) : Option State :=
  if u.type = 7 then placeLone uid u.n s
  else if u.stream ≤ 1 then placeUnit [0, 1] hostNext 128 uid u.n s
  else placeUnit [u.stream] (fun s => (u.stream, s)) 128 uid u.n s

/-- A unit of a command stands in an open stripe (R31). -/
def markStored (id : Nat) (s : State) : State :=
  match mfind s.cmds id with
  | some c => { s with cmds := mins s.cmds id { c with stored := true } }
  | none => s

/-- Place a unit, or leave it in the backlog. -/
def placeOwn (uid : Nat) (s : State) : State :=
  match mfind s.ste.units uid with
  | none => s
  | some u =>
    match placeTry uid u s with
    | some s => (match u.cmd with | some id => markStored id s | none => s)
    | none => { s with ste.backlog := s.ste.backlog ++ [uid] }

/-- Try the backlog again, in order. -/
def placeBacklog (s : State) : State :=
  let l := s.ste.backlog
  occSettle (l.foldl (fun s u => placeOwn u s) { s with ste.backlog := [] })

/-! ### Closing a stripe -/

/-- The descriptors of a member's DATA_IN steps: one page in SLC mode, four pages in QLC mode (R88, R178). -/
def State.memberDescs (s : State) (g : Group) (stripe j : Nat) : List Desc :=
  let m := nth (0, 0) (g.at stripe) j
  let ch := posCh m.1
  (List.range (if g.cream then 1 else 4)).map fun pt =>
    { addr := 0, cw := 4 * s.planes ch, slc := g.cream, row := s.rowOf ch m.2 0 (pageOfStripe g.cream stripe + pt), plane := 0, col := 0, aux := 0 }

/-- Close a filling stripe (R183): pads, then every member's DATA_IN and program START in the write queues, or for a checkpoint
group in the skim queues (R207). -/
def closeStripe (x : Stripe) (s : State) : State :=
  match s.grp x.group with
  | none => s
  | some g =>
    let pads := s.stripeDataCw g x.idx - x.pieces.foldl (fun n p => n + p.n) 0
    let s := s.inc STE_PADCW_COUNT pads
    let s := (List.range (g.width x.idx)).foldl (fun s j =>
      let m := nth (0, 0) (g.at x.idx) j
      let ch := posCh m.1
      (addJob { ch := ch, die := posDie m.1, q := if x.stream = 6 then 2 else 1, op := if g.cream then 3 else 2,
                row := s.rowOf ch m.2 0 (pageOfStripe g.cream x.idx), planes := 2 ^ s.planes ch - 1,
                descs := s.memberDescs g x.idx j, client := .member x.group x.idx j, phase := 10, credit := x.stream ≤ 1 } s).1) s
    let s := setStripe s { x with st := 1, full := true }
    if s.stripesIn g ≤ x.idx + 1 then closeGroup x.group s else s

/-! ### Drops and re-placement (R184, R188) -/

/-- Jobs of a stripe's members whose START has not been issued are withdrawn. -/
def cancelMembers (gi i : Nat) (s : State) : State :=
  withdraw (fun j => match j.client with
    | .member g x _ => g = gi && x = i && j.phase ≤ 12
    | _ => false) s

/-- Forget units that no stripe holds and nothing waits for. -/
def gcUnits (s : State) : State :=
  { s with ste.units := s.ste.units.filter fun e => !e.2.dead || s.ste.stripes.any fun x => x.pieces.any fun p => p.unit = e.1 }

/-- Re-place every unit of a stripe: a fresh record with the same SEQ and MOVES goes to the stream again, the old one is dead. -/
def replaceUnits (x : Stripe) (s : State) : State :=
  let ids := (x.pieces.map Piece.unit).eraseDups
  ids.foldl (fun s id => match mfind s.ste.units id with
    | none => s
    | some u =>
      if u.dead then s else
      let s := { s with ste.units := mins s.ste.units id { u with dead := true } }
      if u.type = 4 then s else
        let (s, n) := addUnit u s
        { s with ste.backlog := s.ste.backlog ++ [n] }) s

/-- The first stripe of a group that is not yet started. -/
def State.firstUnstarted (s : State) (gi : Nat) (g : Group) : Nat :=
  (s.ste.stripes.filter fun x => x.group = gi && x.st ≤ 1).foldl (fun n x => min n x.idx) g.next

/-- Drop the member on a die from a group, from the first stripe not yet started; stripes filling or closed but not started are
re-placed (R184, R188, R191).  In an open group their numbers are used again at the new width; a group that is no longer open leaves them unused (DEDUCED,
log 90). -/
def dropMember (gi pos : Nat) (s : State) : State :=
  match s.grp gi with
  | none => s
  | some g =>
    let d := s.firstUnstarted gi g
    if !(g.mem.any fun m => m.1 = pos && m.2.2 = 2047) || s.stripesIn g ≤ d then s else
    let undo := s.ste.stripes.filter fun x => x.group = gi && x.st ≤ 1
    let s := undo.foldl (fun s x => replaceUnits x (dropStripe (cancelMembers gi x.idx s) gi x.idx)) s
    let g : Group := { g with mem := g.mem.map (fun m => if m.1 = pos && m.2.2 = 2047 then (m.1, m.2.1, d) else m), next := d, durable := false }
    let short : Bool := g.width d < 6 || s.gtState gi != 1
    let g : Group := if short then { g with endS := d } else g
    let s := setGroup { s with ste.ledDirty := true, ste.ledIn := s.ste.ledIn.filter fun x => x != gi } gi g
    let s := { s with ste.cream := s.ste.cream.filter fun y => !(y.1 = gi && d ≤ y.2) }
    gcUnits (if short then groupDone gi (closeGroup gi s) else s)

/-- The record of an STE event: group, stripe, die position. -/
def stePayload (g stripe pos : Nat) : Nat := g % 2 ^ 24 + stripe % 2 ^ 11 * 2 ^ 24 + pos % 2 ^ 11 * 2 ^ 35

/-- Abandon a started stripe whose member on a die failed (R184). -/
def abandonStripe (gi i pos : Nat) (s : State) : State :=
  match s.stripe gi i with
  | none => s
  | some x =>
    if x.st != 2 then s else
    let s := replaceUnits x (dropStripe (cancelMembers gi i s) gi i)
    let s := raise EV_STE_REPLACE (stePayload gi i pos) (s.inc STE_REPLACE_COUNT)
    placeBacklog (groupDone gi (gcUnits (dropMember gi pos s)))

/-- A member's program has ended well: its codewords count as programmed (R175), and the stripe is complete when every member has (R183). -/
def memberOk (gi i j : Nat) (s : State) : State :=
  match s.grp gi with
  | none => s
  | some g =>
    let s := s.incPair SKM_NANDCW_LO_COUNT SKM_NANDCW_HI_COUNT (s.memberCw g.cream g.ch)
    match s.stripe gi i with
    | none => s
    | some x =>
      let x := { x with done := mins x.done j 0 }
      if x.done.length = g.width i then
        (setStripe s { x with st := 3 }).incPair STE_STRIPES_LO_COUNT STE_STRIPES_HI_COUNT
      else setStripe s x

/-- A member of a stripe reports how its program ended (R183, R184).  STATUS 1 abandons the stripe; 5 and 6 come with the retirement of the die, and the
stripe is abandoned at the boundary that follows (R191; DEDUCED, log 90); 7 and 8 abandon nothing. -/
def memberReport (gi i j pos status : Nat) (s : State) : State :=
  if status = 0 then memberOk gi i j s
  else if status = 1 then abandonStripe gi i pos s
  else s

/-- The first member START of a stripe is issued: the stripe is started (R183). -/
def memberStarted (gi i : Nat) (s : State) : State :=
  match s.stripe gi i with
  | some x => if x.st = 1 then setStripe s { x with st := 2 } else s
  | none => s

end Sys2Proof.Machine
end

