-- ==== Sys2Proof/Machine/Skim.lean ====
section
/-! DEFINITION. Family: Skim, wear and spares SKM (spec/07_skim_wear.md). -/

namespace Sys2Proof.Machine

/-! ### Free groups (R162) -/

/-- Free die blocks of a die. -/
def State.freeBlocks (s : State) (pos : Nat) : List Nat := (List.range s.blkpp).filter fun b => (s.bt pos b).state = 0

/-- k groups of width w can be formed from dies with these many free blocks, each die giving at most one block to a group. -/
def formable (w : Nat) (free : List Nat) (k : Nat) : Bool := k * w ≤ free.foldl (fun n f => n + min f k) 0

/-- The largest k below lo + 2^fuel with p k, by bisection, for p that fails above where it holds. -/
def bisect (p : Nat → Bool) : Nat → Nat → Nat
  | 0, lo => lo
  | fuel + 1, lo => bisect p fuel (if p (lo + 2 ^ fuel) then lo + 2 ^ fuel else lo)

/-- The groups that can be formed on row r. -/
def State.rowGroups (s : State) (r : Nat) : Nat :=
  let w := s.rowWidth r
  if w < 6 then 0 else bisect (formable w ((s.rowDies r).map fun p => (s.freeBlocks p).length)) 17 0

/-- The free-group count F (R162). -/
def State.freeGroups (s : State) : Nat := (List.range 64).foldl (fun n r => n + s.rowGroups r) 0

/-! ### SPENT, spares, wear -/

/-- SKM puts the device in SPENT (R27, R170, R171). -/
def enterSpent (s : State) : State := raise EV_SKM_SPENT 0 { s.setFld SKM_STAT_SPENT 1 with pwr.spentDue := true }

/-- Available Spare in percent (R174); with SP0 = 0 the spec gives no value. -/
def availSpare (s : State) : Nat × State :=
  if s.skm.sp0 = 0 then (let (r, s) := s.fresh; (r % 101, s)) else (100 * s.fld SKM_SPARE_MINLEFT / s.skm.sp0, s)

/-- SKM_SPARE and SPARELOW follow the spare counts (R174). -/
def spareSettle (s : State) : State :=
  match allPos.filter s.inService with
  | [] => s
  | p0 :: r =>
    let best := r.foldl (fun (b : Nat) p => if mget 0 s.skm.spare p < mget 0 s.skm.spare b then p else b) p0
    let s := (s.setFld SKM_SPARE_MINPOS best).setFld SKM_SPARE_MINLEFT (mget 0 s.skm.spare best)
    let (a, s) := availSpare s
    let low : Bool := a < s.cur SKM_ENDUR_SPTHR
    let was := s.flag SKM_STAT_SPARELOW
    let s := s.setFld SKM_STAT_SPARELOW (b2n low)
    if low && !was then raise EV_SKM_SPARELOW 0 s else s

/-- The spare pool is empty (R27): a die in service has no spare left. -/
def State.spareEmpty (s : State) : Bool := (allPos.filter s.inService).any fun p => mget 0 s.skm.spare p = 0

/-- WEARMIN, WEARMAX, WEARAVG over die blocks in STATE 0 or 1 (R167), and the gap (R168). -/
def wearSettle (s : State) : State :=
  let ws := (allPos.filter s.populated).flatMap fun p =>
    (List.range s.blkpp).filterMap fun b => let e := s.bt p b; if e.state ≤ 1 then some e.wear else none
  match ws with
  | [] => s
  | w0 :: r =>
    let mn := r.foldl min w0
    let mx := r.foldl max w0
    let s := ((s.setFld SKM_WEARMIN_WEAR mn).setFld SKM_WEARMAX_WEAR mx).setFld SKM_WEARAVG_WEAR (ws.foldl (· + ·) 0 / ws.length)
    let gap : Bool := s.cur SKM_WL_GAP < mx - mn
    if gap = s.flag SKM_STAT_WLGAP then s else raise EV_SKM_WLGAP 0 (s.setFld SKM_STAT_WLGAP (b2n gap))

/-! ### Valid codewords (R159) -/

/-- n codewords at a location become invalid (R159). -/
def invalidate (cwa n : Nat) (s : State) : State :=
  let g := s.groupOfCwa cwa
  let s := setGtValid s g (s.gtValid g - n)
  groupSettle g { s with txe.rev := mdel s.txe.rev cwa }

/-- Count a unit valid at a location. -/
def validate (cwa n slot lu : Nat) (s : State) : State :=
  let g := s.groupOfCwa cwa
  { setGtValid s g (s.gtValid g + n) with txe.rev := mins s.txe.rev cwa (slot, lu) }

/-! ### Relocation (R168, R170) -/

/-- The valid units whose location meets a condition: CWA, slot, LU. -/
def State.unitsWhere (s : State) (p : Nat → Bool) : List (Nat × Nat × Nat) := s.txe.rev.filter fun e => p e.1

/-- Read a unit in order to copy it into a stream (R145), unless that is under way. -/
def moveUnit (cwa slot lu stream : Nat) (bg : Bool) (s : State) : State :=
  if s.ste.moves.any fun m => m.2.cwa = cwa then s else
  let id := s.ste.nextMove
  let n := s.slotCw slot
  let s := blkRead 14 (s.mapAddr slot lu) 5 s
  let st := entSt (s.mapEntry slot lu)
  let mv : Move := { slot, lu, n, cwa, st, stream, group := s.groupOfCwa cwa }
  let s := { s with ste.moves := mins s.ste.moves id mv, ste.nextMove := id + 1 }
  (s.pageReads cwa n (st = 2)).foldl (fun s jf => (addJob { jf.1 with q := 2, bg := bg, client := .copy id jf.2 } s).1) s

/-- Move every valid unit whose location meets a condition. -/
def moveAll (p : State → Nat → Bool) (stream : Nat) (bg : Bool) (s : State) : State :=
  (s.unitsWhere (p s)).foldl (fun s e => moveUnit e.1 e.2.1 e.2.2 stream bg s) s

/-- A CWA lies in die block b of a die. -/
def State.inBlock (s : State) (pos b cwa : Nat) : Bool := cwaPos cwa = pos && s.cwaBlk cwa = b

/-- Queue the relocation of every valid unit of a die block. -/
def relocate (pos b : Nat) (s : State) : State :=
  if s.skm.reloc.contains (pos, b) then s else { s with skm.reloc := s.skm.reloc ++ [(pos, b)] }

/-- A NEAR_LIMIT result in a die block (R123, R168). -/
def markSuspect (pos b : Nat) (s : State) : State :=
  let e := s.bt pos b
  relocate pos b (setBt s pos b { e with suspect := true })

/-! ### Retirement (R169–R172) -/

/-- The record of EV_SKM_RETIRE and EV_SKM_DIERET: die position, die block, cause. -/
def skmPayload (pos b cause : Nat) : Nat := pos % 2 ^ 11 + b % 2 ^ 16 * 2 ^ 11 + cause % 16 * 2 ^ 27

/-- When every die block of an erasing group is erased or retired, the group is unused and the erased blocks are free (R160, R161). -/
def eraseSettle (g : Nat) (s : State) : State :=
  match s.grp g with
  | none => s
  | some gr =>
    let left := gr.mem.filter fun m => (s.bt m.1 m.2.1).state = 1 && !s.skm.erased.contains (m.1, m.2.1)
    if s.gtState g != 5 || !left.isEmpty then s else
    let s := gr.mem.foldl (fun s m =>
      let e := s.bt m.1 m.2.1
      if e.state = 1 then setBt s m.1 m.2.1 { e with state := 0, group := 0 } else s) s
    let s := { s with skm.erased := s.skm.erased.filter fun pb => !(gr.mem.any fun m => m.1 = pb.1 && m.2.1 = pb.2) }
    let s := setGtState s g 0
    { s with ste.groups := mdel s.ste.groups g, skm.fences := mdel s.skm.fences g, ckp.appended := mdel s.ckp.appended g
             ste.cream := s.ste.cream.filter (fun x => x.1 != g), ste.rebDone := s.ste.rebDone.filter fun x => x.1 != g }

/-- Retire a die block for causes 1 to 4 (R170). -/
def retireBlock (pos b cause : Nat) (s : State) : State :=
  let e := s.bt pos b
  if 2 ≤ e.state then s else
  let s := setBt s pos b { e with state := 2, cause := cause }
  let s := raise EV_SKM_RETIRE (skmPayload pos b cause) (s.inc SKM_RETCNT_BLOCKS)
  let s := { s with skm.byCause := mmod 0 s.skm.byCause cause (· + 1) }
  let n := mget 0 s.skm.spare pos
  let s := if n = 0 then enterSpent s else { s with skm.spare := mput 0 s.skm.spare pos (n - 1) }
  let s := relocate pos b (wearSettle (spareSettle s))
  if e.state = 1 && e.group != 0xFFFFFF && s.gtState e.group = 1 then placeBacklog (dropMember e.group pos s) else s

/-- Retire a die (R171): its die blocks, the charge to the other dies. -/
def retireDieSkm (pos : Nat) (s : State) : State :=
  if mget false s.skm.out pos then s else
  let live := (List.range s.blkpp).filter fun b => (s.bt pos b).state ≤ 1
  let s := live.foldl (fun s b => setBt s pos b { s.bt pos b with state := 2, cause := 5 }) s
  let n := live.length
  let s := { (s.inc SKM_DIERET_DIES).inc SKM_RETCNT_BLOCKS n with skm.out := mins s.skm.out pos true }
  let s := raise EV_SKM_DIERET (skmPayload pos 0 5) s
  let rest := allPos.filter s.inService
  let due := ceilDiv n (max 1 rest.length)
  let short := rest.any fun p => mget 0 s.skm.spare p < due
  let s := { s with skm.spare := rest.foldl (fun m p => mput 0 m p (mget 0 m p - due)) s.skm.spare }
  let s := if short then enterSpent s else s
  let s := (s.groupIdx.filter fun g => s.gtState g = 5).foldl (fun s g => eraseSettle g s) (wearSettle (spareSettle s))
  { s with ste.retired := s.ste.retired ++ [pos], ste.rebPend := s.ste.rebPend ++ [pos], ckp.want := true }

/-- SKM_RETIRE.GO (R170 cause 4). -/
def skmRetireGo (pos b : Nat) (s : State) : State :=
  if !s.inService pos || s.blkpp ≤ b || 2 ≤ (s.bt pos b).state then raise EV_SKM_RETREF (skmPayload pos b 4) s
  else retireBlock pos b 4 s

/-- SKM_RETIRE (R170). -/
def execSkmRetire (m : MasterId) (pos : Fin 2048) (b : BitVec 16) (s : State) : Out :=
  .next (regCmd m SKM_RETIRE 0 (skmRetireGo pos b.toNat) s)

/-! ### Free count and credit at a boundary (R162, R165) -/

/-- The credit rate x (R165). -/
def creditRate (f crit low top : Nat) : Nat := if low ≤ f then top else if crit ≤ f then top * (f - crit) / (low - crit) else 0

/-- TCK_CREDNOW.THROTTLE follows foreground Skim. -/
def throttleSettle (s : State) : State :=
  let fg := s.flag SKM_STAT_FG
  if s.flag TCK_CREDNOW_THROTTLE = fg then s else raise EV_TCK_THROTTLE 0 (s.setFld TCK_CREDNOW_THROTTLE (b2n fg))

/-- SKM recomputes F, the foreground state and the credit (R162, R165, R63). -/
def creditUpdate (s : State) : State :=
  let f := s.freeGroups
  let s := s.setFld SKM_FREE_F f
  let low := s.cur SKM_LWM_LOW
  let fg0 := s.flag SKM_STAT_FG
  let fg := if fg0 then f < s.cur SKM_LWM_HIGH else f < low
  let s := if fg = fg0 then s else
    let s := s.setFld SKM_STAT_FG (b2n fg)
    raise EV_SKM_FG 0 (if fg then { s with skm.fgCount := s.skm.fgCount + 1 } else s)
  let s := throttleSettle s
  if fg then
    let acc := s.skm.acc + creditRate f (s.cur SKM_LWM_CRIT) low (s.cur SKM_CURVE_TOP)
    { s.setFld TCK_CREDNOW_CREDIT (max (s.cur TCK_CREDIT_FLOOR) (acc / 256)) with skm.acc := acc % 256 }
  else { s.setFld TCK_CREDNOW_CREDIT 1024 with skm.acc := 0 }

/-! ### Victims (R164, R165, R168) -/

/-- Data codewords of a group, which may have ended early (R188). -/
def State.groupDataCw (s : State) (g : Group) : Nat := (List.range (s.stripesIn g)).foldl (fun n i => n + s.stripeDataCw g i) 0

/-- v of a group: floor(1,024 × VALID ÷ data codewords) (R164). -/
def State.groupV (s : State) (gi : Nat) (g : Group) : Nat := 1024 * s.gtValid gi / max 1 (s.groupDataCw g)

/-- Age of a closed group in 2^20-boundary periods, capped. -/
def State.groupAge (s : State) (gi : Nat) : Nat :=
  min 1023 ((s.fld TCK_COUNT_LO_COUNT + 2 ^ 32 - s.gtClosed gi) % 2 ^ 32 / 2 ^ 20)

/-- Boundaries since a group closed: the older group wins ties. -/
def State.groupOld (s : State) (gi : Nat) : Nat := (s.fld TCK_COUNT_LO_COUNT + 2 ^ 32 - s.gtClosed gi) % 2 ^ 32

/-- The closed QLC groups. -/
def State.closedQlc (s : State) : List (Nat × Group) :=
  s.ste.groups.filter fun e => s.gtState e.1 = 2 && !e.2.cream && e.2.stream ≤ 5

/-- The foreground choice: lowest v; of two that tie in v and in age the one with the lower index (DESIGN CHOICE, log 41). -/
def State.fgChoice (s : State) : Option Nat :=
  (bestBy (fun a b => let va := s.groupV a.1 a.2; let vb := s.groupV b.1 b.2; va < vb || (va = vb && s.groupOld b.1 < s.groupOld a.1))
    (s.closedQlc.filter fun e => s.groupV e.1 e.2 < 1024)).map Prod.fst

/-- The background choice: highest score (1,024 − v)(a + 1) ÷ (v + 1); ties as for the foreground choice. -/
def State.bgChoice (s : State) : Option Nat :=
  (bestBy (fun a b =>
      let va := s.groupV a.1 a.2
      let vb := s.groupV b.1 b.2
      let sa := (1024 - va) * (s.groupAge a.1 + 1) * (vb + 1)
      let sb := (1024 - vb) * (s.groupAge b.1 + 1) * (va + 1)
      sb < sa || (sa = sb && s.groupOld b.1 < s.groupOld a.1))
    (s.closedQlc.filter fun e => s.groupV e.1 e.2 ≤ s.cur SKM_VICT_BGVMAX)).map Prod.fst

/-- EV_SKM_NOVICTIM when foreground Skim is active and no closed QLC group can be its victim: once, until that ends (R165). -/
def victimSettle (s : State) : State :=
  let none' : Bool := s.flag SKM_STAT_FG && s.fgChoice.isNone
  let was := s.skm.noVictim
  let s := { s with skm.noVictim := none' }
  if none' && !was then raise EV_SKM_NOVICTIM 0 (s.setFld SKM_STAT_NOVICTIM 1) else s

/-- Sum of WEAR over a group's die blocks. -/
def State.groupWear (s : State) (g : Group) : Nat := g.mem.foldl (fun n m => n + (s.bt m.1 m.2.1).wear) 0

/-- The static victim: the closed QLC group with the lowest mean WEAR. -/
def State.staticChoice (s : State) : Option Nat :=
  (bestBy (fun a b =>
      let wa := s.groupWear a.2 * b.2.mem.length
      let wb := s.groupWear b.2 * a.2.mem.length
      wa < wb || (wa = wb && s.groupOld b.1 < s.groupOld a.1)) s.closedQlc).map Prod.fst

/-- Make a group a victim and queue the reads of its valid pages. -/
def takeVictim (g : Nat) (fg static : Bool) (s : State) : State :=
  let s := { setGtState s g 3 with skm.victims := s.skm.victims ++ [(g, fg, static)] }
  groupSettle g (moveAll (fun s c => s.groupOfCwa c = g) (if static then 4 else 3) (!fg && !static || static) s)

/-- A static victim may be taken: background Skim runs, the gap is too wide, and none is in flight (R165, R168, R173). -/
def State.staticDue (s : State) : Bool :=
  !s.flag SKM_STAT_FG && s.on SKM_CTL_BGEN && s.mode != mSPENT && s.on SKM_CTL_WLEN && s.flag SKM_STAT_WLGAP && !(s.skm.victims.any fun v => v.2.2)

/-- Take a victim that the table of R164 chooses, or a static one before it, within the number in flight (R165, R168). -/
def victimNext (s : State) : State :=
  let fg := s.flag SKM_STAT_FG
  let inFlight := (s.skm.victims.filter fun v => !v.2.2).length
  match (if s.staticDue then s.staticChoice else none) with
  | some g => takeVictim g false true s
  | none =>
    if fg then (if inFlight < s.cur SKM_CTL_FGPAR then match s.fgChoice with | some g => takeVictim g true false s | none => s else s)
    else if s.on SKM_CTL_BGEN && s.mode != mSPENT && inFlight < s.cur SKM_CTL_BGPAR then
      match s.bgChoice with
      | some g => takeVictim g false false s
      | none => s
    else s

/-- SKIM_VICTIM_SELECT (R164, R165, R168, R173): relocations out of retired, then out of SUSPECT die blocks; groups handed over after a rebuild (R194), but
no checkpoint group (R207); victims.  The shutdown places no new victim (R212). -/
def skimSelect (s : State) : State :=
  match s.skm.reloc.find? fun pb => (s.bt pb.1 pb.2).state = 2, s.skm.reloc with
  | some pb, _ => moveAll (fun s c => s.inBlock pb.1 pb.2 c) 3 false { s with skm.reloc := s.skm.reloc.filter fun x => x != pb }
  | none, pb :: r => moveAll (fun s c => s.inBlock pb.1 pb.2 c) 3 false { s with skm.reloc := r }
  | none, [] =>
    if s.ckp.shut then s else
    match s.skm.prio with
    | g :: r =>
      let s := { s with skm.prio := r }
      if s.gtState g = 2 && (s.grp g).any (fun x => x.stream != 6) then takeVictim g true false s else s
    | [] => victimNext s

/-- SKIM_VICTIM_SELECT (R164). -/
def execSkimVictimSelect (s : State) : Out := .next (if s.domOn dMEDIA then skimSelect s else s)

/-! ### Erases (R161, R163, R167) -/

/-- Queue the erase of a die block, all planes. -/
def queueErase (g pos b : Nat) (s : State) : State :=
  let ch := posCh pos
  (addJob { ch := ch, die := posDie pos, q := 2, op := if (s.bt pos b).slc then 5 else 4, row := s.rowOf ch b 0 0,
            planes := 2 ^ s.planes ch - 1, client := .erase g b, phase := 11 } s).1

/-- Every read placed before a group entered fenced has ended (R163). -/
def State.readsEnded (s : State) (g : Nat) : Bool :=
  !(s.tck.jobs.any fun j => j.1 < mget 0 s.skm.fences g && (j.2.op ≤ 1 || j.2.op = 6) && j.2.phase != 5)

/-- A die block's erase has ended (R161, R167, R170). -/
def eraseReport (g pos b op status : Nat) (s : State) : State :=
  if status = 0 then
    let e := s.bt pos b
    let s := setBt s pos b { e with wear := min (2 ^ 24 - 1) (e.wear + if op = 4 then 16 else s.cur SKM_WL_SLCW), slc := false, suspect := false }
    let s := wearSettle s
    if g = 0xFFFFFF then setBt s pos b { s.bt pos b with state := 0, group := 0 }
    else eraseSettle g { s with skm.erased := (pos, b) :: s.skm.erased }
  else if status = 2 then eraseSettle g (retireBlock pos b 2 s)
  else if status = 5 || status = 6 then eraseSettle g s
  else s

/-- GROUP_ERASE (R163): the fence of a group, or of the oldest old ledger block (group 0xFFFFFF), has lifted. -/
def groupErase (g : Nat) (s : State) : State :=
  if g = 0xFFFFFF then
    match s.skm.oldBlocks with
    | [] => s
    | (pos, b, f) :: r => if ckAtLeast (s.fld CKP_LAST_NUM) f then queueErase g pos b { s with skm.oldBlocks := r } else s
  else if s.gtState g = 4 && ckAtLeast (s.fld CKP_LAST_NUM) (s.gtFence g) && s.readsEnded g then
    match s.grp g with
    | none => s
    | some gr =>
      let s := setGtState s g 5
      eraseSettle g (gr.mem.foldl (fun s m =>
        if (s.bt m.1 m.2.1).state = 1 && s.inService m.1 then queueErase g m.1 m.2.1 s else s) s)
  else s

/-- GROUP_ERASE (R163). -/
def execGroupErase (g : BitVec 24) (s : State) : Out := .next (groupErase g.toNat s)

end Sys2Proof.Machine
end

