-- ==== Sys2Proof/Machine/Stripes.lean ====
section
/-! DEFINITION. Family: the stripe engine STE (spec/08_stripes.md), but for reconstruction for a read. -/

namespace Sys2Proof.Machine

/-! ### Row widths (R177) -/

/-- Row r is populated. -/
def State.rowPopulated (s : State) (r : Nat) : Bool := (List.range 32).any fun c => s.populated (c * 64 + r)

/-- Byte r of the STE_ROWW registers. -/
def State.rowW (s : State) (r : Nat) : Nat := nbits (s.fld STE_ROWW_W (r / 4)) (8 * (r % 4)) 8

/-- Recompute the width of every row: STE_ROWW, STE_MINW, EV_STE_WIDTH for a row whose width changes (or, at the end of
discovery, for a row below D + 2), SPENT when a populated row falls below 6 (R177). -/
def widthsSettle (discovery : Bool) (s : State) : State :=
  let full := s.fld STE_GEOM_D + 2
  let s := (List.range 64).foldl (fun s r =>
    let old := s.rowW r
    let w := if s.rowPopulated r then s.rowWidth r else 0
    let v := s.fld STE_ROWW_W (r / 4)
    let s := s.setFld STE_ROWW_W (v - old * 2 ^ (8 * (r % 4)) + w * 2 ^ (8 * (r % 4))) (r / 4)
    let tell : Bool := if discovery then s.rowPopulated r && w < full else w != old
    if tell then raise EV_STE_WIDTH (r + w * 64) s else s) s
  match (List.range 64).filter s.rowPopulated with
  | [] => s
  | r0 :: rs =>
    let best := rs.foldl (fun b r => if s.rowW r < s.rowW b then r else b) r0
    let s := (s.setFld STE_MINW_W (s.rowW best)).setFld STE_MINW_ROW best
    if s.rowW best < 6 then { s with pwr.spentDue := true } else s

/-! ### Groups (R182, R168) -/

/-- The open-group count of a stream. -/
def State.streamCount (s : State) (i : Nat) : Nat :=
  match i with
  | 0 => s.cur STE_STREAM_CREAM
  | 1 => s.cur STE_STREAM_QLC
  | 2 => s.cur STE_STREAM_FOLD
  | 3 => s.cur STE_STREAM_SKIM
  | 4 => s.cur STE_STREAM_COLD
  | 5 => s.cur STE_STREAM_REBUILD
  | _ => 1

/-- A free die block of a die: the lowest WEAR, or for COLD the highest (R168); ties go to the lower number (DESIGN CHOICE, log 41). -/
def State.pickBlock (s : State) (pos : Nat) (cold : Bool) : Option Nat :=
  bestBy (fun a b => let wa := (s.bt pos a).wear; let wb := (s.bt pos b).wear; if cold then wb < wa else wa < wb) (s.freeBlocks pos)

/-- The dies a new group of row r takes: the W(r) in-service dies with the most free die blocks, ties to the lower channel, in
ascending channel order (R177). -/
def State.pickDies (s : State) (r : Nat) : List Nat :=
  let ds := s.rowDies r
  let cnt (p : Nat) : Nat := (s.freeBlocks p).length
  let better (a b : Nat) : Bool := cnt b < cnt a || (cnt a = cnt b && a < b)
  ds.filter fun p => (ds.filter fun q => better q p).length < s.rowWidth r

/-- The row with the most formable groups (R182); ties go to the lower row (DESIGN CHOICE, log 41). -/
def State.pickRow (s : State) : Option Nat :=
  (bestBy (fun a b => s.rowGroups b < s.rowGroups a) ((List.range 64).filter fun r => s.rowGroups r != 0))

/-- The lowest group index that is not in use. -/
def freeIndex (used : List Nat) : Nat := ((List.range (used.length + 1)).find? fun i => !used.contains i).getD 0

/-- Ledger entries in use (R186). -/
def ledEntries (s : State) : State :=
  let n := (s.ste.groups.filter fun e => e.2.led).length
  (s.setFld STE_LEDENT_ENTRIES n).setFld STE_LEDENT_FULL (b2n (n = 64))

/-- Open a group for a stream (0–5, or 6 for checkpoint groups, R207). -/
def openGroup (stream : Nat) (s : State) : State :=
  if 64 ≤ s.fld STE_LEDENT_ENTRIES then
    raise EV_STE_LEDGERFULL 0 { s.setFld STE_STAT_LEDGERFULL 1 with ckp.want := true }
  else if s.ste.ledMoving then s else
  match s.pickRow with
  | none => s
  | some r =>
    let cream : Bool := stream = 0 || stream = 6
    let mem := (s.pickDies r).filterMap fun p => (s.pickBlock p (stream = 4)).map fun b => (p, b, 2047)
    let gi := freeIndex s.groupIdx
    let g : Group := { stream, cream, w0 := mem.length, mem }
    let s := mem.foldl (fun s m => setBt s m.1 m.2.1 { s.bt m.1 m.2.1 with state := 1, group := gi }) s
    let s := ringWrite s 19 (s.gtAddr gi) 16 ((1 + b2n cream * 8 + b2n (stream = 4) * 16) * 2 ^ 32)
    let s := setGroup { s with ste.ledDirty := true, ckp.appended := mput 0 s.ckp.appended gi 0 } gi g
    ledEntries (ringWrite s 15 (s.gmAddr gi + 224) 32 0)

/-- A filling stripe closes at this cutoff (R183): every data codeword is placed, or B(k) followed its first placement and this is the cutoff of tick
k + STE_CLOSE − 1 or later. -/
def State.closeDue (s : State) (x : Stripe) : Bool :=
  s.tck.cut && ((s.grp x.group).any (fun g => s.stripeFull g x) || match x.first with
  | some k => k + s.cur STE_CLOSE_TICKS ≤ s.pair TCK_COUNT_LO_COUNT TCK_COUNT_HI_COUNT + 1
  | none => false)

/-- STRIPE_CLOSE (R183): at a cutoff, a filling stripe that is full or at its deadline; the shutdown closes every one (R212). -/
def execStripeClose (g : BitVec 24) (i : Fin 1024) (s : State) : Out :=
  match s.stripe g.toNat i with
  | some x => .next (if x.st = 0 && (s.closeDue x || s.ckp.shut) then closeStripe x s else s)
  | none => .next s

/-! ### Pair link frames (R284) -/

/-- Send a frame: TYPE, FLAGS, MSN, TAG, payload of n bytes.  It stays unacknowledged until ACKSEQ passes it (R285). -/
def pairSend (type flags msn tag payload n : Nat) (s : State) : State :=
  let x := s.plk.txseq
  let s := { s with plk.txseq := (x + 1) % 2 ^ 32, plk.unacked := s.plk.unacked ++ [{ seq := x, type, flags, msn, tag, payload, n }] }
  if s.plk.lanes = 0 then s
  else s.emit (.frame "pair" "frame" [type, flags, n, x, s.plk.rxseq, msn, tag, s.fld PLK_EPOCH_EPOCH, payload])

/-! ### The ledger (R185–R189) -/

/-- Position of ledger die 0 or 1. -/
def State.ledDie (s : State) (no : Nat) : Nat := if no = 0 then s.fld STE_LEDGER_DIE0 else s.fld STE_LEDGER_DIE1

/-- The ledger page (R188): header and entries, as bytes in a number.  A FORWARD page only names the next die block, fwd. -/
def State.ledgerPage (s : State) (no : Nat) (fwd : Option Nat) : Nat :=
  let es := if fwd.isSome then [] else s.ste.groups.filter fun e => e.2.led
  let body := es.zipIdx.foldl (fun n e => n + groupEntry e.1.1 e.1.2 * 2 ^ (8 * 224 * e.2)) 0
  let head := 0x3147444C + 1 * 2 ^ 32 + es.length * 2 ^ 48 + s.pair STE_LEDSEQ_LO_SEQ STE_LEDSEQ_HI_SEQ * 2 ^ 64
    + s.fld CKP_LAST_NUM * 2 ^ 128 + s.ledDie no * 2 ^ 160 + s.ledDie (1 - no) * 2 ^ 176 + mget 0 s.ste.ledBlock (1 - no) * 2 ^ 192
    + b2n fwd.isSome * 2 ^ 208 + fwd.getD 0 * 2 ^ 224
  let crc := crc32c (leBytes 60 head ++ leBytes (224 * es.length) body)
  head + crc.toNat * 2 ^ 480 + body * 2 ^ 512

/-- The four codewords of a page of a device structure: data and tag bytes. -/
def metaCws (type : Nat) (page : Nat) : SMap Nat :=
  (List.range 4).map fun c => (c, (page >>> (32768 * c)) % 2 ^ 32768 + type * 2 ^ 32768)

/-- Queue the program of a page of a die block on plane 0, in SLC mode. -/
def queueMeta (kind no pos b page : Nat) (cws : SMap Nat) (s : State) : State :=
  let ch := posCh pos
  let row := s.rowOf ch b 0 page
  (addJob { ch := ch, die := posDie pos, q := 1, op := 3, row, planes := 1, got := cws, client := .metaPage kind no, phase := 10,
            descs := [{ addr := 0, cw := 4, slc := true, row, plane := 0, col := 0, aux := 0 }] } s).1

/-- Take a free die block of a ledger die for the ledger (R188). -/
def takeLedBlock (no : Nat) (s : State) : State :=
  let pos := s.ledDie no
  match s.pickBlock pos false with
  | none => s
  | some b =>
    let s := setBt s pos b { s.bt pos b with state := 1, slc := true, group := 0xFFFFFF }
    { s with ste.ledBlock := mins s.ste.ledBlock no b, ste.ledPage := mput 0 s.ste.ledPage no 0 }

/-- The last page of an SLC-mode die block (R178). -/
def State.slcLast (s : State) (pos : Nat) : Nat := 2 ^ (s.pageBits (posCh pos) - 2) - 1

/-- Write the ledger page to one ledger die; a die block that is full but for its last page is followed by a new one, a snapshot
in its page 0 and a FORWARD page in the old block's last page (R189). -/
def writeLedger (no : Nat) (s : State) : State :=
  let pos := s.ledDie no
  let last := s.slcLast pos
  let old := mfind s.ste.ledBlock no
  let full : Bool := last ≤ mget 0 s.ste.ledPage no
  let s := if full || old.isNone then takeLedBlock no s else s
  let b := mget 0 s.ste.ledBlock no
  let p := mget 0 s.ste.ledPage no
  let s := { s with ste.ledPage := mput 0 s.ste.ledPage no (p + 1) }
  let s := queueMeta 0 no pos b p (metaCws 5 (s.ledgerPage no none)) s
  match old with
  | some ob =>
    if full then
      let s := queueMeta 1 no pos ob last (metaCws 5 (s.ledgerPage no (some b))) s
      { s with skm.oldBlocks := s.skm.oldBlocks ++ [(pos, ob, s.nextCkp)] }
    else s
  | none => s

/-- The pair link is up and loss has not been declared (R292). -/
def State.pairUp (s : State) : Bool := s.flag PLK_STAT_LINK && !s.plk.lost

/-- LEDGER_WRITE (R185, R188): entries that a checkpoint covers leave, the sequence number counts, both dies are written, the
partner is sent the page. -/
def ledgerWrite (s : State) : State :=
  let gone (g : Group) : Bool := match g.closeckp with | some n => ckAtLeast (s.fld CKP_LAST_NUM) n | none => false
  let leave (e : Nat × Group) : Nat × Group := (e.1, if gone e.2 then { e.2 with led := false } else e.2)
  let s := { s with ste.groups := s.ste.groups.map leave }
  let s := ledEntries (s.incPair STE_LEDSEQ_LO_SEQ STE_LEDSEQ_HI_SEQ)
  let s := writeLedger 1 (writeLedger 0 s)
  let s := if s.pairUp then pairSend 7 0 0 0 (s.ledgerPage 0 none) 16384 (s.setFld STE_LEDGER_PARTNER 0) else s
  { s with ste.ledDirty := false, ste.ledWait := true, ste.ledAck := !s.pairUp, ste.ledDone := 0,
           ste.ledIn := (s.ste.groups.filter fun e => e.2.led).map Prod.fst }

/-- LEDGER_WRITE (R185). -/
def execLedgerWrite (s : State) : Out :=
  .next (if s.domOn dMEDIA && s.ste.ledDirty && !s.ste.ledWait then ledgerWrite s else s)

/-- Replace a ledger die by the lowest in-service die position on a channel other than the surviving copy's (R189). -/
def ledgerMove (no : Nat) (s : State) : State :=
  let other := posCh (s.ledDie (1 - no))
  let bad := s.ledDie no
  match allPos.find? fun p => s.inService p && posCh p != other && p != bad with
  | none => s
  | some p =>
    let s := if no = 0 then s.setFld STE_LEDGER_DIE0 p else s.setFld STE_LEDGER_DIE1 p
    let s : State := { s with ste.ledBlock := mdel s.ste.ledBlock no, ste.ledPage := mdel s.ste.ledPage no,
                              ste.ledDirty := true, ste.ledWait := false, ste.ledMoving := true }
    raise EV_STE_LEDGERMOVE (stePayload 0 0 p) s

/-- A ledger page's program has ended: a ledger page (kind 0) or a FORWARD page (R189). -/
def ledgerReport (kind no status : Nat) (s : State) : State :=
  if status = 0 then (if kind = 0 then { s with ste.ledDone := s.ste.ledDone ||| 2 ^ no } else s)
  else if status = 1 || status = 5 || status = 6 then ledgerMove no s
  else s

/-- LEDGER_ENTRY_DURABLE (R185): both programs have ended well and the partner has acknowledged. -/
def execLedgerEntryDurable (s : State) : Out :=
  if s.ste.ledWait && s.ste.ledDone = 3 && s.ste.ledAck then
    let live := s.ste.ledIn
    .next { s with ste.ledWait := false, ste.ledMoving := false, ste.ledIn := []
                   ste.groups := s.ste.groups.map fun (e : Nat × Group) => (e.1, if live.contains e.1 then { e.2 with durable := true } else e.2) }
  else .next s

/-! ### Width change (R191) -/

/-- A group is open or has a stripe in the works, and holds a die to its end. -/
def State.widthHit (s : State) (pos : Nat) (e : Nat × Group) : Bool :=
  (s.gtState e.1 = 1 || s.ste.stripes.any fun x => x.group = e.1 && x.st ≤ 2) && e.2.mem.any fun m => m.1 = pos && m.2.2 = 2047

/-- One die's part of a width change: abandon the started stripes whose member on it has not reported STATUS 0, drop it from the groups that are not
complete, move a ledger copy. -/
def widthChangeDie (pos : Nat) (s : State) : State :=
  let s := (s.ste.groups.filter (s.widthHit pos)).foldl (fun s e =>
    let xs := s.ste.stripes.filter fun x => x.group = e.1 && x.st = 2
    let s := xs.foldl (fun s x =>
      match (e.2.at x.idx).findIdx? fun m => m.1 = pos with
      | some j => if (mfind x.done j).isSome then s else abandonStripe e.1 x.idx pos s
      | none => s) s
    placeBacklog (dropMember e.1 pos s)) s
  if s.ledDie 0 = pos then ledgerMove 0 s else if s.ledDie 1 = pos then ledgerMove 1 s else s

/-- WIDTH_CHANGE (R191): at the boundary after die retirements, in order of die position (R172). -/
def execWidthChange (s : State) : Out :=
  match s.ste.retired with
  | [] => .next s
  | l =>
    let s := { s with ste.retired := [] }
    let s := (allPos.filter l.contains).foldl (fun s p => widthChangeDie p s) s
    .next (widthsSettle false s)

/-! ### Lost stripes (R196) -/

def State.lsAddr (s : State) (i : Nat) : Nat := s.fld STE_LSBASE_LO_ADDR + 2 ^ 32 * s.fld STE_LSBASE_HI_ADDR + 16 * i

/-- The valid unit with this location loses it to STATE 4, keeping its CWA (R132, R196). -/
def loseUnit (cwa slot lu : Nat) (s : State) : State :=
  let s := ringWrite (mapDirty s slot lu) 14 (s.mapAddr slot lu) 5 (entOf cwa 4)
  let s := invalidate cwa (s.slotCw slot) s
  s.setPair TXE_NSVALID_LO_VALID TXE_NSVALID_HI_VALID (s.pair TXE_NSVALID_LO_VALID TXE_NSVALID_HI_VALID slot - 1) slot

/-- Units that have a codeword at one of these positions (member, slot) of a stripe. -/
def State.unitsAt (s : State) (gi : Nat) (g : Group) (i : Nat) (bad : List (Nat × Nat)) : List (Nat × Nat × Nat) :=
  let cwas := bad.map fun jo => s.slotCwa g i jo.1 jo.2
  s.txe.rev.filter fun e => s.groupOfCwa e.1 = gi && cwas.any fun c => e.1 ≤ c && c < e.1 + s.slotCw e.2.1

/-- Slots of the lost-stripe table in use. -/
def State.lsUsed (s : State) (i : Nat) : Bool := nbit (s.rawNat (s.lsAddr i) 4) 31

/-- Enter a stripe in the lost-stripe table or update its entry (R196). -/
def lsEnter (gi i mask n cause : Nat) (s : State) : State :=
  let idx := List.range 8192
  match idx.find? fun k => s.lsUsed k && s.rawNat (s.lsAddr k) 3 = gi % 2 ^ 24 && s.rawNat (s.lsAddr k + 4) 2 % 2048 = i with
  | some k =>
    let s := ringWrite s 15 (s.lsAddr k + 8) 4 (s.rawNat (s.lsAddr k + 8) 4 ||| mask)
    ringWrite s 15 (s.lsAddr k + 12) 2 (min 65535 (s.rawNat (s.lsAddr k + 12) 2 + n))
  | none =>
    match idx.find? fun k => !s.lsUsed k with
    | some k =>
      (ringWrite s 15 (s.lsAddr k) 16 (gi % 2 ^ 24 + 2 ^ 31 + i % 2048 * 2 ^ 32 + cause % 32 * 2 ^ 43 + mask % 2 ^ 32 * 2 ^ 64 + min 65535 n * 2 ^ 96)).inc STE_LOST_COUNT
    | none => raise EV_STE_LOSTOVF (stePayload gi i 0) { s.setFld STE_LOST_OVF 1 with ste.lostOvf := s.ste.lostOvf + 1 }

/-- A stripe is found lost (R196): its entry, the event and the fault, and the early checkpoint (R205). -/
def lostFound (gi i mask n cause : Nat) (s : State) : State :=
  let s := lsEnter gi i mask n cause s
  occur 24 0 15 3 (raise EV_STE_LOST (stePayload gi i 0) { s with ckp.want := true })

/-- A stripe is found lost at these positions (member, slot), each with three or more members missing (R195, R196). -/
def loseStripe (gi i cause : Nat) (bad : List (Nat × Nat)) (s : State) : State :=
  match s.grp gi with
  | none => s
  | some g =>
    let us := s.unitsAt gi g i bad
    let s := us.foldl (fun s e => loseUnit e.1 e.2.1 e.2.2 s) s
    lostFound gi i (bad.foldl (fun m jo => m ||| 2 ^ jo.1) 0) us.length cause (occSettle s)

/-- Clear a slot of the lost-stripe table (R196): an empty slot changes nothing. -/
def lsClear (k : Nat) (s : State) : State :=
  if s.lsUsed k then (ringWrite s 15 (s.lsAddr k) 16 0).setFld STE_LOST_COUNT (s.fld STE_LOST_COUNT - 1) else s

/-- LOST_STRIPE_CLEAR (R196). -/
def execLostStripeClear (m : MasterId) (k : Fin 8192) (s : State) : Out := .next (regCmd m STE_LSCLR 0 (lsClear k) s)

/-! ### Scans: reads of a stripe's members (R192, R194, R122) -/

/-- A group can be patrolled: closed or victim, of a data stream. -/
def State.patGroup (s : State) (gi : Nat) : Bool := s.gtState gi = 2 || s.gtState gi = 3

/-- Stripes of a group that were used. -/
def State.stripesUsed (s : State) (g : Group) : Nat := min g.next (s.stripesIn g)

/-- Members of a stripe awaiting rebuild: degraded members at open that the stripe includes. -/
def State.stripeDegraded (s : State) (gi : Nat) (g : Group) (i : Nat) : Bool :=
  let d := s.degraded gi
  g.mem.zipIdx.any fun mj => nbit d mj.2 && i < mj.1.2.2

/-- Start reading members of a stripe, whole, in queue q. -/
def startScan (kind gi i job q : Nat) (members : List Nat) (s : State) : State :=
  match s.grp gi with
  | none => s
  | some g =>
    let id := s.ste.nextScan
    let s := { s with ste.scans := mins s.ste.scans id { kind, group := gi, stripe := i, job }, ste.nextScan := id + 1 }
    members.foldl (fun s j =>
      let m := nth (0, 0) (g.at i) j
      let n := 4 * s.planes (posCh m.1)
      (List.range (if g.cream then 1 else 4)).foldl (fun s pt =>
        placeRead (s.cwaOf m.1 m.2 (pageOfStripe g.cream i + pt)) n g.cream q (fun _ => .scan id j) s) s) s

/-- The reads of a scan have all ended. -/
def State.scanDone (s : State) (id : Nat) : Bool := !(s.tck.jobs.any fun j => match j.2.client with | .scan k _ => k = id | _ => false)

/-- The codewords that a scan read at slot o, by data index. -/
def Scan.cwAt (sc : Scan) (w o : Nat) (i : Nat) : Option InfoBits :=
  (mfind sc.got (dataMember w sc.stripe i * 1024 + o)).map (BitVec.ofNat 32896)

/-- Slots of a member of a group's stripes. -/
def State.slotList (s : State) (g : Group) : List Nat := (List.range (s.memberSlots g.cream g.ch)).filter (s.slotOk g.ch)

/-- A unit record that carries the codewords of a mapped unit to another place: TYPE, SEQ and MOVES + 1 from its tag (R138). -/
def copyRec (slot lu n cwa st stream : Nat) (cws : List InfoBits) : UnitRec :=
  let tag := (nth 0 cws 0).toNat >>> 32768
  { slot, lu, n, type := nbits tag 0 4, seq := nbits tag 64 56, moves := min 255 (nbits tag 120 8 + 1), src := some (cwa, st),
    data := cws.zipIdx.foldl (fun d c => d + (c.1.toNat % 2 ^ 32768) * 2 ^ (32768 * c.2)) 0, stream }

/-- Place a copy of a unit in a stream. -/
def placeCopy (slot lu n cwa st stream : Nat) (cws : List InfoBits) (s : State) : State :=
  let (s, id) := addUnit (copyRec slot lu n cwa st stream cws) s
  placeOwn id s

/-- Relocate valid units of a stripe that a scan read, with codewords fix gives by member and slot; a unit that it does not give
whole is read again. -/
def relocScanned (gi : Nat) (g : Group) (i stream : Nat) (us : List (Nat × Nat × Nat)) (fix : Nat → Nat → Option InfoBits) (s : State) : State :=
  us.foldl (fun s e =>
    let n := s.slotCw e.2.1
    let cws := (List.range n).map fun c => match s.memberOfCwa g (e.1 + c) with
      | some (j, o) => if s.stripeOfCwa (e.1 + c) = i && s.groupOfCwa (e.1 + c) = gi then fix j o else none
      | none => none
    if cws.all Option.isSome then placeCopy e.2.1 e.2.2 n e.1 (entSt (s.mapEntry e.2.1 e.2.2)) stream (cws.map fun c => c.getD 0) s
    else moveUnit e.1 e.2.1 e.2.2 stream false s) s

/-- Valid units of a stripe. -/
def State.unitsOfStripe (s : State) (gi i : Nat) : List (Nat × Nat × Nat) :=
  s.txe.rev.filter fun e => s.groupOfCwa e.1 = gi && s.stripeOfCwa e.1 = i

/-! ### Patrol (R192, R193) -/

/-- The next stripe to patrol: in group-index order; not one with a member awaiting rebuild. -/
def State.patNext (s : State) : Option (Nat × Nat) :=
  s.ste.groups.findSome? fun e =>
    if s.patGroup e.1 then ((List.range (s.stripesUsed e.2)).find? fun i => s.stripeComplete e.1 i && !s.ste.patDone.contains (e.1, i) && !s.stripeDegraded e.1 e.2 i
        && !(s.ste.stripes.any fun x => x.group = e.1 && x.idx = i)).map fun i => (e.1, i)
    else none

/-- PATROL_PASS_START (R192). -/
def execPatrolPassStart (s : State) : Out :=
  if s.domOn dMEDIA && s.on STE_PATROL_ENA && !s.ste.patOn then
    let n := s.ste.groups.foldl (fun n e => if s.patGroup e.1 then n + s.stripesUsed e.2 else n) 0
    .next { s with ste.patOn := true, ste.patDone := [], ste.patPace := max 1 (ceilDiv n (s.cur STE_PATROL_DAYS * 86400)) }
  else .next s

/-- A pass ends when every stripe has been read and checked. -/
def patEnd (s : State) : State :=
  if s.ste.patOn && s.patNext.isNone && !(s.ste.scans.any fun c => c.2.kind = 0) then
    raise EV_STE_PATPASS 0 { s.inc STE_PATPASS_COUNT with ste.patOn := false }
  else s

/-- PATROL_READ (R192): the next stripe's reads go into the patrol queue. -/
def execPatrolRead (s : State) : Out :=
  if !s.ste.patOn then .next s else
  match s.patNext with
  | none => .next (patEnd s)
  | some (gi, i) =>
    let s := { s.setFld STE_PATCUR_GROUP gi with ste.patDone := (gi, i) :: s.ste.patDone }
    .next (startScan 0 gi i 0 3 (List.range (match s.grp gi with | some g => g.width i | none => 0)) s)

/-- What patrol makes of one codeword position (R193). -/
inductive PatRes where
  | fine
  | recon (members : List Nat)
  | lost (members : List Nat)
  | parity
  | data (x : Nat) (p : InfoBits)
  | unloc
  deriving DecidableEq, Repr

/-- Judge slot o of a scanned stripe of width w. -/
def patJudge (sc : Scan) (w o : Nat) : PatRes :=
  let miss := (List.range w).filter fun i => (sc.cwAt w o i).isNone
  if 3 ≤ miss.length then .lost (miss.map (dataMember w sc.stripe))
  else if miss.length != 0 then .recon (miss.map (dataMember w sc.stripe))
  else
    let d := (List.range (w - 2)).map fun i => (sc.cwAt w o i).getD 0
    let p := (sc.cwAt w o (w - 2)).getD 0 ^^^ synP d
    let q := (sc.cwAt w o (w - 1)).getD 0 ^^^ synQ d
    if p = 0 && q = 0 then .fine
    else if p = 0 || q = 0 then .parity
    else match (List.range (w - 2)).find? fun x => gfPow x p = q with
      | some x => .data x p
      | none => .unloc

/-- Check one position of a patrolled stripe (R193). -/
def patSlot (gi i : Nat) (g : Group) (sc : Scan) (o : Nat) (s : State) : State :=
  let w := g.width i
  let all (s : State) : State := relocScanned gi g i 3 (s.unitsOfStripe gi i) (fun j o => sc.cwAt w o (dataIdx w i j)) s
  match patJudge sc w o with
  | .fine => s
  | .lost js => (loseStripe gi i 2 (js.map fun j => (j, o)) s)
  | .recon js =>
    let s := s.inc STE_PATRECON_COUNT
    let us := s.unitsAt gi g i (js.map fun j => (j, o))
    let s := relocScanned gi g i 3 us (fun j o => reconstruct w (sc.cwAt w o) (dataIdx w i j)) s
    if s.on SKM_CTL_RETRECON then js.foldl (fun s j => let m := nth (0, 0) (g.at i) j; retireBlock m.1 m.2 3 s) s else s
  | .parity => raise EV_STE_PATFIX (stePayload gi i o) (all (s.inc STE_PATFIX_COUNT))
  | .data x p =>
    let j := dataMember w i x
    let us := s.unitsAt gi g i [(j, o)]
    let fix (j' o' : Nat) : Option InfoBits :=
      (sc.cwAt w o' (dataIdx w i j')).map fun v => if j' = j && o' = o then v ^^^ p else v
    raise EV_STE_PATFIX (stePayload gi i o) (relocScanned gi g i 3 us fix (s.inc STE_PATFIX_COUNT))
  | .unloc => raise EV_STE_PATUNLOC (stePayload gi i o) (all (s.inc STE_PATUNLOC_COUNT))

/-- PATROL_CHECK (R193): the first patrolled stripe whose reads have all ended. -/
def execPatrolCheck (s : State) : Out :=
  match s.ste.scans.find? fun c => c.2.kind = 0 && s.scanDone c.1 with
  | none => .next s
  | some (id, sc) =>
    let s := { s with ste.scans := mdel s.ste.scans id }
    match s.grp sc.group with
    | none => .next (patEnd s)
    | some g => .next (patEnd ((s.slotList g).foldl (fun s o => patSlot sc.group sc.stripe g sc o s) s))

/-- PATROL_LATE (R192): the pass runs past DAYS. -/
def execPatrolLate (s : State) : Out :=
  .next (if s.ste.patOn then occur 29 0 15 3 (raise EV_STE_PATLATE 0 (s.setFld STE_STAT_PATLATE 1)) else s)

/-! ### Rebuild (R194, R195) -/

/-- Stripes of the die under rebuild that are left: complete ones that include it, of groups with valid codewords (R194): group, stripe. -/
def State.rebLeft (s : State) (pos : Nat) : List (Nat × Nat) :=
  s.ste.groups.flatMap fun e =>
    if s.gtValid e.1 = 0 || s.gtState e.1 = 0 then [] else
    match e.2.mem.zipIdx.find? fun mj => mj.1.1 = pos && nbit (s.degraded e.1) mj.2 with
    | none => []
    | some mj => ((List.range (min (s.stripesUsed e.2) mj.1.2.2)).filter fun i =>
        s.stripeComplete e.1 i && !s.ste.rebDone.contains (e.1, i, pos) && !(s.ste.stripes.any fun x => x.group = e.1 && x.idx = i)).map fun i => (e.1, i)

/-- STE_REBUILD, STE_REBLEFT and DEGRADED follow the rebuild queue. -/
def rebSettle (s : State) : State :=
  let q := s.ste.rebuildQ
  let s := (s.setFld STE_REBUILD_ACTIVE (b2n !q.isEmpty)).setFld STE_REBUILD_PENDING q.length
  let s := s.setFld STE_STAT_DEGRADED (b2n (s.ste.groups.any fun e => s.degraded e.1 != 0))
  match q with
  | [] => s.setFld STE_REBLEFT_STRIPES 0
  | p :: _ => (s.setFld STE_REBUILD_DIE p).setFld STE_REBLEFT_STRIPES (s.rebLeft p).length

/-- REBUILD_START (R194): a retired die's groups are marked degraded, and it joins the queue. -/
def execRebuildStart (s : State) : Out :=
  match s.ste.rebPend with
  | [] => .next s
  | pos :: r =>
    let s := { s with ste.rebPend := r, ste.rebuildQ := s.ste.rebuildQ ++ [pos] }
    let s := s.ste.groups.foldl (fun s e =>
      match e.2.mem.zipIdx.find? fun mj => mj.1.1 = pos && 0 < mj.1.2.2 with
      | some mj => setDegraded s e.1 (s.degraded e.1 ||| 2 ^ mj.2)
      | none => s) s
    .next (raise EV_STE_REBUILD (stePayload 0 0 pos) (rebSettle s))

/-- The dies of a scanned stripe of which the scan read nothing: those that were missing when it began. -/
def State.scanMissing (s : State) (g : Group) (sc : Scan) : List Nat :=
  ((g.at sc.stripe).zipIdx.filter fun mj => !s.inService mj.1.1 && !(sc.got.any fun e => e.1 / 1024 = mj.2)).map fun mj => mj.1.1

/-- Finish the rebuild of one stripe: its members' valid units that are missing are placed in stream 5 (R194, R195).  It is done with for every die that
was missing. -/
def rebFinish (id : Nat) (sc : Scan) (s : State) : State :=
  let s := { s with ste.scans := mdel s.ste.scans id }
  match s.grp sc.group with
  | none => s
  | some g =>
    let s := { s with ste.rebDone := ((s.scanMissing g sc).map fun p => (sc.group, sc.stripe, p)) ++ s.ste.rebDone }
    let w := g.width sc.stripe
    let slots := s.slotList g
    let miss (o : Nat) : List Nat := (List.range w).filter fun i => (sc.cwAt w o i).isNone
    let bad := slots.flatMap fun o => if 3 ≤ (miss o).length then (miss o).map fun i => (dataMember w sc.stripe i, o) else []
    let s := if bad.isEmpty then s else loseStripe sc.group sc.stripe 1 bad s
    let gone := slots.flatMap fun o => if (miss o).length ≤ 2 then (miss o).map fun i => (dataMember w sc.stripe i, o) else []
    let us := if bad.isEmpty then s.unitsAt sc.group g sc.stripe gone else s.unitsOfStripe sc.group sc.stripe
    relocScanned sc.group g sc.stripe 5 us (fun j o => reconstruct w (sc.cwAt w o) (dataIdx w sc.stripe j)) s

/-- REBUILD_STRIPE (R194): finish a stripe whose survivors have been read, else read the survivors of the next. -/
def execRebuildStripe (s : State) : Out :=
  match s.ste.rebuildQ with
  | [] => .next s
  | pos :: _ =>
    match s.ste.scans.find? fun c => c.2.kind = 1 && s.scanDone c.1 with
    | some (id, sc) => .next (rebSettle (rebFinish id sc s))
    | none =>
      if s.ckp.shut then .next s else
      match (s.rebLeft pos).find? fun gi => !(s.ste.scans.any fun c => c.2.kind = 1 && c.2.group = gi.1 && c.2.stripe = gi.2) with
      | none => .next s
      | some (gi, i) =>
        let ms := match s.grp gi with
          | some g => (List.range (g.width i)).filter fun j => s.inService (nth (0, 0) (g.at i) j).1
          | none => []
        .next (startScan 1 gi i 0 2 ms s)

/-- REBUILD_DONE (R194): no stripe of the die is left. -/
def execRebuildDone (s : State) : Out :=
  match s.ste.rebuildQ with
  | [] => .next s
  | pos :: r =>
    if !(s.rebLeft pos).isEmpty || s.ste.scans.any fun c => c.2.kind = 1 then .next s else
    let gs := s.ste.groups.filterMap fun e =>
      (e.2.mem.zipIdx.find? fun mj => mj.1.1 = pos && nbit (s.degraded e.1) mj.2).map fun mj => (e.1, mj.2)
    let s := gs.foldl (fun s gj => setDegraded s gj.1 (s.degraded gj.1 - 2 ^ gj.2)) s
    let s := { s with ste.rebuildQ := r, ste.rebDone := s.ste.rebDone.filter fun x => x.2.2 != pos }
    let s := if s.on STE_CTL_EVAC then { s with skm.prio := s.skm.prio ++ gs.map Prod.fst } else s
    .next (raise EV_STE_REBUILT (stePayload 0 0 pos) (rebSettle s))

end Sys2Proof.Machine
end

