-- ==== Sys2Proof/Machine/Checkpoint.lean ====
section
/-! DEFINITION. Family: checkpoints CKP (spec/09_power_loss.md): triggers, pages, directory, trailer, root log, shutdown. -/

namespace Sys2Proof.Machine

/-! ### Regions and the directory (R203, R208) -/

def State.regionBase (s : State) (r : Nat) : Nat := s.fld CKP_REGION_LO_BASE_LO r + 2 ^ 32 * s.fld CKP_REGION_HI_BASE_HI r
def State.regionPages (s : State) (r : Nat) : Nat := s.fld CKP_REGION_LEN_PAGES r

/-- The directory index of a page (R208). -/
def State.dirIndex (s : State) (r p : Nat) : Nat := (List.range r).foldl (fun n q => n + s.regionPages q) 0 + p

/-- Address of a directory entry. -/
def State.dirAddr (s : State) (r p : Nat) : Nat := s.regionBase 15 + 8 * s.dirIndex r p

/-- The directory entry of a page: none where the page has never been written. -/
def State.dirEntry (s : State) (r p : Nat) : Option Nat :=
  let e := s.rawNat (s.dirAddr r p) 8
  if nbit e 37 then some (e % 2 ^ 37) else none

/-- Record where a page's latest copy lies: in the directory, or for a directory page in the trailer's list. -/
def ckpLocate (r p cwa : Nat) (s : State) : State :=
  if r = 15 then { s with ckp.dirLoc := mins s.ckp.dirLoc p cwa } else
  let s := ringWrite s 20 (s.dirAddr r p) 8 (cwa % 2 ^ 37 + 2 ^ 37)
  { s with dirty.pages := mput false s.dirty.pages (15 * 2 ^ 32 + 8 * s.dirIndex r p / 16384) true }

/-- The 16 KiB of a page. -/
def State.pageData (s : State) (r p : Nat) : Nat := s.rawNat (s.regionBase r + 16384 * p) 16384

/-! ### Root log (R211) -/

/-- A group's marker word: die position and die block of data member i of stripe 0 (R190, R211). -/
def State.markerWord (s : State) (gi i : Nat) : Nat :=
  match s.grp gi with
  | none => 0
  | some g => let m := nth (0, 0) (g.at 0) (dataMember (g.width 0) 0 i); m.1 % 2 ^ 11 + m.2 % 2 ^ 16 * 2 ^ 11

/-- Offset in code flash of a slot of the root log. -/
def rootOff (bank slot : Nat) : Nat := bank * 0x800000 + 0x90000 + 64 * slot

/-- A slot is free in both banks: no bit of it has been programmed. -/
def State.rootFree (s : State) (slot : Nat) : Bool := (List.range 8).all fun i => !s.wordUsed (rootOff 0 slot + 8 * i) && !s.wordUsed (rootOff 1 slot + 8 * i)

/-- The next free slot of the root log (R211). -/
def State.rootNext (s : State) : Nat := (((List.range 1024).map fun k => (s.ckp.rootSlot + k) % 1024).find? s.rootFree).getD s.ckp.rootSlot

/-- The operations that write a 64-byte record into a slot of a bank; the first slot of a sector takes the erase of the following sector with it (R211). -/
def rootOps (bank slot v : Nat) : List FlashOp :=
  ((List.range 8).map fun i =>
    let d := nbits v (64 * i) 64
    ({ who := 20, erase := false, offset := rootOff bank slot + 8 * i, data := BitVec.ofNat 64 d, chkb := BitVec.ofNat 8 (chk72 d) } : FlashOp)) ++
  (if slot % 64 = 0 then [({ who := 20, erase := true, offset := rootOff bank (64 * ((slot / 64 + 1) % 16)) } : FlashOp)] else [])

/-- A root record is written: the shutdown may complete (R212), start-up is over (R214 step 10). -/
def rootDone (kind : Nat) (s : State) : State :=
  if kind = 2 then
    match s.ckp.closing with
    | none => s
    | some k =>
      let s := ({ s with ckp.closing := none, bot.layStep := 3 }.setFld CKP_START_KIND k).setFld CKP_RTIME_MS (min 65535 ((s.mtime - s.ckp.t0) / 100000))
      raise EV_CKP_REPLAYED 0 s
  else s

/-- Go on with the root records that are being written: an operation that has ended makes way for the next. -/
def rootStep : Nat → State → State
  | 0, s => s
  | n + 1, s =>
    match s.ckp.recs with
    | [] => s
    | (k, []) :: r =>
      let s := rootDone k { s with ckp.recs := r }
      rootStep n (match r with | (_, op :: _) :: _ => cflSubmitHw op s | _ => s)
    | (k, op :: ops) :: r =>
      if s.cflHas op then s else
      let s := { s with ckp.recs := (k, ops) :: r }
      rootStep n (match ops with | o :: _ => cflSubmitHw o s | [] => s)

/-- The steps of all records that may be in hand; none after a brown-out (R201). -/
def rootGo (s : State) : State := if s.flag CKP_STAT_BOD then s else rootStep 128 s

/-- Write a root record to the next free slot of bank 0 and then of bank 1 (R211).  kind says why. -/
def rootRecord (kind : Nat) (s : State) : State :=
  let clean := kind = 1
  let no := s.fld CKP_ROOTNO_NUM + 1
  let cur := s.ckp.live.getLast?.getD 0
  let prev := s.ckp.live.dropLast.getLast?.getD cur
  let body := 0x31524B43 + no % 2 ^ 32 * 2 ^ 32 + s.fld CKP_LAST_NUM * 2 ^ 64 + b2n clean * 2 ^ 96
    + s.markerWord cur 0 * 2 ^ 128 + s.markerWord cur 1 * 2 ^ 160 + s.markerWord prev 0 * 2 ^ 192 + s.markerWord prev 1 * 2 ^ 224
    + s.pair TXE_SEQ_LO_SEQ TXE_SEQ_HI_SEQ * 2 ^ 256
  let v := body + (crc32c (leBytes 60 body)).toNat * 2 ^ 480
  let slot := s.rootNext
  let ops := rootOps 0 slot v ++ rootOps 1 slot v
  let idle := s.ckp.recs.isEmpty
  let s := { s.setFld CKP_ROOTNO_NUM no with ckp.rootSlot := (slot + 1) % 1024, ckp.recs := s.ckp.recs ++ [(kind, ops)] }
  rootGo (match idle, ops with | true, op :: _ => cflSubmitHw op s | _, _ => s)

/-- A root record of a kind is still being written. -/
def State.rootWaits (s : State) (kind : Nat) : Bool := s.ckp.recs.any fun r => r.1 = kind

/-! ### The device record (region 6 of R203) -/

/-- The SKM and STE counters of the device record. -/
def recCounts : List Reg :=
  [SKM_RETCNT, SKM_DIERET, SKM_HOSTCW_LO, SKM_HOSTCW_HI, SKM_NANDCW_LO, SKM_NANDCW_HI, STE_STRIPES_LO, STE_STRIPES_HI, STE_PADCW, STE_REPLACE,
   STE_PATPASS, STE_PATRECON, STE_PATFIX, STE_PATUNLOC]

/-- The device record.  DESIGN CHOICE (log 93): its layout, which the spec does not give.  32 bytes a slot: existence and LBA size in byte 0, IU code in
byte 1, NSZE in bytes 8–15, BIRTHSEQ in bytes 16–23; SP0 at 4,096; spare counts from 4,100 on, 2 bytes each by die position; the counters from 8,196 on; the
retirements by cause from 8,252 on; entries to foreground Skim at 8,284; lost-stripe overflows at 8,288. -/
def State.devRecord (s : State) : Nat :=
  let slots := (List.range 128).foldl (fun n k =>
    if s.nsExists k then
      n + (1 + s.fld TXE_NSCFG_LBAS k * 2 + s.fld TXE_NSCFG_IU k * 2 ^ 8 + mget 0 s.txe.nsze k % 2 ^ 64 * 2 ^ 64
        + s.pair TXE_NSBIRTH_LO_BIRTHSEQ TXE_NSBIRTH_HI_BIRTHSEQ k * 2 ^ 128) * 2 ^ (256 * k)
    else n) 0
  let spare := s.skm.spare.foldl (fun n e => n + e.2 % 2 ^ 16 * 2 ^ (8 * (4100 + 2 * e.1))) 0
  let counts := recCounts.zipIdx.foldl (fun n r => n + (s.reg r.1).toNat * 2 ^ (8 * (8196 + 4 * r.2))) 0
  let causes := (List.range 8).foldl (fun n c => n + mget 0 s.skm.byCause c % 2 ^ 32 * 2 ^ (8 * (8252 + 4 * c))) 0
  slots + s.skm.sp0 % 2 ^ 32 * 2 ^ (8 * 4096) + spare + counts + causes + s.skm.fgCount % 2 ^ 32 * 2 ^ (8 * 8284) + s.ste.lostOvf % 2 ^ 32 * 2 ^ (8 * 8288)

/-- Bring the device record in DRAM up to date: each 64-byte line of it that has changed is written, which marks its page (R203). -/
def devSave (s : State) : State :=
  let v := s.devRecord
  if s.regionPages 6 = 0 then s else
  (List.range 130).foldl (fun s l =>
    let a := s.regionBase 6 + 64 * l
    let w := nbits v (512 * l) 512
    if s.rawNat a 64 = w then s else ringWrite s 20 a 64 w) s

/-! ### A checkpoint's pages -/

/-- Open a checkpoint group when stream 6 has none to fill (R207, R211). -/
def ckpGroup (s : State) : State :=
  if !(s.fillingGroups 6).isEmpty then s else
  let before := s.groupIdx
  let s := openGroup 6 s
  match s.groupIdx.find? fun g => !before.contains g with
  | none => s
  | some g =>
    let s := { s with ckp.live := s.ckp.live ++ [g] }
    rootRecord 0 (s.setFld CKP_AREA_LIVE s.ckp.live.length)

/-- GROUP_OPEN (R182, R166, R177, R186): a stream has fewer filling groups than its count, or one with 32 or fewer stripes left; a checkpoint group (stream
6, R207) when one is needed for units that wait. -/
def execGroupOpen (stream : Fin 7) (s : State) : Out :=
  if stream.val = 6 then
    .next (if s.domOn dMEDIA && s.ste.backlog.any fun u => (mfind s.ste.units u).any fun x => x.stream = 6 then placeBacklog (ckpGroup s) else s)
  else
    let f := s.fillingGroups stream
    let need := f.length < s.streamCount stream || (f.length = s.streamCount stream && f.any fun e => s.stripesLeft e.2 ≤ 32)
    let barred := stream.val ≤ 1 && s.freeGroups ≤ s.cur SKM_LWM_RESV
    .next (if s.domOn dMEDIA && need && !barred then placeBacklog (openGroup stream s) else s)

/-- Place a checkpoint page (TYPE 6, R207). -/
def ckpPlace (r p : Nat) (s : State) : State :=
  let s := ckpGroup s
  let (s, id) := addUnit { slot := r, lu := p, n := 4, type := 6, seq := s.fld CKP_CUR_NUM, data := s.pageData r p, stream := 6 } s
  let s := { s with ckp.pages := s.ckp.pages + 1 }
  placeOwn id s

/-- Dirty pages of regions 0 to 8, or of the directory. -/
def State.dirtyOf (s : State) (dir : Bool) : List (Nat × Nat) :=
  (mkeys s.dirty.pages).filterMap fun k =>
    let r := k / 2 ^ 32
    let p := k % 2 ^ 32
    if (r = 15) = dir && p < s.regionPages r then some (r, p) else none

/-- Pages whose latest copy lies in a group: of regions 0 to 8 by the directory, and of the directory itself. -/
def State.pagesIn (s : State) (g : Nat) : List (Nat × Nat) :=
  ((List.range 9).flatMap fun r => (List.range (s.regionPages r)).filterMap fun p =>
    match s.dirEntry r p with
    | some c => if s.groupOfCwa c = g then some (r, p) else none
    | none => none) ++
  (s.ckp.dirLoc.filter fun e => s.groupOfCwa e.2 = g).map fun e => (15, e.1)

/-- The trigger of a checkpoint (R205).  CKP_CTL.ENA turns the period and the volume trigger on. -/
def State.ckpDue (s : State) : Bool :=
  s.ckp.want ||
  (s.on CKP_CTL_ENA && (s.ckp.began + 100000 * s.cur CKP_PERIOD_MS ≤ s.mtime
    || s.ckp.hostCw + 2 ^ 18 * s.cur CKP_BYTES_GIB ≤ s.pair SKM_HOSTCW_LO_COUNT SKM_HOSTCW_HI_COUNT)) ||
  s.cur CKP_DIRTYMAX_PAGES < (s.dirtyOf false).length

/-- The layout digest: CRC-32C over the region bases and lengths (R209). -/
def State.layDigest (s : State) : BitVec 32 :=
  crc32c ((List.range 16).flatMap fun r => leBytes 5 (s.regionBase r) ++ leBytes 3 (s.regionPages r))

/-- The trailer (R209). -/
def State.trailer (s : State) : Nat :=
  let dig := s.layDigest
  let k := s.regionPages 15
  let gs := s.ckp.groups
  let led (no : Nat) : Nat := let x := nth (0, 0) s.ckp.leds no; x.1 + x.2 * 2 ^ 16
  let head := 0x31544B43 + s.fld CKP_CUR_NUM * 2 ^ 32 + s.ckp.seq * 2 ^ 64 + s.ckp.ledSeq * 2 ^ 128 + s.ckp.tick % 2 ^ 32 * 2 ^ 192
    + dig.toNat * 2 ^ 224 + k * 2 ^ 256 + gs.length * 2 ^ 288 + led 0 * 2 ^ 304 + led 1 * 2 ^ 336 + b2n s.ckp.cleanRun * 2 ^ 368
    + s.ckp.live.length * 2 ^ 384
  let body := gs.zipIdx.foldl (fun n g => n + (g.1.1 % 2 ^ 24 + g.1.2 * 2 ^ 64) * 2 ^ (8 * 136 * g.2)) 0
    + (List.range k).foldl (fun n p => n + (match mfind s.ckp.dirLoc p with | some c => c + 2 ^ 37 | none => 0) * 2 ^ (8 * (136 * gs.length + 8 * p))) 0
  let crc := crc32c (leBytes 60 head ++ leBytes (136 * gs.length + 8 * k) body)
  head + crc.toNat * 2 ^ 480 + body * 2 ^ 512

/-- Place the trailer (R209). -/
def placeTrailer (s : State) : State :=
  let s := ckpGroup s
  let n := ceilDiv (64 + 136 * s.ckp.groups.length + 8 * s.regionPages 15) 4096
  let (s, id) := addUnit { slot := 0, lu := 0, n, type := 7, seq := s.fld CKP_CUR_NUM, data := s.trailer, stream := 6 } s
  placeOwn id s

/-- A live unit of a tag TYPE is still to be appended. -/
def State.typeLeft (s : State) (t : Nat) : Bool := s.ste.units.any fun u => u.2.type = t && !u.2.dead

/-- Move the checkpoint on when the units of its phase are appended (R206): pages, directory pages, trailer.  After a brown-out it goes no further (R201). -/
def ckpAdvance (s : State) : State :=
  if s.flag CKP_STAT_BOD then s
  else if s.ckp.phase = 1 && !s.typeLeft 6 then
    let l := s.dirtyOf true
    let s := { s with ckp.phase := 2, dirty.pages := s.dirty.pages.filter fun e => e.1 / 2 ^ 32 != 15 }
    let s := l.foldl (fun s rp => ckpPlace rp.1 rp.2 s) s
    if s.typeLeft 6 then s else placeTrailer { s with ckp.phase := 3 }
  else if s.ckp.phase = 2 && !s.typeLeft 6 then placeTrailer { s with ckp.phase := 3 }
  else s

/-- Rewrite a page of the oldest group (R210): a directory page goes with the dirty ones of its checkpoint (R206 step 4). -/
def ckpRefresh (r p : Nat) (s : State) : State :=
  if r = 15 then { s with dirty.pages := mput false s.dirty.pages (15 * 2 ^ 32 + p) true } else ckpPlace r p s

/-- Writes that have been fetched and wait in the translation engine. -/
def State.writesWait (s : State) : Bool := !s.txe.waiting.isEmpty || !s.txe.merges.isEmpty || !s.txe.trimQ.isEmpty

/-- Begin a checkpoint (R206): snapshot, clear the dirty bitmaps, place the pages and the refresh pages (R210). -/
def ckpBegin (s : State) : State :=
  let s := devSave s
  let l := s.dirtyOf false
  let led := s.ste.groups.filter fun e => e.2.led
  let s := { s with
    ckp.want := false, ckp.began := s.mtime, ckp.hostCw := s.pair SKM_HOSTCW_LO_COUNT SKM_HOSTCW_HI_COUNT
    ckp.phase := 1, ckp.pages := 0, ckp.cleanRun := s.ckp.shut
    ckp.seq := s.pair TXE_SEQ_LO_SEQ TXE_SEQ_HI_SEQ, ckp.ledSeq := s.pair STE_LEDSEQ_LO_SEQ STE_LEDSEQ_HI_SEQ
    ckp.tick := s.fld TCK_COUNT_LO_COUNT
    ckp.groups := led.map fun (e : Nat × Group) => (e.1, mget 0 s.ckp.appended e.1)
    ckp.leds := [0, 1].map fun no => (s.ledDie no, mget 0 s.ste.ledBlock no)
    dirty.pages := s.dirty.pages.filter fun e => e.1 / 2 ^ 32 = 15 }
  let s := s.setFld CKP_STAT_ACTIVE 1
  let s := l.foldl (fun s rp => ckpPlace rp.1 rp.2 s) s
  let n := s.ckp.pages
  let s := match s.ckp.live with
    | old :: _ =>
      if s.fld CKP_AREA_LIMIT < s.ckp.live.length then
        let more := (s.pagesIn old).filter fun rp => !l.contains rp
        (more.take (max (s.cur CKP_REFRESH_PAGES) n)).foldl (fun s rp => ckpRefresh rp.1 rp.2 s) s
      else s
    | [] => s
  ckpAdvance s

/-- CHECKPOINT_BEGIN (R205, R206): at a boundary at which a trigger holds and no checkpoint is in progress; the checkpoint of a
shutdown waits until every fetched write is placed and every started stripe appended (R212); none starts once the brown-out signal is asserted (R201). -/
def execCheckpointBegin (s : State) : Out :=
  let busy := s.ste.stripes.any (fun x => x.stream ≤ 5) || !s.ste.backlog.isEmpty || s.writesWait
  .next (if s.ckpDue && s.ckp.phase = 0 && !s.flag CKP_STAT_BOD && s.domOn dMEDIA && !(s.ckp.shut && busy) then ckpBegin s else s)

/-- CHECKPOINT_LATE (R206). -/
def execCheckpointLate (s : State) : Out :=
  .next (if s.flag CKP_STAT_ACTIVE && s.ckp.began + 100000 * s.cur CKP_PERIOD_MS ≤ s.mtime then
    raise EV_CKP_LATE 0 (s.setFld CKP_STAT_LATE 1) else s)

/-- CKP_CTL.NOW (R205). -/
def ckpNow (s : State) : State := { s with ckp.want := true }

/-- CHECKPOINT_NOW (R205). -/
def execCheckpointNow (m : MasterId) (s : State) : Out := .next (regCmd m CKP_CTL 0 ckpNow s)

/-- The device-wide shutdown starts (R212): every filling stripe is to close, and a checkpoint is wanted. -/
def shutdownStart (byHost : Bool) (s : State) : State :=
  { s with ckp.shut := true, ckp.want := true, ckp.shn := s.ckp.shn || byHost, ckp.cleanDone := false }

/-- SHUTDOWN_REQUEST (R212): CKP_CTL.SHUT. -/
def execShutdownRequest (m : MasterId) (s : State) : Out := .next (regCmd m CKP_CTL 0 (shutdownStart false) s)

/-- SHUTDOWN_COMPLETE (R212 step 4): the clean checkpoint is complete and the root record with CLEAN = 1 is written; CSTS.SHST for the host. -/
def execShutdownComplete (s : State) : Out :=
  if s.ckp.shut && s.ckp.cleanDone && s.ckp.phase = 0 && !s.rootWaits 1 then
    let s := if s.ckp.shn then s.setFld HPT_STAT_SHST 2 else s
    .next { s with ckp.shut := false, ckp.clean := true, ckp.shn := false, ckp.cleanDone := false }
  else .next s

/-- A write is placed (R212).  After the shutdown it clears the clean state with a root record of its own; after the snapshot of the clean checkpoint it calls
for another such checkpoint. -/
def ckpUnclean (s : State) : State :=
  if s.ckp.clean || s.ckp.cleanDone then rootRecord 3 { s with ckp.clean := false, ckp.cleanDone := false, ckp.want := s.ckp.want || s.ckp.shut }
  else if s.ckp.cleanRun then { s with ckp.cleanRun := false, ckp.want := true }
  else s

end Sys2Proof.Machine
end

