-- ==== Sys2Proof/Machine/CmdOps.lean ====
section
/-! DEFINITION. Named operations over commands in flight, and what mirroring adds to placement and append (R288–R290, R299, R301). -/

namespace Sys2Proof.Machine

/-! ### Commands in flight -/

/-- A command in flight. -/
def State.cmd (s : State) (id : Nat) : Option Cmd := mfind s.cmds id

/-- Update a command. -/
def modCmd (s : State) (id : Nat) (f : Cmd → Cmd) : State :=
  match s.cmd id with
  | some c => { s with cmds := mins s.cmds id (f c) }
  | none => s

/-- A command is ready to complete with a status code type and a status code. -/
def finish (id sct sc : Nat) (s : State) : State := modCmd s id fun c => { c with phase := 6, sct, sc }

/-- Bytes of an LBA of a slot (R129). -/
def State.lbaBytes (s : State) (slot : Nat) : Nat := if s.flag TXE_NSCFG_LBAS slot then 4096 else 512

/-- The first codeword of the namespace that a command touches, and how many. -/
def State.cmdCws (s : State) (c : Cmd) : Nat × Nat :=
  let b := s.lbaBytes c.slot
  let a := c.slba * b / 4096
  (a, if c.nlb = 0 then 0 else ((c.slba + c.nlb) * b - 1) / 4096 + 1 - a)

/-- The logical units that a command touches. -/
def State.cmdUnits (s : State) (c : Cmd) : List Nat :=
  let (a, n) := s.cmdCws c
  let u := s.slotCw c.slot
  if n = 0 then [] else rangeFrom (a / u) ((a + n - 1) / u + 1 - a / u)

/-- Command dword k of the submission queue entry, and its opcode, fused bits, PSDT and NSID. -/
def Cmd.cdw (c : Cmd) (k : Nat) : Nat := nbits c.sqe (32 * k) 32
def Cmd.opc (c : Cmd) : Nat := nbits c.sqe 0 8
def Cmd.fuse (c : Cmd) : Nat := nbits c.sqe 8 2
def Cmd.psdt (c : Cmd) : Nat := nbits c.sqe 14 2
def Cmd.nsid (c : Cmd) : Nat := c.cdw 1

/-- The CNTLID of the controller a command came to: 0x0001 for PCIe (R238), 0x1000 + context index for the fabric (R252). -/
def Cmd.ctl (c : Cmd) : Nat := if c.port = 0 then 1 else 0x1000 + (c.port - 1)

/-- It came on its controller's admin queue. -/
def Cmd.isAdmin (c : Cmd) : Bool := if c.port = 0 then c.sq = 0 else c.sq = 32768 + (c.port - 1)

/-- A command completes with a status: status code type × 256 + status code. -/
def finishSt (id st : Nat) (s : State) : State := finish id (st / 256) (st % 256) s

/-- NVMe status values by their names in the spec; the codes are the NVM Express base specification's (PRESUMED,
notes/assumptions/6.md). -/
def stInvalidOpcode : Nat := 0x001
def stInvalidField : Nat := 0x002
def stInternalError : Nat := 0x006
def stAbortRequested : Nat := 0x007
def stSqDeletion : Nat := 0x008
def stInvalidNs : Nat := 0x00B
def stSequence : Nat := 0x00C
def stSglSegment : Nat := 0x00D
def stSglLength : Nat := 0x00F
def stSglType : Nat := 0x011
def stPrpOffset : Nat := 0x013
def stSglGran : Nat := 0x01E
def stWriteProtected : Nat := 0x020
def stTransientTransport : Nat := 0x022
def stLbaRange : Nat := 0x080
def stCapacity : Nat := 0x081
def stNsNotReady : Nat := 0x082
def stFormatInProgress : Nat := 0x084
def stCqInvalid : Nat := 0x100
def stInvalidQid : Nat := 0x101
def stInvalidQSize : Nat := 0x102
def stAbortLimit : Nat := 0x103
def stAerLimit : Nat := 0x105
def stInvalidVector : Nat := 0x108
def stInvalidFormat : Nat := 0x10A
def stQDeletion : Nat := 0x10C
def stNotSaveable : Nat := 0x10D
def stNsCapacity : Nat := 0x115
def stNsIdUnavailable : Nat := 0x116
def stNsAttached : Nat := 0x118
def stNsNotAttached : Nat := 0x11A
def stCtlListInvalid : Nat := 0x11C
def stConnectInvalid : Nat := 0x182
def stInvalidValueSize : Nat := 0x085
def stInvalidKeySize : Nat := 0x086
def stKeyNotExist : Nat := 0x087
def stKeyExists : Nat := 0x089
def stUnrecoveredRead : Nat := 0x281
def stAnaInaccessible : Nat := 0x302
def stAnaTransition : Nat := 0x303

/-! ### The firmware ring (R239) -/

/-- The SQID of a command as the ring gives it: a fabric queue has bit 15 set and its context index below. -/
def Cmd.sqid (c : Cmd) : Nat := c.sq % 65536

/-- Write a firmware entry for a command (R239, R275); none when the ring is full. -/
def fwWrite (id reason : Nat) (c : Cmd) (s : State) : Option State :=
  let size := 2 ^ s.fld HPT_FWRING_HI_SIZE
  let wr := s.fld HPT_FWWR_INDEX % size
  if (wr + 1) % size = s.fld HPT_FWRD_INDEX % size || (mfind s.hpt.fw wr).isSome then none else
  let a := s.fld HPT_FWRING_LO_ADDR + 2 ^ 32 * s.fld HPT_FWRING_HI_ADDR + 128 * wr
  let io := c.slot != 0xFFFFFFFF && (reason = 3 || reason = 4 || reason = 5)
  let v := c.sqe % 2 ^ 512 + c.sqid * 2 ^ 512 + c.cid % 65536 * 2 ^ 528 + reason * 2 ^ 544 + wr * 2 ^ 560 + c.tick % 2 ^ 32 * 2 ^ 576
    + (if io then c.slot else 0xFFFFFFFF) * 2 ^ 608 + mget 0 s.lex.fb id % 2 ^ 64 * 2 ^ 640
  let s := ringWrite s 10 a 128 v
  let s := (s.setFld HPT_FWWR_INDEX ((wr + 1) % size)).inc HPT_FWCMDS_COUNT
  let s := { s with hpt.fw := mins s.hpt.fw wr { cmd := id, at' := s.mtime }, lex.fb := mdel s.lex.fb id }
  let s := if reason = 4 then raise EV_LEX_FALLBACK (nbits v 672 8 + wr * 256) s else s
  some (raise EV_HPT_FWCMD wr (modCmd s id fun c => { c with fw := some wr, phase := 7, passed := true }))

/-- Write the entries that wait, in order, while the ring has room. -/
def fwPump : List (Nat × Nat) → State → State
  | [], s => { s with hpt.fwWait := [] }
  | (id, reason) :: r, s =>
    match s.cmd id with
    | none => fwPump r s
    | some c =>
      match fwWrite id reason c s with
      | some s => fwPump r s
      | none => { s with hpt.fwWait := (id, reason) :: r }

/-- Try the waiting entries again. -/
def fwRetry (s : State) : State := fwPump s.hpt.fwWait s

/-- Hand a command to firmware (R239): with the ring full it waits, HPT_STAT.FWFULL is set and EV_HPT_FWFULL raised.
While HOST is down a fabric command completes with Internal Error (R252). -/
def toFirmware (id reason : Nat) (s : State) : State :=
  if !s.domOn dHOST then finishSt id stInternalError s else
  let s := modCmd s id fun c => { c with phase := 7 }
  let s := fwPump (s.hpt.fwWait ++ [(id, reason)]) s
  if s.hpt.fwWait.any fun w => w.1 = id then raise EV_HPT_FWFULL 0 (s.setFld HPT_STAT_FWFULL 1) else s

/-! ### Mirrored writes (R288–R290, R299, R301) -/

/-- The slot's namespace is mirrored. -/
def State.mirrored (s : State) (slot : Nat) : Bool := s.flag TXE_NSCFG_MIRROR slot

/-- PLK_STAT.STATE: 2 in sync, 3 deciding, 4 survivor, 5 fenced, 6 resync source, 7 resync target, 8 role conflict. -/
def State.pairState (s : State) : Nat := s.fld PLK_STAT_STATE

/-- This half orders mirrored writes: the acting senior in sync, or a resync source (R288, R303). -/
def State.orders (s : State) : Bool := (s.pairState = 2 && s.fld PLK_ROLE_ACTING = 1) || s.pairState = 6

/-- This half follows the partner's order: the acting junior in sync, or a resync target. -/
def State.follows (s : State) : Bool := (s.pairState = 2 && s.fld PLK_ROLE_ACTING = 2) || s.pairState = 7

/-- The bytes of its namespace that a command touches. -/
def State.cmdBytes (s : State) (c : Cmd) : Nat × Nat :=
  match c.ranges with
  | [] => let b := s.lbaBytes c.slot; (c.slba * b, (c.slba + c.nlb) * b)
  | rs =>
    let u := s.lbaBytes c.slot
    (rs.foldl (fun m r => min m (r.2.1 * u)) (2 ^ 64), rs.foldl (fun m r => max m ((r.2.1 + r.2.2) * u)) 0)

/-- The regions of 1 MiB that a range of bytes touches, as change-map keys (R301). -/
def regionKeys (slot lo hi : Nat) : List Nat :=
  if hi ≤ lo then [] else (rangeFrom (lo / 2 ^ 20) ((hi - 1) / 2 ^ 20 + 1 - lo / 2 ^ 20)).map (slot * 2 ^ 32 + ·)

/-- Set the change map's bits of a range. -/
def mapMark (slot lo hi : Nat) (s : State) : State :=
  { s with plk.map := (regionKeys slot lo hi).foldl (fun m k => mput false m k true) s.plk.map }

/-- The MWR descriptor (R288): slot, kind, LBA of the frame's first block, blocks. -/
def mwrDesc (slot kind lba n : Nat) : Nat := slot % 256 + kind % 256 * 2 ^ 8 + lba * 2 ^ 32 + n * 2 ^ 96

/-- The data of a Deallocate: its ranges (slot, first LBA, LBAs), 16 bytes each as Dataset Management lays them out: length in bytes
4–7, starting LBA in bytes 8–15. -/
def rangeData (rs : List (Nat × Nat × Nat)) : Nat :=
  rs.zipIdx.foldl (fun d r => d + (r.1.2.2 % 2 ^ 32 * 2 ^ 32 + r.1.2.1 * 2 ^ 64) * 2 ^ (128 * r.2)) 0

/-- Send a write to the partner, 64 KiB of data to a frame. -/
def sendMwr (c : Cmd) (msn : Nat) (s : State) : State :=
  let b := s.lbaBytes c.slot
  if c.kind = 2 || c.kind = 3 then
    let n := if c.kind = 3 then 16 * c.ranges.length else 0
    pairSend 3 1 msn c.tag (mwrDesc c.slot c.kind c.slba c.nlb + (if c.kind = 3 then rangeData c.ranges * 2 ^ 128 else 0)) (16 + n) s
  else
    let per := 65536 / b
    let frames := max 1 (ceilDiv c.nlb per)
    (List.range frames).foldl (fun s i =>
      let lb := min per (c.nlb - i * per)
      pairSend 3 (b2n (i + 1 = frames)) msn c.tag
        (mwrDesc c.slot c.kind (c.slba + i * per) lb + nbits c.data (8 * i * 65536) (8 * lb * b) * 2 ^ 128) (16 + lb * b) s) s

/-- The next TAG of this half. -/
def newTag (s : State) : Nat × State := (s.plk.nextTag, { s with plk.nextTag := (s.plk.nextTag + 1) % 2 ^ 32 })

/-- A command may be placed as far as the mirror is concerned: in MSN order on a follower (R288), not while a split is decided
(R294), not where a region under copy overlaps (R303). -/
def State.mayPlace (s : State) (id : Nat) : Bool :=
  match s.cmd id with
  | none => true
  | some c =>
    if !s.mirrored c.slot || c.port = 8195 then true
    else if s.pairState = 3 || s.pairState = 5 then false
    else
      let (lo, hi) := s.cmdBytes c
      let copying := match s.plk.region with | some r => (regionKeys c.slot lo hi).contains r | none => false
      !copying && match c.msn, s.plk.lastMsn with
        | some m, some l => m ≤ l + 1 || (rangeFrom (l + 1) (m - 1 - l)).all s.plk.skip.contains
        | _, _ => true

/-- A mirrored command has been placed (R288): the orderer assigns the MSN and sends MWR or MORD; a survivor marks its map. -/
def mirrorPlaced (id : Nat) (s : State) : State :=
  match s.cmd id with
  | none => s
  | some c =>
    if !s.mirrored c.slot || c.port = 8195 then s else
    let (lo, hi) := s.cmdBytes c
    if s.orders then
      let m := match c.msn, s.plk.lastMsn with
        | some m, _ => m
        | none, some l => l + 1
        | none, none => 1
      if c.msn.isSome then s else
      let s := { s with plk.lastMsn := some m, plk.outst := s.plk.outst ++ [(m, c.slot, lo, hi)] }
      if c.port = 8193 then
        pairSend 4 0 m c.tag 0 0 (modCmd s id fun c => { c with msn := some m })
      else
        let (t, s) := newTag s
        let s := modCmd s id fun c => { c with msn := some m, tag := t, mirror := s.pairState = 2 }
        sendMwr { c with tag := t } m s
    else
      let s := match c.msn with
        | some m =>
          let s := if s.plk.lastMsn.isNone then s.setPair PLK_MSN_LO_MSN PLK_MSN_HI_MSN (m - 1) else s
          { s with plk.lastMsn := some m, plk.outst := if c.port = 8193 then s.plk.outst else s.plk.outst ++ [(m, c.slot, lo, hi)] }
        | none => s
      if s.pairState = 4 then mapMark c.slot lo hi s else s

/-- MSN m is appended here: PLK_MSN is the highest with every lower one appended (R293). -/
def msnDone (m : Nat) (s : State) : State :=
  let l := m :: s.plk.done
  let cur := s.pair PLK_MSN_LO_MSN PLK_MSN_HI_MSN
  let top := (List.range l.length).foldl (fun t _ => if l.contains (t + 1) then t + 1 else t) cur
  { s.setPair PLK_MSN_LO_MSN PLK_MSN_HI_MSN top with plk.done := l.filter fun x => top < x }

/-- A write that this half refuses or drops does not stand in the way of the MSNs after it (R290, R230). -/
def skipMsn (m : Option Nat) (s : State) : State :=
  match m, s.plk.lastMsn with
  | some m, some l => if l < m then msnDone m { s with plk.skip := m :: s.plk.skip.filter fun x => l < x } else s
  | _, _ => s

/-- Every unit of a mirrored command that was placed here is appended: MACK to the partner but for the orderer's own writes, and the
command completes or waits for the partner (R288, R289, R299). -/
def mirrorAppended (id : Nat) (s : State) : State :=
  match s.cmd id with
  | none => s
  | some c =>
    let s := match c.msn with
      | some m =>
        let s := msnDone m s
        if c.port = 8193 || s.follows then pairSend 5 0 m c.tag 0 0 s else s
      | none => s
    if c.port = 8193 || c.port = 8195 then { s with cmds := mdel s.cmds id }
    else if c.nak != 0 then finishSt id c.nak s
    else if c.mirror && !c.acked then modCmd s id fun c => { c with phase := 10, appended := true }
    else finish id 0 0 s

/-- A MACK for an MSN has arrived (R289). -/
def mackIn (m : Nat) (s : State) : State :=
  let s := { s with plk.outst := s.plk.outst.filter fun o => o.1 != m }
  let s := if s.pair PLK_PEERMSN_LO_MSN PLK_PEERMSN_HI_MSN < m then s.setPair PLK_PEERMSN_LO_MSN PLK_PEERMSN_HI_MSN m else s
  match s.cmds.find? fun e => e.2.port != 8193 && e.2.msn = some m with
  | some e => if e.2.appended then finish e.1 0 0 s else modCmd s e.1 fun c => { c with acked := true }
  | none => s

end Sys2Proof.Machine
end

