-- ==== Sys2Proof/Machine/Translate.lean ====
section
/-! DEFINITION. Family: translation and the cream layer TXE (spec/06_translation.md). -/

namespace Sys2Proof.Machine

/-! ### At-rest encryption (R315) -/

/-- The at-rest key of a slot, where it is resident and usable (R317, R318). -/
def State.restKey (s : State) (slot : Nat) : Option (List Byte) :=
  match mfind s.keys (mget 0 s.txe.key slot) with
  | some k => if k.type = 3 && nbit k.use 0 then some (leBytes 64 k.key) else none
  | none => none

/-- Some ordinary channel carries a class (R281, R307). -/
def State.classRuns (s : State) (c : Nat) : Bool := (List.range 62).any fun n => mget 0 s.cip.cls n = c

/-- At-rest jobs can run: some channel is of their class, and the domain is up (R307). -/
def State.restRuns (s : State) : Bool := s.domOn dCIPHER && s.classRuns (s.cur CIP_CTL_XCLASS)

/-- The STATUS of a hardware job under a slot's at-rest key that cannot be done: NOPROG or NOKEY (R310, R312, R318). -/
def State.restBad (s : State) (slot : Nat) : Option Nat :=
  if !s.flag CIP_STAT_UCVALID then some 2 else if (s.restKey slot).isNone then some 1 else none

/-- Jobs of n block operations in all are complete: CIP_JOBS and CIP_BLK (R305). -/
def cipCount (jobs n : Nat) (s : State) : State := (s.inc CIP_JOBS_COUNT jobs).incPair CIP_BLK_LO_COUNT CIP_BLK_HI_COUNT n

/-- A hardware job of a class ended with NOPROG or NOKEY: its counters and events (R310, R318).  The record names the first channel of the class. -/
def hwJobBad (cls st key : Nat) (s : State) : State :=
  let ch := ((List.range 62).find? fun n => mget 0 s.cip.cls n = cls).getD 0
  let s := s.inc CIP_JOBS_COUNT
  raise EV_CIP_JOBERR ch (if st = 1 then raise EV_CIP_NOKEY key (s.inc CIP_NOKEY_COUNT) else s)

/-- An at-rest job of a slot ended with NOPROG or NOKEY. -/
def restJobBad (slot st : Nat) (s : State) : State := hwJobBad (s.cur CIP_CTL_XCLASS) st (mget 0 s.txe.key slot) s

/-- Block operations of XTS over n codewords: 256 blocks and a tweak each (R306). -/
def xtsOps (n : Nat) : Nat := 257 * n

/-- Encrypt or decrypt codeword c of a unit: data unit number LU × IU ÷ 4,096 + CWIDX.  Without the key, the bytes as they are (a
command whose key is not resident does not get here, R318). -/
def State.xtsCw (s : State) (enc : Bool) (slot lu c v : Nat) : Nat :=
  match s.restKey slot with
  | some k => xtsUnit enc k (lu * s.slotCw slot + c) v
  | none => v

/-- A unit's codewords, encrypted or decrypted. -/
def State.xtsData (s : State) (enc : Bool) (slot lu n v : Nat) : Nat :=
  (List.range n).foldl (fun d c => d + s.xtsCw enc slot lu c (nbits v (32768 * c) 32768) * 2 ^ (32768 * c)) 0

/-! ### Lookup (R132, R140) -/

/-- TXE reads a map entry in DRAM (R16, R140). -/
def entryLook (slot lu : Nat) (s : State) : State := blkRead 14 (s.mapAddr slot lu) 5 s

/-- The reads of a range of a unit's codewords, for a client. -/
def readUnit (slot lu k n q : Nat) (client : Nat → Client) (s : State) : State :=
  let e := s.mapEntry slot lu
  if mapped e then placeRead (entCwa e + k) n (entSt e = 2) q client s else s

/-- Look up a read (R140): a state of 4, 6 or 7 (or the undefined 3) in any unit fails it, a state of 5 hands it to firmware, else the
mapped units' pages are read and state-0 units give zeros. -/
def mapLookup (id : Nat) (c : Cmd) (s : State) : State :=
  let us := s.cmdUnits c
  let s := us.foldl (fun s lu => entryLook c.slot lu s) s
  let sts := us.map fun lu => entSt (s.mapEntry c.slot lu)
  if sts.any fun x => x = 3 || x = 4 || x = 6 || x = 7 then
    let s := if sts.contains 4 then raise EV_TXE_LOSTREAD c.slot s else s
    let s := if sts.any fun x => x = 3 || x = 6 || x = 7 then raise EV_TXE_BADENT c.slot (s.setFld TXE_STAT_BADENT 1) else s
    finish id 2 0x81 s
  else if sts.contains 5 then toFirmware id 3 (raise EV_TXE_FWENT c.slot s)
  else
    let (a, n) := s.cmdCws c
    let u := s.slotCw c.slot
    let s := us.foldl (fun s lu =>
      let lo := max a (lu * u)
      let hi := min (a + n) ((lu + 1) * u)
      readUnit c.slot lu (lo - lu * u) (hi - lo) 0 (fun f => .host id (lo - a + f)) s) s
    let s := modCmd s id fun c => { c with phase := 2, passed := true }
    if s.tck.jobs.any fun j => match j.2.client with | .host k _ => k = id | _ => false then s else modCmd s id fun c => { c with phase := if c.kv then 12 else 6 }

/-- MAP_LOOKUP (R140) of a read that the port has checked. -/
def execMapLookup (id : Nat) (s : State) : Out :=
  match s.cmd id with
  | some c => .next (if c.phase = 1 then mapLookup id c s else s)
  | none => .next s

/-! ### Placement (R138, R143, R150) -/

/-- Entries of the placement table that units still need. -/
def newEntries (t : List Place) (us : List UnitRec) : Nat :=
  ((us.map fun u => (u.slot, u.lu)).eraseDups.filter fun k => !(t.any fun p => p.slot = k.1 && p.lu = k.2)).length

/-- Count one placement of a unit. -/
def placeCount (t : List Place) (u : UnitRec) : List Place :=
  if t.any fun p => p.slot = u.slot && p.lu = u.lu then
    t.map fun p => if p.slot = u.slot && p.lu = u.lu then { p with count := p.count + 1 } else p
  else t ++ [{ slot := u.slot, lu := u.lu, count := 1, high := 0 }]

/-- TXE_PLACE follows the table.  DESIGN CHOICE (log 89): FULL clears as soon as the table has a free entry. -/
def placeSettle (s : State) : State :=
  let s := s.setFld TXE_PLACE_COUNT s.txe.place.length
  if s.txe.place.length < 131072 then s.setFld TXE_PLACE_FULL 0 else s

/-- A unit is in the placement table. -/
def State.placed (s : State) (slot lu : Nat) : Bool := s.txe.place.any fun p => p.slot = slot && p.lu = lu

/-- A unit lies in a range (slot, first LU, count). -/
def inRange (slot lu : Nat) (r : Nat × Nat × Nat) : Bool := r.1 = slot && r.2.1 ≤ lu && lu < r.2.1 + r.2.2

/-- The next sequence number; the counter goes on (R138). -/
def takeSeq (s : State) : Nat × State :=
  let seq := s.pair TXE_SEQ_LO_SEQ TXE_SEQ_HI_SEQ
  (seq, s.setPair TXE_SEQ_LO_SEQ TXE_SEQ_HI_SEQ (seq + 1))

/-- Place the units of one command, all under the next sequence number (R138, R143). -/
def placeAll (id : Nat) (us : List UnitRec) (s : State) : State :=
  let (seq, s) := takeSeq s
  let s := us.foldl (fun s u =>
    let s := { s with txe.place := placeCount s.txe.place u }
    let (s, uid) := addUnit { u with seq := seq, cmd := some id } s
    let s := s.incPair SKM_HOSTCW_LO_COUNT SKM_HOSTCW_HI_COUNT u.n
    placeOwn uid s) s
  occSettle (placeSettle (mirrorPlaced id (modCmd s id fun c => { c with phase := 4, passed := true })))

/-- An earlier write of the same PCIe submission queue has data that is not placed: it merges, or it waits (R228). -/
def State.placeBehind (s : State) (id : Nat) : Bool :=
  let early (k : Nat) : Bool := k < id && match s.cmd k, s.cmd id with
    | some a, some b => a.port = 0 && b.port = 0 && a.sq = b.sq && a.phase = 3
    | _, _ => false
  (s.txe.merges.any fun m => early m.2.cmd) || s.txe.waiting.any fun w => early (w.1 % 2 ^ 64)

/-- PLACEMENT (R143): the first waiting command, when the table has room for its units and no placed trim covers one (R148). -/
def execPlacement (s : State) : Out :=
  match s.txe.waiting.find? fun w => w.1 < 2 ^ 64 && s.classRuns (s.cur CIP_CTL_XCLASS) && s.mayPlace w.1 && !s.placeBehind w.1 with
  | none => .next s
  | some (id, us) =>
    if us.any fun u => s.txe.trims.any fun t => t.2.any (inRange u.slot u.lu) then .next s
    else if 131072 < s.txe.place.length + newEntries s.txe.place us then
      .next (if s.flag TXE_PLACE_FULL then s else
        raise EV_TXE_PLACEFULL 0 ((s.setFld TXE_PLACE_FULL 1).setFld TXE_STAT_PLACEFULL 1))
    else if (s.filling [0, 1]).isNone && (s.fillingGroups 0).isEmpty && (s.fillingGroups 1).isEmpty then .next s
    else .next (placeAll id us (ckpUnclean { s with txe.waiting := s.txe.waiting.filter fun w => w.1 != id }))

/-! ### Merges (R147) -/

/-- Overlay len bytes at ofs. -/
def overlay (v ofs len bytes : Nat) : Nat := v - nbits v (8 * ofs) (8 * len) * 2 ^ (8 * ofs) + bytes % 2 ^ (8 * len) * 2 ^ (8 * ofs)

/-- A command's merges end without effect (R147): nothing of it is placed, and nothing trimmed. -/
def mergeStop (id : Nat) (s : State) : State :=
  { s with
    txe.merges := s.txe.merges.filter fun x => x.2.cmd != id
    txe.waiting := s.txe.waiting.filter fun w => w.1 != id + 2 ^ 64
    txe.trimQ := s.txe.trimQ.filter fun t => t.1 != id }

/-- Every merge of a command is complete: its units wait for placement, in unit order. -/
def mergeDone (id : Nat) (s : State) : State :=
  let ms := s.txe.merges.filter fun m => m.2.cmd = id
  if ms.all fun m => m.2.buf.isSome then
    let slot := match ms with | m :: _ => m.2.slot | [] => 0
    match s.restBad slot with
    | some st => finish id 2 0x80 (mergeStop id (restJobBad slot st s))
    | none =>
    let s := cipCount ms.length (xtsOps (ms.foldl (fun n m => n + m.2.n) 0)) s
    let us := ms.map fun m => { slot := m.2.slot, lu := m.2.lu, n := m.2.n, data := s.xtsData true m.2.slot m.2.lu m.2.n (m.2.buf.getD 0) : UnitRec }
    match s.txe.waiting.find? fun w => w.1 = id + 2 ^ 64 with
    | some w => { s with txe.waiting := (s.txe.waiting.filter fun x => x.1 != id + 2 ^ 64) ++ [(id, w.2 ++ us)] }
    | none => { s with txe.waiting := s.txe.waiting ++ [(id, us)] }
  else s

/-- The merge of the same unit that comes last before a merge. -/
def State.mergeBefore (s : State) (mid : Nat) (m : Merge) : Option Merge :=
  ((s.txe.merges.filter fun e => e.1 < mid && e.2.slot = m.slot && e.2.lu = m.lu).getLast?).map Prod.snd

/-- A placed trim unit covers a unit (R148). -/
def State.trimmed (s : State) (slot lu : Nat) : Bool := s.txe.trims.any fun t => t.2.any (inRange slot lu)

/-- The map STATEs that the merges of a command are about to read (R140, R147): those with no buffer, no earlier merge and no placed trim unit to wait for. -/
def State.mergeSts (s : State) (id : Nat) : List Nat :=
  (s.txe.merges.filter fun m => m.2.cmd = id && m.2.buf.isNone && m.2.job.isNone && (s.mergeBefore m.1 m.2).isNone && !s.trimmed m.2.slot m.2.lu).map
    fun m => entSt (s.mapEntry m.2.slot m.2.lu)

/-- One merge: wait for an earlier merge of the same unit or a placed trim of it, overlay, or read the unit's current data. -/
def mergeStep (mid : Nat) (s : State) : State :=
  match mfind s.txe.merges mid with
  | none => s
  | some m =>
    if m.buf.isSome || !s.restRuns then s else
    let put (v : Nat) (s : State) : State := { s with txe.merges := mins s.txe.merges mid { m with buf := some (overlay v m.ofs m.len m.bytes) } }
    match s.mergeBefore mid m with
    | some p => match p.buf with
      | some v => put v s
      | none => s
    | none =>
      let e := s.mapEntry m.slot m.lu
      if m.job.isNone && s.trimmed m.slot m.lu then s
      else if m.job.isSome then
        if s.tck.jobs.any fun j => match j.2.client with | .merge k _ => k = mid | _ => false then s
        else
          let v := (List.range m.n).foldl (fun d c => d + s.xtsCw false m.slot m.lu c (mget 0 m.got c % 2 ^ 32768) * 2 ^ (32768 * c)) 0
          match s.restBad m.slot with
          | some st => finish m.cmd 2 0x80 (mergeStop m.cmd (restJobBad m.slot st s))
          | none => put v (cipCount 1 (xtsOps m.n) s)
      else if mapped e then
        let s := entryLook m.slot m.lu { s with txe.merges := mins s.txe.merges mid { m with job := some 0 } }
        readUnit m.slot m.lu 0 m.n 0 (fun f => .merge mid f) s
      else put 0 (entryLook m.slot m.lu s)

/-- Go on with the merges of a command: the states of the units that it reads govern the whole of it (R140). -/
def mergeGo (id : Nat) (s : State) : State :=
  let sts := s.mergeSts id
  let slot := match s.txe.merges.find? fun m => m.2.cmd = id with | some m => m.2.slot | none => 0
  if sts.any fun x => x = 3 || x = 4 || x = 6 || x = 7 then
    let s := if sts.contains 4 then raise EV_TXE_LOSTREAD slot s else s
    let s := if sts.any fun x => x = 3 || x = 6 || x = 7 then raise EV_TXE_BADENT slot (s.setFld TXE_STAT_BADENT 1) else s
    finish id 2 0x81 (mergeStop id s)
  else if sts.contains 5 then toFirmware id 5 (raise EV_TXE_FWENT slot (mergeStop id s))
  else (fun s => if s.txe.merges.any fun m => m.2.cmd = id then mergeDone id s else s) ((s.txe.merges.filter fun m => m.2.cmd = id).foldl (fun s m => mergeStep m.1 s) s)

/-- MERGE (R147) of a command's partial units. -/
def execMerge (id : Nat) (s : State) : Out :=
  let ms := s.txe.merges.filter fun m => m.2.cmd = id
  .next (if ms.isEmpty || ms.all (fun m => m.2.buf.isSome) then s else mergeGo id s)

/-- Split a write into whole units and merges (R147): whole units first wait beside the merges, else for placement. -/
def writeUnits (id : Nat) (c : Cmd) (s : State) : State :=
  let u := s.slotCw c.slot
  let ub := u * 4096
  let b := s.lbaBytes c.slot
  let lo := c.slba * b
  let hi := (c.slba + c.nlb) * b
  let us := s.cmdUnits c
  let bytes (x y : Nat) : Nat := nbits c.data (8 * (x - lo)) (8 * (y - x))
  let whole := us.filter fun lu => lo ≤ lu * ub && (lu + 1) * ub ≤ hi
  let part := us.filter fun lu => !(lo ≤ lu * ub && (lu + 1) * ub ≤ hi)
  match if whole.isEmpty then none else s.restBad c.slot with
  | some st => finish id 2 0x80 (restJobBad c.slot st s)
  | none =>
  let s := cipCount whole.length (xtsOps (u * whole.length)) s
  let recs := whole.map fun lu => { slot := c.slot, lu, n := u, data := s.xtsData true c.slot lu u (bytes (lu * ub) ((lu + 1) * ub)) : UnitRec }
  let s := part.foldl (fun s lu =>
    let x := max lo (lu * ub)
    let y := min hi ((lu + 1) * ub)
    let m : Merge := { slot := c.slot, lu, n := u, ofs := x - lu * ub, len := y - x, bytes := bytes x y, cmd := id }
    { s with txe.merges := mins s.txe.merges s.txe.nextMerge m, txe.nextMerge := s.txe.nextMerge + 1 }) s
  let s := modCmd s id fun c => { c with phase := 3 }
  if part.isEmpty then { s with txe.waiting := s.txe.waiting ++ [(id, recs)] }
  else if recs.isEmpty then s
  else { s with txe.waiting := s.txe.waiting ++ [(id + 2 ^ 64, recs)] }

/-! ### Trims (R148) -/

/-- The data of trim units: up to 255 ranges of 16 bytes each (slot in bytes 0–1, first LU in bytes 2–7, count in bytes 8–15). -/
def trimUnits : List (Nat × Nat × Nat) → List (List (Nat × Nat × Nat))
  | [] => []
  | r :: rs => (r :: rs.take 254) :: trimChunks rs (rs.length / 255 + 1)
where
  trimChunks (l : List (Nat × Nat × Nat)) : Nat → List (List (Nat × Nat × Nat))
    | 0 => []
    | n + 1 => let l' := l.drop 254; if l'.isEmpty then [] else (l'.take 255) :: trimChunks (l'.drop 1) n

/-- The 4 KiB of a trim unit. -/
def trimData (rs : List (Nat × Nat × Nat)) : Nat :=
  rs.zipIdx.foldl (fun d r => d + (r.1.1 + r.1.2.1 * 2 ^ 16 + r.1.2.2 * 2 ^ 64) * 2 ^ (128 * r.2)) 0

/-- The ranges that a trim unit's data holds. -/
def trimRead (v : Nat) : List (Nat × Nat × Nat) :=
  (List.range 255).filterMap fun i =>
    let cnt := nbits v (128 * i + 64) 64
    if cnt = 0 then none else some (nbits v (128 * i) 16, nbits v (128 * i + 16) 48, cnt)

/-- Place one trim unit, under a sequence number of its own (R138, R148).  DESIGN CHOICE (log 42): SLOT, LU and IUC of its tag are 0. -/
def placeTrim (id : Nat) (rs : List (Nat × Nat × Nat)) (s : State) : State :=
  let (seq, s) := takeSeq s
  let (s, uid) := addUnit { slot := 0, lu := 0, n := 1, type := 3, seq, data := trimData rs, cmd := some id } { s with txe.trims := s.txe.trims ++ [(seq, rs)] }
  placeOwn uid (s.incPair SKM_HOSTCW_LO_COUNT SKM_HOSTCW_HI_COUNT)

/-- TRIM_PLACE (R148): a waiting trim whose ranges hold no unit of the placement table. -/
def execTrimPlace (id : Nat) (s : State) : Out :=
  match s.txe.trimQ.find? fun t => t.1 = id with
  | none => .next s
  | some (_, rs) =>
    if !s.mayPlace id || s.txe.place.any (fun p => rs.any (inRange p.slot p.lu)) then .next s
    else if (s.filling [0, 1]).isNone && (s.fillingGroups 0).isEmpty && (s.fillingGroups 1).isEmpty then .next s
    else
      let s := { ckpUnclean s with txe.trimQ := s.txe.trimQ.filter fun t => t.1 != id }
      let s := (trimUnits rs).foldl (fun s l => placeTrim id l s) s
      .next (occSettle (mirrorPlaced id (modCmd s id fun c => { c with phase := 4, passed := true })))

/-! ### Append (R144–R148) -/

/-- Count valid units of a slot. -/
def nsValid (slot : Nat) (up : Bool) (s : State) : State :=
  let v := s.pair TXE_NSVALID_LO_VALID TXE_NSVALID_HI_VALID slot
  s.setPair TXE_NSVALID_LO_VALID TXE_NSVALID_HI_VALID (if up then v + 1 else v - 1) slot

/-- Replace a map entry, with the valid counts of old and new locations (R136, R159). -/
def setEntry (slot lu e : Nat) (s : State) : State :=
  let old := s.mapEntry slot lu
  let n := s.slotCw slot
  let s := ringWrite (mapDirty s slot lu) 14 (s.mapAddr slot lu) 5 e
  let s := if mapped old then nsValid slot false (invalidate (entCwa old) n s) else s
  if mapped e then nsValid slot true (validate (entCwa e) n slot lu s) else s

/-- The CWA of a placed unit. -/
def State.unitCwa (s : State) (uid : Nat) : Option (Nat × Bool) :=
  s.ste.stripes.findSome? fun x =>
    match x.pieces.find? fun p => p.unit = uid && p.ofs = 0 with
    | some p => (s.grp x.group).map fun g => (s.slotCwa g x.idx p.member p.o, g.cream)
    | none => none

/-- A single-entry operation of R156 on an entry that is not in the placement table. -/
def entryOp (op slot lu : Nat) (s : State) : State :=
  let s := s.setFld TXE_ENTSEL_HI_BUSY 0
  if !s.nsExists slot || s.nsUnits slot ≤ lu then s.setFld TXE_STAT_ENTERR 1 else
  let s := entryLook slot lu s
  let e := s.mapEntry slot lu
  match op with
  | 0 => (s.setFld TXE_ENTVAL_LO_ENTRY e).setFld TXE_ENTVAL_HI_ENTRY (e / 2 ^ 32)
  | 1 => occSettle (setEntry slot lu (entOf (entCwa e) 4) s)
  | 2 => occSettle (setEntry slot lu (entOf (entCwa e) 5) s)
  | _ => occSettle (setEntry slot lu 0 s)

/-- An entry operation that waits runs once its unit has left the placement table. -/
def entryRetry (s : State) : State :=
  match s.txe.entWait with
  | some (op, slot, lu) => if s.placed slot lu then s else entryOp op slot lu { s with txe.entWait := none }
  | none => s

/-- A command none of whose units is left completes (R146); one with a part at the partner waits for it. -/
def cmdAppended (id : Nat) (s : State) : State :=
  if (s.ste.units.any fun u => u.2.cmd = some id && !u.2.dead) || (s.txe.waiting.any fun w => w.1 % 2 ^ 64 = id)
    || (s.txe.trimQ.any fun t => t.1 = id) || (s.txe.merges.any fun m => m.2.cmd = id && m.2.buf.isNone) then s else
  let s := { s with txe.merges := s.txe.merges.filter fun m => m.2.cmd != id }
  match s.cmd id with
  | some _ => mirrorAppended id s
  | none => s

/-- A unit is appended into a die block that has been retired on its own: SKM relocates it too (R170 step 3). -/
def relocLate (cwa : Nat) (s : State) : State :=
  let e := s.bt (cwaPos cwa) (s.cwaBlk cwa)
  if e.state = 2 && e.cause != 5 then relocate (cwaPos cwa) (s.cwaBlk cwa) s else s

/-- A copy is discarded (R145): reported to SKM as invalid data of the destination block.  Its codewords count as valid and then as invalid, so VALID ends
where it was (DEDUCED, log 43). -/
def copyDiscard (cwa n slot lu : Nat) (s : State) : State := invalidate cwa n (validate cwa n slot lu s)

/-- Append a unit whose stripes are all complete (R144, R145, R148, R206). -/
def appendUnit (uid : Nat) (s : State) : State :=
  match mfind s.ste.units uid, s.unitCwa uid with
  | some u, some (cwa, cream) =>
    let s := { s with ste.units := mdel s.ste.units uid }
    if u.dead then s else
    if u.type = 1 then
      let st := if cream then 2 else 1
      match u.src with
      | none =>
        let high := match s.txe.place.find? fun p => p.slot = u.slot && p.lu = u.lu with | some p => p.high | none => 0
        let s := if high < u.seq + 1 then relocLate cwa (setEntry u.slot u.lu (entOf cwa st) s) else s
        let s : State := { s with txe.merges := s.txe.merges.filter fun m => !(u.cmd = some m.2.cmd && m.2.slot = u.slot && m.2.lu = u.lu) }
        let t := s.txe.place.map fun p => if p.slot = u.slot && p.lu = u.lu then { p with count := p.count - 1, high := max p.high (u.seq + 1) } else p
        let s := placeSettle { s with txe.place := t.filter fun p => p.count != 0 }
        entryRetry (match u.cmd with | some id => cmdAppended id s | none => s)
      | some (c, st0) =>
        let s := if s.nsExists u.slot && s.mapEntry u.slot u.lu = entOf c st0 then relocLate cwa (setEntry u.slot u.lu (entOf cwa st) s)
          else copyDiscard cwa u.n u.slot u.lu s
        groupSettle (s.groupOfCwa c) s
    else if u.type = 3 then
      let rs := trimRead u.data
      let s := { s with txe.trims := s.txe.trims.filter fun t => t.1 != u.seq }
      let s := rs.foldl (fun s r => (List.range r.2.2).foldl (fun s k => setEntry r.1 (r.2.1 + k) 0 s) s) s
      match u.cmd with | some id => cmdAppended id s | none => s
    else if u.type = 6 then ckpLocate u.slot u.lu cwa s
    else s
  | _, _ => s

/-- STRIPE_APPEND (R144): every member of the stripe has reported program success. -/
def stripeAppend (x : Stripe) (s : State) : State :=
  let s := setStripe s { x with st := 4 }
  let ids := (x.pieces.map Piece.unit).eraseDups
  let ready := ids.filter fun id => s.ste.stripes.all fun y => y.st = 4 || !(y.pieces.any fun p => p.unit = id)
  let s := ready.foldl (fun s id => appendUnit id s) s
  let ended (y : Stripe) : Bool := y.st = 4 && y.pieces.all fun p => (mfind s.ste.units p.unit).isNone
  let s : State := { s with
    ckp.appended := (s.ste.stripes.filter ended).foldl (fun m y => mmod 0 m y.group (· ||| 2 ^ y.idx)) s.ckp.appended
    ste.stripes := s.ste.stripes.filter fun y => !ended y }
  occSettle (ckpAdvance (groupDone x.group s))

/-- STRIPE_APPEND (R144). -/
def execStripeAppend (g : BitVec 24) (i : Fin 1024) (s : State) : Out :=
  match s.stripe g.toNat i with
  | some x => .next (if x.st = 3 then stripeAppend x s else s)
  | none => .next s

/-! ### Cream layer (R149–R152) -/

/-- Recompute the cream target (R149): TXE_FREE and TXE_CREAM_TGT. -/
def creamTarget (s : State) : State :=
  let used := (List.range 128).foldl (fun n k => n + s.pair TXE_NSVALID_LO_VALID TXE_NSVALID_HI_VALID k * s.slotCw k * 4096) 0
  let free := s.txe.usable - used
  let t := s.cur TXE_CREAM_FRAC_FRAC * free / 1024
  let t := min (max t (s.fld TXE_CREAM_MIN_GIB * 2 ^ 30)) (s.cur TXE_CREAM_MAX_GIB * 2 ^ 30)
  (s.setFld TXE_FREE_GIB (free / 2 ^ 30)).setFld TXE_CREAM_TGT_MIB (t / 2 ^ 20)

/-- CREAM_TARGET_RECOMPUTE (R149): at every 4,096th boundary. -/
def execCreamTargetRecompute (s : State) : Out :=
  .next (if s.domOn dCTRL && s.fld TCK_COUNT_LO_COUNT % 4096 = 0 then creamTarget s else s)

/-- The oldest cream stripe, in the order in which they were taken, with a unit that is not moving yet (R152). -/
def State.foldNext (s : State) : Option (Nat × Nat) :=
  s.ste.cream.find? fun gi => 1 ≤ s.gtState gi.1 && s.gtState gi.1 ≤ 3 && s.txe.rev.any fun e =>
    s.groupOfCwa e.1 = gi.1 && s.stripeOfCwa e.1 = gi.2 && !(s.ste.moves.any fun m => m.2.cwa = e.1)

/-- FOLD (R152): read the units of the oldest cream stripe, to be written in stream 2; its group becomes a victim (R160). -/
def execFold (s : State) : Out :=
  if !s.on TXE_CTL_FOLD || s.ckp.shut || !s.domOn dMEDIA then .next s else
  match s.foldNext with
  | none => .next s
  | some (g, i) =>
    let s := if s.gtState g = 2 then setGtState s g 3 else s
    .next (moveAll (fun s c => s.groupOfCwa c = g && s.stripeOfCwa c = i) 2 false s)

/-! ### Entry operations (R156) -/

/-- What a write of TXE_ENTSEL_HI selects. -/
def entrySel (op slot hi : Nat) (s : State) : State :=
  ((s.setFld TXE_ENTSEL_HI_LU hi).setFld TXE_ENTSEL_HI_SLOT slot).setFld TXE_ENTSEL_HI_OP op

/-- A write of TXE_ENTSEL_HI: the operation runs, or waits while its unit is in the placement table.  DESIGN CHOICE (log 89): a further write takes the place
of an operation that waits. -/
def entryWrite (op slot hi : Nat) (s : State) : State :=
  let lu := s.fld TXE_ENTSEL_LO_LU + 2 ^ 32 * (hi % 256)
  let s := entrySel op slot hi s
  if s.placed slot lu then { s.setFld TXE_ENTSEL_HI_BUSY 1 with txe.entWait := some (op, slot, lu) } else entryOp op slot lu s

/-- ENTRY_READ (R156). -/
def execEntryRead (m : MasterId) (slot : Fin 128) (hi : Byte) (s : State) : Out :=
  .next (regCmd m TXE_ENTSEL_HI 0 (entryWrite 0 slot hi.toNat) s)

/-- ENTRY_SET_LOST (R156). -/
def execEntrySetLost (m : MasterId) (slot : Fin 128) (hi : Byte) (s : State) : Out :=
  .next (regCmd m TXE_ENTSEL_HI 0 (entryWrite 1 slot hi.toNat) s)

/-- ENTRY_SET_FIRMWARE (R156). -/
def execEntrySetFirmware (m : MasterId) (slot : Fin 128) (hi : Byte) (s : State) : Out :=
  .next (regCmd m TXE_ENTSEL_HI 0 (entryWrite 2 slot hi.toNat) s)

/-- ENTRY_CLEAR (R156). -/
def execEntryClear (m : MasterId) (slot : Fin 128) (hi : Byte) (s : State) : Out :=
  .next (regCmd m TXE_ENTSEL_HI 0 (entryWrite 3 slot hi.toNat) s)

/-! ### Namespaces (R153–R155) -/

/-- Clear the first n entries of a slot, without counting. -/
def clearEntries (slot n : Nat) (s : State) : State :=
  let a := s.mapAddr slot 0
  let base := s.fld TXE_MAPBASE_LO_ADDR + 2 ^ 32 * s.fld TXE_MAPBASE_HI_ADDR
  let pages := if n = 0 then [] else rangeFrom ((a - base) / 16384) ((a - base + 5 * n - 1) / 16384 + 1 - (a - base) / 16384)
  { s with mem := s.mem.filter fun c => !(a ≤ c.1 && c.1 < a + 5 * n), chk := clearChk s.chk a (5 * n)
           dirty.pages := pages.foldl (fun m p => mput false m p true) s.dirty.pages }

/-- NAMESPACE_ZERO_DONE (R153): the entries are zero, the namespace exists, the create completes. -/
def execNamespaceZeroDone (s : State) : Out :=
  match s.txe.zeroing with
  | [] => .next s
  | (slot, id) :: r =>
    let s := clearEntries slot (s.nsUnits slot) { s with txe.zeroing := r, ckp.want := true }
    let s := ((s.setFld TXE_NSCFG_ZEROING 0 slot).setFld TXE_NSCFG_EXISTS 1 slot).setPair TXE_NSVALID_LO_VALID TXE_NSVALID_HI_VALID 0 slot
    .next (raise EV_TXE_NSREADY slot ((finish id 0 0 s).setFld HPT_STAT_NSCHG 1))

/-- Every mapped unit of a slot becomes invalid and its entries 0 (R154 step 2). -/
def wipeSlot (slot : Nat) (s : State) : State :=
  let us := s.txe.rev.filter fun e => e.2.1 = slot
  let s := us.foldl (fun s e => invalidate e.1 (s.slotCw slot) s) s
  occSettle ((clearEntries slot (s.nsUnits slot) s).setPair TXE_NSVALID_LO_VALID TXE_NSVALID_HI_VALID 0 slot)

/-- Delete the namespaces that a command named, those with no unit in the placement table (R154); step: 0 waiting, 1 cleared.  DESIGN CHOICE (log 89): a
write accepted before and not yet placed is placed, and appended, after the entries are cleared. -/
def nsDelete (id : Nat) (s : State) : State :=
  let mine := s.txe.deleting.filter fun d => d.2.2.1 = id && d.2.1 = 0
  mine.foldl (fun s d =>
    let slot := d.1
    if s.txe.place.any fun p => p.slot = slot then s else
    let s := wipeSlot slot s
    let s := s.setFld TXE_NSCFG_EXISTS 0 slot
    { s.setFld HPT_STAT_NSCHG 1 with
      ckp.want := true
      hpt.attach := mdel s.hpt.attach slot
      txe.deleting := s.txe.deleting.map fun x => if x = d then (slot, 1, id, s.nextCkp) else x }) s

/-- Deletions and formats that the last complete checkpoint covers are over: their commands complete (R154, R238). -/
def nsCovered (s : State) : State :=
  let ended (d : Nat × Nat × Nat × Nat) : Bool := d.2.1 != 0 && ckAtLeast (s.fld CKP_LAST_NUM) d.2.2.2
  let ids := (((s.txe.deleting ++ s.hpt.format).filter ended).map fun d => d.2.2.1).eraseDups
  let s := { s with txe.deleting := s.txe.deleting.filter fun d => !ended d, hpt.format := s.hpt.format.filter fun d => !ended d }
  ids.foldl (fun s id => if (s.txe.deleting ++ s.hpt.format).any fun d => d.2.2.1 = id then s else finish id 0 0 s) s

/-- CHECKPOINT_COMPLETE (R206): the trailer's stripe is appended.  The closing checkpoint of start-up and that of a shutdown are followed by a root record
(R211). -/
def ckpComplete (s : State) : State :=
  let n := s.fld CKP_CUR_NUM
  let s := ((s.setFld CKP_LAST_NUM n).setFld CKP_CUR_NUM (n + 1)).setFld CKP_STAT_ACTIVE 0
  let s := { s.setFld CKP_PAGES_PAGES s.ckp.pages with ckp.phase := 0, ckp.cleanDone := s.ckp.cleanRun, ckp.cleanRun := false }
  let s := match s.ckp.live with
    | old :: r :: rest =>
      if (s.pagesIn old).isEmpty && 2 ≤ s.gtState old then
        enterFenced old ({ s with ckp.live := r :: rest }.setFld CKP_AREA_LIVE (rest.length + 1))
      else s
    | _ => s
  let s := if s.ste.groups.any fun e => e.2.led && (match e.2.closeckp with | some c => ckAtLeast n c | none => false)
    then { s with ste.ledDirty := true } else s
  let s := raise EV_CKP_DONE n (nsCovered s)
  if s.ckp.closing.isSome then rootRecord 2 s else if s.ckp.cleanDone then rootRecord 1 s else s

/-- CHECKPOINT_COMPLETE (R206). -/
def execCheckpointComplete (s : State) : Out :=
  .next (if s.ckp.phase = 3 && !s.typeLeft 7 && !s.flag CKP_STAT_BOD then ckpComplete s else s)

end Sys2Proof.Machine
end

