-- ==== Sys2Proof/Machine/Ecc.lean ====
section
/-! DEFINITION. Family: media error correction ECC (spec/05_media_ecc.md): decoding, escalation, results, reconstruction for a read; and the threshold tracker (R100–R102). -/

namespace Sys2Proof.Machine

/-- The record of an ECC event: channel and die index. -/
def eccPayload (ch die : Nat) : Nat := ch % 32 + die % 64 * 32

/-! ### The threshold tracker (R98, R100–R102) -/

/-- A signed 4-bit threshold of a vector, and the vector with it replaced. -/
def thr (v i : Nat) : Int := let x := nbits v (4 * i) 4; if x < 8 then (x : Int) else (x : Int) - 16
def setThr (v i : Nat) (x : Int) : Nat := v - nbits v (4 * i) 4 * 2 ^ (4 * i) + (x % 16).toNat * 2 ^ (4 * i)

/-- Saturate to −8 … +7. -/
def sat4 (x : Int) : Int := if x < -8 then -8 else if 7 < x then 7 else x

/-- The index of a block in its channel's tracker table: blocks of a die are counted plane by plane within each die block. -/
def State.trkIndex (s : State) (ch die block : Nat) : Nat :=
  let pl := s.planes ch
  die * (s.fld FCH_GEOM_BLKPP ch * pl) + (block >>> s.pb ch) * pl + block % 2 ^ s.pb ch

/-- The address of a block's tracker entry (R100). -/
def State.trkAddr (s : State) (ch die block : Nat) : Nat :=
  s.cur FCH_TRKBASE_LO_ADDR ch + 2 ^ 32 * s.cur FCH_TRKBASE_HI_ADDR ch + 8 * s.trkIndex ch die block

/-- A block's tracker vector. -/
def State.trkVec (s : State) (ch die block : Nat) : Nat := s.rawNat (s.trkAddr ch die block) 8 % 2 ^ 60

/-- Write a block's entry. -/
def setTrk (s : State) (ch die block v : Nat) : State := ringWrite s 16 (s.trkAddr ch die block) 8 (v % 2 ^ 60)

/-- The key of a block's accumulators. -/
def accKey (die block p : Nat) : Nat := (die * 2 ^ 18 + block) * 4 + p

/-- A block's entry is used: it is cached; the least recently used of more than 256 entries is evicted with its accumulators (R100). -/
def trkTouch (s : State) (ch die block : Nat) : State :=
  let k := die * 2 ^ 18 + block
  let s := if (s.chan ch).cached.contains k then s else blkRead 16 (s.trkAddr ch die block) 8 s
  modChan s ch fun c =>
    let l := (c.cached.filter fun x => x != k) ++ [k]
    if 256 < l.length then
      match l with
      | old :: r => { c with cached := r, acc := c.acc.filter fun e => e.1 / 4 != old }
      | [] => c
    else { c with cached := l }

/-- Clear a block's accumulators. -/
def trkClear (s : State) (ch die block : Nat) : State :=
  modChan s ch fun c => { c with acc := c.acc.filter fun e => e.1 / 4 != die * 2 ^ 18 + block }

/-- The retry vector of a level (R98): FCH_RRT(L), all zeros for level 0. -/
def State.rrt (s : State) (ch level : Nat) : Nat :=
  if level = 0 then 0 else s.cur FCH_RRT_OFS ch level + 2 ^ 32 * s.cur FCH_RRT4_OFS ch level

/-- The read-offset vector: tracker plus retry vector, per threshold, saturated. -/
def addVec (a b : Nat) : Nat := (List.range 15).foldl (fun v i => setThr v i (sat4 (thr a i + thr b i))) 0

/-- The vector of a read of a block at a level. -/
def State.readVec (s : State) (ch die block level : Nat) : Nat := addVec (s.trkVec ch die block) (s.rrt ch level)

/-- POL(p, i): −1, 0 or +1 (R101). -/
def State.pol (s : State) (ch p i : Nat) : Int :=
  match nbits (s.cur FCH_TRKPOL_POL ch p) (2 * i) 2 with
  | 1 => 1
  | 3 => -1
  | _ => 0

/-- Move every threshold of a block by sign × POL (R101 step 2); a move that saturates raises EV_FCH_TRKSAT. -/
def trkMove (s : State) (ch die block p : Nat) (sign : Int) : State :=
  let v := s.trkVec ch die block
  let v' := (List.range 15).foldl (fun w i => setThr w i (sat4 (thr v i + sign * s.pol ch p i))) v
  let sat := (List.range 15).any fun i => sat4 (thr v i + sign * s.pol ch p i) != thr v i + sign * s.pol ch p i
  let s := setTrk s ch die block v'
  if sat then raise EV_FCH_TRKSAT ch s else s

/-- TRACKER_UPDATE (R101): a page read decoded at level 0. -/
def trkUpdate (s : State) (ch die block p n10 n01 : Nat) : State :=
  if !s.on FCH_TRK_ENA ch then s else
  let s := trkTouch s ch die block
  let raw := mget 0 (s.chan ch).acc (accKey die block p)
  let a0 : Int := if raw < 2048 then (raw : Int) else (raw : Int) - 4096
  let a1 := a0 + (n10 : Int) - (n01 : Int)
  let a := if a1 < -2047 then -2047 else if 2047 < a1 then 2047 else a1
  if (s.cur FCH_TRK_HYST ch : Int) ≤ a.natAbs then
    let s := trkMove s ch die block p (if 0 < a then 1 else if a < 0 then -1 else 0)
    modChan s ch fun c => { c with acc := mput 0 c.acc (accKey die block p) 0 }
  else modChan s ch fun c => { c with acc := mput 0 c.acc (accKey die block p) (a % 4096).toNat }

/-! ### Buffers and results -/

/-- Codewords in decoders that satisfy p. -/
def State.inDecoders (s : State) (p : CwBuf → Bool) : Nat := (s.ecc.bufs.filter fun e => e.2.taken && p e.2).length

/-- A decoder takes the codeword of a buffer, if it may have one now: 64 hard decoders, of which ECC_HARD.READRES serve read-queue codewords only, and 8
soft ones, less those out of service (R112, R115). -/
def takeBuf (s : State) (e : Nat × CwBuf) : State :=
  let b := e.2
  let hard (c : CwBuf) : Bool := !c.soft
  let free := if b.soft then b.s2.isSome && s.inDecoders (fun c => c.soft) + s.ecc.softOff < 8
    else s.inDecoders hard + s.ecc.hardOff < 64 && (b.pri || s.inDecoders (fun c => hard c && !c.pri) + s.cur ECC_HARD_READRES + s.ecc.hardOff < 64)
  if free && !b.taken then { s with ecc.bufs := mins s.ecc.bufs e.1 { b with taken := true } } else s

/-- The decoders take buffered codewords: those of the read queue first, then all others in arrival order (R112). -/
def dispatch (s : State) : State :=
  let hard := s.ecc.bufs.filter fun e => !e.2.soft
  ((hard.filter fun e => e.2.pri) ++ (hard.filter fun e => !e.2.pri) ++ s.ecc.bufs.filter fun e => e.2.soft).foldl takeBuf s

/-- A codeword leaves its buffer. -/
def freeBuf (bid : Nat) (s : State) : State := dispatch { s with ecc.bufs := mdel s.ecc.bufs bid }

/-- Codeword buffers in use (R112): a soft codeword holds one per burst. -/
def State.bufsUsed (s : State) : Nat :=
  s.ecc.bufs.foldl (fun n b => n + 1 + b2n b.2.s1.isSome + b2n b.2.s2.isSome) 0

/-- The kinds of client whose failures do not go to reconstruction (R116): STE's own reads, and direct mode. -/
def noRecon (j : Job) : Bool :=
  nbit (match j.descs with | d :: _ => d.aux / 2 ^ 54 | [] => 0) 0 ||
  (match j.client with | .scan _ _ => true | .direct => true | .none => true | _ => false)

/-- NOSOFT of a job (R111). -/
def noSoft (j : Job) : Bool := match j.descs with | d :: _ => nbit d.aux 53 | [] => false

/-- The NEAR_LIMIT threshold in force (R111, R113). -/
def State.nearThr (s : State) (j : Job) : Nat :=
  match j.descs with
  | d :: _ => let n := nbits d.aux 42 11; if nbit d.aux 41 && n != 0 then n else s.cur ECC_NEAR_THRESH
  | [] => s.cur ECC_NEAR_THRESH

/-- Write a result record (R125, R126). -/
def eccRecord (j : Job) (status : Nat) (s : State) : State :=
  let size := 2 ^ s.fld ECC_RRING_HI_SIZE
  let wr := s.fld ECC_RRING_WR_INDEX
  let next := (wr + 1) % size
  if next = s.fld ECC_RRING_RD_INDEX % size then raise EV_ECC_RROVF (eccPayload j.ch j.die) (s.setFld ECC_STAT_RROVF 1) else
  let fail := j.cws.zipIdx.foldl (fun n c => if c.1.st = 4 then n + 2 ^ c.2 else n) 0
  let cb := min 2047 (j.cws.foldl (fun n c => max n c.cb) 0)
  let phase := s.fld ECC_RRING_WR_PHASE
  let w0 := j.tag % 256 + j.ch % 32 * 2 ^ 8 + j.die % 64 * 2 ^ 13 + status % 8 * 2 ^ 19 + b2n j.near * 2 ^ 22 + b2n j.soft * 2 ^ 23
    + j.level % 16 * 2 ^ 24 + phase * 2 ^ 31
  let row := match j.descs with | d :: _ => d.row | [] => j.row
  let v := w0 + row % 2 ^ 32 * 2 ^ 32 + (fail % 2 ^ 16 + cb * 2 ^ 16) * 2 ^ 64 + (j.context % 2 ^ 16 + min 255 j.iter * 2 ^ 16) * 2 ^ 96
  let a := s.fld ECC_RRING_LO_ADDR + 2 ^ 32 * s.fld ECC_RRING_HI_ADDR + 16 * wr
  let s := ringWrite s 17 a 16 v
  let s := s.setFld ECC_RRING_WR_INDEX next
  if next = 0 then s.setFld ECC_RRING_WR_PHASE (1 - phase) else s

/-- The status of a finished read (R125). -/
def readStatus (j : Job) : Nat :=
  if j.cutShort then 6
  else if j.cws.any fun c => c.st = 4 then 3
  else if j.cws.any fun c => c.st = 5 then 5
  else if !j.cws.isEmpty && j.cws.all fun c => c.st = 2 then 4
  else if j.soft then 2
  else if j.level != 0 then 1 else 0

/-- The die block of a job. -/
def State.jobBlk (s : State) (j : Job) : Nat := s.rowBlk j.ch j.row

/-- A NEAR_LIMIT result (R123): counted; in managed mode SKM hears of the block, and EV_ECC_NEAR is raised once per block per
boundary. -/
def nearResult (j : Job) (plane : Nat) (s : State) : State :=
  let s := s.inc ECC_NEARCNT_COUNT
  let pos := j.ch * 64 + j.die
  let blk := s.jobBlk j
  let k := pos * 2 ^ 18 + (blk <<< 2) + plane
  let s := if s.ecc.nearSeen.contains k then s else raise EV_ECC_NEAR (eccPayload j.ch j.die) { s with ecc.nearSeen := k :: s.ecc.nearSeen }
  if j.client = .direct then s else markSuspect pos blk s

/-- The move of a unit has all its codewords: place the copy (R145). -/
def moveDone (id : Nat) (s : State) : State :=
  match mfind s.ste.moves id with
  | none => s
  | some m =>
    if (List.range m.n).all fun c => (mfind m.got c).isSome then
      let s := { s with ste.moves := mdel s.ste.moves id }
      placeCopy m.slot m.lu m.n m.cwa m.st m.stream ((List.range m.n).map fun c => BitVec.ofNat 32896 (mget 0 m.got c)) s
    else s

/-- The slot of a codeword within its member of a stripe. -/
def State.cwSlot (s : State) (j : Job) (c : Cw) : Nat :=
  let page := s.rowPage j.ch j.row
  let pt := if j.op = 1 || (j.op = 6 && (match j.descs with | d :: _ => d.slc | [] => false)) then 0 else page % 4
  pt * 4 * 2 ^ s.pb j.ch + c.plane * 4 + c.col

/-- The codewords of a job that were read: index and value. -/
def Job.good (j : Job) : List (Nat × Nat) :=
  (j.cws.zipIdx).filterMap fun c => if c.1.st = 4 then none else (mfind j.got c.2).map fun v => (c.2, v)

/-- Deliver a finished read to its client, and forget it. -/
def jobFinish (id : Nat) (j : Job) (s : State) : State :=
  let s := delJob s id
  let bad := j.cws.any fun c => c.st = 4
  match j.client with
  | .host cmd first =>
    let s := modCmd s cmd fun c => { c with got := j.good.foldl (fun m e => mins m (first + e.1) e.2) c.got,
                                            sct := if bad then 2 else c.sct, sc := if bad then 0x81 else c.sc }
    if s.tck.jobs.any fun k => match k.2.client with | .host c _ => c = cmd | _ => false then s
    else modCmd s cmd fun c => { c with phase := if c.kv then 12 else 6 }
  | .copy mv first =>
    if bad then
      let g := match mfind s.ste.moves mv with | some m => m.group | none => 0
      groupSettle g { s with ste.moves := mdel s.ste.moves mv }
    else match mfind s.ste.moves mv with
      | some m => moveDone mv { s with ste.moves := mins s.ste.moves mv { m with got := j.good.foldl (fun k e => mins k (first + e.1) e.2) m.got } }
      | none => s
  | .merge mid first =>
    match mfind s.txe.merges mid with
    | none => s
    | some m =>
      if bad then
        finish m.cmd 2 0x81 (mergeStop m.cmd s)
      else { s with txe.merges := mins s.txe.merges mid { m with got := j.good.foldl (fun k e => mins k (first + e.1) e.2) m.got } }
  | .scan sid member =>
    match mfind s.ste.scans sid with
    | none => s
    | some sc =>
      let key (i : Nat) : Nat := member * 1024 + s.cwSlot j (nth { plane := 0, col := 0 } j.cws i)
      let sc := { sc with got := j.good.foldl (fun m e => mins m (key e.1) e.2) sc.got,
                          bad := sc.bad ++ (j.cws.zipIdx.filterMap fun c => if c.1.st = 4 then some (key c.2) else none) }
      { s with ste.scans := mins s.ste.scans sid sc }
  | _ => s

/-- A read ends: the record where R125 asks for one, then its client. -/
def readEnd (id : Nat) (j : Job) (s : State) : State :=
  let st := readStatus j
  let direct : Bool := j.client = .direct
  let s := if direct || j.soft || j.near || st = 3 || s.on ECC_CTL_RECALL then eccRecord j st s else s
  jobFinish id j s

/-! ### Escalation (R99, R116–R122) -/

/-- Two pieces of work read the same page. -/
def State.samePage (s : State) (j k : Job) : Bool :=
  k.ch = j.ch && k.die = j.die && s.rowWithPlane j.ch k.row 0 = s.rowWithPlane j.ch j.row 0

/-- What a waiting read k has of an escalation j of its page: its codewords, those that j decided taking its outcome, and the bits of the good ones (R121). -/
def Job.shared (k j : Job) : List (Cw × Option (Nat × Nat) × Bool) :=
  k.cws.zipIdx.map fun ci =>
    match j.cws.zipIdx.find? fun x => x.1.plane = ci.1.plane && x.1.col = ci.1.col && x.1.st != 0 && x.1.st != 3 && ci.1.st = 0 with
    | some x => ({ ci.1 with st := x.1.st, cb := x.1.cb }, (mfind j.got x.2).map fun v => (ci.2, v), true)
    | none => (ci.1, none, false)

/-- Give the waiting reads of the same page the outcome of an escalation that has ended, for the codewords they share (R121): decoded, erased, reconstructed or
unrecoverable.  A shared outcome is not counted again (DESIGN CHOICE, log 85). -/
def shareSoft (id : Nat) (j : Job) (s : State) : State :=
  s.tck.jobs.foldl (fun s e =>
    let k := e.2
    if e.1 != id && k.phase = 7 && k.op != 6 && s.samePage j k then
      let upd := k.shared j
      let any := upd.any fun u => u.2.2
      let k := { k with cws := upd.map Prod.fst, soft := k.soft || (any && j.soft), near := k.near || (any && j.near),
                        got := upd.foldl (fun m u => match u.2.1 with | some (i, v) => mins m i v | none => m) k.got }
      if k.cws.all fun c => c.st != 0 then
        readEnd e.1 k { s with ecc.softWait := s.ecc.softWait.filter fun x => x != e.1 }
      else modJob s e.1 fun _ => k
    else s) s

/-- A read has its final result; reads that waited for its escalation share it (R121). -/
def readFinish (id : Nat) (j : Job) (s : State) : State := readEnd id j (if j.op = 6 then shareSoft id j s else s)

/-- Soft job queue occupancy. -/
def softQ (s : State) : Nat := s.ecc.softRes.foldl (fun n e => n + e.2) 0

/-- ECC_STAT.SOFTQ follows the reservations. -/
def softSettle (s : State) : State := s.setFld ECC_STAT_SOFTQ (softQ s)

/-- A read no longer waits for room in the soft job queue, and holds none (R120). -/
def softLeave (id : Nat) (s : State) : State :=
  softSettle { s with ecc.softWait := s.ecc.softWait.filter fun x => x != id, ecc.softRes := mdel s.ecc.softRes id }

/-- The contiguous runs of undecoded codewords of a job, each with its own descriptor (R117); split says that a run ends with its
plane (R118). -/
def undecodedDescs (j : Job) (split : Bool) : List Desc :=
  let base := match j.descs with | d :: _ => d | [] => { addr := 0, cw := 0, slc := false, row := 0, plane := 0, col := 0, aux := 0 }
  (j.cws.zipIdx.foldl (fun (acc : List Desc × Option Nat) ci =>
    let c := ci.1
    if c.st != 0 then (acc.1, none) else
    let pos := c.plane * 4 + c.col
    match acc.1, acc.2 with
    | d :: r, some prev =>
      if prev + 1 = pos && !(split && c.col = 0) then ({ d with cw := d.cw + 1 } :: r, some pos)
      else ({ base with cw := 1, plane := c.plane, col := c.col } :: d :: r, some pos)
    | l, _ => ({ base with cw := 1, plane := c.plane, col := c.col } :: l, some pos)) ([], none)).1.reverse

/-- Planes of the undecoded codewords. -/
def undecodedPlanes (j : Job) : Nat := j.cws.foldl (fun m c => if c.st = 0 then m ||| 2 ^ c.plane else m) 0

/-- Hand undecoded codewords to stripe reconstruction, or end the read with them uncorrectable (R116 step 5, R122).  EV_ECC_UNCOR is
raised before the hand-off. -/
def handoff (id : Nat) (j : Job) (s : State) : State :=
  let s := softLeave id s
  let n := (j.cws.filter fun c => c.st = 0 || c.st = 3).length
  let j := { j with cws := j.cws.map fun c => if c.st = 0 || c.st = 3 then { c with st := 4 } else c }
  let s := (List.range n).foldl (fun s _ => raise EV_ECC_UNCOR (eccPayload j.ch j.die) (s.inc ECC_UNCOR_COUNT)) s
  let pos := j.ch * 64 + j.die
  let blk := s.jobBlk j
  let gi := (s.bt pos blk).group
  if noRecon j then readFinish id j s else
  match s.grp gi with
  | none => readFinish id j s
  | some g =>
    let i := stripeOfPage g.cream (s.rowPage j.ch j.row)
    let w := g.width i
    match (g.at i).findIdx? fun m => m.1 = pos && m.2 = blk with
    | none => readFinish id j s
    | some me =>
      let s := modJob s id fun _ => { j with phase := 6 }
      let sid := s.ste.nextScan
      let s := { s with ste.scans := mins s.ste.scans sid { kind := 2, group := gi, stripe := i, job := id }, ste.nextScan := sid + 1 }
      let others := (List.range w).filter fun k => k != me && dataIdx w i k != w - 1 && s.inService (nth (0, 0) (g.at i) k).1
      let bad := j.cws.filter fun c => c.st = 4
      others.foldl (fun s k =>
        bad.foldl (fun s c => placeRead (s.slotCwa g i k (s.cwSlot j c)) 1 g.cream 0 (fun _ => .scan sid k) s) s) s

/-- The unsatisfied checks of retry level L, summed over the codewords that failed every hard attempt: those that failed at the last level too (R116). -/
def Job.unsatAt (j : Job) (L : Nat) : Nat :=
  let top := j.unsat.foldl (fun n e => max n (e.1 / 16)) 0
  (List.range 16).foldl (fun n i => if (mfind j.unsat (16 * top + i)).isSome then n + mget 0 j.unsat (16 * L + i) else n) 0

/-- The best level (R116): the retry level from 1 with the fewest unsatisfied checks; ties go to the lower; 0 without a retry. -/
def bestLevel (j : Job) : Nat :=
  let top := j.unsat.foldl (fun n e => max n (e.1 / 16)) 0
  match rangeFrom 1 top with
  | [] => 0
  | e :: r => r.foldl (fun b x => if j.unsatAt x < j.unsatAt b then x else b) e

/-- The plane code of a START's ROW: that of the one plane in PLANES, or 0 for more than one (R85). -/
def onePlane (planes : Nat) : Nat := if popCount 4 planes = 1 then planes.log2 else 0

/-- Escalate a read whose attempt left codewords undecoded (R99, R116). -/
def escalate (id : Nat) (j : Job) (s : State) : State :=
  let j := { j with cws := j.cws.map fun c => if c.st = 3 then { c with st := 0 } else c }
  let max' := s.cur FCH_RETRY_MAX j.ch
  let managed : Bool := j.client != .direct
  if !managed then handoff id j s
  else if j.op != 6 && j.level < max' then
    let pm := undecodedPlanes j
    modJob s id fun _ => { j with level := j.level + 1, phase := 0, sent := 0, oldest := true, q := 0, descs := undecodedDescs j false, planes := pm
                                  row := s.rowWithPlane j.ch j.row (onePlane pm) }
  else
    let s := if j.op != 6 then raise EV_FCH_RETRYMAX j.ch s else s
    if !s.on ECC_SOFT_ENA || noSoft j || (j.op = 6 && s.cur ECC_SOFT_PASSES ≤ j.pass) then handoff id j s
    else
      let s := modJob s id fun _ => { j with pass := j.pass + 1, phase := 7, sent := 0 }
      { s with ecc.softWait := s.ecc.softWait ++ [id] }

/-- Another escalation of the same page is queued or decoding (R121), or waits for room before this one. -/
def State.pageBusy (s : State) (id : Nat) (j : Job) : Bool :=
  j.op != 6 && s.tck.jobs.any fun e => e.1 != id && s.samePage j e.2 &&
    (e.2.op = 6 || (e.2.phase = 7 && (s.ecc.softWait.takeWhile (· != id)).contains e.1))

/-- Codewords of a read that its escalation still has to decode. -/
def Job.undecoded (j : Job) : Nat := (j.cws.filter fun c => c.st = 0).length

/-- A read waits because the soft job queue lacks room for its undecoded codewords (R120). -/
def State.softLacks (s : State) (id : Nat) : Bool :=
  match mfind s.tck.jobs id with
  | some j => j.phase = 7 && !s.pageBusy id j && 256 < softQ s + j.undecoded
  | none => false

/-- SOFT_READ_PLACE (R120, R121): the soft job queue has room for every undecoded codeword of the page. -/
def execSoftReadPlace (id : Nat) (s : State) : Out :=
  match mfind s.tck.jobs id with
  | none => .next s
  | some j =>
    let n := j.undecoded
    if j.phase != 7 || !s.ecc.softWait.contains id || 256 < softQ s + n || s.pageBusy id j then .next s else
    let s := { s with ecc.softWait := s.ecc.softWait.filter fun x => x != id, ecc.softRes := mins s.ecc.softRes id n }
    let ds := (undecodedDescs j true).map fun d => if j.op = 1 then { d with slc := true } else d
    let pm := undecodedPlanes j
    let row := s.rowWithPlane j.ch j.row (onePlane pm)
    let s := modJob s id fun j => { j with op := 6, phase := 0, oldest := true, q := 0, descs := ds, planes := pm, row }
    .next (raise EV_ECC_SOFT (eccPayload j.ch j.die) (softSettle s))

/-- The codewords of a job's present attempt have all been decided. -/
def attemptDone (s : State) (id : Nat) (j : Job) : Bool :=
  j.phase = 4 && !(s.ecc.bufs.any fun b => b.2.job = id) && j.cws.all fun c => c.st != 0

/-- An attempt has ended: track, finish or escalate.  DESIGN CHOICE (log 85): a multi-plane read at level 0 adds the counts of all its planes to the entry of
the block that its ROW names; a success at a level above 0 writes the entry of the block of every plane it read (R101, R102). -/
def attemptEnd (id : Nat) (s : State) : State :=
  match mfind s.tck.jobs id with
  | none => s
  | some j =>
    if !attemptDone s id j then s else
    let s := if j.op = 6 then softLeave id s else s
    let failed := j.cws.any fun c => c.st = 3
    let block := s.rowBlock j.ch j.row
    let p := if j.op = 1 then 0 else s.rowPage j.ch j.row % 4
    let blocks := (List.range 4).filterMap fun pl => if nbit j.planes pl then some (s.rowBlock j.ch (s.rowWithPlane j.ch j.row pl)) else none
    let s := if failed || j.op = 6 then s
      else if j.level = 0 then
        if j.cws.any fun c => c.st = 1 then trkUpdate s j.ch j.die block p j.n10 j.n01 else s
      else blocks.foldl (fun s b => trkClear (setTrk s j.ch j.die b (s.readVec j.ch j.die b j.level)) j.ch j.die b) s
    if failed then escalate id j s else readFinish id j s

/-! ### Decodes (R113–R115, R119) -/

/-- Scrambling of a codeword's information bits (R110). -/
def State.scramble (s : State) (ch die row plane col mix : Nat) : InfoBits :=
  if s.on ECC_SCR_ENA then scrStream (scrSeed ch die (s.rowWithPlane ch row plane) (plane * 4 + col) mix) else 0

/-- SEEDMIX of a descriptor. -/
def Desc.mix (d : Desc) : Nat := nbits d.aux 64 32

/-- Write a decoded codeword where its job wants it: direct mode to the buffer and the metadata array, managed work to the job. -/
def putCodeword (id idx : Nat) (j : Job) (info : Nat) (s : State) : State :=
  let s := modJob s id fun j => { j with got := mins j.got idx info }
  match j.client, j.descs with
  | .direct, d :: _ =>
    let s := (memWrite s 17 .write (d.addr + 4096 * idx) 4096 (info % 2 ^ 32768)).1
    if nbit d.aux 40 then (memWrite s 17 .write (d.aux % 2 ^ 40 + 16 * idx) 16 (info / 2 ^ 32768)).1 else s
  | _, _ => s

/-- Record what became of a codeword. -/
def setCw (id idx st cb iter : Nat) (s : State) : State :=
  modJob s id fun j => { j with cws := j.cws.zipIdx.map (fun c => if c.2 = idx then { c.1 with st, cb } else c.1), iter := max j.iter iter }

/-- A decode has given a word that satisfies every check.  DESIGN CHOICE (log 85): ECC_CWCNT counts decodes that succeed. -/
def decoded (bid : Nat) (b : CwBuf) (j : Job) (out : CwBits) (iter : Nat) (soft : Bool) (s : State) : State :=
  let diff := (b.bits ^^^ out)
  let cb := popCount 36864 diff.toNat
  let n10 := popCount 36864 (diff &&& out).toNat
  let n01 := popCount 36864 (diff &&& b.bits).toNat
  let mix := match j.descs with | d :: _ => d.mix | [] => 0
  let info := (out.setWidth 32896 ^^^ s.scramble b.ch b.die b.row b.plane b.col mix).toNat
  let near : Bool := soft || s.nearThr j < cb
  let s := s.incPair ECC_CWCNT_LO_COUNT ECC_CWCNT_HI_COUNT
  let s := freeBuf bid s
  let s := setCw b.job b.idx 1 cb iter (putCodeword b.job b.idx j info s)
  let s := modJob s b.job fun j => { j with near := j.near || near, soft := j.soft || soft, n10 := j.n10 + n10, n01 := j.n01 + n01 }
  let s := if near then nearResult j b.plane s else s
  attemptEnd b.job s

/-- The decoder's claim was false (R115): the result is discarded, the decoder leaves service; the codeword is decoded again. -/
def checkerMismatch (bid : Nat) (b : CwBuf) (s : State) : State :=
  let s := { s with ecc.bufs := mins s.ecc.bufs bid { b with taken := false } }
  let s := s.setFld ECC_STAT_DECOFF (s.fld ECC_STAT_DECOFF + 1)
  let s := dispatch (if b.soft then { s with ecc.softOff := s.ecc.softOff + 1 } else { s with ecc.hardOff := s.ecc.hardOff + 1 })
  occur 19 0 17 3 (raise EV_ECC_CHECK (eccPayload b.ch b.die) s)

/-- A stored codeword counts as erased (R114). -/
def State.erasedCw (s : State) (c : CwBits) : Bool := 36864 - popCount 36864 c.toNat ≤ s.cur ECC_ERASED_THRESH

/-- An erased codeword (R114): all ones, counted, neither decoded nor escalated. -/
def erasedEnd (bid : Nat) (b : CwBuf) (j : Job) (s : State) : State :=
  let s := freeBuf bid (raise EV_ECC_ERASED (eccPayload b.ch b.die) (s.inc ECC_ERASEDCNT_COUNT))
  attemptEnd b.job (setCw b.job b.idx 2 0 0 (putCodeword b.job b.idx j (2 ^ 32896 - 1) s))

/-- CODEWORD_HARD_DECODE (R112–R115): the hard decoder that has taken the codeword of a buffer finishes; it answers a word, says whether it satisfied every
check, and the iterations it took: at most ECC_HARD.ITER, and all of them where it gives up. -/
def execCodewordHardDecode (bid : Nat) (out : BitVec 36864) (ok : Bool) (iter : Fin 64) (s : State) : Out :=
  match mfind s.ecc.bufs bid with
  | none => .next s
  | some b =>
    match mfind s.tck.jobs b.job with
    | none => .next (freeBuf bid s)
    | some j =>
      let limit := s.cur ECC_HARD_ITER
      if b.soft || !b.taken then .next s
      else if s.erasedCw b.bits then .next (erasedEnd bid b j s)
      else if ok then
        if limit < iter.val then .next s
        else if ldpcOk out then .next (decoded bid b j out iter false s) else .next (checkerMismatch bid b s)
      else if iter.val != limit then .next s
      else
        let s := setCw b.job b.idx 3 0 iter (freeBuf bid s)
        let s := modJob s b.job fun j => { j with unsat := if j.level = 0 then j.unsat else mins j.unsat (16 * j.level + b.idx) (unsatisfied out) }
        .next (attemptEnd b.job s)

/-- The input LLRs of a soft decode (R118, R119): the sign of each bit from H, its magnitude from the field of ECC_LLR that its reliability index
r = 2 × S1 + S2 names. -/
def State.llrs (s : State) (b : CwBuf) : List (Bool × Nat) :=
  let mag (r : Nat) : Nat := match r with | 0 => s.cur ECC_LLR_R0 | 1 => s.cur ECC_LLR_R1 | 2 => s.cur ECC_LLR_R2 | _ => s.cur ECC_LLR_R3
  (List.range 36864).map fun i => (b.bits.getLsbD i, mag (2 * b2n ((b.s1.getD 0).getLsbD i) + b2n ((b.s2.getD 0).getLsbD i)))

/-- CODEWORD_SOFT_DECODE (R112, R114, R115, R119): the soft decoder that has taken the codeword of a buffer finishes.  The word is what min-sum decoding of its
LLRs holds after the iterations it took, at most ECC_SOFT.ITER and all of them where it gives up; a false claim is found by the checker. -/
def execCodewordSoftDecode (bid : Nat) (out : BitVec 36864) (ok : Bool) (iter : Byte) (s : State) : Out :=
  match mfind s.ecc.bufs bid with
  | none => .next s
  | some b =>
    match mfind s.tck.jobs b.job with
    | none => .next (freeBuf bid s)
    | some j =>
      let limit := s.cur ECC_SOFT_ITER
      if !b.soft || !b.taken then .next s
      else if s.erasedCw b.bits then .next (erasedEnd bid b j s)
      else if ok && !ldpcOk out then .next (if limit < iter.toNat then s else checkerMismatch bid b s)
      else if out != Config.minSum (s.llrs b) iter.toNat || (if ok then limit < iter.toNat else iter.toNat != limit || ldpcOk out) then .next s
      else
        let s := s.inc ECC_SOFTCNT_COUNT
        if ok then .next (decoded bid b j out iter.toNat true (s.inc ECC_SOFTOK_COUNT))
        else .next (attemptEnd b.job (setCw b.job b.idx 3 0 iter.toNat (freeBuf bid s)))

/-! ### Reconstruction for a read (R122, R181, R195) -/

/-- The codewords of a job that reconstruction gives, by index. -/
def reconWords (s : State) (j : Job) (g : Group) (sc : Scan) : List (Nat × Option InfoBits) :=
  let w := g.width sc.stripe
  let pos := j.ch * 64 + j.die
  let me := ((g.at sc.stripe).findIdx? fun m => m.1 = pos && m.2 = s.jobBlk j).getD 0
  (j.cws.zipIdx.filter fun c => c.1.st = 4).map fun c => (c.2, reconstruct w (sc.cwAt w (s.cwSlot j c.1)) (dataIdx w sc.stripe me))

/-- Finish a reconstruction (R122): write the codewords, count NEAR_LIMIT, retire for cause 3; a stripe with lost positions is entered in the
table, and its valid units that can be recovered are relocated (R195). -/
def reconEnd (id : Nat) (j : Job) (sid : Nat) (g : Group) (sc : Scan) (s : State) : State :=
  let ws := reconWords s j g sc
  let pos := j.ch * 64 + j.die
  let blk := s.jobBlk j
  let w := g.width sc.stripe
  let s := { s with ste.scans := mdel s.ste.scans sid }
  let lost := ws.filter fun x => x.2.isNone
  let gone := lost.flatMap fun x =>
    let o := s.cwSlot j (nth { plane := 0, col := 0 } j.cws x.1)
    ((List.range w).filter fun k => (sc.cwAt w o (dataIdx w sc.stripe k)).isNone).map fun k => (k, o)
  let s := if lost.isEmpty then s else
    let s := loseStripe sc.group sc.stripe 4 gone s
    (s.unitsOfStripe sc.group sc.stripe).foldl (fun s e => moveUnit e.1 e.2.1 e.2.2 3 false s) s
  let s := ws.foldl (fun s x => match x.2 with
    | some v => setCw id x.1 5 0 0 (putCodeword id x.1 j v.toNat s)
    | none => s) s
  let done := ws.filter fun x => x.2.isSome
  let s := done.foldl (fun s x => nearResult j (nth { plane := 0, col := 0 } j.cws x.1).plane s) s
  let s := if s.on SKM_CTL_RETRECON && !done.isEmpty then retireBlock pos blk 3 s else s
  match mfind s.tck.jobs id with
  | some j => readFinish id { j with near := j.near || !done.isEmpty } s
  | none => s

/-- STRIPE_RECONSTRUCT_DONE (R181): the surviving members' codewords have been read; Q is read too where P does not suffice. -/
def execStripeReconstructDone (id : Nat) (s : State) : Out :=
  match s.ste.scans.find? (fun c => c.2.kind = 2 && c.2.job = id && s.scanDone c.1), mfind s.tck.jobs id with
  | some (sid, sc), some j =>
    match s.grp sc.group with
    | none => .next s
    | some g =>
      let w := g.width sc.stripe
      let ws := reconWords s j g sc
      let q := dataMember w sc.stripe (w - 1)
      let qTried := sc.bad.any (fun k => k / 1024 = q) || sc.got.any fun e => e.1 / 1024 = q
      if ws.any (fun x => x.2.isNone) && !qTried && s.inService (nth (0, 0) (g.at sc.stripe) q).1 then
        .next ((ws.filter fun x => x.2.isNone).foldl (fun s x =>
          placeRead (s.slotCwa g sc.stripe q (s.cwSlot j (nth { plane := 0, col := 0 } j.cws x.1))) 1 g.cream 0 (fun _ => .scan sid q) s) s)
      else .next (reconEnd id j sid g sc s)
  | _, _ => .next s

/-- ERROR_INJECT_ARM (R127): ECC_INJ is written with ARM = 1. -/
def execErrorInjectArm (m : MasterId) (cnt : Fin 1024) (ch : Fin 32) (s : State) : Out :=
  .next (regCmd m ECC_INJ 0 (fun s => ((s.setFld ECC_INJ_CNT cnt).setFld ECC_INJ_CH ch).setFld ECC_INJ_ARM 1) s)

end Sys2Proof.Machine
end

