-- ==== Sys2Proof/Machine/Sequencer.lean ====
section
/-! DEFINITION. Named operations of a channel sequencer (spec/03_churn_tick.md, spec/04_flash_channels.md): completion records (R90, R91), die states (R92–R95), starting and ending array operations, transfers. -/

namespace Sys2Proof.Machine

/-! ### Steps -/

/-- What a START runs: a read, a program, an erase. -/
def isReadOp (op : Nat) : Bool := op ≤ 1 || op = 6
def isProgOp (op : Nat) : Bool := op = 2 || op = 3
def isEraseOp (op : Nat) : Bool := op = 4 || op = 5

/-- The die index of a step, and its die position on a channel. -/
def Step.die (st : Step) : Nat := st.target * 4 + st.lun
def Step.pos (st : Step) (ch : Nat) : Nat := ch * 64 + st.die

/-- An array-control step, and a transfer step (R55). -/
def Step.isControl (st : Step) : Bool := st.op = 1 || st.op = 2 || st.op = 3
def Step.isTransfer (st : Step) : Bool := st.op = 4 || st.op = 5 || st.op = 6

/-- The channel is in raw mode (R105): it applies only in direct mode. -/
def State.raw (s : State) (ch : Nat) : Bool := s.on FCH_CFG_RAW ch && nbit (s.cur TCK_MODE_DIRECT) ch

/-- The brown-out state of a channel (R104). -/
def State.fchBod (s : State) (ch : Nat) : Bool := s.flag FCH_BOD_ASSERTED ch

/-! ### Completion records (R90, R91) -/

/-- Write a completion record. -/
def fchRecord (ch : Nat) (st : Step) (status bursts row busy susp : Nat) (s : State) : State :=
  let size := 2 ^ s.fld FCH_CRING_HI_SIZE ch
  let wr := s.fld FCH_CRING_WR_INDEX ch
  let next := (wr + 1) % size
  if next = s.fld FCH_CRING_RD_INDEX ch % size then raise EV_FCH_CROVF ch (s.setFld FCH_STAT_CROVF 1 ch) else
  let phase := s.fld FCH_CRING_WR_PHASE ch
  let w0 := st.tag % 256 + st.op % 16 * 2 ^ 8 + st.subop % 16 * 2 ^ 12 + st.target % 16 * 2 ^ 16 + st.lun % 4 * 2 ^ 20
    + status % 16 * 2 ^ 22 + bursts % 32 * 2 ^ 26 + phase * 2 ^ 31
  let v := w0 + row % 2 ^ 32 * 2 ^ 32 + (min busy (2 ^ 20 - 1) + min susp 4095 * 2 ^ 20) * 2 ^ 64 + s.fld TCK_COUNT_LO_COUNT * 2 ^ 96
  let a := s.fld FCH_CRING_LO_ADDR ch + 2 ^ 32 * s.fld FCH_CRING_HI_ADDR ch + 16 * wr
  let s := (ringWrite s 16 a 16 v).setFld FCH_CRING_WR_INDEX next ch
  if next = 0 then s.setFld FCH_CRING_WR_PHASE (1 - phase) ch else s

/-- The descriptor ring's entry of an index (R88); none when the index lies outside the ring. -/
def readDesc (ch i : Nat) (s : State) : State × Option Desc :=
  if 2 ^ s.fld FCH_DRING_HI_SIZE ch ≤ i then (s, none) else
  let a := s.fld FCH_DRING_LO_ADDR ch + 2 ^ 32 * s.fld FCH_DRING_HI_ADDR ch + 32 * i
  match memRead s 16 .read a 32 with
  | (s, .ok v) =>
    (s, some { addr := v % 2 ^ 40, cw := nbits v 40 5, slc := nbit v 45, row := nbits v 64 32, plane := nbits v 96 2, col := nbits v 98 2, aux := v >>> 128 })
  | (s, _) =>
    let (v, s) := s.freshBits 256
    let v := v.toNat
    (s, some { addr := v % 2 ^ 40, cw := nbits v 40 5, slc := nbit v 45, row := nbits v 64 32, plane := nbits v 96 2, col := nbits v 98 2, aux := v >>> 128 })

/-- ROW of a step's record: the step's own, or that of its descriptor (R90). -/
def State.stepRow (s : State) (ch : Nat) (st : Step) : Nat :=
  match st.desc with
  | some d => d.row
  | none => if st.op = 4 || st.op = 5 then (match (readDesc ch (st.w1 % 2 ^ 16) s).2 with | some d => d.row | none => 0) else st.w1

/-- The record of a step that ends without an array operation of its own. -/
def stepRecord (ch : Nat) (st : Step) (status bursts : Nat) (s : State) : State := fchRecord ch st status bursts (s.stepRow ch st) 0 0 s

/-! ### Die status -/

/-- FCH_DIESTAT and TCK_CHSTAT.ARMED follow a die's record. -/
def dieSettle (pos : Nat) (s : State) : State :=
  let ch := posCh pos
  let d := s.die pos
  let n := match d.run, d.held with
    | some r, _ => r.susp
    | none, some h => h.susp
    | none, none => 0
  let s := s.setFld FCH_DIESTAT_SUSPENDED (b2n d.held.isSome) ch (posDie pos)
  let s := s.setFld FCH_DIESTAT_ARMED (b2n d.armed.isSome) ch (posDie pos)
  let s := s.setFld FCH_DIESTAT_SUSPCNT n ch (posDie pos)
  s.setFld TCK_CHSTAT_ARMED (b2n ((List.range 64).any fun i => (s.die (ch * 64 + i)).armed.isSome)) ch

/-- Update a die's record and its status. -/
def setDie (pos : Nat) (f : Die → Die) (s : State) : State := dieSettle pos (modDie s pos f)

/-- A die is busy or suspending; a retired die on which an operation still runs counts as busy (R103). -/
def State.dieBusy (s : State) (pos : Nat) : Bool :=
  s.dieState pos = 2 || s.dieState pos = 3 || (s.die pos).run.isSome

/-- The step at the head of the program is over: it completed, or it was dropped. -/
def popStep (ch exec drop : Nat) (s : State) : State :=
  modChan s ch fun c => { c with prog := c.prog.tail, moved := 0, held := false, nExec := c.nExec + exec, nDrop := c.nDrop + drop }

/-- A managed step that was dropped or never issued goes back to its queue. -/
def unplace (st : Step) (s : State) : State :=
  match st.job with
  | none => s
  | some id => modJob s id fun j =>
    if st.op != 1 then j else if j.phase = 1 then { j with phase := 0 } else if j.phase = 12 then { j with phase := 11 } else j

/-- A dropped step (R55): STATUS 3, counted, EV_TCK_DROP. -/
def dropRecord (ch : Nat) (st : Step) (s : State) : State := raise EV_TCK_DROP ch (unplace st (stepRecord ch st 3 0 s))

/-- Drop the step at the head of the program. -/
def dropHead (ch : Nat) (st : Step) (s : State) : State := popStep ch 0 1 (dropRecord ch st s)

/-- Tell the client of an array operation how it ended. -/
def opReport (pos : Nat) (st : Step) (status : Nat) (s : State) : State :=
  match st.job, st.job.bind (mfind s.tck.jobs) with
  | some id, some j =>
    if isReadOp st.subop then
      if status = 0 then modJob s id fun j => { j with phase := 3 }
      else if status = 5 || status = 6 then handoff id j s else s
    else
      let s := if status = 7 || status = 8 then s else delJob s id
      match j.client with
      | .member g i m => memberReport g i m pos status s
      | .erase g b => eraseReport g pos b st.subop status s
      | .metaPage k n => ledgerReport k n status s
      | _ => s
  | _, _ => s

/-- The SUBOP of the START of the work that a step belongs to. -/
def State.workOp (s : State) (st : Step) : Nat := match st.job.bind (mfind s.tck.jobs) with | some j => j.op | none => st.subop

/-- The step at the head addresses a failed or retired die: STATUS 6 (R92); the client of a managed step hears of it. -/
def failHead (ch : Nat) (st : Step) (s : State) : State :=
  let s := popStep ch 0 0 (stepRecord ch st 6 0 s)
  opReport (st.pos ch) { st with subop := s.workOp st } 6 s

/-! ### The read-offset vector (R98) -/

/-- The parameter byte of a threshold offset (FCH_OFSCFG). -/
def State.ofsByte (s : State) (ch : Nat) (x : Int) : Nat :=
  let v := x * (s.cur FCH_OFSCFG_STEP ch : Int)
  if s.on FCH_OFSCFG_SIGNED ch then (v % 256).toNat else v.natAbs % 128 + (if v < 0 then 128 else 0)

/-- The vector that a read of a step applies: tracker plus retry vector; SLC mode uses threshold 0 only; raw mode keeps the vector
last written. -/
def State.startVec (s : State) (ch : Nat) (st : Step) : Nat :=
  let last := (s.die (st.pos ch)).lastVec
  let level := match st.job.bind (mfind s.tck.jobs) with
    | some j => if st.subop = 6 then (if 2 ≤ j.pass then bestLevel j else 0) else j.level
    | none => 0
  let v := s.readVec ch st.die (s.rowBlock ch st.w1) level
  if s.raw ch then last else if st.subop = 1 then setThr last 0 (thr v 0) else v

/-- The parameter bytes of a vector: threshold i at byte i (R98). -/
def State.vecBytes (s : State) (ch v : Nat) : Nat := (List.range 15).foldl (fun n i => n + s.ofsByte ch (thr v i) * 2 ^ (8 * i)) 0

/-- Write the vector: one feature write for each feature address with a changed byte. -/
def writeVec (ch die v : Nat) (s : State) : State :=
  let pos := ch * 64 + die
  let old := (s.die pos).lastBytes
  let new := s.vecBytes ch v
  let s := (List.range 4).foldl (fun s k =>
    if nbits new (32 * k) 32 = nbits old (32 * k) 32 then s
    else s.emit (.nand ch die 257 ((s.cur FCH_OFSCFG_FA ch + k) % 256 + nbits new (32 * k) 32 * 256) 0)) s
  modDie s pos fun d => { d with lastVec := v, lastBytes := new }

/-! ### Loaded pages (R89) -/

/-- The loaded page that a program START needs on a plane and page type. -/
def loadOk (d : Die) (plane pt row : Nat) (slc : Bool) : Bool :=
  match mfind d.load (plane * 4 + pt) with
  | some l => l.row = row && l.slc = slc && l.mask = 15
  | none => false

/-- Every plane of a program START holds its pages. -/
def State.loaded (s : State) (ch : Nat) (st : Step) : Bool :=
  let d := s.die (st.pos ch)
  let row := s.rowWithPlane ch st.w1 0
  let planes := (List.range 4).filter (nbit st.planes)
  if st.subop = 3 then planes.all fun p => loadOk d p 0 row true
  else row % 4 = 0 && planes.all fun p => (List.range 4).all fun t => loadOk d p t (row + t) false

/-! ### Starting an array operation -/

/-- Tick a comes before tick b, modulo 2^32. -/
def tickBefore (a b : Nat) : Bool := a != b && (b + 2 ^ 32 - a) % 2 ^ 32 < 2 ^ 31

/-- A read of the read queue that was not admitted at its first cutoff, or whose START issues after the tick it was due in, is late, once (R66): not a retry
or a soft read, and not one that was armed behind its own SUSPEND, which counts as started at its boundary (R57). -/
def readLate (st : Step) (ownSuspend : Bool) (s : State) : State :=
  match st.job.bind (mfind s.tck.jobs), st.job with
  | some j, some id =>
    let after := match j.due with | some t => tickBefore t (s.fld TCK_COUNT_LO_COUNT) | none => false
    if st.subop ≤ 1 && j.level = 0 && j.q = 0 && !j.rdl && (j.late || (after && !ownSuspend)) then
      raise EV_TCK_RDLATE j.ch ((modJob s id fun j => { j with rdl := true }).inc TCK_RDLATE_COUNT)
    else s
  | _, _ => s

/-- The SLC-mode or soft-read command that goes before an operation's own (R80, FCH_OPC). -/
def leadOpcode (ch : Nat) (st : Step) (s : State) : State :=
  if st.subop = 1 || st.subop = 3 || st.subop = 5 then s.emit (.nand ch st.die 259 (s.cur FCH_OPC_SLCPFX ch) 0)
  else if st.subop = 6 then s.emit (.nand ch st.die 259 (s.cur FCH_OPC_SOFTPFX ch) 0) else s

/-- Issue a START to its die (R80, R98, R89, R92, R183). -/
def issueStart (ch : Nat) (st : Step) (ownSuspend : Bool) (s : State) : State :=
  let pos := st.pos ch
  let s := if isReadOp st.subop then writeVec ch st.die (s.startVec ch st) s else s
  let s := leadOpcode ch st (readLate st ownSuspend s)
  let retry := match st.job.bind (mfind s.tck.jobs) with | some j => j.level != 0 && st.subop ≤ 1 | none => false
  let s := if retry then s.inc FCH_RETRYCNT_COUNT 1 ch else s
  let s := s.emit (.nand ch st.die (16 + st.subop) st.w1 st.planes)
  let s := setDieState s pos 2
  let s := setDie pos (fun d => { d with
    run := some { step := st, start := s.mtime, born := s.mtime }
    soft := if isReadOp st.subop then st.subop = 6 else d.soft
    load := if isReadOp st.subop then d.load else [] }) s
  let blk := s.rowBlk ch st.w1
  let s := if isProgOp st.subop && !s.raw ch && s.domOn dCTRL then setBt s pos blk { s.bt pos blk with slc := st.subop = 3 } else s
  match st.job.bind (mfind s.tck.jobs), st.job with
  | some j, some id =>
    let s := modJob s id fun j => { j with phase := if isReadOp st.subop then 2 else 13 }
    match j.client with
    | .member g i _ => memberStarted g i s
    | _ => s
  | _, _ => s

/-- An armed or direct START may be issued to its die: what R89 and R97 ask. -/
def State.startOk (s : State) (ch : Nat) (st : Step) : Bool :=
  (!isProgOp st.subop || s.raw ch || s.loaded ch st) && (!(s.die (st.pos ch)).held.isSome || isReadOp st.subop)

/-- A step addresses no block (R85), or no operation (R55). -/
def State.badStart (s : State) (ch : Nat) (st : Step) : Bool :=
  st.planes = 0 || 6 < st.subop || s.planes ch ≤ s.rowPlane ch st.w1

/-- The time at which an array-control step may still be issued or armed has passed (R56). -/
def State.pastHalf (s : State) : Bool := s.tickCycles / 2 < s.fld TCK_PHASE_CYCLES

/-- A START step at the head of the program (R55–R57, R71, R85, R89, R92, R97). -/
def startHead (ch : Nat) (st : Step) (s : State) : Out :=
  let pos := st.pos ch
  let d := s.die pos
  let state := s.dieState pos
  if s.badStart ch st || (s.chan ch).transfer || s.pastHalf || !s.quadOn ch || state = 0 then .next (dropHead ch st s)
  else if state = 5 || state = 6 then .next (failHead ch st s)
  else if d.armed.isSome || d.resetting then .next (dropHead ch st s)
  else if state = 2 && st.job.isNone then .fault (.undefinedCase "direct-mode START to a busy die")
  else if state = 2 || state = 3 then
    .next (popStep ch 1 0 (setDie pos (fun d => { d with armed := some st, armedWait := state = 2 }) s))
  else if s.startOk ch st then .next (popStep ch 1 0 (issueStart ch st false s))
  else .next (dropHead ch st s)

/-! ### Ending an array operation -/

/-- Work that a die can no longer do: its managed jobs other than the one that runs (R92, R95). -/
def dieWorkLost (pos : Nat) (s : State) : State :=
  let running := (s.die pos).run.bind fun r => r.step.job
  s.tck.jobs.foldl (fun s e =>
    let j := e.2
    if j.ch != posCh pos || j.die != posDie pos || some e.1 = running || (mfind s.tck.jobs e.1).isNone then s
    else if isReadOp j.op then
      if j.phase = 4 || j.phase = 6 then s else
        handoff e.1 j s
    else
      let s := delJob s e.1
      match j.client with
      | .member g i m => memberReport g i m pos 6 s
      | .erase g b => eraseReport g pos b j.op 6 s
      | .metaPage k n => ledgerReport k n 6 s
      | _ => s) s

/-- What an operation that ended does to the block table and the tracker (R94, R102, R167, R170). -/
def opTables (ch : Nat) (st : Step) (status : Nat) (s : State) : State :=
  let pos := st.pos ch
  let blk := s.rowBlk ch st.w1
  let direct := st.job.isNone
  if isEraseOp st.subop && status = 0 then
    let s := if s.raw ch then s else (List.range 4).foldl (fun s p =>
      if nbit st.planes p then
        let b := s.rowBlock ch (s.rowWithPlane ch st.w1 p)
        trkClear (setTrk s ch st.die b 0) ch st.die b
      else s) s
    if direct then
      let e := s.bt pos blk
      setBt s pos blk { e with wear := min (2 ^ 24 - 1) (e.wear + if st.subop = 4 then 16 else s.cur SKM_WL_SLCW), slc := false, suspect := false }
    else s
  else if isProgOp st.subop && status = 1 then retireBlock pos blk 1 s
  else if isEraseOp st.subop && status = 2 && direct then retireBlock pos blk 2 s
  else s

/-- Count a failure (R94): saturating counters, the event. -/
def failCount (ch op : Nat) (s : State) : State :=
  if isProgOp op then raise EV_FCH_PGMFAIL ch (s.setFld FCH_FAILCNT_PGM (min 65535 (s.fld FCH_FAILCNT_PGM ch + 1)) ch)
  else raise EV_FCH_ERSFAIL ch (s.setFld FCH_FAILCNT_ERS (min 65535 (s.fld FCH_FAILCNT_ERS ch + 1)) ch)

/-- Busy time of an operation up to now, in 100 ns units. -/
def State.busyTime (s : State) (r : ArrOp) : Nat := (r.acc + (s.mtime - r.start)) / 10

/-- A status read finds a die's operation ended (R90, R94, R96). -/
def arrayEnd (pos : Nat) (fail : Bool) (s : State) : State :=
  let ch := posCh pos
  let d := s.die pos
  match d.run with
  | none => s
  | some r =>
    let op := r.step.subop
    let status := if fail && isProgOp op then 1 else if fail && isEraseOp op then 2 else 0
    let s : State := match d.susp with
      | some st => stepRecord ch st 3 0 s
      | none => s
    let s := fchRecord ch r.step status 0 r.step.w1 (s.busyTime r) r.susp s
    let s := if s.dieState pos = 6 then s else setDieState s pos (if d.held.isSome then 4 else 1)
    let s := setDie pos (fun d => { d with run := none, susp := none, ready := s.mtime }) s
    let s := if status != 0 then failCount ch op s else s
    opTables ch r.step status (opReport pos r.step status s)

/-- A die fails on a timeout (R92). -/
def dieFail (pos : Nat) (s : State) : State :=
  let ch := posCh pos
  let d := s.die pos
  let s : State := match d.susp with
    | some st => stepRecord ch st 5 0 s
    | none => s
  let s : State := match d.run with
    | some r => fchRecord ch r.step 5 0 r.step.w1 (s.busyTime r) r.susp s
    | none => s
  let s : State := match d.armed with
    | some st => stepRecord ch st 6 0 s
    | none => s
  let s : State := match d.held with
    | some r => fchRecord ch r.step 6 0 r.step.w1 (r.acc / 10) r.susp s
    | none => s
  let s : State := if s.dieState pos = 6 then s else setDieState s pos 5
  let s := setDie pos (fun d => { d with run := none, held := none, susp := none, armed := none, resetting := false }) s
  let s := raise EV_FCH_DIETO ch s
  let s : State := match d.run with
    | some r => opReport pos r.step 5 s
    | none => s
  let s : State := match d.held with
    | some r => opReport pos r.step 6 s
    | none => s
  dieWorkLost pos s

/-- A SUSPEND, or the suspend of a brown-out, is in progress on a die. -/
def Die.suspending (d : Die) : Bool := d.susp.isSome || (match d.run with | some r => r.bod | none => false)

/-- Half the 10 ms of a target reset, or the relevant maximum of a die's state, in µs (R93): a timeout is judged at twice this. -/
def State.dieMax (s : State) (pos : Nat) : Nat :=
  let ch := posCh pos
  if (s.die pos).resetting then 5000
  else if s.dieState pos = 3 || (s.die pos).suspending then s.cur FCH_TMAX2_TSUS ch
  else match (s.die pos).run with
    | none => 0
    | some r => match r.step.subop with
      | 0 => s.cur FCH_TMAX2_TR ch
      | 1 => s.cur FCH_TMAX3_TRSLC ch
      | 6 => s.cur FCH_TMAX3_TSOFT ch
      | 2 => s.cur FCH_TMAX1_TPROG ch
      | 3 => s.cur FCH_TMAX3_TPROGSLC ch
      | _ => s.cur FCH_TMAX1_TBERS ch

/-! ### Retirement of a die (R95, R171) -/

/-- FCH_DIECTL.RETIRE: the die's state becomes 6 at once, and its pending steps get STATUS 6. -/
def dieRetire (pos : Nat) (s : State) : State :=
  let ch := posCh pos
  if s.dieState pos = 0 || s.dieState pos = 6 then s else
  let d := s.die pos
  let s := setDieState s pos 6
  let s : State := match d.armed with
    | some st => stepRecord ch st 6 0 s
    | none => s
  let s : State := match d.held with
    | some r => opReport pos r.step 6 (fchRecord ch r.step 6 0 r.step.w1 (r.acc / 10) r.susp s)
    | none => s
  let c := s.chan ch
  let issued := if 0 < c.moved then c.prog.take 1 else []
  let rest := c.prog.drop issued.length
  let s := (rest.filter fun st => st.op != 0 && st.pos ch = pos).foldl (fun s st => stepRecord ch st 6 0 s) s
  let s := modChan s ch fun c => { c with prog := issued ++ rest.filter fun st => st.op = 0 || st.pos ch != pos }
  let s := setDie pos (fun d => { d with armed := none, held := none, cont := none }) s
  retireDieSkm pos (dieWorkLost pos s)

/-! ### Transfers -/

/-- The descriptor of a transfer step: a managed step carries its own. -/
def stepDesc (ch : Nat) (st : Step) (s : State) : State × Option Desc :=
  match st.desc with
  | some d => (s, some d)
  | none => readDesc ch (st.w1 % 2 ^ 16) s

/-- The continuation key of a step (R59). -/
def Step.key (st : Step) : Nat := match st.job with | some id => 65536 + 16 * id + st.w1 % 16 | none => st.w1 % 2 ^ 16

/-- A descriptor that is dropped under R55 (R85, R88): its planes or its ROW name no place on the die; a soft transfer stays within
one plane (R118). -/
def State.badDesc (s : State) (ch : Nat) (d : Desc) (soft : Bool) : Bool :=
  s.planes ch ≤ d.plane || 16 < d.cw || 4 * s.planes ch < d.plane * 4 + d.col + d.cw || s.planes ch ≤ s.rowPlane ch d.row
    || (soft && (4 < d.cw || 4 < d.col + d.cw))

/-- Plane and position of codeword k of a descriptor. -/
def Desc.at (d : Desc) (k : Nat) : Nat × Nat := let p := d.plane * 4 + d.col + k; (p / 4, p % 4)

/-- The job that decodes a transfer: the managed read, or one made for a direct-mode descriptor. -/
def transferJob (ch : Nat) (st : Step) (d : Desc) (soft slc : Bool) (s : State) : State × Nat :=
  match st.job with
  | some id => (s, id)
  | none =>
    let dix := st.w1 % 2 ^ 16
    match s.tck.jobs.find? fun e => e.2.client = .direct && e.2.phase = 3 && e.2.ch = ch && e.2.die = st.die && e.2.dix = dix with
    | some e => (s, e.1)
    | none =>
      addJob { ch := ch, die := st.die, q := 0, op := if soft then 6 else if slc then 1 else 0, row := d.row, planes := 0,
               descs := [{ d with slc := slc }], client := .direct, phase := 3, dix := dix, tag := st.tag, context := nbits d.aux 96 16,
               cws := (List.range d.cw).map fun k => { plane := (d.at k).1, col := (d.at k).2 } } s

/-- The continuation of a step on its die: bursts already moved.  Another descriptor's record is discarded (R59); a direct-mode read
then ends with the codewords that it moved. -/
def takeCont (ch : Nat) (st : Step) (s : State) : State × Nat :=
  let pos := st.pos ch
  match (s.die pos).cont with
  | none => (s, 0)
  | some (k, n) =>
    if k = st.key then (s, n) else
    let s := modDie s pos fun d => { d with cont := none }
    if k < 65536 then
      match s.tck.jobs.find? fun e => e.2.client = .direct && e.2.phase = 3 && e.2.ch = ch && e.2.die = st.die && e.2.dix = k with
      | some e =>
        let n := if e.2.op = 6 then n / 3 else n
        (attemptEnd e.1 (modJob s e.1 fun j => { j with phase := 4, cws := j.cws.take n, cutShort := true }), 0)
      | none => (s, 0)
    else (s, 0)

/-- A burst reaches the ECC complex (R112, R118): a hard codeword, or H, S1 and S2 of a soft one. -/
def burstIn (ch : Nat) (st : Step) (d : Desc) (id k : Nat) (soft : Bool) (data : CwBits) (s : State) : State :=
  let cw := if soft then k / 3 else k
  let (plane, col) := d.at cw
  let key := match s.ecc.bufs.find? fun e => e.2.job = id && e.2.plane = plane && e.2.col = col with | some e => e.1 | none => s.ecc.nextBuf
  if soft && k % 3 = 1 then
    { s with ecc.bufs := s.ecc.bufs.map fun e => if e.1 = key then (e.1, { e.2 with s1 := some data }) else e }
  else if soft && k % 3 = 2 then
    dispatch { s with ecc.bufs := s.ecc.bufs.map fun e => if e.1 = key then (e.1, { e.2 with s2 := some data }) else e }
  else
    let j := mget { ch := ch, die := st.die, q := 0, op := 0, row := 0, planes := 0 } s.tck.jobs id
    let idx := (j.cws.findIdx? fun c => c.plane = plane && c.col = col).getD 0
    let b : CwBuf := { ch := ch, die := st.die, job := id, idx := idx, row := d.row, plane := plane, col := col, bits := data, soft := soft, pri := j.q = 0 && j.client != .direct }
    dispatch { s with ecc.bufs := mins s.ecc.bufs s.ecc.nextBuf b, ecc.nextBuf := s.ecc.nextBuf + 1 }

/-- Bursts of a DATA_OUT. -/
def outBursts (d : Desc) (soft : Bool) : Nat := if soft then 3 * d.cw else d.cw

/-- A transfer step has moved everything: its record, and for managed work the next descriptor. -/
def transferDone (ch : Nat) (st : Step) (d : Desc) (bursts : Nat) (s : State) : State :=
  let pos := st.pos ch
  let s := fchRecord ch st 0 bursts d.row 0 0 s
  let s := popStep ch 1 0 (modDie s pos fun x => { x with cont := none })
  match st.job with
  | none => s
  | some id => modJob s id fun j =>
    let sent := st.w1 % 16 + 1
    if isReadOp j.op then { j with sent, phase := if j.descs.length ≤ sent then 4 else j.phase }
    else { j with sent, phase := if j.descs.length ≤ sent then 11 else j.phase }

/-- Move one data-out burst; a channel without a free codeword buffer holds it (R112). -/
def outBurst (ch : Nat) (st : Step) (d : Desc) (id : Nat) (soft : Bool) (data : CwBits) (s : State) : State :=
  let c := s.chan ch
  if outBursts d soft ≤ c.moved || c.held then s
  else if s.raw ch then
    let s := (memWrite s 16 .write (d.addr + 4608 * c.moved) 4608 data.toNat).1
    modChan s ch fun c => { c with moved := c.moved + 1 }
  else if 128 ≤ s.bufsUsed then modChan (s.inc ECC_STALL_COUNT) ch fun c => { c with held := true }
  else
    let s := burstIn ch st d id c.moved soft data s
    modChan s ch fun c => { c with moved := c.moved + 1 }

/-- The information bits of codeword k of a data-in descriptor: from the buffer and the metadata array in direct mode, from the
stripe or the device structure in managed mode (R107, R111, R180). -/
def inCodeword (ch : Nat) (st : Step) (d : Desc) (k : Nat) (s : State) : State × Nat :=
  match st.job.bind (mfind s.tck.jobs) with
  | some j =>
    let c := d.at k
    match j.client with
    | .member g i m =>
      match s.grp g, s.stripe g i with
      | some gr, some x =>
        let pt := if d.slc then 0 else s.rowPage ch d.row % 4
        (s, (s.memberCwAt gr x m (pt * 4 * 2 ^ s.pb ch + c.1 * 4 + c.2)).toNat)
      | _, _ => (s, 0)
    | _ => (s, mget 0 j.got k)
  | none =>
    let (s, data) := match memRead s 16 .read (d.addr + 4096 * k) 4096 with
      | (s, .ok v) => (s, v)
      | (s, _) => let (v, s) := s.freshBits 32768; (s, v.toNat)
    let (s, md) := if nbit d.aux 40 then
        match memRead s 16 .read (d.aux % 2 ^ 40 + 16 * k) 16 with
        | (s, .ok v) => (s, v)
        | (s, _) => let (v, s) := s.freshBits 128; (s, v.toNat)
      else (s, 0)
    (s, data + md * 2 ^ 32768)

/-- Record a loaded codeword (R89). -/
def loadCw (d : Desc) (row0 plane col pt : Nat) (die : Die) : Die :=
  let key := plane * 4 + pt
  let old := mget {} die.load key
  let old : Loaded := if old.row = row0 && old.slc = d.slc then old else { row := row0, slc := d.slc, mask := 0 }
  { die with load := mins die.load key { old with mask := old.mask ||| 2 ^ col } }

/-- Encode, scramble and send one data-in burst (R107–R110, R127). -/
def inBurst (ch : Nat) (st : Step) (d : Desc) (s : State) : State :=
  let c := s.chan ch
  let k := c.moved
  if d.cw ≤ k then s else
  let (plane, col) := d.at k
  let s := modChan s ch fun c => { c with moved := c.moved + 1 }
  if s.raw ch then
    let (s, v) := match memRead s 16 .read (d.addr + 4608 * k) 4608 with
      | (s, .ok v) => (s, v)
      | (s, _) => let (v, s) := s.freshBits 36864; (s, v.toNat)
    s.emit (.burst ch st.die plane col (s.rowWithPlane ch d.row plane) v)
  else
    let (s, info) := inCodeword ch st d k s
    let mix := if st.job.isSome then 0 else d.mix
    let cw := ldpcEncode (BitVec.ofNat 32896 info ^^^ s.scramble ch st.die d.row plane col mix)
    let hit := s.flag ECC_INJ_ARM && s.fld ECC_INJ_CH = ch
    let cw := if hit then cw ^^^ injectMask (s.fld ECC_INJ_CNT) else cw
    let s := if hit then raise EV_ECC_INJ (eccPayload ch st.die) (s.setFld ECC_INJ_ARM 0) else s
    let pt := if d.slc then 0 else s.rowPage ch d.row % 4
    let s := modDie s (st.pos ch) (loadCw d (s.rowWithPlane ch d.row 0) plane col pt)
    s.emit (.burst ch st.die plane col (s.rowWithPlane ch d.row plane) cw.toNat)

/-- Repeat an operation. -/
def repeatOp (f : State → State) : Nat → State → State
  | 0, s => s
  | n + 1, s => repeatOp f n (f s)

/-- The continuation record of a die after a step of key k has ended with n bursts moved (R59): a step that has moved nothing in this tick keeps what an
earlier one of its key moved. -/
def contAfter (k n : Nat) (d : Die) : Die :=
  { d with cont := match d.cont with
      | some (k', n') => if k' = k then some (k, max n n') else some (k, n)
      | none => some (k, n) }

/-- End the transfer step at the head at a boundary (R58): STATUS 4, the continuation record.  keep: the die's record is of a step that ended at this same
boundary, and stays (DESIGN CHOICE, log 84). -/
def abandonHead (ch status : Nat) (st : Step) (keep : Bool) (s : State) : State :=
  let c := s.chan ch
  let s := fchRecord ch st status c.moved (s.stepRow ch st) 0 0 s
  let s := if st.op = 6 || keep then s else modDie s (st.pos ch) (contAfter st.key c.moved)
  modChan s ch fun c => { c with prog := c.prog.tail, moved := 0, held := false }

end Sys2Proof.Machine
end

