-- ==== Sys2Proof/Machine/Channels.lean ====
section
/-! DEFINITION. Family: the flash channel array FCA (spec/03_churn_tick.md, spec/04_flash_channels.md): the steps of tick programs, what the dies report, die control, training, brown-out. -/

namespace Sys2Proof.Machine

/-- Act on the step at the head of a channel's program, if it is of the kind asked for. -/
def withStep (ch : Nat) (want : Step → Bool) (f : Step → State → Out) (s : State) : Out :=
  if !s.quadOn ch || s.fchBod ch then .next s else
  match (s.chan ch).prog with
  | [] => .next s
  | st :: _ => if want st then f st s else .next s

/-- The step at the head is a START of an array operation. -/
def isStart (op : Nat) (st : Step) : Bool := st.op = 1 && st.subop = op

/-- NOP (R55): a NOP step completes; a reserved OP is executed as NOP and counted as dropped, and so is a START whose SUBOP is
reserved. -/
def execNop (ch : Fin 32) (s : State) : Out :=
  withStep ch (fun st => st.op = 0 || 7 ≤ st.op || (st.op = 1 && 7 ≤ st.subop))
    (fun st s => .next (if st.op = 0 then popStep ch 1 0 s else dropHead ch st s)) s

/-- START_PAGE_READ_QLC (R55, R98). -/
def execStartPageReadQlc (ch : Fin 32) (s : State) : Out := withStep ch (isStart 0) (startHead ch) s

/-- START_PAGE_READ_SLC (R55, R98). -/
def execStartPageReadSlc (ch : Fin 32) (s : State) : Out := withStep ch (isStart 1) (startHead ch) s

/-- START_PROGRAM_QLC (R89). -/
def execStartProgramQlc (ch : Fin 32) (s : State) : Out := withStep ch (isStart 2) (startHead ch) s

/-- START_PROGRAM_SLC (R89). -/
def execStartProgramSlc (ch : Fin 32) (s : State) : Out := withStep ch (isStart 3) (startHead ch) s

/-- START_BLOCK_ERASE (R85). -/
def execStartBlockErase (ch : Fin 32) (s : State) : Out := withStep ch (isStart 4) (startHead ch) s

/-- START_BLOCK_ERASE_SLC (R85). -/
def execStartBlockEraseSlc (ch : Fin 32) (s : State) : Out := withStep ch (isStart 5) (startHead ch) s

/-- START_SOFT_READ (R118). -/
def execStartSoftRead (ch : Fin 32) (s : State) : Out := withStep ch (isStart 6) (startHead ch) s

/-- Issue the armed START of a die (R57, R96, R97). -/
def armedIssue (ch : Nat) (pos : Nat) (st : Step) (s : State) : State :=
  let own := !(s.die pos).armedWait
  let s := setDie pos (fun d => { d with armed := none }) s
  if s.startOk ch st then issueStart ch st own s else modChan (dropRecord ch st s) ch fun c => { c with nDrop := c.nDrop + 1 }

/-- ARMED_START_ISSUE (R57): the die has reported the suspend complete, or its operation has ended. -/
def execArmedStartIssue (ch : Fin 32) (die : Fin 64) (s : State) : Out :=
  let pos := ch.val * 64 + die.val
  match (s.die pos).armed with
  | some st =>
    if s.quadOn ch && !s.fchBod ch && (s.dieState pos = 1 || s.dieState pos = 4) then .next (armedIssue ch pos st s) else .next s
  | none => .next s

/-- A SUSPEND step (R56, R96): issued to a die that runs a program or erase below its suspend limit. -/
def suspendHead (ch : Nat) (st : Step) (s : State) : State :=
  let pos := st.pos ch
  let state := s.dieState pos
  let limit := s.cur FCH_SUSPLIM_LIMIT ch
  if (s.chan ch).transfer || s.pastHalf || !s.quadOn ch || state = 0 then dropHead ch st s
  else if state = 5 || state = 6 then failHead ch st s
  else match (s.die pos).run with
    | some r =>
      if state = 2 && !isReadOp r.step.subop && (limit = 0 || r.susp < limit) then
        let s := popStep ch 1 0 (s.emit (.nand ch st.die 32 (s.cur FCH_OPC_SUSP ch) 0))
        setDie pos (fun d => { d with susp := some st, run := some { r with suspAt := s.mtime }, polled := true, stepRead := true }) (setDieState s pos 3)
      else dropHead ch st s
    | none => dropHead ch st s

/-- SUSPEND (R96). -/
def execSuspend (ch : Fin 32) (s : State) : Out := withStep ch (fun st => st.op = 2) (fun st s => .next (suspendHead ch st s)) s

/-- A die reports its operation suspended (R96): the SUSPEND's record, or the START's record with STATUS 8 at a brown-out (R103). -/
def suspendDone (pos : Nat) (r : ArrOp) (s : State) : State :=
  let ch := posCh pos
  let d := s.die pos
  let r := { r with susp := r.susp + 1, acc := r.acc + (s.mtime - r.start) }
  let s : State := match d.susp with
    | some st => stepRecord ch st 0 0 s
    | none => s
  let retired := s.dieState pos = 6
  let s := if r.bod then fchRecord ch r.step 8 0 r.step.w1 (r.acc / 10) r.susp s
    else if retired then fchRecord ch r.step 6 0 r.step.w1 (r.acc / 10) r.susp s else s
  let s := if retired then s else setDieState s pos 4
  let s := setDie pos (fun d => { d with run := none, susp := none, held := if retired then none else some r }) s
  if retired then opReport pos r.step 6 s else if r.bod then opReport pos r.step 8 s else s

/-- SUSPEND_COMPLETE (R96). -/
def execSuspendComplete (ch : Fin 32) (die : Fin 64) (s : State) : Out :=
  let pos := ch.val * 64 + die.val
  let d := s.die pos
  match d.run with
  | some r => .next (if s.quadOn ch && (s.dieState pos = 3 || (s.dieState pos = 6 && (d.susp.isSome || r.bod))) then suspendDone pos r s else s)
  | none => .next s

/-- A RESUME step (R56, R71, R96, R97). -/
def resumeHead (ch : Nat) (st : Step) (s : State) : Out :=
  let pos := st.pos ch
  let state := s.dieState pos
  if (s.chan ch).transfer || s.pastHalf || !s.quadOn ch || state = 0 then .next (dropHead ch st s)
  else if state = 5 || state = 6 then .next (failHead ch st s)
  else match (s.die pos).held with
    | none => if st.job.isNone && nbit (s.cur TCK_MODE_DIRECT) ch then .fault (.undefinedCase "direct-mode RESUME of a die that holds no suspended operation")
              else .next (dropHead ch st s)
    | some r =>
      if state != 4 then .next (dropHead ch st s) else
      let s := stepRecord ch st 0 0 (s.emit (.nand ch st.die 48 (s.cur FCH_OPC_RES ch) 0))
      .next (popStep ch 1 0 (setDie pos (fun d => { d with
        run := some { r with start := s.mtime }
        held := none }) (setDieState s pos 2)))

/-- RESUME (R96). -/
def execResume (ch : Fin 32) (s : State) : Out := withStep ch (fun st => st.op = 3) (resumeHead ch) s

/-! ### Transfers (R57–R59, R88, R89, R97) -/

/-- A DATA_OUT step moves a soft read (R118, R124); raw mode knows none (R105). -/
def State.softStep (s : State) (ch : Nat) (st : Step) : Bool :=
  match st.job.bind (mfind s.tck.jobs) with | some j => j.op = 6 | none => (s.die (st.pos ch)).soft && !s.raw ch

/-- Begin or go on with a transfer step: the checks of R55, R85, R88 and R92, then f on a die that is ready. -/
def transferHead (ch : Nat) (st : Step) (f : Desc → State → State) (s : State) : State :=
  let pos := st.pos ch
  let state := s.dieState pos
  let s := modChan s ch fun c => { c with transfer := true }
  if !s.quadOn ch || state = 0 then dropHead ch st s
  else if (state = 5 || state = 6) && (s.chan ch).moved = 0 then failHead ch st s
  else
    let soft := st.op = 4 && s.softStep ch st
    match stepDesc ch st s with
    | (s, none) => transferDone ch st { addr := 0, cw := 0, slc := false, row := 0, plane := 0, col := 0, aux := 0 } 0 s
    | (s, some d) =>
      if d.cw = 0 then transferDone ch st d 0 s
      else if s.badDesc ch d soft then dropHead ch st s
      else if st.op = 5 && (s.die pos).held.isSome then dropHead ch st s
      else
        let s := if st.wait then modDie s pos fun x => { x with polled := true, stepRead := true } else s
        if state = 2 || state = 3 then s else
          let (s, n) := if (s.chan ch).moved = 0 then takeCont ch st s else (s, 0)
          f d (if n = 0 then s else modChan s ch fun c => { c with moved := n })

/-- Move data-out bursts, and end the step when all have moved.  DESIGN CHOICE (log 85): a raw-mode read, where nothing is decoded, writes no result record. -/
def outBurstsGo (ch : Nat) (st : Step) (bursts : List CwBits) (d : Desc) (s : State) : State :=
  let soft := s.softStep ch st
  let (s, id) := if s.raw ch then (s, 0) else transferJob ch st d soft d.slc s
  let s := bursts.foldl (fun s b => outBurst ch st d id soft b s) s
  let n := (s.chan ch).moved
  if n < outBursts d soft then s else
  let s := transferDone ch st d n s
  if s.raw ch then s else
    let s := if st.job.isNone then modJob s id fun j => { j with phase := 4 } else s
    attemptEnd id s

/-- DATA_OUT (R88): the bursts that the die's page register gives now; none moves while the die is busy. -/
def execDataOut (ch : Fin 32) (bursts : List (BitVec 36864)) (s : State) : Out :=
  withStep ch (fun st => st.op = 4) (fun st s => .next (transferHead ch st (outBurstsGo ch st bursts) s)) s

/-- HELD_BURST_START (R112): a codeword buffer is free, and the held burst moves. -/
def execHeldBurstStart (ch : Fin 32) (data : BitVec 36864) (s : State) : Out :=
  if (s.chan ch).held && s.bufsUsed < 128 then
    withStep ch (fun st => st.op = 4) (fun st s =>
      .next (transferHead ch st (outBurstsGo ch st [data]) (modChan s ch fun c => { c with held := false }))) s
  else .next s

/-- Move data-in bursts, and end the step when all have moved. -/
def inBurstsGo (ch : Nat) (st : Step) (n : Nat) (d : Desc) (s : State) : State :=
  let s := repeatOp (inBurst ch st d) n s
  let m := (s.chan ch).moved
  if m < d.cw then s else transferDone ch st d m s

/-- DATA_IN (R89): n bursts move now. -/
def execDataIn (ch : Fin 32) (n : Fin 17) (s : State) : Out :=
  withStep ch (fun st => st.op = 5) (fun st s => .next (transferHead ch st (inBurstsGo ch st n) s)) s

/-! ### Status (R90, R453) -/

/-- A POLL step (R453): it reads the die's status, and with WAIT stays until the die is ready. -/
def pollHead (ch : Nat) (st : Step) (ended fail : Bool) (s : State) : State :=
  let pos := st.pos ch
  let state := s.dieState pos
  let s := modChan s ch fun c => { c with transfer := true }
  if !s.quadOn ch || state = 0 then dropHead ch st s
  else if state = 5 || state = 6 then failHead ch st s
  else
    let s := modDie s pos fun d => { d with polled := true, stepRead := true }
    let s := if ended then arrayEnd pos fail s else s
    if st.wait && (s.dieState pos = 2 || s.dieState pos = 3) then s
    else popStep ch 1 0 (stepRecord ch st 0 0 s)

/-- POLL (R453): ended says that the status shows the die's operation ended, fail that it shows FAIL. -/
def execPoll (ch : Fin 32) (ended fail : Bool) (s : State) : Out :=
  withStep ch (fun st => st.op = 6) (fun st s => .next (pollHead ch st ended fail s)) s

/-- INTERNAL_POLL (R453): after the last step of the installed program, of a busy die whose status no step of the program reads. -/
def execInternalPoll (ch : Fin 32) (die : Fin 64) (ended fail : Bool) (s : State) : Out :=
  let pos := ch.val * 64 + die.val
  if s.quadOn ch && (s.chan ch).prog.isEmpty && s.dieBusy pos && !(s.die pos).stepRead then
    let s := modDie s pos fun d => { d with polled := true }
    .next (if ended then arrayEnd pos fail s else s)
  else .next s

/-- ARRAY_OPERATION_END (R90): a status read finds the operation ended. -/
def execArrayOperationEnd (ch : Fin 32) (die : Fin 64) (fail : Bool) (s : State) : Out :=
  .next (if s.quadOn ch then arrayEnd (ch.val * 64 + die.val) fail s else s)

/-- Machine time reaches twice the relevant maximum of a die's state. -/
def timeoutPass (pos : Nat) (s : State) : State :=
  let d := s.die pos
  let from' := if d.resetting then some d.resetAt
    else d.run.map fun r => if s.dieState pos = 3 || d.suspending then r.suspAt else r.start - r.acc
  match from' with
  | some t => s.pass (t + 200 * s.dieMax pos - s.mtime)
  | none => s

/-- DIE_TIMEOUT (R92, R95): a die, or every LUN of a target under reset, fails; FLT hears of it on line 25, SKM retires the die. -/
def execDieTimeout (ch : Fin 32) (die : Fin 64) (s : State) : Out :=
  let pos := ch.val * 64 + die.val
  if !s.quadOn ch || !(s.die pos).run.isSome && !(s.die pos).resetting then .next s else
  let s := timeoutPass pos s
  let luns := if (s.die pos).resetting then (rangeFrom (pos / 4 * 4) 4).filter fun p => (s.die p).resetting else [pos]
  .next (luns.foldl (fun s p =>
    let reset := (s.die p).resetting
    let s := if reset then fchRecord ch { op := 0, target := posDie p / 4, lun := posDie p % 4 } 5 0 0 0 0 s else s
    retireDieSkm p (occur 25 0 16 3 (dieFail p s))) s)

/-! ### Die control (R95) -/

/-- DIE_RESET (R95): FCH_DIECTL.RESET asks for a Reset of the die's target at the next boundary. -/
def execDieReset (m : MasterId) (ch : Fin 32) (die : Fin 64) (s : State) : Out :=
  .next (regCmd m FCH_DIECTL ch (fun s => if s.quadOn ch then modDie s (ch.val * 64 + die.val) fun d => { d with resetDue := true } else s) s)

/-- Issue the Resets that are due on a channel, or refuse them (R95). -/
def resetsDue (ch : Nat) (s : State) : State :=
  (List.range 16).foldl (fun s t =>
    let luns := rangeFrom (ch * 64 + 4 * t) 4
    if !(luns.any fun p => (s.die p).resetDue) then s else
    let s := luns.foldl (fun s p => modDie s p fun d => { d with resetDue := false }) s
    let here := luns.filter fun p => s.dieState p != 0
    if s.fchBod ch || here.isEmpty || !(here.all fun p => s.dieState p = 1 || s.dieState p = 5) then raise EV_FCH_DIECTLREF ch s
    else
      let s := s.emit (.nand ch (4 * t) 256 0 0)
      here.foldl (fun s p => setDie p (fun d => { d with resetting := true, resetAt := s.mtime }) (setDieState s p 2)) s) s

/-- TARGET_RESET_DONE (R95): the target reports ready. -/
def execTargetResetDone (ch : Fin 32) (target : Fin 16) (s : State) : Out :=
  .next (if s.quadOn ch then
    (rangeFrom (ch.val * 64 + 4 * target.val) 4).foldl (fun s p =>
      if (s.die p).resetting then
        let s := if s.dieState p = 2 then setDieState s p 1 else s
        setDie p (fun d => { d with resetting := false, held := none, ready := s.mtime }) s
      else s) s
  else s)

/-- DIE_RETIRE (R95, R171). -/
def execDieRetire (m : MasterId) (ch : Fin 32) (die : Fin 64) (s : State) : Out :=
  .next (regCmd m FCH_DIECTL ch (fun s => if s.quadOn ch then dieRetire (ch.val * 64 + die.val) s else s) s)

/-! ### Training (R84) -/

/-- The targets of a channel that have a die. -/
def State.targets (s : State) (ch : Nat) : List Nat :=
  (List.range 16).filter fun t => (List.range 4).any fun l => s.dieState (ch * 64 + 4 * t + l) != 0

/-- The next target at or after t, in turn. -/
def State.nextTarget (s : State) (ch t : Nat) : Option Nat :=
  match (s.targets ch).filter (t ≤ ·), s.targets ch with
  | x :: _, _ => some x
  | [], x :: _ => some x
  | [], [] => none

/-- Machine time at which k retraining intervals have passed since the last training (R84). -/
def State.retrainDue (s : State) (ch k : Nat) : Nat := (s.chan ch).trainAt + k * s.cur FCH_TRAIN_INTERVAL ch * 100000

/-- The trainings of a channel's interface (R80): bit 0 DCC, 1 read DQ, 2 write DQ, 3 per-pin deskew. -/
def State.trainKinds (s : State) (ch : Nat) : Nat :=
  match s.fld FCH_CFG_IFACE ch with
  | 0 => 7
  | 1 => 6
  | _ => 15

/-- The delays applied to a target: those trained for 800 MT/s while the channel runs at that rate in DRAIN (R83). -/
def State.delayOf (s : State) (ch t : Nat) : Nat :=
  let d := mget (0, 0) (s.chan ch).delays t
  if s.flag FCH_CFG_DRAINRATE ch then d.2 else d.1

/-- RETRAIN (R84): an interval has passed, the program's last step has ended and at least 4 µs remain before the boundary; the next target gets new delays
for the rate in force.  FCH_STAT.TRAINING reads 1 until the boundary (DESIGN CHOICE, log 84). -/
def execRetrain (ch : Fin 32) (s : State) : Out :=
  if s.quadOn ch && !s.fchBod ch && s.on FCH_TRAIN_INTERVAL ch && (s.chan ch).prog.isEmpty && s.fld TCK_PHASE_CYCLES + 400 ≤ s.tickCycles
      && s.retrainDue ch 1 ≤ s.mtime then
    match s.nextTarget ch (s.chan ch).trainTarget with
    | some t =>
      let (v, s) := (s.emit (.nand ch (4 * t) 258 (s.fld FCH_CFG_RATE ch) (s.trainKinds ch))).fresh
      let slow := s.flag FCH_CFG_DRAINRATE ch
      .next ((modChan s ch fun c => { c with
        trainTarget := (t + 1) % 16
        trainAt := s.mtime
        delays := mmod (0, 0) c.delays t fun d => if slow then (d.1, v) else (v, d.2) }).setFld FCH_STAT_TRAINING 1 ch)
    | none => .next s
  else .next s

/-- RETRAIN_LATE (R84): no window within twice the interval. -/
def execRetrainLate (ch : Fin 32) (s : State) : Out :=
  if s.quadOn ch && s.on FCH_TRAIN_INTERVAL ch then
    .next (raise EV_FCH_TRAINLATE ch ((s.pass (s.retrainDue ch 2 - s.mtime)).setFld FCH_STAT_TRAINLATE 1 ch))
  else .next s

/-! ### Brown-out (R103, R104, R201) -/

/-- A channel sequencer's brown-out (R103). -/
def seqBrownOut (ch : Nat) (s : State) : State :=
  if s.fchBod ch || !s.quadOn ch then s else
  let s := raise EV_FCH_BOD ch (s.setFld FCH_BOD_ASSERTED 1 ch)
  let ps := rangeFrom (ch * 64) 64
  let s := ps.foldl (fun s p => match (s.die p).armed with
    | some st => setDie p (fun d => { d with armed := none }) (stepRecord ch st 7 0 s)
    | none => s) s
  let s := match (s.chan ch).prog with
    | st :: _ => if st.isTransfer && 0 < (s.chan ch).moved then abandonHead ch 7 st false s else s
    | [] => s
  let s := (s.chan ch).prog.foldl (fun s st => if st.op = 0 then s else stepRecord ch st 7 0 s) s
  let s := modChan s ch fun c => { c with prog := [], next := [], moved := 0, held := false }
  if !s.on FCH_BOD_ERSUSP ch then s else
  ps.foldl (fun s p => match (s.die p).run with
    | some r =>
      if !isEraseOp r.step.subop then s
      else
        let s := if s.dieState p = 3 then s else s.emit (.nand ch (posDie p) 32 (s.cur FCH_OPC_SUSP ch) 0)
        let s := if s.dieState p = 2 then setDieState s p 3 else s
        setDie p (fun d => { d with run := some { r with bod := true, suspAt := if d.susp.isSome then r.suspAt else s.mtime } }) s
    | none => s) s

/-- Every channel whose quad is powered is quiesced. -/
def State.allQuiesced (s : State) : Bool := (List.range 32).all fun ch => !s.quadOn ch || s.flag FCH_BOD_QUIESCED ch

/-- CKP reports that every channel is quiesced (R201). -/
def ckpQuiesce (s : State) : State :=
  if s.flag CKP_STAT_BOD && !s.flag CKP_STAT_QUIESCED && s.allQuiesced then
    let s := raise EV_CKP_QUIESCED 0 (s.setFld CKP_STAT_QUIESCED 1)
    if s.flt.bodDrive then { s with flt.resetDue := true } else s
  else s

/-- CHANNEL_QUIESCE (R103): no die of the channel is busy or suspending. -/
def execChannelQuiesce (ch : Fin 32) (s : State) : Out :=
  if s.quadOn ch && s.fchBod ch && !s.flag FCH_BOD_QUIESCED ch && !((rangeFrom (ch.val * 64) 64).any s.dieBusy) then
    .next (ckpQuiesce (raise EV_FCH_QUIESCE ch (s.setFld FCH_BOD_QUIESCED 1 ch)))
  else .next s

end Sys2Proof.Machine
end

