-- ==== Sys2Proof/Machine/HostPort.lean ====
section
/-! DEFINITION. Family: the host port HPT (spec/10_host_port.md): link and configuration space, controller enable and resets, doorbells, arbitration and fetch. -/

namespace Sys2Proof.Machine

/-! ### Configuration space (R221, R222, R454) -/

/-- Extended capabilities by offset: ID, version, next (R454). -/
def extCaps : List (Nat × Nat × Nat × Nat) :=
  [(0x100, 0x01, 2, 0x180), (0x180, 0x19, 1, 0x200), (0x200, 0x25, 1, 0x220), (0x220, 0x26, 1, 0x280), (0x280, 0x2A, 1, 0x300),
   (0x300, 0x31, 1, 0x380), (0x380, 0x27, 1, 0x400), (0x400, 0x32, 1, 0x440), (0x440, 0x1E, 1, 0)]

/-- The reset value of a configuration dword; the fields of the standard's own layouts, among them the bits that tell of 10-bit and 14-bit tags (0x084) and the
error masks and severities, are PRESUMED (log 51). -/
def State.cfgReset (s : State) (off : Nat) : Nat :=
  match off with
  | 0x000 => s.fld HPT_PCIID_VENDOR + 0x7232 * 2 ^ 16
  | 0x004 => 0x00100000
  | 0x008 => 0x01080210
  | 0x010 => 4
  | 0x018 => 4
  | 0x02C => s.fld HPT_SUBSYS_SVID + s.fld HPT_SUBSYS_SSID * 2 ^ 16
  | 0x034 => 0x40
  | 0x040 => 0x00035001
  | 0x044 => 8
  | 0x050 => 0x6011 + (s.fld HPT_QCFG_VEC - 1) % 2 ^ 11 * 2 ^ 16
  | 0x054 => 2
  | 0x058 => 0x10002
  | 0x060 => 0x80020010
  | 0x064 => 0x10008022
  | 0x068 => 0x2810
  | 0x06C => 0x00410886
  | 0x070 => (s.fld HPT_LINK_RATE + 2 ^ s.fld HPT_LINK_WIDTH * 16) * 2 ^ 16
  | 0x084 => 0x18030000
  | 0x08C => 0x7E
  | 0x090 => 6
  | 0x108 => 0x00400000
  | 0x10C => 0x00462030
  | 0x114 => 0xE000
  | 0x118 => 0xA0
  | 0x444 => 0x1F
  | _ => match extCaps.find? fun e => e.1 = off with
    | some e => e.2.1 + e.2.2.1 * 2 ^ 16 + e.2.2.2 * 2 ^ 20
    | none => 0

/-- The bits of a configuration dword that a host write changes: those of the standard's registers for the features R220 lists. -/
def cfgMask (off : Nat) : Nat :=
  match off with
  | 0x004 => 0x0546
  | 0x00C => 0xFF
  | 0x010 => 0xFFFF0000
  | 0x014 => 0xFFFFFFFF
  | 0x018 => 0xFFFE0000
  | 0x01C => 0xFFFFFFFF
  | 0x03C => 0xFF
  | 0x044 => 0x3
  | 0x050 => 0xC0000000
  | 0x068 => 0x7FFF
  | 0x070 => 0x01CB
  | 0x088 => 0x101F
  | 0x090 => 0xF
  | 0x108 => 0x5FF010
  | 0x10C => 0x5FF010
  | 0x114 => 0xF1C1
  | 0x118 => 0x140
  | 0x448 => 0xF
  | _ => 0

/-- A configuration dword as it reads. -/
def State.cfgRead (s : State) (off : Nat) : Nat :=
  let d := s.cfgReset off
  match mfind s.hpt.cfg off with
  | some v => (d &&& (2 ^ 32 - 1 - cfgMask off)) + (v &&& cfgMask off)
  | none => d

/-- HPT runs and its link is up. -/
def State.hptUp (s : State) : Bool := s.domOn dHOST && s.flag HPT_LINK_UP

/-- Byte enables as a mask. -/
def beMask (be : Nat) : Nat := (List.range 4).foldl (fun n i => if nbit be i then n + 255 * 2 ^ (8 * i) else n) 0

/-- A dword after a write under byte enables of the bits that m names. -/
def beWrite (m be old data : Nat) : Nat :=
  let m := m &&& beMask be
  (old &&& (2 ^ 32 - 1 - m)) + (data &&& m)

/-- What a configuration dword may not hold stays as it was: PowerState D1 or D2 (R454), a Max Payload Size above 512 bytes, a Max Read Request Size above
4,096 (R220). -/
def cfgLegal (off old v : Nat) : Nat :=
  let keep (lo w v : Nat) : Nat := v - nbits v lo w * 2 ^ lo + nbits old lo w * 2 ^ lo
  if off = 0x044 then (if nbits v 0 2 = 1 || nbits v 0 2 = 2 then keep 0 2 v else v)
  else if off = 0x068 then
    let v := if 2 < nbits v 5 3 then keep 5 3 v else v
    if 5 < nbits v 12 3 then keep 12 3 v else v
  else v

/-- HPT_LINK.PM (R220): a function in D3hot takes the link to L1, or to the L1 substate that the host has enabled; DESIGN CHOICE (log 95): the entries of
ASPM, which follow idle time, are left out. -/
def pmSettle (s : State) : State :=
  let sub := s.cfgRead 0x448
  s.setFld HPT_LINK_PM (if nbits (s.cfgRead 0x044) 0 2 != 3 then 0 else if nbit sub 0 then 3 else if nbit sub 1 then 2 else 1)

/-! ### Frames to the host (R220, R224) -/

/-- Split n bytes at a into requests of at most k bytes, none across a 4 KiB boundary. -/
def tlps (k : Nat) : Nat → Nat → Nat → List (Nat × Nat)
  | 0, _, _ => []
  | f + 1, a, n => if n = 0 then [] else
    let l := min n (min k (4096 - a % 4096))
    (a, l) :: tlps k f (a + l) (n - l)

/-- Max Read Request Size and Max Payload Size, and whether Relaxed Ordering is enabled, as Device Control gives them. -/
def State.mrrs (s : State) : Nat := 128 * 2 ^ nbits (s.cfgRead 0x068) 12 3
def State.mps (s : State) : Nat := 128 * 2 ^ nbits (s.cfgRead 0x068) 5 3
def State.relaxed (s : State) : Bool := nbit (s.cfgRead 0x068) 4

/-- Read host memory: requests of Max Read Request Size. -/
def hostReads (segs : List (Nat × Nat)) (s : State) : State :=
  segs.foldl (fun s g => (tlps s.mrrs (g.2 / 64 + 2) g.1 g.2).foldl (fun s r => s.emit (.frame "PCIe" "read" [r.1, r.2])) s) s

/-- The part of host memory that bytes [ofs, ofs + n) of a command's data lie in. -/
def sliceSegs : List (Nat × Nat) → Nat → Nat → List (Nat × Nat)
  | [], _, _ => []
  | (a, l) :: r, ofs, n =>
    if n = 0 then [] else if l ≤ ofs then sliceSegs r (ofs - l) n
    else let k := min n (l - ofs); (a + ofs, k) :: sliceSegs r 0 (n - k)

/-- Write data to host memory (R224): payloads of at most Max Payload Size, with Relaxed Ordering where it is enabled. -/
def hostData (segs : List (Nat × Nat)) (v : Nat) (s : State) : State :=
  (segs.foldl (fun (p : State × Nat) g =>
    ((tlps s.mps (g.2 / 64 + 2) g.1 g.2).foldl (fun s r => s.emit (.frame "PCIe" "write" [r.1, r.2, b2n s.relaxed, nbits v (8 * (p.2 + (r.1 - g.1))) (8 * r.2)])) p.1,
      p.2 + g.2)) (s, 0)).1

/-! ### MSI-X (R220, R225) -/

/-- A dword of the MSI-X table: every vector is masked at reset. -/
def State.msixDw (s : State) (i : Nat) : Nat := mget (if i % 4 = 3 then 1 else 0) s.hpt.msix i

/-- MSI-X is enabled, and the function mask (Message Control bits 15 and 14). -/
def State.msixOn (s : State) : Bool := nbit (s.cfgRead 0x050) 31
def State.msixMasked (s : State) (v : Nat) : Bool := nbit (s.cfgRead 0x050) 30 || nbit (s.msixDw (4 * v + 3)) 0

/-- The message of a vector. -/
def msixMsg (v : Nat) (s : State) : State :=
  s.emit (.frame "PCIe" "MSI-X" [v, s.msixDw (4 * v) + 2 ^ 32 * s.msixDw (4 * v + 1), s.msixDw (4 * v + 2)])

/-- Signal a vector: its message, or its pending bit while it is masked; nothing while MSI-X is disabled. -/
def msixSend (v : Nat) (s : State) : State :=
  if !s.msixOn then s else if s.msixMasked v then { s with hpt.pba := mins s.hpt.pba v true } else msixMsg v s

/-- Vectors that wait and are not masked any more send their messages. -/
def msixFlush (s : State) : State :=
  if !s.msixOn then s else
  s.hpt.pba.foldl (fun s e => if s.msixMasked e.1 then s else msixMsg e.1 { s with hpt.pba := mdel s.hpt.pba e.1 }) s

/-- BAR2 as it reads: the table of the QUEUES record's vectors at 0, the PBA at 0x1_0000; all else 0 (R225). -/
def State.bar2Read (s : State) (d : Nat) : Nat :=
  let n := s.fld HPT_QCFG_VEC
  if d < 4 * n then s.msixDw d
  else if 16384 ≤ d && d < 16384 + ceilDiv n 32 then
    (List.range 32).foldl (fun v i => if mget false s.hpt.pba (32 * (d - 16384) + i) then v + 2 ^ i else v) 0
  else 0

/-- A write to BAR2: the table's dwords; all else is ignored. -/
def bar2Write (d be data : Nat) (s : State) : State :=
  if 4 * s.fld HPT_QCFG_VEC ≤ d then s else
  let m := match d % 4 with | 0 => 0xFFFFFFFC | 3 => 1 | _ => 0xFFFFFFFF
  let v := beWrite m be (s.msixDw d) data
  msixFlush { s with hpt.msix := mput (if d % 4 = 3 then 1 else 0) s.hpt.msix d v }

/-! ### Dropping commands (R230 steps 1 to 3, R253) -/

/-- Forget the unfinished work of a command: what waits for placement, merges, trims, reads, deliveries. -/
def dropWork (id : Nat) (s : State) : State :=
  { s with
    txe.waiting := s.txe.waiting.filter fun w => w.1 % 2 ^ 64 != id
    txe.merges := s.txe.merges.filter fun m => m.2.cmd != id
    txe.trimQ := s.txe.trimQ.filter fun t => t.1 != id
    tck.jobs := s.tck.jobs.map fun j => (j.1, match j.2.client with | .host k _ => if k = id then { j.2 with client := .none } else j.2 | _ => j.2)
    lex.deliv := mdel s.lex.deliv id
    lex.fb := mdel s.lex.fb id
    lex.fbWait := mdel s.lex.fbWait id
    fab.h2c := mdel s.fab.h2c id
    hpt.aers := s.hpt.aers.filter (· != id)
    hpt.held := s.hpt.held.filter (· != id)
    hpt.fwWait := s.hpt.fwWait.filter fun w => w.1 != id }

/-- Mark a firmware entry cancelled (R230 step 3, R239): byte 69 bit 0 of the ring entry; it keeps its slot. -/
def fwCancel (i : Nat) (s : State) : State :=
  let a := s.fld HPT_FWRING_LO_ADDR + 2 ^ 32 * s.fld HPT_FWRING_HI_ADDR + 128 * i + 69
  let s := ringWrite s 10 a 1 1
  { s with hpt.fw := match mfind s.hpt.fw i with | some e => mins s.hpt.fw i { e with dead := true } | none => s.hpt.fw }

/-- Act on one command as R230 steps 2 and 3 state.  A write with a unit placed here or, for a mirrored write, ordered by the
partner, and a namespace operation under way, end without a completion. -/
def dropCmd (id : Nat) (c : Cmd) (s : State) : State :=
  if c.phase = 4 || c.phase = 9 || (c.phase = 10 && (c.appended || c.msn.isSome)) then modCmd s id fun c => { c with dropped := true }
  else
    let s := match c.fw with | some i => if c.phase = 7 then fwCancel i s else s | none => s
    let s := skipMsn c.msn (dropWork id s)
    { s with cmds := mdel s.cmds id }

/-- Act on the commands that p names. -/
def dropCmds (p : Cmd → Bool) (s : State) : State := (s.cmds.filter fun e => p e.2).foldl (fun s e => dropCmd e.1 e.2 s) s

/-- R230 steps 1 to 4 for the PCIe controller. -/
def hostStop (s : State) : State :=
  let s := dropCmds (fun c => c.port = 0) s
  { s with hpt.sqs := [], hpt.cqs := [], hpt.aenQ := [], hpt.held := [], hpt.turn := (0, 0), hpt.wrr := [] }

/-- The modes in which CSTS.RDY follows CC.EN (R32, R231). -/
def State.rdyMode (s : State) : Bool := s.mode = mSERVICE || s.mode = mSOLO || s.mode = mSPENT || s.mode = mDRAIN || s.mode = mDORMANT

/-- CSTS.RDY and CSTS.CFS follow CC.EN and the mode (R32, R226). -/
def rdySettle (s : State) : State :=
  (s.setFld HPT_STAT_RDY (b2n (s.flag HPT_STAT_EN && s.rdyMode))).setFld HPT_STAT_CFS (b2n (s.mode = mRECOVERY))

/-- A controller reset (R230): features and the reservation return to their reset state too (R228, R238). -/
def hostReset (s : State) : State :=
  let was := s.flag HPT_STAT_EN
  let s := hostStop s
  let s := { s with hpt.feats := s.hpt.feats.filter (fun f => f.1 / 2 ^ 20 != 1), hpt.reserved := mdel s.hpt.reserved 1, hpt.cc := s.hpt.cc &&& (2 ^ 32 - 2) }
  let s := rdySettle (((s.setFld HPT_STAT_EN 0).setFld HPT_STAT_RDY 0).setFld HPT_STAT_SHST 0)
  if was then raise EV_HPT_CCEN 0 s else s

/-- The NVMe controller's registers and configuration space at reset. -/
def hostRegsReset (s : State) : State := { s with hpt.cfg := [], hpt.cc := 0, hpt.aqa := 0, hpt.asq := 0, hpt.acq := 0, hpt.msix := [], hpt.pba := [] }

/-- The link goes down. -/
def linkDown (s : State) : State :=
  let was := s.flag HPT_LINK_UP
  let s := s.setReg HPT_LINK 0
  if was then raise EV_HPT_LINKDOWN 0 s else s

/-- PERST# and hot reset (R223): the link, configuration space and the controller. -/
def pcieReset (s : State) : State := linkDown (hostRegsReset (hostReset s))

/-- PERST (R223). -/
def execPerst (s : State) : Out := .next (if s.domOn dHOST then pcieReset s else s)

/-- HOT_RESET (R223). -/
def execHotReset (s : State) : Out := .next (if s.hptUp then pcieReset s else s)

/-- FUNCTION_LEVEL_RESET (R223): the link stays up. -/
def execFunctionLevelReset (s : State) : Out := .next (if s.hptUp then raise EV_HPT_FLR 0 (pmSettle (hostRegsReset (hostReset s))) else s)

/-- Set the link's status from what the partner supports and what HPT_CTL allows (R220): width code, rate code. -/
def linkSettle (width rate : Nat) (flit : Bool) (s : State) : State :=
  let m := s.fld HPT_CTL_MAXRATE
  let top := if m = 0 || m = 7 then 6 else m
  let r := max 1 (min rate top)
  pmSettle (((s.setFld HPT_LINK_WIDTH (min width (s.fld HPT_CTL_MAXW))).setFld HPT_LINK_RATE r).setFld HPT_LINK_FLIT (b2n (r = 6 || flit)))

/-- PCIE_LINK_UP (R220, R223): the partner's widest width and highest rate, and whether it supports FLIT mode. -/
def execPcieLinkUp (width : Fin 4) (rate : Fin 7) (flit : Bool) (s : State) : Out :=
  .next (if s.domOn dHOST && s.flag HPT_CTL_LINKEN && !s.flag HPT_LINK_UP then
    raise EV_HPT_LINKUP 0 (linkSettle width rate flit (s.setFld HPT_LINK_UP 1)) else s)

/-- PCIE_LINK_DOWN (R223): a lost link acts as a hot reset. -/
def execPcieLinkDown (s : State) : Out := .next (if s.hptUp then pcieReset s else s)

/-- LINK_RETRAIN (R220): HPT_CTL.RETRAIN, with what the partner supports. -/
def execLinkRetrain (m : MasterId) (width : Fin 4) (rate : Fin 7) (flit : Bool) (s : State) : Out :=
  .next (regCmd m HPT_CTL 0 (fun s => if s.hptUp then linkSettle width rate flit s else s) s)

/-! ### Controller enable, disable, shutdown -/

/-- CC.EN goes from 0 to 1 (R32, R226): the admin queues stand as AQA, ASQ and ACQ give them. -/
def ctlEnable (cc : Nat) (s : State) : State :=
  let s := { s with
    hpt.cc := cc ||| 1
    hpt.sqs := [(0, { base := s.hpt.asq / 4096 * 4096, size := nbits s.hpt.aqa 0 12 + 1 })]
    hpt.cqs := [(0, { base := s.hpt.acq / 4096 * 4096, size := nbits s.hpt.aqa 16 12 + 1, ien := true })] }
  raise EV_HPT_CCEN 1 (rdySettle (s.setFld HPT_STAT_EN 1))

/-- CONTROLLER_ENABLE (R32, R226): AQA, ASQ and ACQ are written, then CC with EN = 1. -/
def execControllerEnable (cc aqa : Word) (asq acq : DWord) (s : State) : Out :=
  .next (if !s.hptUp || s.flag HPT_STAT_EN then s else
    ctlEnable cc.toNat { s with hpt.aqa := aqa.toNat, hpt.asq := asq.toNat, hpt.acq := acq.toNat })

/-- CONTROLLER_DISABLE (R230): CC.EN goes from 1 to 0. -/
def execControllerDisable (s : State) : Out := .next (if s.hptUp && s.flag HPT_STAT_EN then hostReset s else s)

/-- CC.SHN normal (1) or abrupt (2), which act alike (R212). -/
def shutdownNotify (shn : Nat) (s : State) : State :=
  shutdownStart true (raise EV_HPT_SHN 0 ({ s with hpt.cc := s.hpt.cc % 2 ^ 14 + shn * 2 ^ 14 + s.hpt.cc / 2 ^ 16 * 2 ^ 16 }.setFld HPT_STAT_SHST 1))

/-- SHUTDOWN_NOTIFICATION (R212). -/
def execShutdownNotification (shn : Fin 4) (s : State) : Out :=
  .next (if !s.hptUp || !s.flag HPT_STAT_EN || shn = 0 || shn = 3 then s else shutdownNotify shn s)

/-- CC is written (R226, R230, R212): EN rises or falls, or with EN = 1 a shutdown is notified. -/
def ccWrite (v : Nat) (s : State) : State :=
  let was := s.flag HPT_STAT_EN
  let shn := nbits v 14 2
  if !was && nbit v 0 then ctlEnable v s
  else if was && !nbit v 0 then hostReset { s with hpt.cc := v }
  else if was && (shn = 1 || shn = 2) && shn != nbits s.hpt.cc 14 2 then shutdownNotify shn { s with hpt.cc := v }
  else { s with hpt.cc := v }

/-! ### Asynchronous events (R243) -/

/-- The Asynchronous Event Configuration (feature 0x0B, R237) of a controller lets an event through: SMART and health events by the bits of Critical
Warning, notices by their bit; the bits are the standard's (PRESUMED, log 6). -/
def State.aenOn (s : State) (ctl v : Nat) : Bool :=
  let f := mget 0 s.hpt.feats (ctl * 2 ^ 20 + 0x0B)
  let info := nbits v 8 8
  match v % 8 with
  | 1 => if info = 0 then nbits f 2 3 != 0 else if info = 1 then nbit f 1 else if info = 2 then nbit f 0 else true
  | 2 => if info ≤ 6 then nbit f (8 + info) else true
  | _ => true

/-- Post an event: it completes the oldest outstanding request, or is queued, up to 8, or is dropped; one that the controller's configuration masks is not
posted. -/
def aenPost (v : Nat) (s : State) : State :=
  match s.hpt.aers with
  | id :: r =>
    let ctl := match s.cmd id with | some c => c.ctl | none => 1
    if !s.aenOn ctl v then s else finish id 0 0 (modCmd { s with hpt.aers := r } id fun c => { c with dw0 := v })
  | [] => if !s.aenOn 1 v then s else if s.hpt.aenQ.length < 8 then { s with hpt.aenQ := s.hpt.aenQ ++ [v] } else s.setFld HPT_STAT_AENLOST 1

/-- AEN_POST (R243): HPT_AEN is written with GO. -/
def execAenPost (m : MasterId) (type : Fin 8) (info lid : Byte) (s : State) : Out :=
  .next (regCmd m HPT_AEN 0 (fun s =>
    aenPost (type.val + info.toNat * 2 ^ 8 + lid.toNat * 2 ^ 16) (((s.setFld HPT_AEN_TYPE type).setFld HPT_AEN_INFO info.toNat).setFld HPT_AEN_LID lid.toNat)) s)

/-! ### Doorbells (R225, R232) -/

/-- A doorbell write that breaks the standard's rules is ignored (R232): Invalid Doorbell Register (0) or Invalid Doorbell Write
Value (1), with the Error Information log page. -/
def dbErr (info : Nat) (s : State) : State :=
  raise EV_HPT_DBERR 0 (aenPost (info * 2 ^ 8 + 1 * 2 ^ 16) ((s.setFld HPT_STAT_DBERR 1).inc HPT_DBERRCNT_COUNT))

/-- A command arrives while PS4 is being entered: it is held, and the device is to leave DORMANT at once (R34). -/
def dormHold (s : State) : State := if s.pwr.dormEntry then { s with pwr.cmdHeld := true } else s

/-- Commands wait: during an entry to PS3 or PS4 (R34), and while the DVFS sequencer runs (R36). -/
def State.cmdsWait (s : State) : Bool := s.pwr.dormEntry || s.pwr.drainEntry || s.flag PWR_MODE_BUSY && s.pwr.psPend.isNone

/-- A tail is written: it must lie in the queue, differ from the old one and not pass the head.  A doorbell beyond the queue count is no doorbell, and
the write is ignored (R225). -/
def sqTail (qid n : Nat) (s : State) : State :=
  if s.fld HPT_QCFG_IOQ < qid then s else
  match mfind s.hpt.sqs qid with
  | none => dbErr 0 s
  | some q =>
    if q.size ≤ n then dbErr 1 s else
    let old := (q.tail + q.size - q.head) % q.size
    let new := (n + q.size - q.head) % q.size
    if new ≤ old then dbErr 1 s
    else dormHold { s with hpt.sqs := mins s.hpt.sqs qid { q with tail := n } }

/-- SQ_TAIL_DOORBELL (R225, R232). -/
def execSqTailDoorbell (qid : BitVec 16) (v : BitVec 16) (s : State) : Out := .next (if s.hptUp then sqTail qid.toNat v.toNat s else s)

/-- The entries of a completion queue that the host has not consumed. -/
def Cq.used (q : Cq) : Nat := (q.tail + q.size - q.head) % q.size

/-- A completion queue has no room (R229). -/
def Cq.full (q : Cq) : Bool := (q.tail + 1) % q.size = q.head

/-- A head is written: a new head frees entries that have been posted (R229). -/
def cqHead (qid n : Nat) (s : State) : State :=
  if s.fld HPT_QCFG_IOQ < qid then s else
  match mfind s.hpt.cqs qid with
  | none => dbErr 0 s
  | some q =>
    let new := (n + q.size - q.head) % q.size
    if q.size ≤ n || new = 0 || q.used < new then dbErr 1 s
    else { s with hpt.cqs := mins s.hpt.cqs qid { q with head := n } }

/-- CQ_HEAD_DOORBELL (R225, R229). -/
def execCqHeadDoorbell (qid : BitVec 16) (v : BitVec 16) (s : State) : Out := .next (if s.hptUp then cqHead qid.toNat v.toNat s else s)

/-! ### Requests of the host (R222, R225, R226) -/

/-- CAP as R226 gives it. -/
def capValue : Nat := 16383 + 2 ^ 16 + 2 ^ 17 + 60 * 2 ^ 24 + 2 ^ 37 + 2 ^ 43 + 4 * 2 ^ 52 + 2 ^ 59

/-- The controller registers as BAR0 gives them (R226), by byte offset: CAP, VS, CC, CSTS, AQA, ASQ, ACQ; CMBLOC, CMBSZ, the PMR registers, NSSR and every
other offset read 0. -/
def State.bar0Read (s : State) (off : Nat) : Nat :=
  match off with
  | 0x00 => capValue % 2 ^ 32
  | 0x04 => capValue / 2 ^ 32
  | 0x08 => 0x20000
  | 0x14 => s.hpt.cc
  | 0x1C => s.fld HPT_STAT_RDY + 2 * s.fld HPT_STAT_CFS + 4 * s.fld HPT_STAT_SHST
  | 0x24 => s.hpt.aqa
  | 0x28 => s.hpt.asq % 2 ^ 32
  | 0x2C => s.hpt.asq / 2 ^ 32
  | 0x30 => s.hpt.acq % 2 ^ 32
  | 0x34 => s.hpt.acq / 2 ^ 32
  | _ => 0

/-- A write to BAR0: the controller registers that can be written, and the doorbells from 0x1000, 4 bytes each; all else is ignored (R225). -/
def bar0Write (off be data : Nat) (s : State) : State :=
  let v := beWrite 0xFFFFFFFF be (s.bar0Read off) data
  if 0x1000 ≤ off then
    let k := (off - 0x1000) / 4
    if k % 2 = 0 then sqTail (k / 2) (data % 2 ^ 16) s else cqHead (k / 2) (data % 2 ^ 16) s
  else match off with
    | 0x14 => ccWrite v s
    | 0x24 => { s with hpt.aqa := v &&& 0x0FFF0FFF }
    | 0x28 => { s with hpt.asq := s.hpt.asq / 2 ^ 32 * 2 ^ 32 + v / 4096 * 4096 }
    | 0x2C => { s with hpt.asq := s.hpt.asq % 2 ^ 32 + v * 2 ^ 32 }
    | 0x30 => { s with hpt.acq := s.hpt.acq / 2 ^ 32 * 2 ^ 32 + v / 4096 * 4096 }
    | 0x34 => { s with hpt.acq := s.hpt.acq % 2 ^ 32 + v * 2 ^ 32 }
    | _ => s

/-- A configuration write changes what is writable, and what follows from it. -/
def cfgWrite (off be data : Nat) (s : State) : State :=
  let old := s.cfgRead off
  let v := cfgLegal off old (beWrite (cfgMask off) be old data)
  msixFlush (pmSettle { s with hpt.cfg := if v = s.cfgReset off then mdel s.hpt.cfg off else mins s.hpt.cfg off v })

/-- CONFIG_REQUEST (R222, R225, R226): the host reads or writes a dword of configuration space or, DESIGN CHOICE (log 95), of a BAR, for which the table has
no row of its own.  Configuration requests get Configuration Request Retry Status until CFGREADY; a function that is not in D0 does not answer a
BAR.  A write of Initiate Function Level Reset (Device Control bit 15) is the row FUNCTION_LEVEL_RESET. -/
def execConfigRequest (space : HostSpace) (write : Bool) (dword : Fin 32768) (be : Fin 16) (data : Word) (s : State) : Out :=
  let d := dword.val
  let off := 4 * d
  .next (if !s.hptUp then s else match space with
    | .config =>
      if 1024 ≤ d then s
      else if !s.flag HPT_CTL_CFGREADY then s.emit (.frame "PCIe" "CRS" [off])
      else if write then (cfgWrite off be data.toNat s).emit (.frame "PCIe" "config written" [off])
      else s.emit (.frame "PCIe" "config" [off, s.cfgRead off])
    | .bar0 =>
      if 16384 ≤ d then s
      else if nbits (s.cfgRead 0x044) 0 2 != 0 then s.emit (.frame "PCIe" "unsupported request" [off])
      else if write then bar0Write off be data.toNat s
      else s.emit (.frame "PCIe" "BAR0" [off, s.bar0Read off])
    | .bar2 =>
      if nbits (s.cfgRead 0x044) 0 2 != 0 then s.emit (.frame "PCIe" "unsupported request" [off])
      else if write then bar2Write d be data.toNat s
      else s.emit (.frame "PCIe" "BAR2" [off, s.bar2Read d]))

/-! ### Arbitration and fetch (R228) -/

/-- A submission queue may be fetched from: entries wait, it is not being deleted, its completion queue has room (R229), none of its
commands waits for the firmware ring (R239), and no shutdown holds I/O back (R212). -/
def State.sqReady (s : State) (qid : Nat) : Bool :=
  match mfind s.hpt.sqs qid with
  | none => false
  | some q =>
    q.head != q.tail && q.del.isNone
      && (match mfind s.hpt.cqs q.cq with | some c => !c.full | none => false)
      && !(s.hpt.fwWait.any fun w => match s.cmd w.1 with | some c => c.port = 0 && c.sq = qid | none => false)
      && (qid = 0 || !s.ckp.shut)

/-- Commands taken from a queue per turn: 2^AB, AB at most 3 (R228). -/
def State.burst (s : State) : Nat := 2 ^ min 3 (mget 3 s.hpt.feats (1 * 2 ^ 20 + 1) % 8)

/-- The queue that is served next among some: the one in its turn, up to 2^AB commands, then the next higher one, round robin. -/
def State.nextOf (s : State) (l : List Nat) : Option Nat :=
  let (last, n) := s.hpt.turn
  if l.contains last && n < s.burst then some last else (l.find? fun q => last < q).or l.head?

/-- The weight of a priority class (1 High, 2 Medium, 3 Low) in commands: the field of feature 0x01, which is one less. -/
def State.weightOf (s : State) (cls : Nat) : Nat := nbits (mget 3 s.hpt.feats (2 ^ 20 + 1)) (8 * (4 - cls)) 8 + 1

/-- The priority class of a queue: 0 urgent, 1 high, 2 medium, 3 low. -/
def State.prioOf (s : State) (q : Nat) : Nat := match mfind s.hpt.sqs q with | some x => x.prio | none => 0

/-- The queue that is fetched from next (R228): the admin queue always takes priority; then, with weighted round robin (CC.AMS = 1), urgent queues, and
then the classes High, Medium and Low in rounds, each for its weight in commands (DESIGN CHOICE, log 95: in that order within a round); else round
robin.  The answer's second part is the class served by weight, and whether a new round begins with it. -/
def State.fetchNext (s : State) : Option (Nat × Option (Nat × Bool)) :=
  let ready := (mkeys s.hpt.sqs).filter s.sqReady
  if ready.contains 0 then some (0, none)
  else if nbits s.hpt.cc 11 3 != 1 then (s.nextOf ready).map fun q => (q, none)
  else
    let of (c : Nat) : List Nat := ready.filter fun q => s.prioOf q = c
    if !(of 0).isEmpty then (s.nextOf (of 0)).map fun q => (q, none)
    else
      match [1, 2, 3].find? fun c => !(of c).isEmpty && mget 0 s.hpt.wrr c < s.weightOf c with
      | some c => (s.nextOf (of c)).map fun q => (q, some (c, false))
      | none => match [1, 2, 3].find? fun c => !(of c).isEmpty with
        | some c => (s.nextOf (of c)).map fun q => (q, some (c, true))
        | none => none

/-- Queue qid is served next. -/
def State.mayFetch (s : State) (qid : Nat) : Bool := s.fetchNext.any fun f => f.1 = qid

/-- A command has been taken from a queue: the turn, and the share of its class. -/
def fetched (qid : Nat) (cls : Option (Nat × Bool)) (s : State) : State :=
  { s with
    hpt.turn := if s.hpt.turn.1 = qid && s.hpt.turn.2 < s.burst then (qid, s.hpt.turn.2 + 1) else (qid, 1)
    hpt.wrr := match cls with
      | some (c, fresh) => if fresh then [(c, 1)] else mmod 0 s.hpt.wrr c (· + 1)
      | none => s.hpt.wrr }

/-- An admin opcode that HPT knows (R234). -/
def adminKnown (o : Nat) : Bool :=
  [0x00, 0x01, 0x02, 0x04, 0x05, 0x06, 0x08, 0x09, 0x0A, 0x0C, 0x0D, 0x10, 0x11, 0x15, 0x80].contains o || 0xC0 ≤ o

/-- An I/O opcode that HPT knows (R234), of the NVM and the Key Value command sets. -/
def ioKnown (o : Nat) : Bool := [0x00, 0x01, 0x02, 0x08, 0x09, 0x0C].contains o

/-- Enter a fetched command; an opcode that the table does not list completes with Invalid Command Opcode (R234). -/
def enterCmd (port sq sqe : Nat) (s : State) : State :=
  let id := s.hpt.nextCmd
  let c : Cmd := { port, sq, cid := nbits sqe 16 16, sqe, tick := s.fld TCK_COUNT_LO_COUNT }
  let s := { s with hpt.nextCmd := id + 1, cmds := mins s.cmds id c }
  if (if c.isAdmin then adminKnown c.opc else ioKnown c.opc) then s else finishSt id stInvalidOpcode s

/-- COMMAND_FETCH (R228): the entry at the head of a submission queue, as it stands in host memory. -/
def execCommandFetch (qid : BitVec 16) (sqe : BitVec 512) (s : State) : Out :=
  if !s.hptUp || !s.flag HPT_STAT_RDY || s.flag CKP_STAT_BOD || s.pwr.dormEntry || s.hpt.stopped || !s.mayFetch qid.toNat then .next (dormHold s) else
  match mfind s.hpt.sqs qid.toNat with
  | none => .next s
  | some q =>
    let s := hostReads [(q.base + 64 * q.head, 64)] (fetched qid.toNat (s.fetchNext.bind (·.2)) s)
    .next (enterCmd 0 qid.toNat sqe.toNat { s with hpt.sqs := mins s.hpt.sqs qid.toNat { q with head := (q.head + 1) % q.size } })

end Sys2Proof.Machine
end

