-- ==== Sys2Proof/Machine/HostCmds.lean ====
section
/-! DEFINITION. Family: NVMe commands that HPT carries out or hands to firmware (spec/10_host_port.md R227, R233–R243, R30). -/

namespace Sys2Proof.Machine

/-- The connection from which FAB takes the next command (R254): round robin over those with a command waiting, one command per turn. -/
def State.fabNext (s : State) : Option Nat :=
  let l := (s.cmds.filter fun e => 0 < e.2.port && e.2.port < 8192 && e.2.phase = 0).map fun e => e.2.sq
  ((l.filter fun q => s.fab.turn < q).min?).or l.min?

/-- A command of a fabric connection is taken: the oldest of the connection whose turn it is (R254).  Others are not held by this. -/
def State.fabTakes (s : State) (id : Nat) (c : Cmd) : Bool :=
  c.port = 0 || 8192 ≤ c.port || (s.fabNext = some c.sq && !s.cmds.any fun e => e.1 < id && e.2.port = c.port && e.2.sq = c.sq && e.2.phase = 0)

/-- The turn of a fabric connection is over. -/
def fabTaken (c : Cmd) (s : State) : State := if c.port = 0 || 8192 ≤ c.port then s else { s with fab.turn := c.sq }

/-- Act on a fetched admin command with one of the opcodes that p names; SGLs are refused for admin commands on PCIe, and fused
operations are not supported (R234, R235).  Nothing runs while PS4 is being entered (R34). -/
def withAdmin (id : Nat) (p : Nat → Bool) (f : Cmd → State → State) (s : State) : Out :=
  match s.cmd id with
  | none => .next s
  | some c =>
    if c.phase != 0 || !c.isAdmin || c.port ≥ 8192 || !p c.opc || s.cmdsWait || !s.fabTakes id c then .next s
    else
      let s := fabTaken c s
      if c.fuse != 0 || (c.port = 0 && c.psdt != 0) then .next (finishSt id stInvalidField s)
      else .next (f c s)

/-- The data that a command brings: the host's buffer for PCIe, what the capsule and H2CData brought for the fabric. -/
def Cmd.input (c : Cmd) (host : Nat) : Nat := if c.port = 0 then host else c.data

/-- Complete with success and a value in DW0. -/
def finishDw0 (id v : Nat) (s : State) : State := finish id 0 0 (modCmd s id fun c => { c with dw0 := v })

/-! ### Where a command's data lies (R235) -/

/-- The entries of a PRP list at an address, n of them: the reads that fetch it, and the entries; e is what the host holds there, list after list.  The last
slot of a page that does not end the list points to the next one. -/
def prpList (page : Nat) : Nat → Nat → Nat → List Nat → List (Nat × Nat) × List Nat
  | 0, _, _, _ => ([], [])
  | f + 1, a, n, e =>
    let fit := (page - a % page) / 8
    if n ≤ fit then ([(a, 8 * n)], (List.range n).map fun i => nth 0 e i)
    else
      let r := prpList page f (nth 0 e (fit - 1)) (n - (fit - 1)) (e.drop fit)
      ((a, 8 * fit) :: r.1, (List.range (fit - 1)).map (nth 0 e ·) ++ r.2)

/-- Fields of an SGL descriptor: type, subtype, address, length. -/
def sglType (d : Nat) : Nat := nbits d 124 4
def sglSub (d : Nat) : Nat := nbits d 120 4
def sglAddr (d : Nat) : Nat := nbits d 0 64
def sglLen (d : Nat) : Nat := nbits d 64 32

/-- Why a Data Block descriptor is refused: Bit Bucket, Keyed and other types, and what is not a multiple of a dword. -/
def sglBad (d : Nat) : Option Nat :=
  if sglType d != 0 || sglSub d != 0 then some stSglType else if sglAddr d % 4 != 0 || sglLen d % 4 != 0 then some stSglGran else none

/-- The data blocks of the SGL that a Segment or Last Segment descriptor d begins; e is what the host holds in its segments, segment after segment. -/
def sglWalk : Nat → Nat → List Nat → Except Nat (List (Nat × Nat) × List (Nat × Nat))
  | 0, _, _ => .error stSglSegment
  | f + 1, d, e =>
    let n := sglLen d / 16
    if sglSub d != 0 || !(sglType d = 2 || sglType d = 3) then .error stSglType
    else if n = 0 || sglLen d % 16 != 0 then .error stSglSegment
    else
      let ds := (List.range n).map fun i => nth 0 e i
      let last := nth 0 ds (n - 1)
      let on : Bool := sglType d = 2 && (sglType last = 2 || sglType last = 3)
      let blocks := if on then ds.take (n - 1) else ds
      match blocks.findSome? sglBad with
      | some st => .error st
      | none =>
        let here := ((sglAddr d, sglLen d), blocks.map fun b => (sglAddr b, sglLen b))
        if on then (sglWalk f last (e.drop n)).map fun r => (here.1 :: r.1, here.2 ++ r.2)
        else .ok ([here.1], here.2)

/-- Where n bytes of a PCIe command's data lie, by its PRPs or its SGL (R235); e is what the host holds in PRP lists or SGL segments.  The reads that fetch
those, and the segments; or the status it fails with. -/
def State.dataPtrs (s : State) (c : Cmd) (n : Nat) (e : List Nat) : Except Nat (List (Nat × Nat) × List (Nat × Nat)) :=
  if c.psdt = 0 then
    let page := 4096 * 2 ^ nbits s.hpt.cc 7 4
    let p1 := c.cdw 6 + 2 ^ 32 * c.cdw 7
    let p2 := c.cdw 8 + 2 ^ 32 * c.cdw 9
    let first := min n (page - p1 % page)
    let rest := n - first
    if p1 % 4 != 0 then .error stPrpOffset
    else if rest = 0 then .ok ([], if n = 0 then [] else [(p1, n)])
    else if rest ≤ page then (if p2 % page != 0 then .error stPrpOffset else .ok ([], [(p1, first), (p2, rest)]))
    else if p2 % 8 != 0 then .error stPrpOffset
    else
      let k := ceilDiv rest page
      let (rd, es) := prpList page (k + 1) p2 k e
      if es.any fun a => a % page != 0 then .error stPrpOffset
      else .ok (rd, (p1, first) :: es.zipIdx.map fun a => (a.1, min page (rest - a.2 * page)))
  else if c.psdt = 3 then .error stInvalidField
  else
    let d := nbits c.sqe 192 128
    let r : Except Nat (List (Nat × Nat) × List (Nat × Nat)) :=
      if sglType d = 2 || sglType d = 3 then sglWalk (e.length + 1) d e
      else match sglBad d with
        | some st => .error st
        | none => .ok ([], [(sglAddr d, sglLen d)])
    match r with
    | .error st => .error st
    | .ok (rd, l) => if l.foldl (fun t g => t + g.2) 0 < n then .error stSglLength else .ok (rd, sliceSegs l 0 n)

/-- HPT walks the PRPs or SGL of a PCIe command for n bytes, and keeps where they lie or why they cannot be used; a fabric command's data goes by its
connection. -/
def takePtrs (id n : Nat) (e : List Nat) (s : State) : State :=
  match s.cmd id with
  | none => s
  | some c =>
    if c.port != 0 then s else
    match s.dataPtrs c n e with
    | .error st => modCmd s id fun c => { c with segs := [], segErr := st }
    | .ok (rd, l) => hostReads rd (modCmd s id fun c => { c with segs := l, segErr := 0 })

/-- Go on with a command whose data lies where its PRPs or SGL say, or fail it. -/
def withData (id n : Nat) (e : List Nat) (f : State → State) (s : State) : State :=
  let s := takePtrs id n e s
  match s.cmd id with
  | none => s
  | some c => if c.segErr != 0 then finishSt id c.segErr s else f s

/-- The same for a command that brings its data: HPT reads it from host memory. -/
def withInput (id n : Nat) (e : List Nat) (f : State → State) (s : State) : State :=
  withData id n e (fun s => f (match s.cmd id with | some c => hostReads c.segs s | none => s)) s

/-! ### Commands handed to firmware (R234, R239, R242) -/

/-- A page from (offset, bytes, value) fields, little-endian; every other byte is 0. -/
def pageOf (l : List (Nat × Nat × Nat)) : Nat := l.foldl (fun v f => v + f.2.2 % 2 ^ (8 * f.2.1) * 2 ^ (8 * f.1)) 0

/-- Vendor log page 0xC2, wear and spares (R175): the 512 bytes that firmware transfers for Get Log Page. -/
def State.wearPage (s : State) : Nat :=
  pageOf ([(0, 2, 1), (2, 2, s.skm.sp0), (4, 2, s.fld SKM_SPARE_MINLEFT), (6, 2, s.fld SKM_SPARE_MINPOS), (8, 4, s.fld SKM_RETCNT_BLOCKS),
    (12, 2, s.fld SKM_DIERET_DIES), (16, 4, s.fld SKM_WEARMIN_WEAR), (20, 4, s.fld SKM_WEARMAX_WEAR), (24, 4, s.fld SKM_WEARAVG_WEAR),
    (28, 4, s.cur SKM_ENDUR_CYCLES), (32, 8, s.pair SKM_HOSTCW_LO_COUNT SKM_HOSTCW_HI_COUNT), (40, 8, s.pair SKM_NANDCW_LO_COUNT SKM_NANDCW_HI_COUNT)]
    ++ (List.range 4).map (fun c => (48 + 2 * c, 2, mget 0 s.skm.byCause (c + 1)))
    ++ [(56, 4, mget 0 s.skm.byCause 6), (60, 4, s.skm.fgCount), (64, 4, s.fld SKM_FREE_F),
        (68, 4, s.fld SKM_STAT_SPENT + 2 * s.fld SKM_STAT_FG + 4 * s.fld SKM_STAT_SPARELOW)])

/-- Vendor log page 0xC3, lost stripes (R196): 131,088 bytes, a header and the table in index order. -/
def State.lostPage (s : State) : Nat :=
  pageOf [(0, 2, 1), (2, 2, s.fld STE_LOST_COUNT), (4, 4, s.ste.lostOvf), (16, 131072, s.rawNat (s.lsAddr 0) 131072)]

/-- GET_LOG_PAGE (R243). -/
def execGetLogPage (id : Nat) (s : State) : Out := withAdmin id (· = 0x02) (fun _ s => toFirmware id 1 s) s

/-- IDENTIFY (R242). -/
def execIdentify (id : Nat) (s : State) : Out := withAdmin id (· = 0x06) (fun _ s => toFirmware id 1 s) s

/-- FIRMWARE_IMAGE_DOWNLOAD (R234). -/
def execFirmwareImageDownload (id : Nat) (s : State) : Out := withAdmin id (· = 0x11) (fun _ s => toFirmware id 1 s) s

/-- FIRMWARE_COMMIT (R242): action 3 (CDW10 bits 5:3) fails with Invalid Field in Command. -/
def execFirmwareCommit (id : Nat) (s : State) : Out :=
  withAdmin id (· = 0x10) (fun c s => if nbits (c.cdw 10) 3 3 = 3 then finishSt id stInvalidField s else toFirmware id 1 s) s

/-- VENDOR_ADMIN (R234): 0xC0–0xC3 and 0xC5–0xFF. -/
def execVendorAdmin (id : Nat) (s : State) : Out := withAdmin id (fun o => 0xC0 ≤ o && o != 0xC4) (fun _ s => toFirmware id 2 s) s

/-! ### Queues (R227, R233) -/

/-- CREATE_IO_CQ (R227). -/
def execCreateIoCq (id : Nat) (s : State) : Out :=
  withAdmin id (· = 0x05) (fun c s =>
    if c.port != 0 then finishSt id stInvalidOpcode s else
    let qid := nbits (c.cdw 10) 0 16
    let size := nbits (c.cdw 10) 16 16
    let vec := nbits (c.cdw 11) 16 16
    let base := c.cdw 6 + 2 ^ 32 * c.cdw 7
    if qid = 0 || s.fld HPT_QCFG_IOQ < qid || (mfind s.hpt.cqs qid).isSome then finishSt id stInvalidQid s
    else if size = 0 || 16383 < size then finishSt id stInvalidQSize s
    else if s.fld HPT_QCFG_VEC ≤ vec then finishSt id stInvalidVector s
    else if !nbit (c.cdw 11) 0 then finishSt id stInvalidField s
    else if base % 4096 != 0 then finishSt id stPrpOffset s
    else finish id 0 0 { s with hpt.cqs := mins s.hpt.cqs qid { base, size := size + 1, vec, ien := nbit (c.cdw 11) 1 } }) s

/-- CREATE_IO_SQ (R227). -/
def execCreateIoSq (id : Nat) (s : State) : Out :=
  withAdmin id (· = 0x01) (fun c s =>
    if c.port != 0 then finishSt id stInvalidOpcode s else
    let qid := nbits (c.cdw 10) 0 16
    let size := nbits (c.cdw 10) 16 16
    let cq := nbits (c.cdw 11) 16 16
    let base := c.cdw 6 + 2 ^ 32 * c.cdw 7
    if qid = 0 || s.fld HPT_QCFG_IOQ < qid || (mfind s.hpt.sqs qid).isSome then finishSt id stInvalidQid s
    else if size = 0 || 16383 < size then finishSt id stInvalidQSize s
    else if !nbit (c.cdw 11) 0 then finishSt id stInvalidField s
    else if cq = 0 then finishSt id stInvalidQid s
    else if (mfind s.hpt.cqs cq).isNone then finishSt id stCqInvalid s
    else if base % 4096 != 0 then finishSt id stPrpOffset s
    else finish id 0 0 { s with hpt.sqs := mins s.hpt.sqs qid { base, size := size + 1, cq, prio := nbits (c.cdw 11) 1 2 } }) s

/-- DELETE_IO_CQ (R227). -/
def execDeleteIoCq (id : Nat) (s : State) : Out :=
  withAdmin id (· = 0x04) (fun c s =>
    if c.port != 0 then finishSt id stInvalidOpcode s else
    let qid := nbits (c.cdw 10) 0 16
    if qid = 0 || (mfind s.hpt.cqs qid).isNone then finishSt id stInvalidQid s
    else if s.hpt.sqs.any fun q => q.2.cq = qid then finishSt id stQDeletion s
    else finish id 0 0 { s with hpt.cqs := mdel s.hpt.cqs qid }) s

/-- Commands that no unit of has been placed, and that are not reading, in the firmware ring or completed. -/
def State.unplaced (s : State) (id : Nat) (c : Cmd) : Bool :=
  c.phase = 0 || c.phase = 3 || c.phase = 5 || c.phase = 14 || (c.phase = 10 && !c.appended && c.msn.isNone) || s.hpt.fwWait.any fun w => w.1 = id

/-- Deletions of submission queues of which every fetched command has completed, complete (R233). -/
def sqDelSettle (s : State) : State :=
  s.hpt.sqs.foldl (fun s q => match q.2.del with
    | some id =>
      if s.cmds.any fun c => c.2.port = 0 && c.2.sq = q.1 then s
      else finish id 0 0 { s with hpt.sqs := mdel s.hpt.sqs q.1 }
    | none => s) s

/-- DELETE_IO_SQ (R233): commands not yet placed complete with Command Aborted due to SQ Deletion. -/
def execDeleteIoSq (id : Nat) (s : State) : Out :=
  withAdmin id (· = 0x00) (fun c s =>
    if c.port != 0 then finishSt id stInvalidOpcode s else
    let qid := nbits (c.cdw 10) 0 16
    match mfind s.hpt.sqs qid with
    | none => finishSt id stInvalidQid s
    | some q =>
      if qid = 0 || q.del.isSome then finishSt id stInvalidQid s else
      let s := modCmd { s with hpt.sqs := mins s.hpt.sqs qid { q with del := some id } } id fun c => { c with phase := 9 }
      let s := (s.cmds.filter fun e => e.2.port = 0 && e.2.sq = qid && s.unplaced e.1 e.2).foldl (fun s e => finishSt e.1 stSqDeletion (skipMsn e.2.msn (dropWork e.1 s))) s
      sqDelSettle s) s

/-- ABORT (R233): succeeds only for a command not passed to STE, TXE or the firmware ring; four may be outstanding. -/
def execAbort (id : Nat) (s : State) : Out :=
  withAdmin id (· = 0x08) (fun c s =>
    if 4 < (s.cmds.filter fun e => e.2.port = c.port && e.2.isAdmin && e.2.opc = 0x08).length then finishSt id stAbortLimit s else
    let sq := nbits (c.cdw 10) 0 16
    let cid := nbits (c.cdw 10) 16 16
    match s.cmds.find? fun e => e.2.port = c.port && e.1 != id && e.2.sq = sq && e.2.cid = cid && !e.2.passed
        && (e.2.phase = 0 || e.2.phase = 8 || s.hpt.fwWait.any fun w => w.1 = e.1) with
    | some e => finishDw0 id 0 (finishSt e.1 stAbortRequested (dropWork e.1 s))
    | none => finishDw0 id 1 s) s

/-! ### Features (R237, R30) -/

/-- The features that HPT handles itself. -/
def hwFeature (f : Nat) : Bool := [0x01, 0x06, 0x07, 0x08, 0x09, 0x0A, 0x0B].contains f

/-- The value of a feature after a controller reset. -/
def State.featDefault (s : State) (c : Cmd) (f : Nat) : Nat :=
  if f = 0x01 then 3
  else if f = 0x07 then
    let n := (if c.port = 0 then s.fld HPT_QCFG_IOQ else s.cur FAB_ASSOC_MAXIOQ) - 1
    n + n * 2 ^ 16
  else if f = 0x09 then nbits (c.cdw 11) 0 16
  else 0

/-- The key of a feature in Hpt.feats: controller × 2^20 + identifier, or + 2^16 + vector for Interrupt Vector Configuration. -/
def featKey (c : Cmd) (f : Nat) : Nat := c.ctl * 2 ^ 20 + (if f = 0x09 then 2 ^ 16 + nbits (c.cdw 11) 0 16 else f)

/-- SET_FEATURES (R237, R227). -/
def execSetFeatures (id : Nat) (s : State) : Out :=
  withAdmin id (· = 0x09) (fun c s =>
    let f := nbits (c.cdw 10) 0 8
    let v := c.cdw 11
    if f = 0x02 then s
    else if !hwFeature f then toFirmware id 1 s
    else if nbit (c.cdw 10) 31 then finishSt id stNotSaveable s
    else if f = 0x06 then finishSt id stInvalidField s
    else if f = 0x07 then
      let busy : Bool := if c.port = 0 then s.hpt.sqs.any (fun q => q.1 != 0) || s.hpt.cqs.any (fun q => q.1 != 0)
        else s.fab.ctxs.any fun x => x.2.io && x.2.assoc = c.port - 1 && x.2.state = 4
      if busy then finishSt id stSequence s else finishDw0 id (s.featDefault c f) s
    else if f = 0x09 && s.fld HPT_QCFG_VEC ≤ nbits v 0 16 then finishSt id stInvalidField s
    else
      let v := if f = 0x01 then v - v % 8 + min 3 (v % 8) else if f = 0x08 then v % 2 ^ 16 else if f = 0x09 then v % 2 ^ 17
        else if f = 0x0A then v % 2 else v
      finish id 0 0 { s with hpt.feats := mins s.hpt.feats (featKey c f) v }) s

/-- A paired device that holds a mirrored namespace (R30). -/
def State.holdsMirrored (s : State) : Bool := s.flag PLK_ROLE_IMAGE && (List.range 128).any fun k => s.nsExists k && s.mirrored k

/-- SET_FEATURES_POWER_MANAGEMENT (R30): refused in SOLO and SPENT for PS3 and PS4, and for PS4 on a paired device that holds a
mirrored namespace; else firmware enters the state. -/
def execSetFeaturesPowerManagement (id : Nat) (s : State) : Out :=
  withAdmin id (· = 0x09) (fun c s =>
    let ps := nbits (c.cdw 11) 0 5
    if nbits (c.cdw 10) 0 8 != 0x02 then s
    else if (ps = 3 || ps = 4) && (s.mode = mSOLO || s.mode = mSPENT) then finishSt id stInvalidField s
    else if ps = 4 && s.holdsMirrored then finishSt id stInvalidField s
    else toFirmware id 1 s) s

/-- GET_FEATURES (R237): SEL 0 current, 1 default, 2 saved (the default), 3 capabilities. -/
def execGetFeatures (id : Nat) (s : State) : Out :=
  withAdmin id (· = 0x0A) (fun c s =>
    let f := nbits (c.cdw 10) 0 8
    let sel := nbits (c.cdw 10) 8 3
    if !hwFeature f then toFirmware id 1 s
    else if 3 < sel || (f = 0x09 && s.fld HPT_QCFG_VEC ≤ nbits (c.cdw 11) 0 16) then finishSt id stInvalidField s
    else if sel = 3 then finishDw0 id (if f = 0x06 || f = 0x07 then 0 else 4) s
    else if sel = 0 then finishDw0 id (mget (s.featDefault c f) s.hpt.feats (featKey c f)) s
    else finishDw0 id (s.featDefault c f) s) s

/-! ### Asynchronous Event Request (R243) -/

/-- ASYNCHRONOUS_EVENT_REQUEST: at most eight are held (AERL = 7); a queued event completes it at once. -/
def execAsynchronousEventRequest (id : Nat) (s : State) : Out :=
  withAdmin id (· = 0x0C) (fun c s =>
    if 8 ≤ (s.hpt.aers.filter fun a => match s.cmd a with | some x => x.port = c.port | none => false).length then finishSt id stAerLimit s
    else match s.hpt.aenQ with
      | v :: r => finishDw0 id v { s with hpt.aenQ := r }
      | [] => modCmd { s with hpt.aers := s.hpt.aers ++ [id] } id fun c => { c with phase := 8 }) s

/-! ### Namespaces (R238, R153, R154, R291) -/

/-- The slot of an NSID. -/
def State.slotOf (s : State) (nsid : Nat) : Option Nat :=
  (List.range 128).find? fun k => s.flag TXE_NSCFG_DECL k && mget 0 s.txe.nsid k = nsid && nsid != 0

/-- A slot is visible to a controller (R44: flag bit 1 for PCIe, bit 2 for the fabric). -/
def State.visible (s : State) (ctl slot : Nat) : Bool := nbit (mget 0 s.txe.flags slot) (if ctl = 1 then 1 else 2)

/-- Units that a size in LBAs takes in a slot (R153). -/
def State.unitsFor (s : State) (slot nsze lbas : Nat) : Nat := ceilDiv (nsze * (if lbas = 1 then 4096 else 512)) (s.slotCw slot * 4096)

/-- Send a namespace operation to the partner (R291): op (1 create, 2 delete, 3 format), slot, LBA format, NSZE. -/
def sendNsop (id op slot lbas nsze : Nat) (s : State) : State :=
  let (t, s) := newTag s
  pairSend 10 0 0 t (op + slot * 2 ^ 8 + lbas * 2 ^ 16 + nsze * 2 ^ 64) 16 { s with plk.nsops := s.plk.nsops ++ [(id, t, none)] }

/-- Create a namespace in an empty slot (R153): the command waits for the zeroing of its entries. -/
def nsCreateIn (id slot nsze lbas : Nat) (s : State) : State :=
  let n := s.unitsFor slot nsze lbas
  let seq := s.pair TXE_SEQ_LO_SEQ TXE_SEQ_HI_SEQ
  let s := (s.setPair TXE_NSUNITS_LO_UNITS TXE_NSUNITS_HI_UNITS n slot).setPair TXE_NSBIRTH_LO_BIRTHSEQ TXE_NSBIRTH_HI_BIRTHSEQ seq slot
  let s := (s.setFld TXE_NSCFG_LBAS lbas slot).setFld TXE_NSCFG_ZEROING 1 slot
  let s := { s with txe.nsze := mput 0 s.txe.nsze slot nsze, txe.zeroing := s.txe.zeroing ++ [(slot, id)] }
  modCmd s id fun c => { c with phase := 9, slot, dw0 := mget 0 s.txe.nsid slot }

/-- NAMESPACE_CREATE (R238): the host's buffer holds the data structure: NSZE in bytes 0–7, NCAP 8–15, FLBAS 26, DPS 29. -/
def execNamespaceCreate (id host : Nat) (s : State) : Out :=
  withAdmin id (· = 0x0D) (fun c s =>
    let d := c.input host
    let n := nbits d 0 64
    let flbas := nbits d 208 8
    let lbas := flbas % 16
    if nbits (c.cdw 10) 0 4 != 0 then s
    else withInput id 4096 [] (fun s =>
    if n != nbits d 64 64 || n = 0 then finishSt id stInvalidField s
    else if 1 < lbas || flbas / 16 != 0 || nbits d 232 8 != 0 then finishSt id stInvalidFormat s
    else
      let go (slot : Nat) (s : State) : State :=
        if s.mirrored slot then
          if s.mode != mSERVICE then finishSt id stSequence s else sendNsop id 1 slot lbas n (nsCreateIn id slot n lbas s)
        else nsCreateIn id slot n lbas s
      match mfind s.hpt.reserved c.ctl with
      | some slot =>
        if mget 0 s.txe.maxUnits slot < s.unitsFor slot n lbas then finishSt id stNsCapacity s
        else if s.nsExists slot || s.flag TXE_NSCFG_ZEROING slot then finishSt id stNsIdUnavailable s
        else go slot s
      | none =>
        match (List.range 128).find? fun k =>
            s.flag TXE_NSCFG_DECL k && !s.nsExists k && !s.flag TXE_NSCFG_ZEROING k && !s.mirrored k && s.visible 1 k
              && !(s.hpt.reserved.any fun r => r.2 = k) && s.unitsFor k n lbas ≤ mget 0 s.txe.maxUnits k with
        | some slot => go slot s
        | none => finishSt id stNsIdUnavailable s) s) s

/-- The slots that a command's NSID names; 0xFFFF_FFFF names every namespace its controller may see. -/
def State.namedSlots (s : State) (c : Cmd) : List Nat :=
  if c.nsid = 0xFFFFFFFF then (List.range 128).filter fun k => s.nsExists k && s.visible c.ctl k
  else match s.slotOf c.nsid with
    | some k => if s.nsExists k then [k] else []
    | none => []

/-- Begin to delete slots for a command (R154). -/
def nsDeleteBegin (id : Nat) (slots : List Nat) (s : State) : State :=
  nsDelete id (modCmd { s with txe.deleting := s.txe.deleting ++ slots.map fun k => (k, 0, id, 0) } id fun c => { c with phase := 9 })

/-- NAMESPACE_DELETE (R154, R238): the command names its namespaces, which go as soon as no unit of them is in the placement table. -/
def execNamespaceDelete (id : Nat) (s : State) : Out :=
  match s.cmd id with
  | some c =>
    if c.phase = 9 then .next (nsDelete id s) else
    withAdmin id (· = 0x0D) (fun c s =>
      let slots := (s.namedSlots c).filter fun k => !(s.txe.deleting.any fun d => d.1 = k)
      if nbits (c.cdw 10) 0 4 != 1 then s
      else if slots.isEmpty then (if c.nsid = 0xFFFFFFFF then finish id 0 0 s else finishSt id stInvalidNs s)
      else if slots.any s.mirrored && s.mode != mSERVICE then finishSt id stSequence s
      else
        let s := (slots.filter s.mirrored).foldl (fun s k => sendNsop id 2 k 0 0 s) s
        nsDeleteBegin id slots s) s
  | none => .next s

/-- A controller exists: the PCIe controller, or the fabric controller of a bound admin connection (R252). -/
def State.ctlExists (s : State) (ctl : Nat) : Bool :=
  ctl = 1 || (0x1000 ≤ ctl && match mfind s.fab.ctxs (ctl - 0x1000) with | some x => x.state = 4 && !x.io | none => false)

/-- Attach or detach a namespace (R238). -/
def nsAttach (id : Nat) (detach : Bool) (host : Nat) (s : State) : Out :=
  withAdmin id (· = 0x15) (fun c s =>
    if nbits (c.cdw 10) 0 4 != (if detach then 1 else 0) then s else withInput id 4096 [] (fun s =>
    match s.slotOf c.nsid with
    | none => finishSt id stInvalidNs s
    | some slot =>
      let d := c.input host
      let l := (List.range (min (nbits d 0 16) 2047)).map fun i => nbits d (16 + 16 * i) 16
      let now := mget [] s.hpt.attach slot
      if !s.nsExists slot then finishSt id stInvalidNs s
      else if l.isEmpty || l.any fun x => !s.ctlExists x || !s.visible x slot then finishSt id stCtlListInvalid s
      else if detach then
        if l.any fun x => !now.contains x then finishSt id stNsNotAttached s
        else finish id 0 0 ({ s with hpt.attach := mput [] s.hpt.attach slot (now.filter fun x => !l.contains x) }.setFld HPT_STAT_NSCHG 1)
      else if l.any fun x => now.contains x then finishSt id stNsAttached s
      else finish id 0 0 ({ s with hpt.attach := mput [] s.hpt.attach slot (now ++ l.eraseDups) }.setFld HPT_STAT_NSCHG 1)) s) s

/-- NAMESPACE_ATTACH (R238): the host's buffer holds the controller list: the count in bytes 0–1, then the identifiers. -/
def execNamespaceAttach (id host : Nat) (s : State) : Out := nsAttach id false host s

/-- NAMESPACE_DETACH (R238). -/
def execNamespaceDetach (id host : Nat) (s : State) : Out := nsAttach id true host s

/-- Format the namespaces that a command named, those with no unit in the placement table (R238): entries cleared, LBA format
applied, to be covered by a checkpoint.  The namespace keeps its size in bytes. -/
def fmtGo (id lbas : Nat) (s : State) : State :=
  (s.hpt.format.filter fun d => d.2.2.1 = id && d.2.1 = 0).foldl (fun s d =>
    let slot := d.1
    if s.txe.place.any fun p => p.slot = slot then s else
    let s := wipeSlot slot s
    let bytes := mget 0 s.txe.nsze slot * s.lbaBytes slot
    let s := (s.setFld TXE_NSCFG_LBAS lbas slot).setFld HPT_STAT_NSCHG 1
    { s with
      txe.nsze := mput 0 s.txe.nsze slot (bytes / s.lbaBytes slot)
      hpt.format := s.hpt.format.map fun x => if x = d then (slot, 1, id, s.nextCkp) else x }) s

/-- Begin to format slots for a command. -/
def fmtBegin (id lbas : Nat) (slots : List Nat) (s : State) : State :=
  fmtGo id lbas (modCmd { s with hpt.format := s.hpt.format ++ slots.map fun k => (k, 0, id, 0) } id fun c => { c with phase := 9, dw1 := lbas })

/-- FORMAT_NVM (R238): LBAF CDW10 3:0, SES 11:9; SES 2, any LBAF other than 0 or 1, and any metadata or protection setting fail with
Invalid Format. -/
def execFormatNvm (id : Nat) (s : State) : Out :=
  match s.cmd id with
  | some c =>
    if c.phase = 9 then .next (fmtGo id c.dw1 s) else
    withAdmin id (· = 0x80) (fun c s =>
      let lbaf := nbits (c.cdw 10) 0 4
      let ses := nbits (c.cdw 10) 9 3
      let slots := s.namedSlots c
      if 1 < lbaf || ses = 2 || nbits (c.cdw 10) 4 5 != 0 || nbits (c.cdw 10) 12 2 != 0 then finishSt id stInvalidFormat s
      else if 2 < ses then finishSt id stInvalidField s
      else if slots.isEmpty then (if c.nsid = 0xFFFFFFFF then finish id 0 0 s else finishSt id stInvalidNs s)
      else if slots.any fun k => s.hpt.format.any fun d => d.1 = k then finishSt id stFormatInProgress s
      else if slots.any fun k => s.txe.deleting.any fun d => d.1 = k then finishSt id stInvalidNs s
      else if slots.any s.mirrored && s.mode != mSERVICE then finishSt id stSequence s
      else
        let s := (slots.filter s.mirrored).foldl (fun s k => sendNsop id 3 k lbaf 0 s) s
        fmtBegin id lbaf slots s) s
  | none => .next s

/-- RESERVE_SLOT (R238): CDW10 bits 6:0 the slot, bit 31 CLEAR. -/
def execReserveSlot (id : Nat) (s : State) : Out :=
  withAdmin id (· = 0xC4) (fun c s =>
    let slot := nbits (c.cdw 10) 0 7
    if nbit (c.cdw 10) 31 then finish id 0 0 { s with hpt.reserved := mdel s.hpt.reserved c.ctl }
    else if !s.flag TXE_NSCFG_DECL slot || s.nsExists slot || s.flag TXE_NSCFG_ZEROING slot || !s.visible 1 slot
        || s.hpt.reserved.any (fun r => r.2 = slot && r.1 != c.ctl) then finishSt id stInvalidField s
    else finish id 0 0 { s with hpt.reserved := mins s.hpt.reserved c.ctl slot }) s

/-! ### I/O commands (R235) -/

/-- The namespace key of a slot can be used: resident (R318), CIPHER up, the microcode valid (R312). -/
def State.keyReady (s : State) (slot : Nat) : Bool := s.domOn dCIPHER && s.flag CIP_STAT_UCVALID && (s.restKey slot).isSome

/-- The checks of R235 in turn (with R238, R304, R318, R31, R290): the status that an I/O command fails with, if it fails.  mdts says that
the transfer is bounded. -/
def State.ioStatus (s : State) (c : Cmd) (slot slba nlb : Nat) (write mdts : Bool) : Option Nat :=
  if !s.nsExists slot || (s.txe.deleting.any fun d => d.1 = slot) || !(mget [] s.hpt.attach slot).contains c.ctl then some stInvalidNs
  else if s.hpt.format.any fun d => d.1 = slot then some stFormatInProgress
  else if s.mirrored slot && s.fld PLK_ANA_STATE = 0xF then some stAnaTransition
  else if s.mirrored slot && s.fld PLK_ANA_STATE = 3 then some stAnaInaccessible
  else if !s.keyReady slot then some stNsNotReady
  else if mdts && 2 ^ 20 < nlb * s.lbaBytes slot then some stInvalidField
  else if mget 0 s.txe.nsze slot < slba + nlb then some stLbaRange
  else if write && (s.mode = mSPENT || (s.mirrored slot && s.plk.pSpent)) then some stWriteProtected
  else none

/-- A command that writes, of the NVM or the Key Value command set. -/
def Cmd.writes (c : Cmd) : Bool := !c.isAdmin && (c.opc = 0x01 || c.opc = 0x08 || c.opc = 0x09)

/-- An earlier write of the same PCIe submission queue has not been taken up yet: HPT passes write data on in fetch order (R228). -/
def State.behind (s : State) (id : Nat) (c : Cmd) : Bool :=
  c.port = 0 && c.writes && s.cmds.any fun e => e.1 < id && e.2.port = 0 && e.2.sq = c.sq && e.2.writes && e.2.phase = 0

/-- Act on a fetched I/O command with an opcode, through the checks. -/
def withIo (id opc slba nlb : Nat) (write mdts : Bool) (f : Nat → Cmd → State → State) (s : State) : Out :=
  match s.cmd id with
  | none => .next s
  | some c =>
    if c.phase != 0 || c.isAdmin || 8192 ≤ c.port || c.opc != opc || s.cmdsWait || s.behind id c || !s.fabTakes id c then .next s
    else
    let s := fabTaken c s
    if c.fuse != 0 then .next (finishSt id stInvalidField s)
    else match s.slotOf c.nsid with
      | none => .next (finishSt id stInvalidNs s)
      | some slot =>
        let s := modCmd s id fun c => { c with slot, slba, nlb }
        match s.ioStatus c slot slba nlb write mdts with
        | some st =>
          let s := if st = stNsNotReady then raise EV_CIP_NOKEY (mget 0 s.txe.key slot) (s.inc CIP_NOKEY_COUNT) else s
          .next (finishSt id st s)
        | none => .next (f slot { c with slot, slba, nlb } s)

/-- SLBA and number of LBAs of a Read, Write, Write Zeroes or Verify. -/
def Cmd.slbaOf (c : Cmd) : Nat := c.cdw 10 + 2 ^ 32 * c.cdw 11
def Cmd.nlbOf (c : Cmd) : Nat := nbits (c.cdw 12) 0 16 + 1

/-- SLBA and number of LBAs of the command in flight. -/
def State.lbasOf (s : State) (id : Nat) : Nat × Nat := match s.cmd id with | some c => (c.slbaOf, c.nlbOf) | none => (0, 0)

/-- FLUSH (R235): completes at once. -/
def execFlush (id : Nat) (s : State) : Out :=
  match s.cmd id with
  | some c =>
    if c.nsid = 0xFFFFFFFF && c.phase = 0 && !c.isAdmin && c.port < 8192 && c.opc = 0 then .next (finish id 0 0 s)
    else withIo id 0x00 0 0 false false (fun _ _ s => finish id 0 0 s) s
  | none => .next s

/-- READ (R235): to be looked up under R140; ptrs is what the host holds in the command's PRP lists or SGL segments. -/
def execRead (id : Nat) (ptrs : List Nat) (s : State) : Out :=
  withIo id 0x02 (s.lbasOf id).1 (s.lbasOf id).2 false true (fun slot c s =>
    withData id (c.nlb * s.lbaBytes slot) ptrs (fun s => modCmd s id fun c => { c with phase := 1, passed := true }) s) s

/-- VERIFY (R235): reads and decodes without a transfer. -/
def execVerify (id : Nat) (s : State) : Out :=
  withIo id 0x0C (s.lbasOf id).1 (s.lbasOf id).2 false false (fun _ _ s => modCmd s id fun c => { c with phase := 1, passed := true }) s

/-- Record ranges (slot, first LBA, LBAs) as trims of their whole units and writes of zeros of their partial ones (R148, R147). -/
def trimRanges (id : Nat) (rs : List (Nat × Nat × Nat)) (s : State) : State :=
  let parts (r : Nat × Nat × Nat) : List (Nat × Nat × Nat) × List Merge :=
    let slot := r.1
    let u := s.slotCw slot
    let ub := u * 4096
    let b := s.lbaBytes slot
    let lo := r.2.1 * b
    let hi := (r.2.1 + r.2.2) * b
    let first := ceilDiv lo ub
    let last := hi / ub
    let mg (x y : Nat) : List Merge := if y ≤ x then [] else [{ slot, lu := x / ub, n := u, ofs := x % ub, len := y - x, bytes := 0, cmd := id }]
    if last < first then ([], mg lo hi)
    else (if first < last then [(slot, first, last - first)] else [], mg lo (first * ub) ++ mg (last * ub) hi)
  let ps := rs.map parts
  let whole := ps.flatMap (·.1)
  let ms := ps.flatMap (·.2)
  if whole.isEmpty && ms.isEmpty then finish id 0 0 s else
  let s := ms.foldl (fun s m => { s with txe.merges := mins s.txe.merges s.txe.nextMerge m, txe.nextMerge := s.txe.nextMerge + 1 }) s
  let s := if whole.isEmpty then s else { s with txe.trimQ := s.txe.trimQ ++ [(id, whole)] }
  modCmd s id fun c => { c with phase := if ms.isEmpty then 5 else 3 }

/-- Hand a write, Store, Write Zeroes or Deallocate to TXE and STE. -/
def placeWrite (id : Nat) (s : State) : State :=
  match s.cmd id with
  | none => s
  | some c =>
    let s := modCmd s id fun c => { c with passed := true }
    if c.kind = 2 then trimRanges id [(c.slot, c.slba, c.nlb)] s
    else if c.kind = 3 then trimRanges id c.ranges s
    else writeUnits id { c with passed := true } s

/-- A write that has passed its checks: at the acting junior of a pair in sync it goes to the senior first (R288), else it is handed
on here. -/
def hostWrite (id : Nat) (s : State) : State :=
  match s.cmd id with
  | none => s
  | some c =>
    if s.mirrored c.slot && s.follows && s.pairState = 2 then
      let (t, s) := newTag s
      sendMwr { c with tag := t } 0 (modCmd s id fun c => { c with tag := t, mirror := true, phase := 10, passed := true })
    else placeWrite id s

/-- WRITE (R235): the host's buffer holds the data. -/
def execWrite (id host : Nat) (ptrs : List Nat) (s : State) : Out :=
  withIo id 0x01 (s.lbasOf id).1 (s.lbasOf id).2 true true (fun slot c s =>
    let n := c.nlb * s.lbaBytes slot
    withInput id n ptrs (fun s =>
      let s := if c.port = 0 then s.inc HPT_FROMHOST_COUNT (ceilDiv n 4096) else s
      hostWrite id (modCmd s id fun c => { c with data := c.input host % 2 ^ (8 * n), kind := 1 })) s) s

/-- WRITE_ZEROES (R235): recorded as trim units, with or without DEAC. -/
def execWriteZeroes (id : Nat) (s : State) : Out :=
  withIo id 0x08 (s.lbasOf id).1 (s.lbasOf id).2 true false (fun _ _ s => hostWrite id (modCmd s id fun c => { c with kind := 2 })) s

/-- DATASET_MANAGEMENT (R235): the host's buffer holds the ranges, 16 bytes each (length in bytes 4–7, starting LBA in 8–15); NR is
zero-based, only Deallocate (CDW11 bit 2) has an effect. -/
def execDatasetManagement (id host : Nat) (ptrs : List Nat) (s : State) : Out :=
  let ad := match s.cmd id with | some c => nbit (c.cdw 11) 2 | none => false
  withIo id 0x09 0 0 ad false (fun slot c s =>
    let d := c.input host
    let rs := (List.range (nbits (c.cdw 10) 0 8 + 1)).map fun i => (slot, nbits d (128 * i + 64) 64, nbits d (128 * i + 32) 32)
    if !ad then finish id 0 0 s
    else withInput id (16 * rs.length) ptrs (fun s =>
      if rs.any fun r => mget 0 s.txe.nsze slot < r.2.1 + r.2.2 then finishSt id stLbaRange s
      else hostWrite id (modCmd s id fun c => { c with kind := 3, ranges := rs })) s) s

/-- Take back the units of a command that no stripe holds: they leave the backlog and the placement table, and its trim units the list of placed ones. -/
def unplaceUnits (id : Nat) (s : State) : State :=
  let mine := s.ste.units.filter fun u => u.2.cmd = some id && !u.2.dead
  let dec (t : List Place) (u : UnitRec) : List Place :=
    if u.type = 1 then t.map fun p => if p.slot = u.slot && p.lu = u.lu then { p with count := p.count - 1 } else p else t
  let s := { s with
    ste.units := s.ste.units.filter fun u => !(u.2.cmd = some id && !u.2.dead)
    ste.backlog := s.ste.backlog.filter fun u => !(mine.any fun m => m.1 = u)
    txe.place := (mine.foldl (fun t u => dec t u.2) s.txe.place).filter fun p => p.count != 0
    txe.trims := s.txe.trims.filter fun t => !(mine.any fun m => m.2.type = 3 && m.2.seq = t.1) }
  entryRetry (placeSettle s)

/-- Writes of which no unit stands in a stripe fail when the device enters SPENT (R31): of this half's hosts, and the partner's mirrored writes, which
COMPLETION_POST answers with MNAK (R290). -/
def spentWrites (s : State) : State :=
  (s.cmds.filter fun e => e.2.kind != 0 && (e.2.port < 8192 || e.2.port = 8193)
      && (e.2.phase = 3 || e.2.phase = 5 || (e.2.phase = 4 && !e.2.stored) || (e.2.phase = 10 && !e.2.appended && e.2.msn.isNone))).foldl
    (fun s e => finishSt e.1 stWriteProtected (dropWork e.1 (unplaceUnits e.1 s))) s

/-! ### Firmware entries (R240, R241) -/

/-- FIRMWARE_TRANSFER (R240): HPT_XCTL is written with GO. -/
def execFirmwareTransfer (m : MasterId) (index : BitVec 12) (dir : Bool) (s : State) : Out :=
  let i := index.toNat
  if s.flag HPT_XSTAT_BUSY then .next (regCmd m HPT_XCTL 0 id s)
  else match mfind s.hpt.fw i with
    | none => .fault (.undefinedCase "HPT_XFER for a ring index that firmware has already completed")
    | some e =>
      .next (regCmd m HPT_XCTL 0 (fun s =>
        let s := (s.setFld HPT_XCTL_INDEX i).setFld HPT_XCTL_DIR (b2n dir)
        let len := s.fld HPT_XLEN_BYTES
        if len = 0 then s.setFld HPT_XSTAT_DONE 1
        else if e.dead then raise EV_HPT_XFERERR i (s.setFld HPT_XSTAT_ERR 1)
        else { s.setFld HPT_XSTAT_BUSY 1 with
          hpt.xfer := some (i, b2n dir, s.fld HPT_XFER_LO_ADDR + 2 ^ 32 * s.fld HPT_XFER_HI_ADDR, s.fld HPT_XOFS_BYTES, len) }) s)

/-- Where the part of a command's data that a firmware transfer names lies: what fetches its PRP lists or SGL segments, and its segments; none where the
PRPs or the SGL are invalid or end before it.  The SGL of a fabric command gives its length. -/
def State.xferSegs (s : State) (c : Cmd) (ofs n : Nat) (e : List Nat) : Option (List (Nat × Nat) × List (Nat × Nat)) :=
  if c.port != 0 then (if ofs + n ≤ sglLen (nbits c.sqe 192 128) then some ([], []) else none)
  else match s.dataPtrs c (ofs + n) e with
    | .ok (rd, l) => some (rd, sliceSegs l ofs n)
    | .error _ => none

/-- FIRMWARE_TRANSFER_DONE (R240): the transfer ends; ptrs is what the host holds in the command's PRP lists or SGL segments, data what its buffer
holds. -/
def execFirmwareTransferDone (ptrs : List Nat) (data : Nat) (s : State) : Out :=
  match s.hpt.xfer with
  | none => .next s
  | some (i, dir, a, ofs, n) =>
    let stop (s : State) : State := { s.setFld HPT_XSTAT_BUSY 0 with hpt.xfer := none }
    let bad (s : State) : State := raise EV_HPT_XFERERR i ((stop s).setFld HPT_XSTAT_ERR 1)
    let live := match mfind s.hpt.fw i with | some e => !e.dead | none => false
    let cmd := (mfind s.hpt.fw i).bind fun e => s.cmd e.cmd
    match cmd.bind fun c => (s.xferSegs c ofs n ptrs).map fun g => (c.port, g) with
    | none => .next (bad s)
    | some (port, rd, segs) =>
    if !live then .next (bad s)
    else if dir = 0 then
      match memRead s 10 .read a n with
      | (s, .ok v) =>
        let s := if port = 0 then (hostData segs v (hostReads rd s)).inc HPT_TOHOST_COUNT (ceilDiv n 4096)
          else s.emit (.frame "fabric" "data" [port, ofs, n, v])
        .next ((stop s).setFld HPT_XSTAT_DONE 1)
      | (s, .err _) => .next (bad s)
      | (s, .wait) => .next s
    else
      match memWrite s 10 .write a n (data % 2 ^ (8 * n)) with
      | (s, .ok _) =>
        let s := if port = 0 then (hostReads (rd ++ segs) s).inc HPT_FROMHOST_COUNT (ceilDiv n 4096) else s
        .next ((stop s).setFld HPT_XSTAT_DONE 1)
      | (s, .err _) => .next (bad s)
      | (s, .wait) => .next s

/-- FIRMWARE_TIMEOUT (R241): an entry has been outstanding for HPT_FWTO.MS ms: it completes with Internal Error and keeps its slot. -/
def execFirmwareTimeout (index : BitVec 12) (s : State) : Out :=
  let ms := s.cur HPT_FWTO_MS
  match mfind s.hpt.fw index.toNat with
  | none => .next s
  | some e =>
    if ms = 0 || e.dead || s.mtime < e.at' + 100000 * ms then .next s else
    let s := { s with hpt.fw := mins s.hpt.fw index.toNat { e with dead := true } }
    .next (raise EV_HPT_FWTO index.toNat ((finishSt e.cmd stInternalError s).inc HPT_FWTOCNT_COUNT))

end Sys2Proof.Machine
end

