-- ==== Sys2Proof/Machine/Lexicon.lean ====
section
/-! DEFINITION. Family: the segment service and the Lexicon LEX (spec/12_segment_service.md): the hash table, Store, Retrieve, delivery, fallback; with the herd frames that a forwarded Retrieve sends (spec/11_fabric_herd.md R255–R257, R260). -/

namespace Sys2Proof.Machine

/-! ### The Lexicon area (R265–R269) -/

/-- Buckets, heap slots, and the base address. -/
def State.lexB (s : State) : Nat := 2 ^ s.cur LEX_GEOM_BUCKETLOG
def State.lexSlots (s : State) : Nat := (2 ^ 30 - 256 * s.lexB) / 64
def State.lexBase (s : State) : Nat := s.fld LEX_BASE_LO_ADDR + 2 ^ 32 * s.fld LEX_BASE_HI_ADDR
def State.wayAddr (s : State) (bucket way : Nat) : Nat := s.lexBase + 256 * bucket + 64 * way
def State.heapAddr (s : State) (slot : Nat) : Nat := s.lexBase + 256 * s.lexB + 64 * slot

/-- The 64-byte line at an address of the area. -/
def State.lexLine (s : State) (a : Nat) : Nat := s.rawNat a 64

/-- Fields of an entry (R266). -/
def entKey (e : Nat) : Nat := nbits e 0 72
def entFlag (e i : Nat) : Bool := nbit e (72 + i)
def entOwner (e : Nat) : Nat := nbits e 80 14
def entNsid (e : Nat) : Nat := nbits e 96 32
def entBase (e : Nat) : Nat := nbits e 128 64
def entSegs (e : Nat) : Nat := nbits e 192 48
def entDkey (e : Nat) : Nat := nbits e 240 16
def entSegLen (e : Nat) : Nat := nbits e 256 32
def entLastLen (e : Nat) : Nat := nbits e 288 32
def entTable (e : Nat) : Nat := nbits e 320 32

/-- The flags of an entry. -/
def eVALID : Nat := 0
def eVARLEN : Nat := 1
def eFIRMWARE : Nat := 2
def eNOSTORE : Nat := 3
def eNODELIV : Nat := 4

/-- The entry checks of R279. -/
def State.entryOk (s : State) (e : Nat) : Bool :=
  nbits e 77 3 = 0 && nbits e 94 2 = 0 && nbits e 352 160 = 0 && 1 ≤ entNsid e && entNsid e ≤ 128
    && if entFlag e eVARLEN then entSegLen e = 0 && entLastLen e = 0 && entTable e + ceilDiv (entSegs e) 8 ≤ s.lexSlots
       else 1 ≤ entSegLen e && entSegLen e ≤ 1048576 && entLastLen e ≤ entSegLen e && entTable e = 0

/-- The first and the second bucket of a key of nine bytes (R268). -/
def State.buckets (s : State) (key : Nat) : Nat × Nat :=
  let k := leBytes 9 key
  let a := (crc32c k).toNat % s.lexB
  let b := (crc32c (k ++ [1])).toNat % s.lexB
  (a, if a = b then a ^^^ 1 else b)

/-- Lines of the area enter the cache of 8 MiB, which drops the least recently used (R269). -/
def lexCached (lines : List Nat) (s : State) : State :=
  let c := s.lex.cache.filter (fun l => !lines.contains l) ++ lines
  { s with lex.cache := c.drop (c.length - 131072) }

/-- Lines of the area are read: those that the cache does not hold from DRAM (R16); a lookup all of whose lines it held counts in LEX_CHIT. -/
def lexTouch (count : Bool) (lines : List Nat) (s : State) : State :=
  let s := if count && lines.all s.lex.cache.contains then s.inc LEX_CHIT_COUNT else s
  let miss := lines.filter fun l => !s.lex.cache.contains l
  lexCached lines (miss.foldl (fun s l => blkRead 13 l 64 s) s)

/-- The lines of a bucket. -/
def State.bucketLines (s : State) (b : Nat) : List Nat := (List.range 4).map fun w => s.wayAddr b w

/-- The way of a bucket that holds a key. -/
def State.wayOf (s : State) (b key : Nat) : Option Nat :=
  (List.range 4).find? fun w => let e := s.lexLine (s.wayAddr b w); entFlag e eVALID && entKey e = key

/-- Look a key up: first bucket, then second (R268). -/
def lexFind (key : Nat) (s : State) : State × Option (Nat × Nat) :=
  let (a, b) := s.buckets key
  match s.wayOf a key with
  | some w => (lexTouch true (s.bucketLines a) s, some (a, w))
  | none =>
    let s' := lexTouch true (s.bucketLines a ++ s.bucketLines b) s
    match s.wayOf b key with
    | some w => (s', some (b, w))
    | none => (s', none)

/-- The lowest empty way of the first bucket, then of the second. -/
def State.emptyWay (s : State) (key : Nat) : Option (Nat × Nat) :=
  let (a, b) := s.buckets key
  let e (x : Nat) : Option (Nat × Nat) := ((List.range 4).find? fun w => !entFlag (s.lexLine (s.wayAddr x w)) eVALID).map fun w => (x, w)
  (e a).or (e b)

/-- Write a line of the area: cache and DRAM together. -/
def lexPut (a v : Nat) (s : State) : State := lexCached [a] (ringWrite s 13 a 64 v)

/-! ### Operations (R277) -/

/-- Insert, replace, or either: answers RESULT and the place. -/
def lexInsert (ins rep : Bool) (e : Nat) (s : State) : State × Nat × Option (Nat × Nat) :=
  let e := if entFlag e eVALID then e else e + 2 ^ 72
  if !s.entryOk e then (s, 4, none) else
  match lexFind (entKey e) s with
  | (s, some (b, w)) => if rep then (lexPut (s.wayAddr b w) e s, 0, some (b, w)) else (s, 2, none)
  | (s, none) =>
    if !ins then (s, 1, none) else
    match s.emptyWay (entKey e) with
    | some (b, w) => ((lexPut (s.wayAddr b w) e s).inc LEX_COUNT_ENTRIES, 0, some (b, w))
    | none => (raise EV_LEX_FULL 0 (s.setFld LEX_STAT_FULL 1), 3, none)

/-- Delete a key: answers RESULT. -/
def lexDelete (key : Nat) (s : State) : State × Nat :=
  match lexFind key s with
  | (s, some (b, w)) => ((lexPut (s.wayAddr b w) 0 s).setFld LEX_COUNT_ENTRIES (s.fld LEX_COUNT_ENTRIES - 1), 0)
  | (s, none) => (s, 1)

/-- LEX_OPDATA and the nine key bytes of LEX_OPKEY. -/
def State.opData (s : State) : Nat := (List.range 16).foldl (fun n i => n + s.fld LEX_OPDATA_DATA i * 2 ^ (32 * i)) 0
def putOpData (v : Nat) (s : State) : State := (List.range 16).foldl (fun s i => s.setFld LEX_OPDATA_DATA (nbits v (32 * i) 32) i) s
def State.opKey (s : State) : Nat := s.fld LEX_OPKEY_KEY 0 + s.fld LEX_OPKEY_KEY 1 * 2 ^ 32 + s.fld LEX_OPKEY_KEY 2 % 256 * 2 ^ 64

/-- LEX_OPLOC. -/
def putOpLoc (p : Option (Nat × Nat)) (s : State) : State :=
  match p with
  | some (b, w) => (s.setFld LEX_OPLOC_BUCKET b).setFld LEX_OPLOC_WAY w
  | none => s

/-- An operation ends. -/
def lexEnd (result : Nat) (s : State) : State :=
  raise EV_LEX_OPDONE 0 (((s.setFld LEX_OPSTAT_BUSY 0).setFld LEX_OPSTAT_DONE 1).setFld LEX_OPSTAT_RESULT result)

/-- Carry out the operation that LEX_OPCTL starts. -/
def lexOp (op : Nat) (s : State) : State :=
  let s := s.setFld LEX_OPCTL_OP op
  if s.flag LEX_OPSTAT_BUSY || !s.domOn dLEX || !s.flag LEX_CTL_ENA then s else
  if op = 0 then
    match lexFind s.opKey s with
    | (s, some (b, w)) => lexEnd 0 (putOpLoc (some (b, w)) (putOpData (s.lexLine (s.wayAddr b w)) s))
    | (s, none) => lexEnd 1 s
  else if op ≤ 3 then
    let (s, r, p) := lexInsert (op != 2) (op != 1) s.opData s
    lexEnd r (putOpLoc p s)
  else if op = 4 then let (s, r) := lexDelete s.opKey s; lexEnd r s
  else if op = 5 then
    let b := s.fld LEX_OPLOC_BUCKET
    if s.lexB ≤ b then lexEnd 5 s else
    let a := s.wayAddr b (s.fld LEX_OPLOC_WAY)
    let e := s.lexLine a
    if entFlag e eVALID then lexEnd 0 (putOpData e (lexTouch false [a] s)) else lexEnd 6 s
  else
    let i := s.fld LEX_OPKEY_KEY 0
    if s.lexSlots ≤ i then lexEnd 5 s
    else if op = 6 then lexEnd 0 (lexPut (s.heapAddr i) s.opData s)
    else lexEnd 0 (putOpData (s.lexLine (s.heapAddr i)) (lexTouch false [s.heapAddr i] s))

/-- LEX_LOOKUP (R277): LEX_OPCTL is written with OP 0 and GO; so the other operations. -/
def execLexLookup (m : MasterId) (s : State) : Out := .next (regCmd m LEX_OPCTL 0 (lexOp 0) s)

/-- LEX_INSERT (R277). -/
def execLexInsert (m : MasterId) (s : State) : Out := .next (regCmd m LEX_OPCTL 0 (lexOp 1) s)

/-- LEX_REPLACE (R277). -/
def execLexReplace (m : MasterId) (s : State) : Out := .next (regCmd m LEX_OPCTL 0 (lexOp 2) s)

/-- LEX_INSERT_OR_REPLACE (R277). -/
def execLexInsertOrReplace (m : MasterId) (s : State) : Out := .next (regCmd m LEX_OPCTL 0 (lexOp 3) s)

/-- LEX_DELETE (R277). -/
def execLexDelete (m : MasterId) (s : State) : Out := .next (regCmd m LEX_OPCTL 0 (lexOp 4) s)

/-- LEX_READ_WAY (R277). -/
def execLexReadWay (m : MasterId) (s : State) : Out := .next (regCmd m LEX_OPCTL 0 (lexOp 5) s)

/-- LEX_WRITE_HEAP_SLOT (R277). -/
def execLexWriteHeapSlot (m : MasterId) (s : State) : Out := .next (regCmd m LEX_OPCTL 0 (lexOp 6) s)

/-- LEX_READ_HEAP_SLOT (R277). -/
def execLexReadHeapSlot (m : MasterId) (s : State) : Out := .next (regCmd m LEX_OPCTL 0 (lexOp 7) s)

/-! ### Keys and extents (R264, R270) -/

/-- The 16-byte key of a Store or Retrieve: CDW2, CDW3, CDW14, CDW15 (PRESUMED, notes/assumptions/6.md). -/
def Cmd.kvKey (c : Cmd) : Nat := c.cdw 2 + c.cdw 3 * 2 ^ 32 + c.cdw 14 * 2 ^ 64 + c.cdw 15 * 2 ^ 96

/-- What is wrong with the key of a command (R264). -/
def Cmd.keyBad (c : Cmd) : Option Nat :=
  let n := nbits (c.cdw 11) 0 8
  if n = 0 then some stInvalidField else if n != 16 then some stInvalidKeySize
  else if nbits c.kvKey 72 8 != 0 then some stInvalidField else none

/-- START and LEN of a segment (R270). -/
def State.segment (s : State) (e seg : Nat) : Nat × Nat :=
  if entFlag e eVARLEN then
    let r := s.rawNat (s.heapAddr (entTable e + seg / 8) + 8 * (seg % 8)) 8
    (nbits r 0 32, nbits r 32 21)
  else (seg * ceilDiv (entSegLen e) 4096, if seg + 1 = entSegs e && entLastLen e != 0 then entLastLen e else entSegLen e)

/-- The extent of a segment in a slot: first byte, bytes up to the next 4 KiB boundary; none when it is invalid. -/
def State.extent (s : State) (slot e start len : Nat) : Option (Nat × Nat) :=
  let a := entBase e * s.lbaBytes slot + start * 4096
  let n := ceilDiv len 4096 * 4096
  if a % 4096 != 0 || mget 0 s.txe.nsze slot * s.lbaBytes slot < a + n then none else some (a, n)

/-! ### Fallback (R275) -/

/-- The core that has the admin role: the one EV_HPT_FWCMD is routed to (R23). -/
def State.adminCore (s : State) : Nat := s.fld EVR_ROUTE0_CORE EV_HPT_FWCMD

/-- A served REQ ends with an ERR frame of a code: kept as status code type 8 until it is sent. -/
def herdFail (id code : Nat) (s : State) : State := finish id 8 code s

/-- Fall back with a snapshot of entry, START and LEN to record, or without one: the 4 KiB buffer is the admin core's; while none is free
the command waits. -/
def fallbackGo (id cause sent : Nat) (snap : Option Nat) (s : State) : State :=
  let go (h : Nat) (s : State) : State :=
    toFirmware id 4 ({ s with lex.fb := mins s.lex.fb id (h + cause * 2 ^ 32 + sent / 64 * 2 ^ 40), lex.fbWait := mdel s.lex.fbWait id }.inc LEX_FALLBK_COUNT)
  match snap with
  | none => go 0 s
  | some v =>
    match hwAlloc s.adminCore 4096 (2 ^ 40 + id) s with
    | (s, some h) => go h (ringWrite s 13 (s.bufAddr h) 72 v)
    | (s, none) => modCmd { s with lex.fbWait := mins s.lex.fbWait id (cause, sent, v) } id fun c => { c with phase := 14 }

/-- Fall back to firmware; at an owner that serves a REQ, ERR code 5. -/
def fallback (id cause sent : Nat) (snap : Option (Nat × Nat × Nat)) (s : State) : State :=
  match s.cmd id with
  | none => s
  | some c =>
    if c.port = 8192 then herdFail id 5 s
    else fallbackGo id cause sent (snap.map fun x => x.1 + x.2.1 % 2 ^ 32 * 2 ^ 512 + x.2.2 % 2 ^ 32 * 2 ^ 544) s

/-- A fallback that waits for its buffer tries again. -/
def fallbackRetry (id : Nat) (s : State) : State :=
  match mfind s.lex.fbWait id with
  | some (cause, sent, v) => fallbackGo id cause sent (some v) s
  | none => s

/-! ### Herd frames (R255, R257) -/

/-- The 802.1Q tag of what a port sends with a PCP (R248): the tag control field above 0x8100 × 2^16; 0 without FAB_VLAN.TAG. -/
def State.vlanTag (s : State) (port pcp : Nat) : Nat :=
  if s.on FAB_VLAN_TAG port then 0x81000000 + pcp * 2 ^ 13 + s.cur FAB_VLAN_VID port else 0

/-- Put a herd frame on a port that is up and enabled for herd frames: tag, MAC, TYPE, HOPS, DEST, ORIGIN, TXID, DEADLINE, OFFSET, LENGTH,
CODE, payload. -/
def herdSend (port mac : Nat) (f : List Nat) (s : State) : State :=
  if s.domOn dFABRIC && s.flag FAB_PORTSTAT_UP port && s.on FAB_PORTCTL_HERD port then
    s.emit (.frame "herd" "frame" (port :: s.vlanTag port (s.cur HRD_CTL_PCP) :: mac :: f)) else s

/-- HRD_TRANSIT.INUSE (R257, R258): the entries of REQs passed on and of the commands that wait as origin. -/
def transitSettle (s : State) : State := s.setFld HRD_TRANSIT_INUSE (s.hrd.transit.length + s.hrd.origin.length)

/-- The transit table holds 4,096 entries. -/
def State.transitFull (s : State) : Bool := 4096 ≤ s.hrd.transit.length + s.hrd.origin.length

/-- The REQ of a TXID is over at its origin. -/
def originDone (txid : Nat) (s : State) : State := transitSettle { s with hrd.origin := mdel s.hrd.origin txid }

/-- Egress port, next hop's MAC and HOPS of the route to a member, when its entry is valid (R256). -/
def State.route (s : State) (m : Nat) : Option (Nat × Nat × Nat) :=
  if s.flag HRD_ROUTE0_VALID m && m != s.fld HRD_ID_MEMBER then
    let i := s.fld HRD_ROUTE1_MACIDX m
    some (s.fld HRD_ROUTE0_PORT m, s.fld HRD_MAC_LO_MAC i + s.fld HRD_MAC_HI_MAC i * 2 ^ 32, s.fld HRD_ROUTE0_HOPS m)
  else none

/-- Forward a Retrieve to the owner of its segment (R257 steps 1 and 2).  DEDUCED (log 58): with no room in the transit table it falls back. -/
def herdForward (id owner key buf : Nat) (snap : Nat × Nat × Nat) (s : State) : State :=
  match s.route owner with
  | none => fallback id 5 0 (some snap) (raise EV_HRD_NOROUTE 0 s)
  | some (port, mac, hops) =>
    let lim := s.cur HRD_HOPLIM_LIMIT
    if lim = 0 || lim < hops || !s.domOn dFABRIC then fallback id 5 0 (some snap) (raise EV_HRD_NOROUTE 0 s)
    else if s.transitFull then fallback id 5 0 (some snap) (raise EV_HRD_TRANSITFULL 0 (s.setFld HRD_TRANSIT_FULL 1)) else
    let x := s.hrd.nextTx
    let s := transitSettle { s with hrd.nextTx := (x + 1) % 2 ^ 32, hrd.origin := mins s.hrd.origin x (id, 0, s.mtime) }
    let s := modCmd ((s.inc HRD_ORIGIN_COUNT).inc LEX_FWDREQ_COUNT) id fun c => { c with phase := 11, passed := true, data := snap.1 + snap.2.1 * 2 ^ 512 + snap.2.2 * 2 ^ 544 }
    herdSend port mac [1, 0, owner, s.fld HRD_ID_MEMBER, x, s.cur HRD_DEADLINE_US, 0, 32, 0, key + buf % 2 ^ 32 * 2 ^ 128] s

/-! ### Retrieve (R271, R273) -/

/-- A delivery key is usable (R318). -/
def State.deliveryKey (s : State) (k : Nat) : Option (List Byte) :=
  match mfind s.keys k with
  | some r => if r.type = 1 && nbit r.use 1 && s.domOn dCIPHER && s.flag CIP_STAT_UCVALID then some (leBytes 16 r.key) else none
  | none => none

/-- Key Does Not Exist. -/
def keyMissing (id : Nat) (s : State) : State := finishSt id stKeyNotExist (s.inc LEX_KDNE_COUNT)

/-- The entry of a key, checked as read from DRAM (R279): none for no match; the Boolean says that it fails the checks. -/
def lexEntry (key : Nat) (s : State) : State × Option (Nat × Bool) :=
  match lexFind (key % 2 ^ 72) s with
  | (s, none) => (s, none)
  | (s, some (b, w)) =>
    let e := s.lexLine (s.wayAddr b w)
    if s.entryOk e then (s, some (e, false))
    else (raise EV_LEX_BADENT 0 (s.setFld LEX_STAT_BADENT 1), some (e, true))

/-- Steps 9 to 15 of R271, at the owner. -/
def retrieveHere (id e key seg buf : Nat) (s : State) : State :=
  let (start, len) := s.segment e seg
  let snap := some (e, start, len)
  if len = 0 then keyMissing id s
  else if buf = 0 then finish id 0 0 (modCmd s id fun c => { c with dw0 := len })
  else match s.slotOf (entNsid e) with
    | none => fallback id 4 0 snap s
    | some slot =>
      match (if s.nsExists slot then s.extent slot e start len else none) with
      | none => fallback id 4 0 snap s
      | some (a, n) =>
        if !entFlag e eNODELIV && (s.deliveryKey (entDkey e)).isNone then fallback id 2 0 snap s else
        let b := s.lbaBytes slot
        let s := modCmd s id fun c => { c with slot, slba := a / b, nlb := n / b, kv := true, dw0 := len }
        match s.cmd id with
        | none => s
        | some c =>
          if c.segErr != 0 then finishSt id c.segErr s else
          let sts := (s.cmdUnits c).map fun lu => entSt (s.mapEntry slot lu)
          if sts.contains 5 then fallback id 3 0 snap (raise EV_TXE_FWENT slot s) else
          let d : Deliv := { slot, cw := a / 4096, n := n / 4096, len, limit := min len buf, dkey := if entFlag e eNODELIV then none else some (entDkey e), key }
          mapLookup id c { s with lex.deliv := mins s.lex.deliv id d }

/-- Steps 5 to 15 of R271 (6 to 15 for a served REQ). -/
def retrieveGo (id key buf : Nat) (s : State) : State :=
  match s.cmd id with
  | none => s
  | some c =>
    let served := c.port = 8192
    let s := s.incPair LEX_RETR_LO_COUNT LEX_RETR_HI_COUNT
    match lexEntry key s with
    | (s, none) => keyMissing id s
    | (s, some (e, bad)) =>
      let seg := nbits key 80 48
      let s := if entFlag e eVARLEN && seg < entSegs e then lexTouch false [s.heapAddr (entTable e + seg / 8)] s else s
      let snap := some (e, s.segment e seg)
      if bad then fallback id 8 0 (some (e, 0, 0)) s
      else if !served && entNsid e != c.nsid then keyMissing id s
      else if entSegs e ≤ seg then keyMissing id s
      else if entFlag e eFIRMWARE || s.on LEX_CTL_FWALL then fallback id 1 0 snap s
      else if entOwner e != s.fld HRD_ID_MEMBER then
        if served then herdFail id 4 s else if c.segErr != 0 then finishSt id c.segErr s else herdForward id (entOwner e) key buf (e, s.segment e seg) s
      else retrieveHere id e key seg buf s

/-- Act on a fetched Store or Retrieve through steps 1 to 4 of R271. -/
def withKv (id opc : Nat) (f : Nat → Cmd → State → State) (s : State) : Out :=
  match s.cmd id with
  | none => .next s
  | some c =>
    if c.phase = 14 && c.opc = opc then .next (fallbackRetry id s)
    else if c.phase != 0 || c.isAdmin || 8192 ≤ c.port || c.opc != opc || s.cmdsWait || s.behind id c || !s.fabTakes id c then .next s
    else
    let s := fabTaken c s
    if !s.flag LEX_CTL_ENA then .next (finishSt id stInvalidOpcode s)
    else if c.fuse != 0 then .next (finishSt id stInvalidField s)
    else if !s.domOn dLEX then .next (finishSt id stNsNotReady s)
    else match c.keyBad with
      | some st => .next (finishSt id st s)
      | none =>
        if 2 ^ 20 < c.cdw 10 then .next (finishSt id stInvalidField s)
        else match s.slotOf c.nsid with
          | none => .next (finishSt id stInvalidNs s)
          | some slot =>
            match s.ioStatus c slot 0 0 (opc = 0x01) false with
            | some st =>
              let s := if st = stNsNotReady then raise EV_CIP_NOKEY (mget 0 s.txe.key slot) (s.inc CIP_NOKEY_COUNT) else s
              .next (finishSt id st s)
            | none => .next (f slot c s)

/-- RETRIEVE (R271). -/
def execRetrieve (id : Nat) (ptrs : List Nat) (s : State) : Out :=
  withKv id 0x02 (fun _ c s => retrieveGo id c.kvKey (c.cdw 10) (takePtrs id (c.cdw 10) ptrs s)) s

/-- STORE (R276): the host's buffer holds the value; its size is CDW10, the Store Options CDW11 bits 15:8. -/
def execStore (id host : Nat) (ptrs : List Nat) (s : State) : Out :=
  withKv id 0x01 (fun slot c s =>
    let s := s.inc LEX_STORES_COUNT
    match lexEntry c.kvKey s with
    | (s, none) => keyMissing id s
    | (s, some (e, bad)) =>
      let seg := nbits c.kvKey 80 48
      let (start, len) := s.segment e seg
      let snap := some (e, start, len)
      if bad then fallback id 8 0 (some (e, 0, 0)) s
      else if entNsid e != c.nsid then keyMissing id s
      else if entSegs e ≤ seg then keyMissing id s
      else if entFlag e eFIRMWARE || s.on LEX_CTL_FWALL then fallback id 1 0 snap s
      else if entFlag e eNOSTORE then finishSt id stInvalidField s
      else if entOwner e != s.fld HRD_ID_MEMBER then fallback id 7 0 snap s
      else if len = 0 then keyMissing id s
      else if c.cdw 10 != len then finishSt id stInvalidValueSize s
      else if nbits (c.cdw 11) 8 8 != 0 then finishSt id stInvalidField s
      else match s.extent slot e start len with
        | none => fallback id 4 0 snap s
        | some (a, n) =>
          let b := s.lbaBytes slot
          withInput id len ptrs (fun s =>
            let s := if c.port = 0 then s.inc HPT_FROMHOST_COUNT (ceilDiv len 4096) else s
            hostWrite id (modCmd s id fun c => { c with slot, slba := a / b, nlb := n / b, data := c.input host % 2 ^ (8 * len), kind := 4 })) s) s

/-! ### Delivery (R272, R273) -/

/-- Send a PDU on a connection (R251): its header and data lengths advance the TCP sequence with the digests that were granted and the
padding that HPDA asks for.  A context that is free or closing sends none. -/
def fabPdu (a : Nat) (kind : String) (hlen dlen : Nat) (args : List Nat) (s : State) : State :=
  match mfind s.fab.ctxs a with
  | none => s
  | some x =>
    if x.state < 2 || x.state = 5 then s else
    let h := hlen + (if x.hdgst then 4 else 0)
    let al := 4 * (x.hpda + 1)
    let n := if dlen = 0 then h else ceilDiv h al * al + dlen + (if x.ddgst then 4 else 0)
    { s with fab.ctxs := mins s.fab.ctxs a { x with snd := (x.snd + n) % 2 ^ 32, sentAt := if x.una = x.snd then s.mtime else x.sentAt } }.emit (.frame "fabric" kind (a :: s.vlanTag x.port (s.cur FAB_PORTCTL_PCP x.port) :: x.snd :: args))

/-- Send n bytes of a command's read data from offset ofs: to host memory, as C2HData PDUs of at most C2HMAX (R251), or as DATA frames
(R255, R260). -/
def dataOut (id ofs n v : Nat) (last : Bool) (s : State) : State :=
  match s.cmd id with
  | none => s
  | some c =>
    let chunks (sz : Nat) : List (Nat × Nat) := (List.range (ceilDiv n sz)).map fun i => (i * sz, min sz (n - i * sz))
    if c.port = 0 then (hostData (sliceSegs c.segs ofs n) v s).inc HPT_TOHOST_COUNT (ceilDiv n 4096)
    else if c.port = 8192 then
      match mfind s.hrd.serve id with
      | none => s
      | some r =>
        let sz := min 8192 ((4 * s.cur FAB_PORTCTL_MTU r.port - 36) / 64 * 64)
        (chunks (max 64 sz)).foldl (fun s k =>
          herdSend r.port r.mac [2, 0, r.origin, r.origin, r.txid, r.deadline, ofs + k.1, k.2, 0, nbits v (8 * k.1) (8 * k.2)] s) s
    else
      (chunks (4096 * max 1 (s.cur FAB_NVT_C2HMAX))).foldl (fun s k =>
        fabPdu (c.sq % 32768) "C2HData" 24 k.2 [c.cid, ofs + k.1, k.2, b2n (last && k.1 + k.2 = n), nbits v (8 * k.1) (8 * k.2)] s) s

/-- Codeword k of a command has been decoded, or was read as zeros. -/
def State.cwReady (s : State) (id : Nat) (c : Cmd) (k : Nat) : Bool :=
  (mfind c.got k).isSome || !(s.tck.jobs.any fun j => match j.2.client with
    | .host i first => i = id && first ≤ k && k < first + j.2.cws.length
    | _ => false)

/-- The data of codeword k of a command, decrypted under the namespace key (R315); zeros for a unit in STATE 0. -/
def State.cwPlain (s : State) (c : Cmd) (first k : Nat) : Nat :=
  match mfind c.got k with
  | some v => let u := s.slotCw c.slot; s.xtsCw false c.slot ((first + k) / u) ((first + k) % u) (v % 2 ^ 32768)
  | none => 0

/-- Some ordinary cipher channel is of the class that LEX_CTL.CCLASS names, and the domain is up (R281). -/
def State.lexClass (s : State) : Bool := s.domOn dCIPHER && s.classRuns (s.cur LEX_CTL_CCLASS)

/-- The STATUS of a delivery job that cannot be done, and the key that it names (R310, R318). -/
def State.delivBad (s : State) (d : Deliv) : Option (Nat × Nat) :=
  match s.restBad d.slot, d.dkey with
  | some st, _ => some (st, mget 0 s.txe.key d.slot)
  | none, some x => if (s.deliveryKey x).isNone then some (1, x) else none
  | none, none => none

/-- Send what is left of the unit that codeword k0 lies in (R273 step 3). -/
def deliverUnit (id : Nat) (c : Cmd) (d : Deliv) (s : State) : State :=
  let u := s.slotCw d.slot
  let k0 := d.sent / 4096
  let k1 := min d.n (((d.cw + k0) / u + 1) * u - d.cw)
  if !((rangeFrom k0 (k1 - k0)).all fun k => s.cwReady id c k) then s else
  let plain := (rangeFrom k0 (k1 - k0)).foldl (fun v k => v + s.cwPlain c d.cw k * 2 ^ (32768 * (k - k0))) 0
  let n := min (4096 * k1) d.limit - 4096 * k0
  let v := match d.dkey with
    | none => plain % 2 ^ (8 * n)
    | some x => match s.deliveryKey x with
      | some key => ofLe (ctrApply key (aesEnc key (leBytes 16 d.key)) (256 * k0) (leBytes n plain))
      | none => plain % 2 ^ (8 * n)
  let done := d.limit ≤ 4096 * k1
  let s := cipCount 1 (xtsOps (k1 - k0) + (if d.dkey.isSome then 256 * (k1 - k0) + 1 else 0)) s
  let s := dataOut id (4096 * k0) n v done { s with lex.deliv := mins s.lex.deliv id { d with sent := min (4096 * k1) d.limit } }
  if done then finish id 0 0 { s with lex.deliv := mdel s.lex.deliv id } else s

/-- DELIVERY_SEND (R273): the next unit in offset order; a codeword that stayed unrecoverable, or a job that fails (R310), ends the Retrieve. -/
def execDeliverySend (id : Nat) (s : State) : Out :=
  match s.cmd id, mfind s.lex.deliv id with
  | some c, some d =>
    if c.sct = 2 then .next (finishSt id stUnrecoveredRead (dropWork id s))
    else if (c.phase != 2 && c.phase != 12) || !s.lexClass then .next s
    else match s.delivBad d with
      | some (st, k) => .next (finishSt id stUnrecoveredRead (dropWork id (hwJobBad (s.cur LEX_CTL_CCLASS) st k s)))
      | none => .next (deliverUnit id c d s)
  | _, _ => .next s

end Sys2Proof.Machine
end

