-- ==== Sys2Proof/Machine/Fabric.lean ====
section
/-! DEFINITION. Family: the fabric port FAB and herd forwarding HRD (spec/11_fabric_herd.md). -/

namespace Sys2Proof.Machine

/-! ### Ports (R246–R248) -/

/-- Port p takes frames: FABRIC up, the port enabled and its link up, no brown-out (R201). -/
def State.portUp (s : State) (p : Nat) : Bool :=
  s.domOn dFABRIC && s.on FAB_PORTCTL_ENA p && s.flag FAB_PORTSTAT_UP p && !s.flag CKP_STAT_BOD

/-- A frame's tag is accepted (R247): untagged, or the port's VID when TAG = 1. -/
def State.vidOk (s : State) (p : Nat) (vid : Option (BitVec 12)) : Bool :=
  match vid with
  | none => true
  | some v => s.on FAB_VLAN_TAG p && s.cur FAB_VLAN_VID p = v.toNat

/-- Drop a frame (R247). -/
def rxDrop (s : State) : State := s.inc FAB_RXDROP_COUNT

/-- Act on a frame that port p accepts. -/
def fabRx (p : Nat) (vid : Option (BitVec 12)) (f : State → State) (s : State) : Out :=
  .next (if !s.portUp p then s else if s.vidOk p vid then f s else rxDrop s)

/-- FAB_CONN follows the contexts. -/
def connSettle (s : State) : State :=
  (s.setFld FAB_CONN_CONTEXTS (s.fab.ctxs.filter fun x => x.2.state != 0).length).setFld FAB_CONN_QPAIRS
    (s.fab.ctxs.filter fun x => x.2.state = 4 && x.2.io).length

/-- Write a context; a free one is not listed. -/
def setCtx (a : Nat) (x : Ctx) (s : State) : State :=
  connSettle { s with fab.ctxs := if x.state = 0 then mdel s.fab.ctxs a else mins s.fab.ctxs a x }

/-- Put a TCP segment without data on the wire: its kind, sequence number and acknowledgement. -/
def tcpSend (a : Nat) (kind : String) (x : Ctx) (args : List Nat) (s : State) : State :=
  if s.portUp x.port then s.emit (.frame "fabric" kind ([a, x.port, s.vlanTag x.port (s.cur FAB_PORTCTL_PCP x.port), x.mac, x.snd, x.rcv] ++ args)) else s

/-- How a connection ends: 0 FIN sent (closing until it is acknowledged), 1 RST sent, 2 nothing can be sent or the peer sent RST,
3 the peer's FIN is answered with FIN. -/
def endConn (a how : Nat) (s : State) : State :=
  match mfind s.fab.ctxs a with
  | none => s
  | some x =>
    if how = 0 then if x.state = 5 then s else setCtx a { x with state := 5, snd := (x.snd + 1) % 2 ^ 32, sentAt := s.mtime } (tcpSend a "FIN" x [] s)
    else if how = 1 then setCtx a { x with state := 0 } ((tcpSend a "RST" x [] s).inc FAB_RSTSENT_COUNT)
    else if how = 3 then setCtx a { x with state := 5, snd := (x.snd + 1) % 2 ^ 32, rcv := (x.rcv + 1) % 2 ^ 32, sentAt := s.mtime } (tcpSend a "FIN" { x with rcv := (x.rcv + 1) % 2 ^ 32 } [] s)
    else setCtx a { x with state := 0 } s

/-- The loss or end of one connection (R253): an admin connection ends its association with all its connections; an I/O connection only
its queue.  Commands are dropped as R230 steps 1 to 3 state. -/
def closeConn (a how : Nat) (s : State) : State :=
  match mfind s.fab.ctxs a with
  | none => s
  | some x =>
    if x.state = 4 && !x.io then
      let s := dropCmds (fun c => c.port = 1 + a) s
      let ios := (s.fab.ctxs.filter fun e => e.2.io && e.2.assoc = a && e.2.state = 4 && e.1 != a).map (·.1)
      let s := ios.foldl (fun s b => endConn b (if how = 2 then 1 else how % 2) s) s
      let s := { s with hpt.reserved := mdel s.hpt.reserved (0x1000 + a), hpt.feats := s.hpt.feats.filter fun f => f.1 / 2 ^ 20 != 0x1000 + a,
                        hpt.attach := s.hpt.attach.filterMap fun e => let l := e.2.filter (· != 0x1000 + a); if l.isEmpty then none else some (e.1, l) }
      raise EV_FAB_ASSOCEND (x.port + a * 2 ^ 8) (endConn a how s)
    else endConn a how (dropCmds (fun c => c.port != 0 && c.port < 8192 && c.sq = 32768 + a) s)

/-- PORT_LINK_UP (R246). -/
def execPortLinkUp (p : Fin 4) (s : State) : Out :=
  .next (if s.domOn dFABRIC && s.on FAB_PORTCTL_ENA p && !s.flag FAB_PORTSTAT_UP p then raise EV_FAB_LINKUP p (s.setFld FAB_PORTSTAT_UP 1 p) else s)

/-- A port's link goes down: its connections close, transit entries that use it go (R249, R258). -/
def portDown (p : Nat) (s : State) : State :=
  if !s.flag FAB_PORTSTAT_UP p then s else
  let s := { s.setReg FAB_PORTSTAT 0 p with fab.fill := s.fab.fill.filter fun e => e.1 / 8 != p }
  let s := ((s.fab.ctxs.filter fun x => x.2.port = p).map (·.1)).foldl (fun s a => closeConn a 2 s) s
  let s := { s with hrd.transit := s.hrd.transit.filter fun t => t.2.port != p && t.2.out != p }
  raise EV_FAB_LINKDOWN p (transitSettle s)

/-- PORT_LINK_DOWN (R249). -/
def execPortLinkDown (p : Fin 4) (s : State) : Out := .next (if s.domOn dFABRIC then portDown p s else s)

/-- ARP_REQUEST (R247): for the port's IPv4 address; the sender's MAC and address. -/
def execArpRequest (p : Fin 4) (vid : Option (BitVec 12)) (target : Word) (smac : BitVec 48) (sip : Word) (s : State) : Out :=
  fabRx p vid (fun s =>
    if target.toNat != 0 && s.cur FAB_IPV4_ADDR p = target.toNat then
      s.emit (.frame "fabric" "ARP reply" [p, smac.toNat, sip.toNat, target.toNat, s.cur FAB_MAC_LO_MAC p + s.cur FAB_MAC_HI_MAC p * 2 ^ 32])
    else rxDrop s) s

/-- The port's IPv6 address; word 0 is the most significant. -/
def State.portV6 (s : State) (p : Nat) : Nat :=
  s.cur FAB_IPV6_ADDR p 0 * 2 ^ 96 + s.cur FAB_IPV6_ADDR p 1 * 2 ^ 64 + s.cur FAB_IPV6_ADDR p 2 * 2 ^ 32 + s.cur FAB_IPV6_ADDR p 3

/-- NEIGHBOUR_SOLICITATION (R247). -/
def execNeighbourSolicitation (p : Fin 4) (vid : Option (BitVec 12)) (target : BitVec 128) (smac : BitVec 48) (s : State) : Out :=
  fabRx p vid (fun s =>
    if target.toNat != 0 && s.portV6 p = target.toNat then
      s.emit (.frame "fabric" "neighbour advertisement" [p, smac.toNat, target.toNat, s.cur FAB_MAC_LO_MAC p + s.cur FAB_MAC_HI_MAC p * 2 ^ 32])
    else rxDrop s) s

/-- The family of an address is on at a port. -/
def State.familyOn (s : State) (p : Nat) (v6 : Bool) : Bool := if v6 then s.portV6 p != 0 else s.cur FAB_IPV4_ADDR p != 0

/-- ECHO_REQUEST (R247). -/
def execEchoRequest (p : Fin 4) (vid : Option (BitVec 12)) (v6 : Bool) (smac : BitVec 48) (ident : Word) (s : State) : Out :=
  fabRx p vid (fun s => if s.familyOn p v6 then s.emit (.frame "fabric" "echo reply" [p, smac.toNat, b2n v6, ident.toNat]) else rxDrop s) s

/-- PFC_FRAME (R247): honoured for the priorities in PFCEN; en has the priorities the frame names, pause those it pauses. -/
def execPfcFrame (p : Fin 4) (en pause : Byte) (s : State) : Out :=
  .next (if !s.portUp p then s else
    let m := en.toNat &&& s.cur FAB_PORTCTL_PFCEN p
    let old := s.fld FAB_PORTSTAT_RXPAUSE p
    s.setFld FAB_PORTSTAT_RXPAUSE ((old &&& (255 - m)) + (m &&& pause.toNat)) p)

/-- The sending side of PFC (R248): a priority in PFCEN is paused when it holds more than 512 KiB of the buffer, and released below 256 KiB. -/
def pfcSettle (p prio : Nat) (s : State) : State :=
  let held := mget 0 s.fab.fill (8 * p + prio)
  let en := nbit (s.cur FAB_PORTCTL_PFCEN p) prio
  let old := s.fld FAB_PORTSTAT_TXPAUSE p
  let tx := nbit old prio
  if en && !tx && 524288 < held then (s.setFld FAB_PORTSTAT_TXPAUSE (old + 2 ^ prio) p).emit (.frame "fabric" "PFC" [p, prio, 65535])
  else if tx && (held < 262144 || !en) then (s.setFld FAB_PORTSTAT_TXPAUSE (old - 2 ^ prio) p).emit (.frame "fabric" "PFC" [p, prio, 0])
  else s

/-- Bytes of a priority leave the receive buffer. -/
def rxDrain (p prio n : Nat) (s : State) : State :=
  pfcSettle p prio { s with fab.fill := mmod 0 s.fab.fill (8 * p + prio) (fun h => h - min h n) }

/-- n bytes of a priority do not fit in the port's 4 MiB. -/
def State.rxFull (s : State) (p n : Nat) : Bool :=
  4194304 < n + (s.fab.fill.filter fun e => e.1 / 8 = p).foldl (fun t e => t + e.2) 0

/-- n bytes of a priority enter the receive buffer. -/
def rxFill (p prio n : Nat) (s : State) : State := pfcSettle p prio { s with fab.fill := mmod 0 s.fab.fill (8 * p + prio) (· + n) }

/-- FRAME_DROP (R247, R248): a frame that the port does not accept; drained bytes of its priority have left the buffer since the last frame. -/
def execFrameDrop (p : Fin 4) (prio : Fin 8) (drained : Nat) (s : State) : Out :=
  .next (if s.portUp p then rxDrop (rxDrain p prio drained s) else s)

/-! ### TCP (R249, R250) -/

/-- A SYN arrives: the peer's MAC, address and port, the port it is for, its sequence number, its options. -/
def synIn (p : Nat) (v6 : Bool) (smac addr rport dport seq : Nat) (o : TcpOpts) (s : State) : State :=
  let rst (s : State) : State := (s.emit (.frame "fabric" "RST" [p, smac, addr, rport, dport, seq])).inc FAB_RSTSENT_COUNT
  if !s.familyOn p v6 then rxDrop s
  else if dport != s.cur FAB_TCP_LPORT then rst s
  else if s.fab.ctxs.any fun x => x.2.port = p && x.2.addr = addr && x.2.rport = rport && x.2.v6 = v6 then s
  else match (List.range s.fab.maxCtx).find? fun a => (mfind s.fab.ctxs a).isNone with
    | none => raise EV_FAB_CTXFULL p (rst (s.setFld FAB_STAT_CTXFULL 1))
    | some a =>
      let (iss, s) := s.freshBits 32
      let mss := 4 * s.cur FAB_PORTCTL_MTU p - (if v6 then 60 else 40)
      let peer := min mss (match o.mss with | some m => m.toNat | none => if v6 then 1220 else 536)
      let ecn := o.ecn && s.on FAB_TCP_ECN
      let x : Ctx := { state := 1, port := p, mac := smac, addr, rport, v6, rcv := (seq + 1) % 2 ^ 32, snd := (iss.toNat + 1) % 2 ^ 32, una := iss.toNat,
                       sentAt := s.mtime, mss := peer, wscale := o.wscale.map BitVec.toNat, ts := o.ts, ecn, cwnd := 10 * peer, ssth := 2 ^ 30 }
      setCtx a x (tcpSend a "SYN-ACK" { x with snd := iss.toNat } [mss, b2n ecn, b2n o.wscale.isSome, b2n o.ts] s)

/-- TCP_SYN (R249, R250). -/
def execTcpSyn (p : Fin 4) (vid : Option (BitVec 12)) (v6 : Bool) (smac : BitVec 48) (addr : BitVec 128) (rport dport : BitVec 16) (seq : Word)
    (opts : TcpOpts) (s : State) : Out :=
  fabRx p vid (synIn p v6 smac.toNat addr.toNat rport.toNat dport.toNat seq.toNat opts) s

/-- Act on a segment of a context that is not free, on a port that is up. -/
def withCtx (a : Nat) (f : Ctx → State → State) (s : State) : Out :=
  match mfind s.fab.ctxs a with
  | none => .next s
  | some x => .next (if s.portUp x.port then f x s else s)

/-- TCP_HANDSHAKE_ACK (R249). -/
def execTcpHandshakeAck (a : Fin 4096) (ack : Word) (s : State) : Out :=
  withCtx a (fun x s => if x.state = 1 && ack.toNat = x.snd then setCtx a { x with state := 2, una := x.snd, retries := 0 } s else s) s

/-- An acknowledgement of n bytes, with or without CE feedback, and the congestion window (R250): at the end of an observation window the estimate of RFC 8257
moves by 1/16, and feedback in it reduces the window; what an acknowledgement adds is PRESUMED (log 57). -/
def ccAck (n : Nat) (ce : Bool) (x : Ctx) : Ctx :=
  let x := { x with ackd := x.ackd + n, ackCe := x.ackCe + if ce then n else 0
                    cwnd := x.cwnd + if x.cwnd < x.ssth then n else x.mss * n / max 1 x.cwnd }
  if !x.ecn || 2 ^ 31 ≤ (x.una + 2 ^ 32 - x.winEnd) % 2 ^ 32 then x else
  let alpha := x.alpha - x.alpha / 16 + x.ackCe * 1024 / max 1 x.ackd / 16
  let cwnd := if x.ackCe = 0 then x.cwnd else max x.mss (x.cwnd - x.cwnd * alpha / 2048)
  { x with alpha, cwnd, ssth := if x.ackCe = 0 then x.ssth else cwnd, ackd := 0, ackCe := 0, winEnd := x.snd }

/-- A loss halves the window, once per round trip (R250). -/
def ccLoss (x : Ctx) : Ctx :=
  if 2 ^ 31 ≤ (x.una + 2 ^ 32 - x.lossEnd) % 2 ^ 32 then x
  else let w := max x.mss (x.cwnd / 2); { x with cwnd := w, ssth := w, lossEnd := x.snd }

/-- The retransmission timeout in cycles of the reference: RTOMIN, doubled on each retry (R250). -/
def State.rto (s : State) (x : Ctx) : Nat := 10000 * max 1 (s.cur FAB_TCP_RTOMIN) * 2 ^ x.retries

/-- TCP_SEGMENT (R250, R248): data in order advances what is expected, an acknowledgement what is outstanding; a CE mark is counted with ECN.  The segment
stands in the receive buffer under its priority, from which drained bytes have gone; a full buffer drops one whose priority has no PFC.  The last
acknowledgement of a closing context frees it. -/
def execTcpSegment (a : Fin 4096) (seq : Word) (len : BitVec 16) (ack : Word) (ce ece : Bool) (prio : Fin 8) (drained : Nat) (s : State) : Out :=
  withCtx a (fun x s =>
    let s := rxDrain x.port prio drained s
    if s.rxFull x.port len.toNat && !nbit (s.cur FAB_PORTCTL_PFCEN x.port) prio then rxDrop s
    else
    let s := rxFill x.port prio len.toNat s
    if x.state < 2 then s else
    let s := if ce && x.ecn then s.inc FAB_ECNCE_COUNT else s
    let got : Bool := seq.toNat = x.rcv && x.state != 5
    let fwd := (ack.toNat + 2 ^ 32 - x.una) % 2 ^ 32
    let acked : Bool := 0 < fwd && fwd ≤ (x.snd + 2 ^ 32 - x.una) % 2 ^ 32
    let x := { x with rcv := if got then (x.rcv + len.toNat) % 2 ^ 32 else x.rcv }
    let x := if acked then ccAck fwd ece { x with una := ack.toNat, retries := 0, sentAt := s.mtime } else x
    if x.state = 5 && x.una = x.snd then setCtx a { x with state := 0 } s
    else
      let s := setCtx a x s
      if len != 0 then tcpSend a "ACK" x [b2n (ce && x.ecn)] s else s) s

/-- TCP_FIN (R249). -/
def execTcpFin (a : Fin 4096) (s : State) : Out :=
  withCtx a (fun x s => if x.state = 5 then endConn a 2 (tcpSend a "ACK" { x with rcv := (x.rcv + 1) % 2 ^ 32 } [] s) else closeConn a 3 s) s

/-- TCP_RST (R249). -/
def execTcpRst (a : Fin 4096) (s : State) : Out := withCtx a (fun _ s => closeConn a 2 s) s

/-- TCP_RETRANSMIT_TIMEOUT (R250): the timeout has run out: resend the oldest segment; after RETRIES retries, RST. -/
def execTcpRetransmitTimeout (a : Fin 4096) (s : State) : Out :=
  withCtx a (fun x s =>
    if x.una = x.snd || s.mtime < x.sentAt + s.rto x then s
    else if s.cur FAB_TCP_RETRIES ≤ x.retries then closeConn a 1 s
    else (setCtx a (ccLoss { x with retries := x.retries + 1, sentAt := s.mtime }) (s.emit (.frame "fabric" "retransmit" [a, x.una]))).inc FAB_RETRANS_COUNT) s

/-! ### NVMe/TCP (R251) -/

/-- Refuse what a connection sent: C2HTermReq with a fatal error status, and the connection closes. -/
def termReq (a fes : Nat) (s : State) : State := closeConn a 0 (fabPdu a "C2HTermReq" 24 0 [fes] s)

/-- ICREQ (R251): PFV 0 only; digests are granted as asked when HDOK and DDOK allow. -/
def execIcreq (a : Fin 4096) (pfv : BitVec 16) (hpda : Byte) (hd dd : Bool) (maxr2t : Word) (s : State) : Out :=
  withCtx a (fun x s =>
    if x.state != 2 then s
    else if pfv != 0 || 31 < hpda.toNat then termReq a 1 s
    else
      let h := hd && s.on FAB_NVT_HDOK
      let d := dd && s.on FAB_NVT_DDOK
      let s := fabPdu a "ICResp" 128 0 [0, 0, b2n h, b2n d, 65536] s
      match mfind s.fab.ctxs a with
      | some y => setCtx a { y with state := 3, hdgst := h, ddgst := d, hpda := hpda.toNat, maxr2t := maxr2t.toNat } s
      | none => s) s

/-- CSTS of a fabric controller with CC: RDY follows EN as for PCIe (R32), CFS in RECOVERY, SHST. -/
def State.fabCsts (s : State) (cc shst : Nat) : Nat := b2n (nbit cc 0 && s.rdyMode) + b2n (s.mode = mRECOVERY) * 2 + shst * 4

/-- Count a digest failure: 0 of a header, 1 of data. -/
def dgstErr (a data : Nat) (x : Ctx) (s : State) : State :=
  let s := if data = 0 then s.inc FAB_HDGSTERR_COUNT else s.inc FAB_DDGSTERR_COUNT
  raise EV_FAB_DGSTERR (x.port + a * 2 ^ 8) (s.setFld FAB_STAT_DGSTERR 1)

/-- Bytes that a command takes from the host. -/
def State.wantBytes (s : State) (c : Cmd) : Nat :=
  let b := match s.slotOf c.nsid with | some k => s.lbaBytes k | none => 0
  if c.opc = 0x7F then (if nbits (c.cdw 1) 0 8 = 1 then 1024 else 0)
  else if c.isAdmin then (if c.opc = 0x0D && nbits (c.cdw 10) 0 4 = 0 || c.opc = 0x15 then 4096 else 0)
  else if c.opc = 0x01 then (if nbits (c.cdw 11) 0 8 = 16 && s.flag LEX_CTL_ENA then c.cdw 10 else min (c.nlbOf * b) (2 ^ 20))
  else if c.opc = 0x09 then 16 * (nbits (c.cdw 10) 0 8 + 1)
  else 0

/-- Grant a command's data: Ready to Transfer PDUs of at most 65,536 bytes, at most min(ICReq limit + 1, GRANTS) outstanding (R251). -/
def grant (id : Nat) (s : State) : State :=
  match s.cmd id, mfind s.fab.h2c id with
  | some c, some (got, want, granted) =>
    let a := c.sq % 32768
    let limit := match mfind s.fab.ctxs a with | some x => min (x.maxr2t + 1) (max 1 (s.cur FAB_NVT_GRANTS)) | none => 1
    let out := ceilDiv (granted - got) 65536
    (List.range (limit - min out limit)).foldl (fun s _ =>
      match mfind s.fab.h2c id with
      | some (got, want, granted) =>
        if want ≤ granted then s else
        let n := min 65536 (want - granted)
        fabPdu a "R2T" 24 0 [c.cid, granted, n] { s with fab.h2c := mins s.fab.h2c id (got, want, granted + n) }
      | none => s) { s with fab.h2c := mins s.fab.h2c id (got, want, granted) }
  | _, _ => s

/-- CAPSULE_COMMAND (R251): a capsule with its in-capsule data (n bytes), and whether the digests it carries are right.  A digest is
checked only where it was granted. -/
def execCapsuleCommand (a : Fin 4096) (sqe : BitVec 512) (n : Nat) (data : Nat) (hdOk ddOk : Bool) (s : State) : Out :=
  withCtx a (fun x s =>
    if x.state != 3 && x.state != 4 then s
    else if x.hdgst && !hdOk then termReq a 3 (dgstErr a 0 x s)
    else if x.state = 4 && x.io && s.ckp.shut then s
    else
      let s := dormHold s
      let id := s.hpt.nextCmd
      let opc := nbits sqe.toNat 0 8
      let c : Cmd := { port := 1 + (if x.state = 4 then x.assoc else a.val), sq := 32768 + a.val, cid := nbits sqe.toNat 16 16, sqe := sqe.toNat,
                       tick := s.fld TCK_COUNT_LO_COUNT }
      let s := { s with hpt.nextCmd := id + 1, cmds := mins s.cmds id c }
      let s := if c.isAdmin then setCtx a { x with last := s.mtime } s else s
      if n != 0 && x.ddgst && !ddOk then finishSt id stTransientTransport (dgstErr a 1 x s)
      else if 8192 < n then finishSt id stInvalidField s
      else if !(opc = 0x7F || (x.state = 4 && if c.isAdmin then adminKnown opc || opc = 0x18 else ioKnown opc)) then
        finishSt id (if x.state = 4 then stInvalidOpcode else stSequence) s
      else if opc != 0x7F && (match mfind s.fab.ctxs x.assoc with | some y => !nbit (s.fabCsts y.cc 0) 0 | none => true) then finishSt id stSequence s
      else
        let want := s.wantBytes c
        let s := modCmd s id fun c => { c with data := data % 2 ^ (8 * n) }
        if want ≤ n then s
        else grant id (modCmd { s with fab.h2c := mins s.fab.h2c id (n, want, n) } id fun c => { c with phase := 13 })) s

/-- H2C_DATA (R251): n bytes of a command's data from an offset; in order of the grants.  A data digest that fails completes the command with
Transient Transport Error. -/
def execH2cData (id ofs n data : Nat) (hdOk ddOk : Bool) (s : State) : Out :=
  match s.cmd id, mfind s.fab.h2c id with
  | some c, some (got, want, granted) =>
    let a := c.sq % 32768
    withCtx a (fun x s =>
      if x.hdgst && !hdOk then termReq a 3 (dgstErr a 0 x s)
      else if ofs != got || granted < got + n || n = 0 || 65536 < n then termReq a 2 s
      else if x.ddgst && !ddOk then finishSt id stTransientTransport { dgstErr a 1 x s with fab.h2c := mdel s.fab.h2c id }
      else
        let s := modCmd s id fun c => { c with data := c.data + data % 2 ^ (8 * n) * 2 ^ (8 * ofs) }
        if want ≤ got + n then modCmd { s with fab.h2c := mdel s.fab.h2c id } id fun c => { c with phase := 0 }
        else grant id { s with fab.h2c := mins s.fab.h2c id (got + n, want, granted) }) s
  | _, _ => .next s

/-! ### Fabrics commands (R252, R253) -/

/-- Act on a Fabrics command of a type. -/
def withFabrics (id type : Nat) (f : Nat → Cmd → State → State) (s : State) : Out :=
  match s.cmd id with
  | none => .next s
  | some c =>
    if c.phase != 0 || c.port = 0 || 8192 ≤ c.port || c.opc != 0x7F || nbits (c.cdw 1) 0 8 != type || !s.fabTakes id c then .next s
    else .next (f (c.sq % 32768) c (fabTaken c s))

/-- FABRICS_CONNECT (R252): to firmware, on a connection that is not bound. -/
def execFabricsConnect (id : Nat) (s : State) : Out :=
  withFabrics id 1 (fun a _ s => match mfind s.fab.ctxs a with
    | some x => if x.state = 3 then toFirmware id 1 s else finishSt id stSequence s
    | none => s) s

/-- PROPERTY_GET (R252): CAP at 0x00, VS at 0x08, CC at 0x14, CSTS at 0x1C. -/
def execPropertyGet (id : Nat) (s : State) : Out :=
  withFabrics id 4 (fun a c s => match mfind s.fab.ctxs a with
    | some x =>
      if x.state != 4 || x.io then finishSt id stInvalidField s else
      let v := match c.cdw 11 with | 0x00 => some capValue | 0x08 => some 0x20000 | 0x14 => some x.cc | 0x1C => some (s.fabCsts x.cc (x.csts / 4)) | _ => none
      (match v with
      | some v => finish id 0 0 (modCmd s id fun c => { c with dw0 := v % 2 ^ 32, dw1 := v / 2 ^ 32 })
      | none => finishSt id stInvalidField s)
    | none => s) s

/-- PROPERTY_SET (R252): CC; EN from 1 to 0 acts on the controller's commands as R230 states; a shutdown notification ends the association
once it is answered (R212). -/
def execPropertySet (id : Nat) (s : State) : Out :=
  withFabrics id 0 (fun a c s => match mfind s.fab.ctxs a with
    | some x =>
      if x.state != 4 || x.io || c.cdw 11 != 0x14 then finishSt id stInvalidField s else
      let v := c.cdw 12
      let s := if nbit x.cc 0 && !nbit v 0 then dropCmds (fun k => k.port = c.port && k.cid != c.cid) s else s
      let shn := nbits v 14 2
      finish id 0 0 (setCtx a { x with cc := v, csts := s.fabCsts v (if shn = 1 || shn = 2 then 2 else 0) } s)
    | none => s) s

/-- KEEP_ALIVE (R253): in hardware. -/
def execKeepAlive (id : Nat) (s : State) : Out :=
  match s.cmd id with
  | none => .next s
  | some c =>
    if c.phase != 0 || c.port = 0 || 8192 ≤ c.port || !c.isAdmin || c.opc != 0x18 || !s.fabTakes id c then .next s else
    match mfind s.fab.ctxs (c.sq % 32768) with
    | some x => .next (finish id 0 0 (setCtx (c.sq % 32768) { x with last := s.mtime } (fabTaken c s)))
    | none => .next s

/-- DISCONNECT (R253): the queue or the association ends once the command is answered. -/
def execDisconnect (id : Nat) (s : State) : Out := withFabrics id 8 (fun _ _ s => finish id 0 0 s) s

/-- KATO_EXPIRY (R253). -/
def execKatoExpiry (a : Fin 4096) (s : State) : Out :=
  match mfind s.fab.ctxs a with
  | none => .next s
  | some x =>
    if x.state != 4 || x.io || x.kato = 0 || s.mtime < x.last + 100000 * (x.kato + 100) then .next s
    else .next (raise EV_FAB_KATO (x.port + a * 2 ^ 8) (closeConn a 0 s))

/-- Bind the connection of a Connect that firmware completed with success (R252): answers the status in place of success, where there
is one. -/
def bindConn (c : Cmd) (s : State) : State × Option Nat :=
  let a := c.sq % 32768
  match mfind s.fab.ctxs a with
  | none => (s, none)
  | some x =>
    if nbits (c.cdw 10) 16 16 = 0 then
      (setCtx a { x with state := 4, io := false, assoc := a, kato := c.cdw 12, last := s.mtime, qsize := nbits (c.cdw 11) 0 16 + 1, cc := 0, csts := 0 } s, none)
    else
      let b := nbits c.data 128 16 - 0x1000
      let mine := (s.fab.ctxs.filter fun e => e.2.state = 4 && e.2.io && e.2.assoc = b).length
      let bound := match mfind s.fab.ctxs b with | some y => y.state = 4 && !y.io | none => false
      if !bound || s.cur FAB_ASSOC_MAXIOQ ≤ mine then (s, some stConnectInvalid)
      else if s.fab.maxQp ≤ s.fld FAB_CONN_QPAIRS then (s.setFld FAB_STAT_QFULL 1, some stConnectInvalid)
      else (setCtx a { x with state := 4, io := true, assoc := b, qsize := nbits (c.cdw 11) 0 16 + 1 } s, none)

/-! ### Firmware's completions (R241) -/

/-- FIRMWARE_COMPLETION (R241): HPT_FWCPL3 is written with GO.  The entry's slot is free, so an entry that waits may be written. -/
def fwComplete (sc sct stx : Nat) (s : State) : State :=
  let s := (((s.setFld HPT_FWCPL3_SC sc).setFld HPT_FWCPL3_SCT sct).setFld HPT_FWCPL3_CRD (stx % 4)).setFld HPT_FWCPL3_MORE (stx / 4 % 2)
  let s := s.setFld HPT_FWCPL3_DNR (stx / 8)
  let i := s.fld HPT_FWCPL2_INDEX
  match mfind s.hpt.fw i with
  | none => raise EV_HPT_FWREF i s
  | some e =>
    let s := { s with hpt.fw := mdel s.hpt.fw i }
    if e.dead then fwRetry s else
    match s.cmd e.cmd with
    | none => fwRetry s
    | some c =>
      let s := modCmd s e.cmd fun c => { c with dw0 := s.fld HPT_FWCPL0_DW, dw1 := s.fld HPT_FWCPL1_DW, stx }
      let connect : Bool := c.port != 0 && c.port < 8192 && c.opc = 0x7F
      let (s, st) := if connect && sct = 0 && sc = 0 then bindConn c s else (s, none)
      fwRetry (finishSt e.cmd (st.getD (sct * 256 + sc)) s)

/-- FIRMWARE_COMPLETION (R241): status code, status code type, and CRD, MORE and DNR (bits 14:11 of the register). -/
def execFirmwareCompletion (m : MasterId) (sc : Byte) (sct : Fin 8) (stx : Fin 16) (s : State) : Out :=
  .next (regCmd m HPT_FWCPL3 0 (fwComplete sc.toNat sct stx) s)

/-! ### Completions (R229) -/

/-- Signal the vector of a completion queue. -/
def signalCq (q : Nat) (s : State) : State :=
  match mfind s.hpt.cqs q with
  | none => s
  | some c => msixSend c.vec { s with hpt.cqs := mins s.hpt.cqs q { c with unsig := 0 } }

/-- The vector of a completion queue is signalled with each entry: the admin queue's, one whose Interrupt Vector Configuration disables
coalescing, and any with an aggregation time or threshold of 0. -/
def State.atOnce (s : State) (q : Nat) (c : Cq) : Bool :=
  let f := mget 0 s.hpt.feats (2 ^ 20 + 8)
  q = 0 || nbit (mget 0 s.hpt.feats (2 ^ 20 + 2 ^ 16 + c.vec)) 16 || f / 256 % 256 = 0 || f % 256 < c.unsig + 1

/-- Write an entry into a completion queue that has room, and signal it (R229): DW0, DW1, the submission queue's head and identifier, CID,
status with the phase tag. -/
def postEntry (q : Nat) (c : Cq) (id : Nat) (k : Cmd) (head : Nat) (s : State) : State :=
  let st := k.sc + k.sct * 2 ^ 8 + k.stx * 2 ^ 11
  let s := s.emit (.frame "PCIe" "completion" [q, c.base + 16 * c.tail, k.dw0, k.dw1, head, k.sq, k.cid, b2n c.phase, st])
  let t := (c.tail + 1) % c.size
  let c := { c with tail := t, phase := if t = 0 then !c.phase else c.phase, unsig := c.unsig + 1 }
  let s := { s with hpt.cqs := mins s.hpt.cqs q c, hpt.held := s.hpt.held.filter (· != id) }
  let s := s.incPair HPT_CMDS_LO_COUNT HPT_CMDS_HI_COUNT
  if c.ien && s.atOnce q { c with unsig := c.unsig - 1 } then signalCq q s else s

/-- A Read that hardware serves is to send data. -/
def Cmd.sendsRead (c : Cmd) : Bool := !c.isAdmin && c.opc = 0x02 && !c.kv && c.fw.isNone && c.sct = 0 && c.sc = 0 && c.nlb != 0

/-- The data of a Read that hardware serves precedes its completion (R224, R251). -/
def readData (id : Nat) (c : Cmd) (s : State) : State :=
  if !c.sendsRead then s else
  let (a, n) := s.cmdCws c
  let b := s.lbaBytes c.slot
  let v := (List.range n).foldl (fun v k => v + s.cwPlain c a k * 2 ^ (32768 * k)) 0
  let s := cipCount (ceilDiv c.got.length (s.slotCw c.slot)) (xtsOps c.got.length) s
  dataOut id 0 (c.nlb * b) (nbits v (8 * (c.slba * b % 4096)) (8 * (c.nlb * b))) true s

/-- A create that completed with success releases its controller's reservation (R238). -/
def createDone (c : Cmd) (s : State) : State :=
  if c.isAdmin && c.port < 8192 && c.opc = 0x0D && nbits (c.cdw 10) 0 4 = 0 && c.sct = 0 && c.sc = 0 && mfind s.hpt.reserved c.ctl = some c.slot then
    { s with hpt.reserved := mdel s.hpt.reserved c.ctl } else s

/-- Forget a completed command. -/
def retire (id : Nat) (s : State) : State := sqDelSettle { s with cmds := mdel s.cmds id }

/-- Post the completion of a PCIe command, or hold it while its queue is full (R229). -/
def postPcie (id : Nat) (c : Cmd) (s : State) : State :=
  match mfind s.hpt.sqs c.sq with
  | none => retire id s
  | some sq =>
    match mfind s.hpt.cqs sq.cq with
    | none => retire id s
    | some q =>
      if q.full then
        if s.hpt.held.contains id then s
        else raise EV_HPT_CQFULL sq.cq (({ s with hpt.held := s.hpt.held ++ [id] }.setFld HPT_STAT_CQFULL 1).inc HPT_CQSTALL_COUNT)
      else retire id (createDone c (postEntry sq.cq q id c sq.head (readData id c s)))

/-- Send the CapsuleResp of a fabric command, and end what a Disconnect or a shutdown notification ends (R251–R253, R212). -/
def postFabric (id : Nat) (c : Cmd) (s : State) : State :=
  let a := c.sq % 32768
  match mfind s.fab.ctxs a with
  | none => retire id s
  | some x =>
    let s := readData id c s
    let x := match mfind s.fab.ctxs a with | some y => y | none => x
    let h := if x.qsize = 0 then 0 else (x.sqhd + 1) % x.qsize
    let s := setCtx a { x with sqhd := h } s
    let s := fabPdu a "CapsuleResp" 24 0 [c.dw0, c.dw1, h, c.cid, c.sc + c.sct * 2 ^ 8 + c.stx * 2 ^ 11] s
    let s := retire id (createDone c s)
    if c.opc != 0x7F || c.sct != 0 || c.sc != 0 then s
    else if nbits (c.cdw 1) 0 8 = 8 then closeConn a 0 s
    else if nbits (c.cdw 1) 0 8 = 0 && (nbits (c.cdw 12) 14 2 = 1 || nbits (c.cdw 12) 14 2 = 2) then closeConn a 0 s
    else s

/-- The owner answers a REQ (R260): RESP with the status and the value size, or ERR. -/
def postHerd (id : Nat) (c : Cmd) (s : State) : State :=
  match mfind s.hrd.serve id with
  | none => retire id s
  | some r =>
    let f (type len code pl : Nat) : List Nat := [type, 0, r.origin, r.origin, r.txid, r.deadline, 0, len, code, pl]
    let s := if c.sct = 8 then herdSend r.port r.mac (f 4 0 c.sc 0) s
      else herdSend r.port r.mac (f 3 8 0 (c.sc + c.sct * 2 ^ 8 + c.dw0 % 2 ^ 32 * 2 ^ 32)) s
    retire id { s with hrd.serve := mdel s.hrd.serve id }

/-- The partner's mirrored write ended: MACK or MNAK with its status (R288, R290). -/
def postMirror (id : Nat) (c : Cmd) (s : State) : State :=
  let m := c.msn.getD 0
  let s := if c.sct = 0 && c.sc = 0 then pairSend 5 0 m c.tag 0 0 (if c.msn.isSome then msnDone m s else s)
    else pairSend 6 0 m c.tag (c.sc + c.sct * 2 ^ 8) 4 (skipMsn c.msn s)
  retire id s

/-- The namespace operations that a command sent to the partner: none outstanding, and the first failure (R291). -/
def State.nsopState (s : State) (id : Nat) : Bool × Nat :=
  let l := s.plk.nsops.filter fun n => n.1 = id
  (l.all fun n => n.2.2.isSome, (l.filterMap fun n => n.2.2).foldl (fun a st => if a = 0 then st else a) 0)

/-- COMPLETION_POST (R229): a command that is ready to complete.  One with a namespace operation at the partner waits for NSACK. -/
def execCompletionPost (id : Nat) (s : State) : Out :=
  match s.cmd id with
  | none => .next s
  | some c =>
    if c.phase != 6 then .next s
    else if c.port = 8195 then .next (retire id s)
    else if c.port = 8193 then .next (postMirror id c s)
    else if c.port = 8194 then .next (retire id (pairSend 11 0 0 c.tag (c.sc + c.sct * 2 ^ 8) 4 s))
    else if c.port = 8192 then .next (postHerd id c s)
    else
      let (all, st) := s.nsopState id
      if !all && c.sct = 0 && c.sc = 0 then .next s else
      let c := if c.sct = 0 && c.sc = 0 && st != 0 then { c with sct := st / 256, sc := st % 256 } else c
      let s := { s with plk.nsops := s.plk.nsops.filter fun n => n.1 != id }
      let rest : Bool := c.sendsRead && !c.got.isEmpty
      if c.dropped then .next (retire id s)
      else if rest && !s.restRuns then .next s
      else match (if rest then s.restBad c.slot else none) with
      | some st => .next (finish id 2 0x81 (restJobBad c.slot st s))
      | none =>
      if c.port = 0 then .next (if s.hptUp then postPcie id c s else s)
      else .next (postFabric id c s)

/-- AGGREGATION_TIME_EXPIRY (R229). -/
def execAggregationTimeExpiry (q : BitVec 16) (s : State) : Out :=
  match mfind s.hpt.cqs q.toNat with
  | some c => .next (if c.unsig != 0 && c.ien && s.hptUp then signalCq q.toNat s else s)
  | none => .next s

/-! ### Herd forwarding (R255–R261) -/

/-- Act on a herd frame of a port that takes them; a bad one is dropped (R247, R255). -/
def withHerd (p : Nat) (h : HerdHdr) (f : State → State) (s : State) : Out :=
  .next (if !s.portUp p then s
    else if !s.on FAB_PORTCTL_HERD p then rxDrop s
    else if !h.ok || 16383 < h.dest.toNat then s.inc HRD_DROP_COUNT
    else f s)

/-- The remaining DEADLINE of a frame that is forwarded (R259). -/
def hdrLeft (h : HerdHdr) : Nat := h.deadline.toNat - max 1 h.residence.toNat

/-- The key of a transit entry. -/
def hdrKey (h : HerdHdr) : Nat := h.origin.toNat % 2 ^ 14 * 2 ^ 32 + h.txid.toNat

/-- Answer a REQ with ERR. -/
def reqErr (p mac : Nat) (h : HerdHdr) (code : Nat) (s : State) : State :=
  herdSend p mac [4, 0, h.origin.toNat, h.origin.toNat, h.txid.toNat, h.deadline.toNat, 0, 0, code, 0] s

/-- Serve a REQ as owner (R260): a Retrieve that arrived locally. -/
def serveReq (p mac : Nat) (h : HerdHdr) (key buf : Nat) (s : State) : State :=
  let id := s.hpt.nextCmd
  let c : Cmd := { port := 8192, tick := s.fld TCK_COUNT_LO_COUNT }
  let r : Served := { origin := h.origin.toNat % 2 ^ 14, txid := h.txid.toNat, port := p, mac, key, buf, deadline := h.deadline.toNat }
  let s := { s with hpt.nextCmd := id + 1, cmds := mins s.cmds id c, hrd.serve := mins s.hrd.serve id r }.inc HRD_OWNED_COUNT
  if !s.domOn dLEX || !s.flag LEX_CTL_ENA then herdFail id 5 s else retrieveGo id key buf s

/-- HERD_REQ (R256–R260): 16-byte key and host buffer size. -/
def execHerdReq (p : Fin 4) (smac : BitVec 48) (h : HerdHdr) (key : BitVec 128) (buf : Word) (s : State) : Out :=
  withHerd p h (fun s =>
    if h.dest.toNat = s.fld HRD_ID_MEMBER then serveReq p smac.toNat h key.toNat buf.toNat s
    else if s.cur HRD_HOPLIM_LIMIT < h.hops.toNat + 1 then reqErr p smac.toNat h 1 s
    else match s.route h.dest.toNat with
      | none => reqErr p smac.toNat h 2 (raise EV_HRD_NOROUTE 0 s)
      | some (out, mac, _) =>
        if s.transitFull then reqErr p smac.toNat h 3 (raise EV_HRD_TRANSITFULL 0 (s.setFld HRD_TRANSIT_FULL 1))
        else if hdrLeft h = 0 then s.inc HRD_DROP_COUNT
        else
          let t : Transit := { port := p, mac := smac.toNat, out, deadline := s.mtime + 100 * hdrLeft h }
          let s := { s with hrd.transit := mins s.hrd.transit (hdrKey h) t }
          let s := (transitSettle s).inc HRD_TRANSITCNT_COUNT
          herdSend out mac [1, h.hops.toNat + 1, h.dest.toNat, h.origin.toNat, h.txid.toNat, hdrLeft h, 0, 32, 0, key.toNat + buf.toNat * 2 ^ 128] s) s

/-- Forward a DATA, RESP or ERR frame (R256, R258, R259): by its transit entry, else by the route of DEST; the entry goes with a RESP or
ERR. -/
def herdBack (h : HerdHdr) (type ofs len code pl : Nat) (s : State) : State :=
  if hdrLeft h = 0 then s.inc HRD_DROP_COUNT else
  let f : List Nat := [type, h.hops.toNat + 1, h.dest.toNat, h.origin.toNat, h.txid.toNat, hdrLeft h, ofs, len, code, pl]
  match mfind s.hrd.transit (hdrKey h) with
  | some t =>
    let s := herdSend t.port t.mac f s
    if type = 2 then s else
      let s := { s with hrd.transit := mdel s.hrd.transit (hdrKey h) }
      transitSettle s
  | none =>
    match s.route h.dest.toNat with
    | some (out, mac, _) => herdSend out mac f s
    | none => s.inc HRD_DROP_COUNT

/-- Act on a frame for a REQ that this member sent as origin: the command still waits for it; else the frame is late (R261). -/
def atOrigin (h : HerdHdr) (f : Nat → Nat → Cmd → State → State) (s : State) : State :=
  let late (s : State) : State := s.inc HRD_LATE_COUNT
  match mfind s.hrd.origin h.txid.toNat with
  | none => late s
  | some (id, got, _) =>
    match s.cmd id with
    | some c => if c.phase = 11 then f id got c s else late s
    | none => late (originDone h.txid.toNat s)

/-- HERD_DATA (R257 step 3): the payload is written to the origin's host in OFFSET order; a frame out of order is dropped. -/
def execHerdData (p : Fin 4) (h : HerdHdr) (ofs : Word) (len : BitVec 16) (payload : Nat) (s : State) : Out :=
  withHerd p h (fun s =>
    let n := len.toNat
    if h.dest.toNat = s.fld HRD_ID_MEMBER then
      atOrigin h (fun id got _ s =>
        if ofs.toNat != got then s.inc HRD_DROP_COUNT else
        let at' := match mfind s.hrd.origin h.txid.toNat with | some x => x.2.2 | none => 0
        dataOut id got n (payload % 2 ^ (8 * n)) false { s with hrd.origin := mins s.hrd.origin h.txid.toNat (id, got + n, at') }) s
    else herdBack h 2 ofs.toNat n 0 (payload % 2 ^ (8 * n)) s) s

/-- HERD_RESP (R257 step 4): status and value size. -/
def execHerdResp (p : Fin 4) (h : HerdHdr) (status : BitVec 11) (size : Word) (s : State) : Out :=
  withHerd p h (fun s =>
    if h.dest.toNat = s.fld HRD_ID_MEMBER then
      atOrigin h (fun id _ _ s =>
        finishSt id status.toNat (modCmd (originDone h.txid.toNat s) id fun c => { c with dw0 := size.toNat })) s
    else herdBack h 3 0 8 0 (status.toNat + size.toNat * 2 ^ 32) s) s

/-- The origin falls back (R257 step 5), cause 6, with the offset reached. -/
def originFallback (txid id got : Nat) (c : Cmd) (s : State) : State :=
  fallbackGo id 6 got (some c.data) (originDone txid s)

/-- HERD_ERR (R257 step 5). -/
def execHerdErr (p : Fin 4) (h : HerdHdr) (code : BitVec 16) (s : State) : Out :=
  withHerd p h (fun s =>
    if h.dest.toNat = s.fld HRD_ID_MEMBER then
      atOrigin h (fun id got c s => originFallback h.txid.toNat id got c (raise EV_HRD_ERR code.toNat s)) s
    else herdBack h 4 0 0 code.toNat 0 s) s

/-- HERD_DEADLINE_EXPIRY (R257 step 5): HRD_DEADLINE has passed since the REQ without a RESP. -/
def execHerdDeadlineExpiry (txid : Word) (s : State) : Out :=
  match mfind s.hrd.origin txid.toNat with
  | none => .next s
  | some (id, got, t) =>
    if s.mtime < t + 100 * s.cur HRD_DEADLINE_US then .next s else
    match s.cmd id with
    | some c =>
      if c.phase != 11 then .next s
      else .next (originFallback txid.toNat id got c (raise EV_HRD_TIMEOUT 0 (s.inc HRD_TIMEOUT_COUNT)))
    | none => .next (originDone txid.toNat s)

/-- TRANSIT_ENTRY_EXPIRY (R258). -/
def execTransitEntryExpiry (origin : BitVec 14) (txid : Word) (s : State) : Out :=
  let k := origin.toNat * 2 ^ 32 + txid.toNat
  match mfind s.hrd.transit k with
  | some t =>
    if s.mtime < t.deadline then .next s else
    let s := { s with hrd.transit := mdel s.hrd.transit k }
    .next (transitSettle s)
  | none => .next s

end Sys2Proof.Machine
end

