-- ==== Sys2Proof/Machine/Pair.lean ====
section
/-! DEFINITION. Family: the pair link PLK and mirrored namespaces (spec/13_pair.md). -/

namespace Sys2Proof.Machine

/-! ### Pair state and ANA (R304) -/

/-- The ANA state of group 2 in a pair state; none where R304 gives none. -/
def anaOf (st acting : Nat) : Option Nat :=
  match st with
  | 2 => some (if acting = 2 then 2 else 1)
  | 3 => some 0xF
  | 4 => some 1
  | 6 => some 1
  | 5 => some 3
  | 7 => some 3
  | 8 => some 3
  | _ => none

/-- Write PLK_ANA; each change raises EV_PLK_ANACHG. -/
def setAna (v : Nat) (s : State) : State := if s.fld PLK_ANA_STATE = v then s else raise EV_PLK_ANACHG v (s.setFld PLK_ANA_STATE v)

/-- Write PLK_STAT.STATE with the ANA state that goes with it; in RECOVERY Inaccessible whatever the state (R295). -/
def setPairState (st : Nat) (s : State) : State :=
  let s := s.setFld PLK_STAT_STATE st
  if s.mode = mRECOVERY then setAna 3 s else
  match anaOf st (s.fld PLK_ROLE_ACTING) with
  | some v => setAna v s
  | none => s

/-- Offset in code flash of a slot of the pair log. -/
def pairOff (bank slot : Nat) : Nat := bank * 0x800000 + 0xA0000 + 32 * slot

/-- A slot of the pair log is free in both banks. -/
def State.pairFree (s : State) (slot : Nat) : Bool := (List.range 4).all fun i => !s.wordUsed (pairOff 0 slot + 8 * i) && !s.wordUsed (pairOff 1 slot + 8 * i)

/-- The next free slot of the pair log (R287). -/
def State.pairNext (s : State) : Nat := (((List.range 256).map fun k => (s.plk.logSlot + k) % 256).find? s.pairFree).getD s.plk.logSlot

/-- The operations that write a 32-byte record: its words in bank 0, then in bank 1; the first slot of a sector takes the erase of the other sector with
it (R287). -/
def pairOps (slot v : Nat) : List FlashOp :=
  ([0, 1].flatMap fun bank => (List.range 4).map fun i =>
    let d := nbits v (64 * i) 64
    ({ who := 21, erase := false, offset := pairOff bank slot + 8 * i, data := BitVec.ofNat 64 d, chkb := BitVec.ofNat 8 (chk72 d) } : FlashOp)) ++
  (if slot % 128 = 0 then [0, 1].map fun bank => ({ who := 21, erase := true, offset := pairOff bank (128 * ((slot / 128 + 1) % 2)) } : FlashOp) else [])

/-- Write a pair-log record of the epochs, roles and flags to the next free slot of both banks (R287); none in RECOVERY (R295). -/
def pairLog (s : State) : State :=
  if s.mode = mRECOVERY then s else
  let no := s.plk.logNo + 1
  let body := 0x31474C50 + no % 2 ^ 32 * 2 ^ 32 + s.fld PLK_EPOCH_EPOCH * 2 ^ 64 + s.fld PLK_BASE_EPOCH * 2 ^ 96 + s.plk.pairId * 2 ^ 128
    + (s.fld PLK_ROLE_ACTING + s.fld PLK_STAT_CURRENT * 4 + s.fld PLK_STAT_SYNC * 8) * 2 ^ 192
  let r := body + (crc32c (leBytes 28 body)).toNat * 2 ^ 224
  let slot := s.pairNext
  let ops := pairOps slot r
  let s' := { s with plk.logNo := no, plk.logSlot := (slot + 1) % 256, plk.logOps := s.plk.logOps ++ ops }
  match s.plk.logOps, ops with
  | [], op :: _ => cflSubmitHw op s'
  | _, _ => s'

/-- A record is still being written: the ANA state and completions under the new state wait (R287). -/
def State.logWaits (s : State) : Bool := s.plk.logOps.any fun o => !o.erase

/-- The pair state that this half is in, or goes to once its records are written. -/
def State.pairTarget (s : State) : Nat := match s.plk.due.getLast? with | some d => d.1 | none => s.pairState

/-! ### Held writes (R294, R299, R301) -/

/-- Commands of this half's hosts to mirrored namespaces that write. -/
def State.mirrorCmds (s : State) : List (Nat × Cmd) := s.cmds.filter fun e => e.2.port < 8192 && e.2.kind != 0 && s.mirrored e.2.slot

/-- Forget the partner's writes of which nothing has been placed here. -/
def dropPeer (s : State) : State :=
  let s := (s.cmds.filter fun e => e.2.port = 8193 && e.2.phase != 4).foldl (fun s e => let s := dropWork e.1 s; { s with cmds := mdel s.cmds e.1 }) s
  { s with plk.rx := [] }

/-- A survivor completes the held writes that are appended here, and places those that awaited MORD. -/
def releaseWrites (s : State) : State :=
  s.mirrorCmds.foldl (fun s e =>
    if e.2.phase = 10 && e.2.appended then finish e.1 0 0 s
    else if e.2.phase = 10 && e.2.msn.isNone then placeWrite e.1 (modCmd s e.1 fun c => { c with mirror := false })
    else modCmd s e.1 fun c => { c with mirror := false }) s

/-- A half that fences fails the held writes and every command to a mirrored namespace under way, reads among them, with Asymmetric Access
Inaccessible. -/
def failMirrored (s : State) : State :=
  (s.cmds.filter fun e => e.2.port < 8192 && !e.2.isAdmin && e.2.phase != 0 && e.2.phase != 6 && e.2.phase != 7 && e.2.phase != 13
      && e.2.nlb + e.2.ranges.length != 0 && s.mirrored e.2.slot).foldl
    (fun s e => finishSt e.1 stAnaInaccessible (dropWork e.1 s)) s

/-- The record of EV_PLK_DECIDED: the outcome (the pair state, 4 or 5) and the epoch. -/
def decided (s : State) : State := raise EV_PLK_DECIDED (s.pairState + s.fld PLK_EPOCH_EPOCH * 2 ^ 32) s

/-- What follows a pair state that a half enters: 1 a survivor's decision, 2 a fence's, 3 a half that serves no mirrored namespace from now on, 4 the end of a
resync or of SOLO, 5 the target of a resync. -/
def pairAct (act : Nat) (s : State) : State :=
  match act with
  | 1 => releaseWrites (dropPeer (decided s))
  | 2 => failMirrored (dropPeer (decided s))
  | 3 => failMirrored (dropPeer s)
  | 5 => failMirrored s
  | 4 => if s.mode = mSOLO then { s with pwr.serviceDue := true } else s
  | _ => s

/-- Enter a pair state: at once, or when the records before it have been written (R287). -/
def pairTo (st act : Nat) (s : State) : State :=
  if s.logWaits then { s with plk.due := s.plk.due ++ [(st, act)] } else pairAct act (setPairState st s)

/-- This half continues (R296, R297, R299): EPOCH, CURRENT = 1, SYNC = 0 in the log, then the state. -/
def survive (epoch : Nat) (s : State) : State :=
  let s := ((s.setFld PLK_EPOCH_EPOCH epoch).setFld PLK_STAT_CURRENT 1).setFld PLK_STAT_SYNC 0
  pairTo 4 1 { pairLog s with plk.claiming := false }

/-- This half fences (R296, R297, R299); flags say that CURRENT and SYNC are cleared in the log. -/
def fence (flags : Bool) (s : State) : State :=
  pairTo 5 2 (if flags then pairLog ((s.setFld PLK_STAT_CURRENT 0).setFld PLK_STAT_SYNC 0) else s)

/-- Send CLAIM for EPOCH + 1 to the witness (R297, R300). -/
def sendClaim (s : State) : State :=
  if s.flag PLK_STAT_WITUP then
    s.emit (.frame "witness" "CLAIM" [s.fld PLK_ROLE_IMAGE, s.plk.pairId, s.fld PLK_EPOCH_EPOCH + 1, s.fld HRD_ID_MEMBER])
  else s

/-- The decision of R296 and R297. -/
def splitDecide (s : State) : State :=
  if !s.on PLK_WITNESS_ENA then
    if s.fld PLK_ROLE_ACTING = 1 then survive (s.fld PLK_EPOCH_EPOCH + 1) s else fence true s
  else if s.flag PLK_STAT_CURRENT then sendClaim { s with plk.claiming := true }
  else fence false s

/-- The link-down side of a declaration: the partner is not reachable, namespace operations at it fail. -/
def pairGone (s : State) : State :=
  let s := s.setFld PLK_STAT_REACH 0
  { s with
    plk.lost := true, plk.alive := false, plk.helloIn := false, plk.helloOut := false, plk.helloSent := false
    plk.region := none, plk.rsReady := false, plk.rsWords := 0, plk.lossAt := s.mtime, plk.pSpent := false
    plk.nsops := s.plk.nsops.map fun (n : Nat × Nat × Option Nat) => (n.1, n.2.1, n.2.2.or (some stSequence))
    cmds := s.cmds.filter fun e => e.2.port != 8195
    ste.ledAck := true }

/-- LINK_LOSS (R294, R295): 30 ms without a heartbeat of a partner that was reachable. -/
def linkLoss (s : State) : State :=
  let st := s.pairTarget
  let s := s.plk.outst.foldl (fun s o => mapMark o.2.1 o.2.2.1 o.2.2.2 s) s
  let s := pairGone { s with plk.outst := [] }
  let s := occur 26 0 21 3 (raise EV_PLK_LOSS 0 (s.inc PLK_SPLITS_COUNT))
  let m := s.mode
  let s := if m = mSERVICE || m = mDRAIN then { s with pwr.soloDue := true } else s
  if m = mRECOVERY then setAna 3 s
  else if st = 6 then pairTo 4 0 s
  else if st = 7 then pairTo 5 0 s
  else if st = 2 then splitDecide (pairTo (if m = mCONFIG then 5 else 3) 0 s)
  else s

/-- LINK_LOSS (R294). -/
def execLinkLoss (s : State) : Out :=
  .next (if s.flag PLK_ROLE_IMAGE && s.plk.alive && !s.plk.lost && s.domOn dFABRIC && s.plk.hbAt + 3000000 ≤ s.mtime then linkLoss s else s)

/-- PARTNER_REACH_TIMEOUT (R27, R299): in CONFIG, paired and the partner not reachable within 250 ms of the link's enable: the half is to
enter SOLO, starts fenced and decides. -/
def execPartnerReachTimeout (s : State) : Out :=
  .next (if s.flag PLK_ROLE_IMAGE && s.mode = mCONFIG && !s.flag PLK_STAT_REACH && !s.plk.lost then
    splitDecide (pairTo 5 0 (pairGone s)) else s)

/-! ### The witness (R297, R298, R300) -/

/-- GRANT (R297, R298): for the epoch claimed; the acting junior becomes acting senior.  ok: MAGIC and CRC are right. -/
def execGrant (ok : Bool) (pairId : DWord) (epoch : Word) (s : State) : Out :=
  .next (if ok && s.flag PLK_STAT_WITUP && s.plk.claiming && s.mode != mRECOVERY && pairId.toNat = s.plk.pairId && epoch.toNat = s.fld PLK_EPOCH_EPOCH + 1 then
    survive epoch.toNat (s.setFld PLK_ROLE_ACTING 1) else s)

/-- DENY (R297). -/
def execDeny (ok : Bool) (pairId : DWord) (s : State) : Out :=
  .next (if ok && s.flag PLK_STAT_WITUP && s.plk.claiming && s.mode != mRECOVERY && pairId.toNat = s.plk.pairId then fence true { s with plk.claiming := false } else s)

/-- PONG (R300): the connection is alive; nothing else follows. -/
def execPong (_ok : Bool) (s : State) : Out := .next s

/-- WITNESS_REPLY_TIMEOUT (R297): no reply 200 ms after the declaration: the half fences, keeps CURRENT and goes on claiming. -/
def execWitnessReplyTimeout (s : State) : Out :=
  .next (if s.plk.claiming && s.mode != mRECOVERY && s.pairTarget = 3 && s.plk.lossAt + 20000000 ≤ s.mtime then fence false s else s)

/-- CLAIM_RESEND (R297): once per second while fenced without a reply. -/
def execClaimResend (s : State) : Out := .next (if s.plk.claiming && s.mode != mRECOVERY && s.pairTarget = 5 then sendClaim s else s)

/-- PING_SEND (R300). -/
def execPingSend (s : State) : Out :=
  .next (if s.flag PLK_STAT_WITUP then s.emit (.frame "witness" "PING" [s.fld PLK_ROLE_IMAGE, s.plk.pairId, s.fld HRD_ID_MEMBER]) else s)

/-- WITNESS_CONNECTION_UP (R300): the handshake that PLK opened completes. -/
def execWitnessConnectionUp (s : State) : Out :=
  .next (if s.plk.wit = 1 && s.portUp (s.cur PLK_WITNESS_FPORT) then { s.setFld PLK_STAT_WITUP 1 with plk.wit := 2 } else s)

/-- WITNESS_CONNECTION_LOST (R300). -/
def execWitnessConnectionLost (s : State) : Out :=
  .next (if s.plk.wit = 0 then s else
    let was := s.flag PLK_STAT_WITUP
    let s := { s.setFld PLK_STAT_WITUP 0 with plk.wit := 0 }
    if was then raise EV_PLK_WITLOST 0 s else s)

/-- WITNESS_RECONNECT (R300): PLK opens the connection, once per second while it is closed. -/
def execWitnessReconnect (s : State) : Out :=
  .next (if s.plk.wit = 0 && s.flag PLK_ROLE_IMAGE && s.on PLK_WITNESS_ENA && s.portUp (s.cur PLK_WITNESS_FPORT) then
    { s with plk.wit := 1 }.emit (.frame "witness" "SYN" [s.cur PLK_WITNESS_FPORT, s.cur PLK_WITNESS_TCPPORT,
      s.cur PLK_WITADDR_ADDR 0, s.cur PLK_WITADDR_ADDR 1, s.cur PLK_WITADDR_ADDR 2, s.cur PLK_WITADDR_ADDR 3]) else s)

/-! ### Sending (R285, R286, R293) -/

/-- The link can carry frames. -/
def State.pairRuns (s : State) : Bool := s.flag PLK_ROLE_IMAGE && s.domOn dFABRIC && s.plk.lanes != 0 && s.mode != mBOOT && s.mode != mDORMANT

/-- The mirrored slots that the image declares. -/
def State.mirrorSlots (s : State) : List Nat := (List.range 128).filter fun k => s.flag TXE_NSCFG_DECL k && s.mirrored k

/-- Send HELLO (R286): PART, image role, acting role, EPOCH, BASE, flags, SERIAL, herd member ID, then NSID, IU code and maximum size of each
mirrored slot. -/
def sendHello (s : State) : State :=
  let flags := s.fld PLK_STAT_CURRENT + 2 * s.fld PLK_STAT_SYNC + 4 * s.fld PLK_STAT_MAPVALID
  let head := 0x7232 + s.fld PLK_ROLE_IMAGE * 2 ^ 16 + s.fld PLK_ROLE_ACTING * 2 ^ 24 + s.fld PLK_EPOCH_EPOCH * 2 ^ 32 + s.fld PLK_BASE_EPOCH * 2 ^ 64
    + flags * 2 ^ 96 + (s.fld LAY_SERIAL_LO_SERIAL + s.fld LAY_SERIAL_HI_SERIAL * 2 ^ 32) * 2 ^ 128 + s.fld HRD_ID_MEMBER * 2 ^ 192
  let l := s.mirrorSlots
  let body := l.zipIdx.foldl (fun v k => v + (mget 0 s.txe.nsid k.1 + s.fld TXE_NSCFG_IU k.1 * 2 ^ 32 + mget 0 s.txe.maxUnits k.1 * 2 ^ 64) * 2 ^ (256 + 128 * k.2)) 0
  pairSend 1 0 0 0 (head + body) (32 + 16 * l.length) { s with plk.helloSent := true }

/-- HELLO_SEND (R286): every 1 ms until one is received. -/
def execHelloSend (s : State) : Out := .next (if s.pairRuns && !s.plk.helloIn then sendHello s else s)

/-- NULL_SEND (R285). -/
def execNullSend (s : State) : Out := .next (if s.pairRuns then pairSend 0 0 0 0 0 0 s else s)

/-- HEARTBEAT_SEND (R293): PWR_MODE.CUR, SPENT and CURRENT, EPOCH, the highest MSN appended.  An interval in which none arrived counts in
PLK_HBMISS. -/
def execHeartbeatSend (s : State) : Out :=
  .next (if !s.pairRuns then s else
    let s := if s.plk.alive && !s.plk.hbSeen then s.inc PLK_HBMISS_COUNT else s
    pairSend 2 0 0 0 (s.mode + b2n (s.mode = mSPENT) * 2 ^ 8 + s.fld PLK_STAT_CURRENT * 2 ^ 9 + s.fld PLK_EPOCH_EPOCH * 2 ^ 32
      + s.pair PLK_MSN_LO_MSN PLK_MSN_HI_MSN * 2 ^ 64) 16 { s with plk.hbSeen := false })

/-- PAIR_RETRANSMIT (R285): from the oldest unacknowledged frame. -/
def execPairRetransmit (s : State) : Out :=
  .next (if s.pairRuns then
    s.plk.unacked.foldl (fun s f => (s.emit (.frame "pair" "frame" [f.type, f.flags, f.n, f.seq, s.plk.rxseq, f.msn, f.tag, s.fld PLK_EPOCH_EPOCH, f.payload])).inc PLK_RETX_COUNT) s
    else s)

/-! ### Lanes (R283) -/

/-- PLK_STAT.LINK and LANES. -/
def laneSettle (n : Nat) (s : State) : State :=
  ({ s with plk.lanes := n }.setFld PLK_STAT_LINK (b2n (n != 0))).setFld PLK_STAT_LANES n

/-- PAIR_LINK_UP (R283, R286): the link trains on one lane or both; both halves begin at TXSEQ 0 and send HELLO. -/
def execPairLinkUp (lanes : Fin 3) (s : State) : Out :=
  .next (if s.flag PLK_ROLE_IMAGE && s.domOn dFABRIC && s.plk.lanes = 0 && lanes != 0 && s.mode != mBOOT && s.mode != mDORMANT then
    let s := laneSettle lanes { s with plk.txseq := 0, plk.rxseq := 0, plk.unacked := [], plk.helloIn := false, plk.helloOut := false, plk.helloSent := false }
    sendHello (if s.pairState = 0 then pairTo 1 0 s else s)
    else s)

/-- LANE_LOSS (R283). -/
def execLaneLoss (s : State) : Out :=
  .next (if s.domOn dFABRIC && s.plk.lanes != 0 then raise EV_PLK_LANE (s.plk.lanes - 1) (laneSettle (s.plk.lanes - 1) s) else s)

/-- PAIR_LANE_RESTORE (R283). -/
def execPairLaneRestore (s : State) : Out := .next (if s.domOn dFABRIC && s.plk.lanes = 1 then laneSettle 2 s else s)

/-! ### Resynchronisation (R301–R303) -/

/-- Regions of 1 MiB of a slot's namespace. -/
def State.regions (s : State) (slot : Nat) : Nat := if s.nsExists slot then ceilDiv (s.nsUnits slot * s.slotCw slot) 256 else 0

/-- The change-map keys of the mirrored namespaces, in slot order, each slot filled up to whole 8-byte words. -/
def State.mapKeys (s : State) : List Nat :=
  s.mirrorSlots.flatMap fun k => (List.range (ceilDiv (s.regions k) 64 * 64)).map (k * 2 ^ 32 + ·)

/-- PLK_RESYNC.REGIONS follows the map. -/
def mapSettle (s : State) : State := s.setFld PLK_RESYNC_REGIONS s.plk.map.length

/-- Mark every region of every mirrored namespace. -/
def markAll (s : State) : State :=
  { s with plk.map := s.mirrorSlots.foldl (fun m k => (List.range (s.regions k)).foldl (fun m r => mput false m (k * 2 ^ 32 + r) true) m) s.plk.map }

/-- Send the change map (R302): 8-byte words, at most 8,192 to a frame. -/
def sendMap (s : State) : State :=
  let ks := s.mapKeys
  let words := ks.length / 64
  (List.range (max 1 (ceilDiv words 8192))).foldl (fun s f =>
    let part := (ks.drop (f * 8192 * 64)).take (8192 * 64)
    pairSend 12 (b2n ((f + 1) * 8192 ≥ words)) 0 0 (part.zipIdx.foldl (fun v k => if mget false s.plk.map k.1 then v + 2 ^ k.2 else v) 0) (part.length / 8) s) s

/-- The end of a resync on this half (R303): EPOCH and BASE, CURRENT = SYNC = 1, the map cleared, SERVICE. -/
def syncDone (epoch : Nat) (s : State) : State :=
  let s := (((s.setFld PLK_EPOCH_EPOCH epoch).setFld PLK_BASE_EPOCH epoch).setFld PLK_STAT_CURRENT 1).setFld PLK_STAT_SYNC 1
  let s := pairLog { s with plk.map := [], plk.region := none, plk.rsReady := false }
  let s := ((mapSettle s).setFld PLK_RESYNC_FULL 0).setFld PLK_STAT_MAPVALID 1
  pairTo 2 4 s

/-- The source sends RSDONE when no bit remains. -/
def resyncCheck (s : State) : State :=
  if s.pairState = 6 && s.mode != mRECOVERY && s.plk.rsReady && s.plk.region.isNone && s.plk.map.isEmpty then
    raise EV_PLK_RESYNC 0 (syncDone (s.fld PLK_EPOCH_EPOCH) (pairSend 14 0 0 0 0 0 s)) else s

/-- The halves settle their state when they become reachable (R51, R298, R302). -/
def settlePair (s : State) : State :=
  let s := { s.setFld PLK_STAT_REACH 1 with plk.lost := false, plk.alive := true, plk.hbAt := s.mtime, plk.claiming := false }
  if s.mode = mRECOVERY then s
  else if s.plk.pImage = s.fld PLK_ROLE_IMAGE then
    let s := raise EV_LAY_PAIRCONFLICT 0 { s with pwr.soloDue := s.pwr.soloDue || s.mode = mSERVICE || s.mode = mDRAIN }
    pairTo 8 3 (pairLog ((s.setFld PLK_STAT_CURRENT 0).setFld PLK_STAT_SYNC 0))
  else
    let serial := s.fld LAY_SERIAL_LO_SERIAL + s.fld LAY_SERIAL_HI_SERIAL * 2 ^ 32
    let s := { s with plk.pairId := if s.fld PLK_ROLE_IMAGE = 1 then serial else s.plk.pSerial }
    let e := s.fld PLK_EPOCH_EPOCH
    let pe := s.plk.pEpoch
    let s := if s.plk.pActing = 1 && s.fld PLK_ROLE_ACTING = 1 && e < pe then pairLog (s.setFld PLK_ROLE_ACTING 2) else s
    if e = pe && s.flag PLK_STAT_SYNC && s.plk.pSync then
      let s := s.setFld PLK_STAT_MAPVALID 1
      pairTo 2 4 s
    else
      let mine : Bool := pe < e || (e = pe && s.fld PLK_ROLE_ACTING = 1)
      let current := if mine then s.flag PLK_STAT_CURRENT else s.plk.pCurrent
      if !current then raise EV_PLK_STALE 0 (pairTo 5 3 s)
      else
        let byMap : Bool := s.flag PLK_STAT_MAPVALID && s.plk.pMapValid && (if mine then pe = s.fld PLK_BASE_EPOCH else e = s.plk.pBase)
        let s := raise EV_PLK_RESYNC 1 (s.setFld PLK_RESYNC_FULL (b2n !byMap))
        if mine then
          let s := pairTo 6 0 s
          resyncCheck (mapSettle (if byMap then { s with plk.rsReady := false, plk.rsWords := 0 } else { markAll s with plk.rsReady := true }))
        else
          let s := pairTo 7 5 { s with plk.lastMsn := none, plk.done := [] }
          if byMap then sendMap s else s

/-! ### Receiving (R285) -/

/-- Our HELLO has been acknowledged. -/
def State.helloAcked (s : State) : Bool := s.plk.helloSent && !(s.plk.unacked.any fun f => f.type = 1)

/-- Reachable once HELLOs have passed both ways (R286). -/
def reachSettle (s : State) : State :=
  let s := { s with plk.helloOut := s.helloAcked }
  if s.plk.helloIn && s.plk.helloOut && !s.flag PLK_STAT_REACH then settlePair s else s

/-- Act on a frame: dropped when its CRC fails or its TXSEQ is not the next expected; ACKSEQ acknowledges every frame before it.  None is
accepted after a brown-out (R201). -/
def withPair (h : PairHdr) (f : State → State) (s : State) : Out :=
  .next (if !s.pairRuns || s.flag CKP_STAT_BOD || !h.ok || h.txseq.toNat != s.plk.rxseq then s else
    let a := h.ackseq.toNat
    let s := { s with
      plk.rxseq := (s.plk.rxseq + 1) % 2 ^ 32
      plk.unacked := s.plk.unacked.filter fun x => (x.seq + 2 ^ 32 - a) % 2 ^ 32 < 2 ^ 31 }
    reachSettle (f s))

/-- NULL (R285). -/
def execNull (h : PairHdr) (s : State) : Out := withPair h id s

/-- HELLO (R286): image role, acting role, BASE, CURRENT, SYNC, MAPVALID, SERIAL, herd member ID, and (NSID, IU code, maximum units) of each
mirrored slot; EPOCH is the header's. -/
def execHello (h : PairHdr) (image acting : Fin 4) (base : Word) (current sync mapValid : Bool) (serial : DWord) (herd : BitVec 14)
    (slots : List (Nat × Nat × Nat)) (s : State) : Out :=
  withPair h (fun s =>
    let s := { s with
      plk.helloIn := true, plk.pImage := image, plk.pActing := acting, plk.pEpoch := h.epoch.toNat, plk.pBase := base.toNat
      plk.pCurrent := current, plk.pSync := sync, plk.pMapValid := mapValid, plk.pSerial := serial.toNat, plk.pHerd := herd.toNat, plk.pSlots := slots }
    if s.plk.helloSent then s else sendHello s) s

/-- HB (R293): the timer starts again; the partner's SPENT and CURRENT. -/
def execHb (h : PairHdr) (spent current : Bool) (_msn : DWord) (s : State) : Out :=
  withPair h (fun s => { s with plk.hbAt := s.mtime, plk.hbSeen := true, plk.pSpent := spent, plk.pCurrent := current }) s

/-! ### Mirrored writes (R288–R290) -/

/-- Why this half cannot place a write of the partner, if it cannot. -/
def State.mirrorBad (s : State) (c : Cmd) : Option Nat :=
  if !s.nsExists c.slot then some stInvalidNs
  else if s.mode = mSPENT then some stWriteProtected
  else if s.pairTarget != 2 && s.pairTarget != 6 && s.pairTarget != 7 then some stAnaInaccessible
  else if !s.keyReady c.slot then some stNsNotReady
  else if (c.ranges.any fun r => mget 0 s.txe.nsze c.slot < r.2.1 + r.2.2) || mget 0 s.txe.nsze c.slot < c.slba + c.nlb then some stLbaRange
  else none

/-- The ranges that a mirrored Deallocate carries. -/
def rangesOf (slot data n : Nat) : List (Nat × Nat × Nat) :=
  (List.range n).map fun i => (slot, nbits data (128 * i + 64) 64, nbits data (128 * i + 32) 32)

/-- Every frame of a write is in: place it, or refuse it with MNAK. -/
def peerWrite (msn tag : Nat) (w : RxWrite) (s : State) : State :=
  let id := s.hpt.nextCmd
  let c : Cmd := { port := 8193, slot := w.slot, slba := if w.kind = 3 then 0 else w.lba, nlb := if w.kind = 3 then 0 else w.nlb, data := w.data, kind := w.kind, tag,
                   msn := if msn = 0 then none else some msn, passed := true, ranges := if w.kind = 3 then rangesOf w.slot w.data (w.bytes / 16) else [] }
  match s.mirrorBad c with
  | some st => skipMsn c.msn (pairSend 6 0 msn tag st 4 s)
  | none => placeWrite id { s with hpt.nextCmd := id + 1, cmds := mins s.cmds id c }

/-- MWR (R288): descriptor (slot, kind, LBA, blocks) and n bytes of data; the frames of a write carry one TAG, the last one LAST. -/
def execMwr (h : PairHdr) (slot kind : Byte) (lba : DWord) (blocks : Word) (n data : Nat) (s : State) : Out :=
  withPair h (fun s =>
    let t := h.tag.toNat
    let d := data % 2 ^ (8 * n)
    let w : RxWrite := match mfind s.plk.rx t with
      | some w => { w with nlb := w.nlb + blocks.toNat, data := w.data + d * 2 ^ (8 * w.bytes), bytes := w.bytes + n }
      | none => { slot := slot.toNat, kind := kind.toNat, lba := lba.toNat, nlb := blocks.toNat, data := d, bytes := n }
    if h.last then peerWrite h.msn.toNat t w { s with plk.rx := mdel s.plk.rx t }
    else { s with plk.rx := mins s.plk.rx t w }) s

/-- MORD (R288): the senior's MSN for this half's write with the TAG, which is placed in MSN order.  DEDUCED (log 95): one that a reset or a deletion has
dropped here (R230, R233) is answered with MNAK. -/
def execMord (h : PairHdr) (s : State) : Out :=
  withPair h (fun s =>
    match s.cmds.find? fun e => e.2.port < 8192 && e.2.phase = 10 && e.2.msn.isNone && e.2.tag = h.tag.toNat with
    | some e => placeWrite e.1 (modCmd s e.1 fun c => { c with msn := some h.msn.toNat })
    | none => skipMsn (some h.msn.toNat) (pairSend 6 0 h.msn.toNat h.tag.toNat stAbortRequested 4 s)) s

/-- MACK (R289). -/
def execMack (h : PairHdr) (s : State) : Out := withPair h (mackIn h.msn.toNat) s

/-- MNAK (R290): the write completes with the partner's status; units placed here keep the new data. -/
def execMnak (h : PairHdr) (status : BitVec 11) (s : State) : Out :=
  withPair h (fun s =>
    let m := h.msn.toNat
    let s := { s with plk.outst := s.plk.outst.filter fun o => o.1 != m }
    match s.cmds.find? fun e => e.2.port < 8192 && e.2.mirror && e.2.tag = h.tag.toNat with
    | some e =>
      if e.2.phase = 4 && !e.2.appended then modCmd s e.1 fun c => { c with nak := status.toNat, mirror := false }
      else finishSt e.1 status.toNat (dropWork e.1 s)
    | none => s) s

/-! ### The ledger's copy (R292) -/

/-- LEDG (R292): the partner's ledger page is kept, and acknowledged with its sequence number (bytes 8–15 of the page, R188). -/
def execLedg (h : PairHdr) (page : BitVec 131072) (s : State) : Out :=
  withPair h (fun s =>
    let v := page.toNat
    let seq := nbits v 64 64
    pairSend 8 0 0 0 seq 8 { s with plk.ledger := some (seq, v) }) s

/-- LACK (R292). -/
def execLack (h : PairHdr) (seq : DWord) (s : State) : Out :=
  withPair h (fun s =>
    if seq.toNat = s.pair STE_LEDSEQ_LO_SEQ STE_LEDSEQ_HI_SEQ then { s.setFld STE_LEDGER_PARTNER 1 with ste.ledAck := true } else s) s

/-- LREQ (R292): answered with the page held, or with an empty LRSP. -/
def execLreq (h : PairHdr) (s : State) : Out :=
  withPair h (fun s => match s.plk.ledger with
    | some (_, v) => pairSend 15 0 0 0 v 16384 s
    | none => pairSend 15 0 0 0 0 0 s) s

/-- LRSP (R292): this half's ledger page, or none. -/
def execLrsp (h : PairHdr) (page : Option (BitVec 131072)) (s : State) : Out :=
  withPair h (fun s => if s.plk.lreq then { s with plk.lreq := false, plk.lrsp := page.map BitVec.toNat } else s) s

/-- LREQ_TIMEOUT (R292): recovery goes on without the partner's copy. -/
def execLreqTimeout (s : State) : Out := .next { s with plk.lreq := false }

/-! ### Namespace operations (R291) -/

/-- NSOP (R291): create (1), delete (2) or format (3) in a slot, with the LBA format and NSZE of a create; the answer is NSACK. -/
def execNsop (h : PairHdr) (op slot lbas : Byte) (nsze : DWord) (s : State) : Out :=
  withPair h (fun s =>
    let id := s.hpt.nextCmd
    let k := slot.toNat
    let s := { s with hpt.nextCmd := id + 1, cmds := mins s.cmds id { port := 8194, tag := h.tag.toNat, slot := k } }
    if s.mode != mSERVICE then finishSt id stSequence s
    else if op = 1 then
      if !s.flag TXE_NSCFG_DECL k || s.nsExists k || s.flag TXE_NSCFG_ZEROING k then finishSt id stNsIdUnavailable s
      else if mget 0 s.txe.maxUnits k < s.unitsFor k nsze.toNat lbas.toNat then finishSt id stNsCapacity s
      else nsCreateIn id k nsze.toNat lbas.toNat s
    else if !s.nsExists k || s.txe.deleting.any (fun d => d.1 = k) then finishSt id stInvalidNs s
    else if op = 2 then nsDeleteBegin id [k] s
    else if s.hpt.format.any fun d => d.1 = k then finishSt id stFormatInProgress s
    else fmtBegin id lbas.toNat [k] s) s

/-- NSACK (R291): the partner's status for the operation with the TAG. -/
def execNsack (h : PairHdr) (status : BitVec 11) (s : State) : Out :=
  withPair h (fun s => { s with plk.nsops := s.plk.nsops.map fun (n : Nat × Nat × Option Nat) =>
    if n.2.1 = h.tag.toNat && n.2.2.isNone then (n.1, n.2.1, some status.toNat) else n }) s

/-! ### Resync frames (R302, R303) -/

/-- RSMAP (R302): the next words of the target's change map; the source copies the union. -/
def execRsmap (h : PairHdr) (words : List DWord) (s : State) : Out :=
  withPair h (fun s =>
    if s.pairTarget != 6 then s else
    let ks := (s.mapKeys.drop (64 * s.plk.rsWords)).take (64 * words.length)
    let on := ks.zipIdx.filter fun (k : Nat × Nat) => match words[k.2 / 64]? with | some w => w.getLsbD (k.2 % 64) | none => false
    let s := { s with plk.map := on.foldl (fun m (k : Nat × Nat) => mput false m k.1 true) s.plk.map, plk.rsWords := s.plk.rsWords + words.length }
    resyncCheck (mapSettle { s with plk.rsReady := s.plk.rsReady || h.last })) s

/-- The logical units of a region. -/
def State.regionUnits (s : State) (key : Nat) : List Nat :=
  let slot := key / 2 ^ 32
  let lo := key % 2 ^ 32 * 256
  let u := s.slotCw slot
  (rangeFrom (lo / u) (max 1 (256 / u))).filter fun lu => lu < s.nsUnits slot

/-- Begin to copy a region: read its mapped units (R303 step 2). -/
def regionStart (key : Nat) (s : State) : State :=
  let id := s.hpt.nextCmd
  let slot := key / 2 ^ 32
  let u := s.slotCw slot
  let us := s.regionUnits key
  let first := (us.headD 0) * u
  let c : Cmd := { port := 8195, slot, kv := true, phase := 2, slba := first, nlb := us.length * u, tag := key }
  let s := { s with hpt.nextCmd := id + 1, cmds := mins s.cmds id c, plk.region := some key }
  let s := us.foldl (fun s lu => readUnit slot lu 0 u 0 (fun f => .host id (lu * u - first + f)) s) s
  if s.tck.jobs.any fun j => match j.2.client with | .host k _ => k = id | _ => false then s else modCmd s id fun c => { c with phase := 12 }

/-- Send a region's units as RSD frames, decrypted, zeros for unmapped units, and clear its bit (R303 step 3).  Units that the source cannot read
are not sent. -/
def regionSend (id key : Nat) (c : Cmd) (s : State) : State :=
  let slot := c.slot
  let u := s.slotCw slot
  let b := s.lbaBytes slot
  let cip := s.restBad slot
  let s := match cip with
    | some st => if c.got.isEmpty then s else restJobBad slot st s
    | none => cipCount (ceilDiv c.got.length u) (xtsOps c.got.length) s
  let s := (s.regionUnits key).foldl (fun s lu =>
    let k0 := lu * u - c.slba
    let e := s.mapEntry slot lu
    if !(entSt e = 0 || cip.isNone && (rangeFrom k0 u).all fun k => (mfind c.got k).isSome) then s else
    (List.range (max 1 (u / 16))).foldl (fun s f =>
      let n := min u 16
      let v := (List.range n).foldl (fun v k => v + s.cwPlain c c.slba (k0 + 16 * f + k) * 2 ^ (32768 * k)) 0
      pairSend 13 0 0 0 (mwrDesc slot 0 ((lu * u + 16 * f) * 4096 / b) (n * 4096 / b) + v * 2 ^ 128) (16 + 4096 * n) s) s) s
  let s := { s with cmds := mdel s.cmds id, plk.region := none, plk.map := mdel s.plk.map key }
  resyncCheck (mapSettle (s.inc PLK_RSMIB_COUNT))

/-- RESYNC_REGION (R303): the source begins a marked region, and ends it once its units are read. -/
def execResyncRegion (slot : Fin 128) (region : BitVec 32) (s : State) : Out :=
  let key := slot.val * 2 ^ 32 + region.toNat
  if s.pairState != 6 || !s.plk.rsReady || !s.domOn dMEDIA then .next s else
  match s.plk.region with
  | none => .next (if mget false s.plk.map key then regionStart key s else s)
  | some k =>
    if k != key then .next s else
    match s.cmds.find? fun e => e.2.port = 8195 && e.2.kv && e.2.tag = key with
    | some (id, c) => .next (if c.phase = 12 && s.restRuns then regionSend id key c s else s)
    | none => .next { s with plk.region := none }

/-- RSD (R303): the target replaces the units named; zeros set their entries to 0. -/
def execRsd (h : PairHdr) (slot : Byte) (lba : DWord) (blocks : Word) (data : Nat) (s : State) : Out :=
  withPair h (fun s =>
    let k := slot.toNat
    if s.pairTarget != 7 || !s.nsExists k then s else
    let id := s.hpt.nextCmd
    let v := data % 2 ^ (8 * blocks.toNat * s.lbaBytes k)
    let c : Cmd := { port := 8195, slot := k, slba := lba.toNat, nlb := blocks.toNat, data := v, kind := if v = 0 then 2 else 1, passed := true }
    placeWrite id { s with hpt.nextCmd := id + 1, cmds := mins s.cmds id c }) s

/-- RSDONE (R303): the target takes the source's epoch and returns to SERVICE. -/
def execRsdone (h : PairHdr) (s : State) : Out :=
  withPair h (fun s => if s.pairTarget = 7 && s.mode != mRECOVERY then raise EV_PLK_RESYNC 0 (syncDone h.epoch.toNat s) else s) s

/-! ### The logs in code flash go on (R211, R287) -/

/-- The states that waited for their records are entered. -/
def pairDue (s : State) : State :=
  if s.logWaits then s else s.plk.due.foldl (fun s d => resyncCheck (pairAct d.2 (setPairState d.1 s))) { s with plk.due := [] }

/-- Go on with the pair log: an operation that has ended makes way for the next. -/
def pairStep : Nat → State → State
  | 0, s => s
  | n + 1, s =>
    match s.plk.logOps with
    | [] => s
    | op :: ops =>
      if s.cflHas op then s else
      let s := { s with plk.logOps := ops }
      pairStep n (match ops with | o :: _ => cflSubmitHw o s | [] => s)

/-- The pair log goes on, except after a brown-out (R201). -/
def pairGo (s : State) : State := if s.flag CKP_STAT_BOD then s else pairDue (pairStep 64 s)

/-- FLASH_PROGRAM_DONE (R362): the program running in a bank ends; a root-log or pair-log record that is being written goes on (R211, R287). -/
def execFlashProgramDone (bank : Fin 2) (miss : BitVec 72) (s : State) : Out := .next (pairGo (rootGo (flashProgramDone bank miss s)))

/-- FLASH_ERASE_DONE (R360): the erase running in a bank ends. -/
def execFlashEraseDone (bank : Fin 2) (ok : Bool) (s : State) : Out := .next (pairGo (rootGo (flashEraseDone bank ok s)))

end Sys2Proof.Machine
end

