-- ==== Sys2Proof/Machine/Cipher.lean ====
section
/-! DEFINITION. Family: the cipher complex CIP (spec/14_cipher.md). -/

namespace Sys2Proof.Machine

/-! ### Block functions (R305, R313, R319) -/

/-- A 128-bit block as 16 bytes, byte 0 lowest. -/
def blockBytes (b : Block) : List Byte := leBytes 16 b.toNat
def ofBlock (l : List Byte) : Block := BitVec.ofNat 128 (ofLe l)

/-- Multiplication in GF(2^128) in the bit order of SP 800-38D: bit 0 is the top bit of byte 0. -/
def ghashMul (a b : Block) : Block :=
  let x := ofBe (blockBytes a)
  let y := ofBe (blockBytes b)
  let z := ((List.range 128).foldl (fun (acc : Nat × Nat) i =>
    (if nbit x (127 - i) then acc.1 ^^^ acc.2 else acc.1, acc.2 / 2 ^^^ (if nbit acc.2 0 then 0xE1 * 2 ^ 120 else 0))) (0, y)).1
  ofBlock (leBytes 16 z).reverse

/-- Multiplication by α in the bit order of IEEE 1619. -/
def xtimeBlock (b : Block) : Block := BitVec.ofNat 128 (xtsDouble b.toNat)

/-- Bytes 8–15 as a big-endian integer increased by n, modulo 2^64. -/
def ctrAddBlock (b : Block) (n : Nat) : Block :=
  let l := blockBytes b
  ofBlock (l.take 8 ++ (leBytes 8 ((ofBe (l.drop 8) + n) % 2 ^ 64)).reverse)

/-- The GCM length block: the bit lengths of the additional data and of the rest, both big-endian. -/
def gcmLength (aad len : Nat) : Block := ofBlock ((leBytes 8 (8 * aad)).reverse ++ (leBytes 8 (8 * (len - aad))).reverse)

/-- Doubling of a CMAC subkey (SP 800-38B) on a big-endian number. -/
def cmacDouble (x : Nat) : Nat := x * 2 % 2 ^ 128 ^^^ (if nbit x 127 then 0x87 else 0)

/-- AES-CMAC of a message, 16 bytes. -/
def cmac (key msg : List Byte) : List Byte :=
  let k1 := cmacDouble (ofBe (aesEnc key (leBytes 16 0)))
  let k2 := cmacDouble k1
  let n := max 1 (ceilDiv msg.length 16)
  let last := msg.drop (16 * (n - 1))
  let full := last.length = 16
  let pad := if full then last else last ++ [0x80] ++ List.replicate (15 - last.length) 0
  let fin := xorBytes pad (leBytes 16 (if full then k1 else k2)).reverse
  let mac := (List.range (n - 1)).foldl (fun x i => aesEnc key (xorBytes x ((msg.drop (16 * i)).take 16))) (leBytes 16 0)
  aesEnc key (xorBytes mac fin)

/-- The t-th of the 6n steps of an RFC 3394 wrap, and of an unwrap: A and the blocks R1 … Rn. -/
def wrapStep (key : List Byte) (n : Nat) (x : List Byte × List (List Byte)) (t : Nat) : List Byte × List (List Byte) :=
  let i := t % n
  let b := aesEnc key (x.1 ++ nth [] x.2 i)
  (xorBytes (b.take 8) (leBytes 8 (t + 1)).reverse, setNth x.2 i (b.drop 8))
def unwrapStep (key : List Byte) (n : Nat) (x : List Byte × List (List Byte)) (t : Nat) : List Byte × List (List Byte) :=
  let i := t % n
  let b := aesDec key (xorBytes x.1 (leBytes 8 (t + 1)).reverse ++ nth [] x.2 i)
  (b.take 8, setNth x.2 i (b.drop 8))

/-- RFC 3394 wrap of key material, and unwrap with its integrity check. -/
def keyWrap (key data : List Byte) : List Byte :=
  let n := data.length / 8
  let r := (List.range n).map fun i => (data.drop (8 * i)).take 8
  let x := (List.range (6 * n)).foldl (wrapStep key n) (List.replicate 8 0xA6, r)
  x.1 ++ x.2.flatten
def keyUnwrap (key data : List Byte) : Option (List Byte) :=
  let n := data.length / 8 - 1
  let r := (List.range n).map fun i => (data.drop (8 * (i + 1))).take 8
  let x := (List.range (6 * n)).reverse.foldl (unwrapStep key n) (data.take 8, r)
  if x.1 = List.replicate 8 0xA6 then some x.2.flatten else none

/-! ### Keys (R316–R318) -/

/-- Fuse key k (0 KEK, 1 IAK, 2 PVK) as 32 bytes; a blank key is 256 zero bits (R316). -/
def State.fuseKey (s : State) (k : Nat) : List Byte :=
  match mfind s.cip.fuse k with
  | some v => leBytes 32 v
  | none => if Config.fusedAtReset.getLsbD k then (List.range 32).map (Config.fuseKey k) else leBytes 32 0

/-- Address of a key-store entry, and the entry's 128 bytes (R317). -/
def State.ksAddr (s : State) (i : Nat) : Nat := s.fld CIP_KSBASE_LO_ADDR + 2 ^ 32 * s.fld CIP_KSBASE_HI_ADDR + 128 * i
def State.ksEntry (s : State) (i : Nat) : Nat := s.rawNat (s.ksAddr i) 128

/-- Material bytes of a key type, and the bytes of its RFC 3394 wrap. -/
def keyBytes (type : Nat) : Nat := if type = 1 then 16 else if type = 3 then 64 else 32

/-- The CRC of an entry is right. -/
def entryCrc (e : Nat) : Bool := (crc32c (leBytes 124 e)).toNat = nbits e 992 32

/-- Write an entry with its CRC: TYPE, USE, GEN, wrapped material (R317). -/
def ksWrite (i type use gen wrapped : Nat) (s : State) : State :=
  let b := type + use * 2 ^ 8 + gen % 2 ^ 32 * 2 ^ 32 + wrapped % 2 ^ 576 * 2 ^ 64
  ringWrite s 18 (s.ksAddr i) 128 (b + (crc32c (leBytes 124 b)).toNat * 2 ^ 992)

/-- The key of an entry: none where it is empty, of no type that the spec gives, or damaged; an unwrap that fails its check answers some none. -/
def State.ksKey (s : State) (i : Nat) : Option (Option KeyRec) :=
  let e := s.ksEntry i
  let type := nbits e 0 8
  if type = 0 || 4 < type || !entryCrc e then none else
  some ((keyUnwrap (s.fuseKey 0) (leBytes (keyBytes type + 8) (e >>> 64))).map fun k =>
    { type, use := nbits e 8 8, gen := nbits e 32 32, key := ofLe k })

/-- The resident keys, and CIP_KRES.RESIDENT with them. -/
def setKeys (k : SMap KeyRec) (s : State) : State := { s with keys := k }.setFld CIP_KRES_RESIDENT k.length

/-- Make the key of an entry resident (program 2 of R319): STATUS. -/
def keyLoad (i : Nat) (s : State) : State × Nat :=
  let s := blkRead 18 (s.ksAddr i) 128 s
  match s.ksKey i with
  | none => (s, 1)
  | some none => (s, 6)
  | some (some k) =>
    let s := cipCount 0 (6 * (keyBytes k.type / 8)) s
    if 4096 ≤ s.keys.length && (mfind s.keys i).isNone then (s, 8) else (setKeys (mins s.keys i k) s, 0)

/-- Key-store entries that memory lists anything of, in index order. -/
def State.ksListed (s : State) : List Nat :=
  let a := s.ksAddr 0
  (s.mem.foldl (fun (l : List Nat) c =>
    if a ≤ c.1 && c.1 < a + 128 * 65536 then
      let i := (c.1 - a) / 128
      match l with
      | j :: _ => if i = j then l else i :: l
      | [] => [i]
    else l) []).reverse

/-- Load every pinned key, in index order, until the cache is full (R318). -/
def loadPinned (s : State) : State :=
  let pin := s.ksListed.filter fun i => nbit (s.ksEntry i) 12
  let s := pin.foldl (fun s i => (keyLoad i s).1) s
  if pin.any fun i => (mfind s.keys i).isNone && s.keys.length = 4096 then raise EV_CIP_CACHEFULL 0 (s.setFld CIP_KRES_FULL 1) else s

/-! ### Channels and scheduling (R307, R308) -/

/-- Channel registers: the privileged channels have a page of their own. -/
def State.cipRing (s : State) (n : Nat) : Nat :=
  if n < 62 then s.fld CIP_RING_LO_ADDR n + 2 ^ 32 * s.fld CIP_RING_HI_ADDR n
  else s.fld CIP_RING_LOP_ADDR (n - 62) + 2 ^ 32 * s.fld CIP_RING_HIP_ADDR (n - 62)
def State.cipSize (s : State) (n : Nat) : Nat := 2 ^ (if n < 62 then s.fld CIP_RING_HI_SIZE n else s.fld CIP_RING_HIP_SIZE (n - 62))
def State.cipTail (s : State) (n : Nat) : Nat := (if n < 62 then s.fld CIP_TAIL_INDEX n else s.fld CIP_TAILP_INDEX (n - 62)) % s.cipSize n
def State.cipHead (s : State) (n : Nat) : Nat := if n < 62 then s.fld CIP_HEAD_INDEX n else s.fld CIP_HEADP_INDEX (n - 62)
def cipSetHead (n v : Nat) (s : State) : State := if n < 62 then s.setFld CIP_HEAD_INDEX v n else s.setFld CIP_HEADP_INDEX v (n - 62)
def cipSetTail (n v : Nat) (s : State) : State := if n < 62 then s.setFld CIP_TAIL_INDEX v n else s.setFld CIP_TAILP_INDEX v (n - 62)
def cipSetBusy (n : Nat) (b : Bool) (s : State) : State :=
  if n < 62 then s.setFld CIP_CHSTAT_BUSY (b2n b) n else s.setFld CIP_CHSTATP_BUSY (b2n b) (n - 62)

/-- Descriptors between HEAD and TAIL, and those of them that no sequencer has taken. -/
def State.cipJobs (s : State) (n : Nat) : Nat := (s.cipTail n + s.cipSize n - s.cipHead n) % s.cipSize n
def State.cipQueued (s : State) (n : Nat) : Nat := s.cipJobs n - mget 0 s.cip.taken n

/-- Class weights in force. -/
def State.cipWeight (s : State) (c : Nat) : Nat := nbits (s.cur CIP_CLSWGT_WGT (c / 4)) (8 * (c % 4)) 8

/-- Which ordinary channels are hardware channels, from the classes in force (R307, R322). -/
def cipHw (s : State) : State :=
  (List.range 62).foldl (fun s n =>
    let c := mget 0 s.cip.cls n
    s.setFld CIP_CHSTAT_HW (b2n (c = s.cur CIP_CTL_XCLASS || c = s.cur LEX_CTL_CCLASS)) n) s

/-- The class to be served next: the present one until its weight is used, then the next class with a queued job. -/
def State.cipClass (s : State) : Option Nat :=
  let has (c : Nat) : Bool := (List.range 62).any fun n => mget 0 s.cip.cls n = c && 0 < s.cipQueued n
  if has s.cip.rrCls && s.cip.rrUsed < s.cipWeight s.cip.rrCls then some s.cip.rrCls
  else ((rangeFrom 1 16).map fun d => (s.cip.rrCls + d) % 16).find? has

/-- The channel whose job a free sequencer takes (R308), with the round-robin positions moved on. -/
def cipPick (priv : Bool) (s : State) : Option (Nat × State) :=
  if 0 < s.cipQueued 63 then some (63, s)
  else if 0 < s.cipQueued 62 then some (62, s)
  else if priv then none
  else match s.cipClass with
    | none => none
    | some c =>
      let last := mget 61 s.cip.rrCh c
      match ((rangeFrom 1 62).map fun d => (last + d) % 62).find? fun n => mget 0 s.cip.cls n = c && 0 < s.cipQueued n with
      | none => none
      | some n =>
        let used := if c = s.cip.rrCls && s.cip.rrUsed < s.cipWeight c then s.cip.rrUsed + 1 else 1
        some (n, { s with cip.rrCls := c, cip.rrUsed := used, cip.rrCh := mins s.cip.rrCh c n })

/-! ### Jobs (R309, R310) -/

/-- Descriptor fields (R309). -/
def CipJob.prog (j : CipJob) : Nat := nbits j.desc 0 8
def CipJob.event (j : CipJob) : Bool := nbit j.desc 8
def CipJob.keyA (j : CipJob) : Nat := nbits j.desc 16 16
def CipJob.keyB (j : CipJob) : Nat := nbits j.desc 32 16
def CipJob.tagLen (j : CipJob) : Nat := nbits j.desc 48 8
def CipJob.src (j : CipJob) : Nat := nbits j.desc 64 40
def CipJob.dst (j : CipJob) : Nat := nbits j.desc 128 40
def CipJob.aux2 (j : CipJob) : Nat := nbits j.desc 168 24
def CipJob.len (j : CipJob) : Nat := nbits j.desc 192 32
def CipJob.aad (j : CipJob) : Nat := nbits j.desc 224 32
def CipJob.iv (j : CipJob) : Nat := nbits j.desc 256 128
def CipJob.tagAddr (j : CipJob) : Nat := nbits j.desc 384 40
def CipJob.aux (j : CipJob) : Nat := nbits j.desc 448 64

/-- The key slots at job start (R313, R317): entries that are resident with the USE bit GENERAL. -/
def State.jobKeys (s : State) (j : CipJob) : SMap (Nat × Nat) :=
  let key (i : Nat) : Option KeyRec := (mfind s.keys i).filter fun k => nbit k.use 3
  let a := match key j.keyA with
    | some k => if k.type = 3 then [(1, 32, k.key % 2 ^ 256), (2, 32, k.key / 2 ^ 256)] else [(1, keyBytes k.type, k.key)]
    | none => []
  let b := match key j.keyB with
    | some k => [(3, min 32 (keyBytes k.type), k.key % 2 ^ 256)]
    | none => []
  a ++ b

/-- How a job that cannot run ends at once: NOPROG, RANGE (R310, R319). -/
def State.jobRefused (s : State) (j : CipJob) : Option Nat :=
  let range := 2 ^ 20 < j.len || j.len < j.aad || 16 < j.tagLen || (0 < j.tagLen && j.tagLen < 4)
  if j.ch < 62 then
    if !s.flag CIP_STAT_UCVALID || 31 < j.prog || mget 0xFFFFFFFF s.cip.entry j.prog = 0xFFFFFFFF then some 2
    else if range then some 7 else none
  else if 4 < j.prog then some 2
  else if range || (j.prog = 0 && j.tagLen != 16) || (j.prog = 1 && j.len != 24 && j.len != 40 && j.len != 72) then some 7
  else none

/-- Source and destination areas overlap without being equal (an undefined case of spec/14_cipher.md). -/
def CipJob.overlaps (j : CipJob) : Bool := j.src != j.dst && j.src < j.dst + j.len && j.dst < j.src + j.len

/-- An import, eviction or erasure of an entry that an ordinary job running or queued names (an undefined case). -/
def State.keyNamed (s : State) (i : Nat) : Bool :=
  let names (d : Nat) : Bool := nbits d 16 16 = i || nbits d 32 16 = i
  (s.cip.seqs ++ s.cip.saved).any (fun e => e.2.ch < 62 && names e.2.desc) ||
  (List.range 62).any fun n => (List.range (s.cipQueued n)).any fun k =>
    names (s.rawNat (s.cipRing n + 64 * ((s.cipHead n + mget 0 s.cip.taken n + k) % s.cipSize n)) 64)

/-- Sequencer q takes the next job; priv: a privileged one only. -/
def cipStart (q : Nat) (priv : Bool) (s : State) : Out :=
  match cipPick priv s with
  | none => .next s
  | some (n, s') =>
    let ix := (s.cipHead n + mget 0 s.cip.taken n) % s.cipSize n
    match memRead s' 18 .read (s.cipRing n + 64 * ix) 64 with
    | (_, .wait) => .next s
    | (s, r) =>
      let (d, s) := match r.val with
        | some v => (v, s)
        | none => let (v, s) := s.freshBits 512; (v.toNat, s)
      let j : CipJob := { ch := n, index := ix, desc := d }
      let start := mget 0 s.cip.entry j.prog
      let j := { j with k := if n < 62 then s.jobKeys j else [], pc := start, start, ended := s.jobRefused j }
      if j.ended.isNone && (n < 62 || j.prog = 0) && j.overlaps then .fault (.undefinedCase "cipher SRC and DST overlap")
      else if j.ended.isNone && ((n ≥ 62 && j.prog = 1 && s.keyNamed j.keyB) || (n ≥ 62 && 3 ≤ j.prog && s.keyNamed j.keyA)) then
        .fault (.undefinedCase "key-store entry changed while jobs name it")
      else .next (cipSetBusy n true { s with cip.seqs := mins s.cip.seqs q j, cip.taken := mmod 0 s.cip.taken n (· + 1) })

/-- CIPHER_TAIL_WRITE (R309): a master writes CIP_TAIL of a channel. -/
def execCipherTailWrite (m : MasterId) (ch : Fin 64) (index : BitVec 12) (s : State) : Out :=
  let n := ch.val
  let a := 0x40000000 + (if n < 62 then CIP_TAIL.at n 0 0 else CIP_TAILP.at (n - 62) 0 0)
  if !s.mapAllows m .write a then .next (accessDenied m .write a s)
  else if !s.domOn dCIPHER then .next s
  else if n < 62 && s.flag CIP_CHSTAT_HW n then .fault (.undefinedCase "descriptors submitted to a hardware channel")
  else
    let size := s.cipSize n
    let old := s.cipJobs n
    let new := (index.toNat % size + size - s.cipHead n) % size
    if 0 < old && new < old then .fault (.undefinedCase "CIP_TAIL moved backwards")
    else .next (cipSetTail n index.toNat s)

/-- CIPHER_JOB_START (R308): free sequencer q takes its next job. -/
def execCipherJobStart (q : Fin 4) (s : State) : Out :=
  if !s.domOn dCIPHER || (mfind s.cip.seqs q).isSome || (mfind s.cip.saved q).isSome then .next s else cipStart q false s

/-- CIPHER_SLICE_POINT (R308): sequencer q is at a slice point of an ordinary job, a privileged job waits and no sequencer is free. -/
def execCipherSlicePoint (q : Fin 4) (s : State) : Out :=
  match mfind s.cip.seqs q with
  | some j =>
    let at' := (0 < j.inp && j.inp % 4096 = 0) || (0 < j.steps && j.steps % 4096 = 0)
    if j.ch < 62 && j.ended.isNone && at' && (0 < s.cipQueued 62 || 0 < s.cipQueued 63) && s.cip.seqs.length = 4 then
      cipStart q true { s with cip.seqs := mdel s.cip.seqs q, cip.saved := mins s.cip.saved q j }
    else .next s
  | none => .next s

/-- The record of a job's events: the channel and the ring index. -/
def CipJob.payload (j : CipJob) : Nat := j.ch + 64 * j.index

/-- A job ends (R310, R320, R321): counters, events, the descriptor's STATUS and RESULT bytes, HEAD, the sequencer. -/
def cipDone (q : Nat) (j : CipJob) (st : Nat) (s : State) : State :=
  let bad := j.ch < 62 && st = 0 && j.failed
  let a := s.cipRing j.ch + 64 * j.index
  let s := ringWrite s 18 (a + 7) 1 st
  let s := ringWrite s 18 (a + 13) 1 (b2n bad)
  let s := cipSetHead j.ch ((j.index + 1) % s.cipSize j.ch) (s.inc CIP_JOBS_COUNT)
  let s := if bad then raise EV_CIP_UNTRUSTED j.payload (s.inc CIP_UNTRUSTED_COUNT) else s
  let s := if st = 1 then raise EV_CIP_NOKEY j.keyA (s.inc CIP_NOKEY_COUNT) else s
  let s := if st = 6 then occur 20 0 18 3 (raise EV_CIP_AUTHFAIL j.payload (s.inc CIP_AUTHFAIL_COUNT)) else s
  let s := if (1 ≤ st && st ≤ 5) || st = 7 then raise EV_CIP_JOBERR j.payload s else s
  let s := if j.event then raise EV_CIP_JOBDONE j.payload s else s
  let s := { s with cip.seqs := mdel s.cip.seqs q, cip.taken := mmod 0 s.cip.taken j.ch (· - 1) }
  let s := if mget 0 s.cip.taken j.ch = 0 then cipSetBusy j.ch false s else s
  match mfind s.cip.saved q with
  | some k => { s with cip.seqs := mins s.cip.seqs q k, cip.saved := mdel s.cip.saved q }
  | none => s

/-- CIPHER_JOB_DONE (R310): the job on sequencer q has ended, and every earlier job of its channel is complete (R308). -/
def execCipherJobDone (q : Fin 4) (s : State) : Out :=
  match mfind s.cip.seqs q with
  | some j => match j.ended with
    | some st => .next (if j.index = s.cipHead j.ch then cipDone q j st s else s)
    | none => .next s
  | none => .next s

/-! ### Chaining microcode (R313) -/

/-- Fields of an instruction. -/
def iD (w : Nat) : Nat := nbits w 8 4
def iA (w : Nat) : Nat := nbits w 12 4
def iB (w : Nat) : Nat := nbits w 16 4
def iIMM (w : Nat) : Nat := nbits w 20 12
def CipJob.reg (j : CipJob) (i : Nat) : Block := mget 0 j.v i
def CipJob.set (j : CipJob) (i : Nat) (b : Block) : CipJob := { j with v := mput 0 j.v i b }

/-- The job that sequencer q runs, with its next instruction. -/
def State.ucode (s : State) (q : Nat) : Option (CipJob × Nat) :=
  match mfind s.cip.seqs q with
  | some j => if s.domOn dCIPHER && j.ch < 62 && j.ended.isNone then some (j, mget 0 s.cip.imem j.pc) else none
  | none => none

/-- The instruction allowance of a job (R310). -/
def State.cipLimit (s : State) (j : CipJob) : Nat := s.cur CIP_CTL_STEPS * ceilDiv j.len 16 + 256

/-- What an instruction does: go on with a job, or wait for memory. -/
abbrev UOp := CipJob → Nat → State → State × Option CipJob

/-- Run the next instruction of sequencer q if ok holds of its OP: the allowance, the action, the next position. -/
def ucodeRun (q : Nat) (ok : Nat → Bool) (f : UOp) (s : State) : Out :=
  match s.ucode q with
  | none => .next s
  | some (j, w) =>
    if !ok (w % 256) then .next s
    else if s.cipLimit j ≤ j.steps then .next { s with cip.seqs := mins s.cip.seqs q { j with ended := some 4 } }
    else match f { j with pc := j.pc + 1, steps := j.steps + 1 } w s with
      | (_, none) => .next s
      | (s, some j) => .next { s with cip.seqs := mins s.cip.seqs q j }

/-- An instruction that acts on the job only. -/
def ucodeReg (q op : Nat) (f : CipJob → Nat → CipJob) (s : State) : Out := ucodeRun q (· = op) (fun j w s => (s, some (f j w))) s

/-- END: STATUS 0; a failed check is the RESULT (R320). -/
def execEnd (q : Fin 4) (s : State) : Out := ucodeReg q 0x00 (fun j _ => { j with ended := some 0 }) s

/-- LDIN. -/
def execLdin (q : Fin 4) (s : State) : Out :=
  ucodeRun q (· = 0x01) (fun j w s =>
    let n := min 16 (j.len - j.inp)
    if n = 0 then (s, some { j.set (iD w) 0 with last := 0 }) else
    match memRead s 18 .read (j.src + j.inp) n with
    | (s, .ok v) => (s, some { j.set (iD w) (BitVec.ofNat 128 v) with inp := j.inp + n, last := n })
    | (s, .err _) => (s, some { j with ended := some 5 })
    | (s, .wait) => (s, none)) s

/-- Write bytes of a job's output: BUSERR where the access fails. -/
def cipStore (a n v : Nat) (go : CipJob) (j : CipJob) (s : State) : State × Option CipJob :=
  if n = 0 then (s, some go) else
  match memWrite s 18 .write a n v with
  | (s, .ok _) => (s, some go)
  | (s, .err _) => (s, some { j with ended := some 5 })
  | (s, .wait) => (s, none)

/-- STOUT: the bytes of VD that correspond to input bytes. -/
def execStout (q : Fin 4) (s : State) : Out :=
  ucodeRun q (· = 0x02) (fun j w s =>
    cipStore (j.dst + j.outp) j.last ((j.reg (iD w)).toNat % 2 ^ (8 * j.last)) { j with outp := j.outp + j.last } j s) s

/-- LDP: the parameters IV, data unit number, first counter block index, stored tag.  The spec gives no other parameter: a free value. -/
def execLdp (q : Fin 4) (s : State) : Out :=
  ucodeRun q (· = 0x03) (fun j w s =>
    match iIMM w with
    | 0 => (s, some (j.set (iD w) (BitVec.ofNat 128 j.iv)))
    | 1 => (s, some (j.set (iD w) (BitVec.ofNat 128 (j.aux + ceilDiv j.inp 16 / 256))))
    | 2 => (s, some (j.set (iD w) (BitVec.ofNat 128 j.aux2)))
    | 3 =>
      if j.tagLen = 0 then (s, some (j.set (iD w) 0)) else
      match memRead s 18 .read j.tagAddr j.tagLen with
      | (s, .ok v) => (s, some (j.set (iD w) (BitVec.ofNat 128 v)))
      | (s, .err _) => (s, some { j with ended := some 5 })
      | (s, .wait) => (s, none)
    | _ => let (v, s) := s.freshBits 128; (s, some (j.set (iD w) v))) s

/-- AESE and AESD: VA through key slot IMM; a slot that no resident key fills ends the job with NOKEY, and a slot other than 1 to 3 gives a free
value. -/
def ucodeAes (enc : Bool) (j : CipJob) (w : Nat) (s : State) : State × Option CipJob :=
  let k := iIMM w
  if k = 0 || 3 < k then let (v, s) := s.freshBits 128; (s, some (j.set (iD w) v)) else
  match mfind j.k k with
  | none => (s, some { j with ended := some 1 })
  | some (n, key) =>
    let f := if enc then aesEnc else aesDec
    (s.incPair CIP_BLK_LO_COUNT CIP_BLK_HI_COUNT, some (j.set (iD w) (ofBlock (f (leBytes n key) (blockBytes (j.reg (iA w)))))))

/-- AESE. -/
def execAese (q : Fin 4) (s : State) : Out := ucodeRun q (· = 0x04) (ucodeAes true) s

/-- AESD. -/
def execAesd (q : Fin 4) (s : State) : Out := ucodeRun q (· = 0x05) (ucodeAes false) s

/-- XOR. -/
def execXor (q : Fin 4) (s : State) : Out := ucodeReg q 0x06 (fun j w => j.set (iD w) (j.reg (iA w) ^^^ j.reg (iB w))) s

/-- GFMUL. -/
def execGfmul (q : Fin 4) (s : State) : Out :=
  ucodeRun q (· = 0x07) (fun j w s =>
    (s.incPair CIP_BLK_LO_COUNT CIP_BLK_HI_COUNT, some (j.set (iD w) (ghashMul (j.reg (iA w)) (j.reg (iB w)))))) s

/-- XTIME. -/
def execXtime (q : Fin 4) (s : State) : Out := ucodeReg q 0x08 (fun j w => j.set (iD w) (xtimeBlock (j.reg (iA w)))) s

/-- INC64. -/
def execInc64 (q : Fin 4) (s : State) : Out := ucodeReg q 0x09 (fun j w => j.set (iD w) (ctrAddBlock (j.reg (iA w)) (iIMM w))) s

/-- CTRADD. -/
def execCtradd (q : Fin 4) (s : State) : Out :=
  ucodeReg q 0x0A (fun j w => j.set (iD w) (ctrAddBlock (j.reg (iA w)) ((j.reg (iB w)).toNat % 2 ^ 64))) s

/-- GLEN. -/
def execGlen (q : Fin 4) (s : State) : Out := ucodeReg q 0x0B (fun j w => j.set (iD w) (gcmLength j.aad j.len)) s

/-- MOV. -/
def execMov (q : Fin 4) (s : State) : Out := ucodeReg q 0x0C (fun j w => j.set (iD w) (j.reg (iA w))) s

/-- ZERO. -/
def execZero (q : Fin 4) (s : State) : Out := ucodeReg q 0x0D (fun j w => j.set (iD w) 0) s

/-- Jump to program start + IMM under a condition. -/
def ucodeJump (c : CipJob → Bool) (j : CipJob) (w : Nat) : CipJob := if c j then { j with pc := j.start + iIMM w } else j

/-- BLOOP. -/
def execBloop (q : Fin 4) (s : State) : Out := ucodeReg q 0x0E (ucodeJump fun j => j.inp < j.len) s

/-- BUNIT. -/
def execBunit (q : Fin 4) (s : State) : Out := ucodeReg q 0x0F (ucodeJump fun j => j.inp < j.len && j.inp % 4096 = 0) s

/-- BAAD. -/
def execBaad (q : Fin 4) (s : State) : Out := ucodeReg q 0x10 (ucodeJump fun j => j.inp < j.aad) s

/-- CHKTAG. -/
def execChktag (q : Fin 4) (s : State) : Out :=
  ucodeRun q (· = 0x11) (fun j w s =>
    if j.tagLen = 0 then (s, some j) else
    match memRead s 18 .read j.tagAddr j.tagLen with
    | (s, .ok v) => (s, some { j with failed := j.failed || (j.reg (iA w)).toNat % 2 ^ (8 * j.tagLen) != v })
    | (s, .err _) => (s, some { j with ended := some 5 })
    | (s, .wait) => (s, none)) s

/-- STTAG. -/
def execSttag (q : Fin 4) (s : State) : Out :=
  ucodeRun q (· = 0x12) (fun j w s => cipStore j.tagAddr j.tagLen ((j.reg (iA w)).toNat % 2 ^ (8 * j.tagLen)) j j s) s

/-- ILLEGAL_OPCODE (R310): a reserved OP ends the job with ILLEGAL. -/
def execIllegalOpcode (q : Fin 4) (s : State) : Out := ucodeRun q (0x13 ≤ ·) (fun j _ s => (s, some { j with ended := some 3 })) s

/-! ### Privileged programs (R319, R321) -/

/-- Run privileged program p on sequencer q: what it does and its STATUS, or a wait for memory. -/
def privRun (q p : Nat) (f : CipJob → State → State × Option Nat) (s : State) : Out :=
  match mfind s.cip.seqs q with
  | some j =>
    if !s.domOn dCIPHER || j.ch < 62 || j.ended.isSome || j.prog != p then .next s else
    match f j s with
    | (_, none) => .next s
    | (s, some st) => .next { s with cip.seqs := mins s.cip.seqs q { j with ended := some st } }
  | none => .next s

/-- STATUS of a write: done as st, BUSERR, or a wait. -/
def wrStatus (st : Nat) : State × MemR → State × Option Nat
  | (s, .ok _) => (s, some st)
  | (s, .err _) => (s, some 5)
  | (s, .wait) => (s, none)

/-- Read n bytes of a job's input; none of 0 bytes. -/
def cipIn (a n : Nat) (s : State) : State × MemR := if n = 0 then (s, .ok 0) else memRead s 18 .read a n

/-- Program 0: copy n bytes from src to dst if their CMAC under the IAK is the tag; else zero the output area. -/
def authCopy (src dst n tag : Nat) (s : State) : State × Option Nat :=
  match cipIn src n s with
  | (s, .wait) => (s, none)
  | (s, .err _) => (s, some 5)
  | (s, .ok v) =>
    match memRead s 18 .read tag 16 with
    | (s, .wait) => (s, none)
    | (s, .err _) => (s, some 5)
    | (s, .ok t) =>
      let good := ofLe (cmac (s.fuseKey 1) (leBytes n v)) = t
      let s := cipCount 0 (max 1 (ceilDiv n 16) + 1) s
      if n = 0 then (s, some (if good then 0 else 6)) else wrStatus (if good then 0 else 6) (memWrite s 18 .write dst n (if good then v else 0))

/-- AUTHENTICATED_COPY. -/
def execAuthenticatedCopy (q : Fin 4) (s : State) : Out := privRun q 0 (fun j s => authCopy j.src j.dst j.len j.tagAddr s) s

/-- Program 1: unwrap under entry KEYA or the PVK, wrap under the KEK into entry KEYB with TYPE and USE of the IV's first bytes. -/
def keyImport (j : CipJob) (s : State) : State × Option Nat :=
  let wk : Option (List Byte) :=
    if j.keyA = 0xFFFF then some (s.fuseKey 2)
    else ((mfind s.keys j.keyA).filter fun k => k.type = 4 && nbit k.use 2).map fun k => leBytes 32 k.key
  match wk with
  | none => (s, some 1)
  | some key =>
    let type := j.iv % 256
    if type = 0 || 4 < type || keyBytes type + 8 != j.len then (s, some 7) else
    match cipIn j.src j.len s with
    | (s, .wait) => (s, none)
    | (s, .err _) => (s, some 5)
    | (s, .ok v) =>
      let gen := nbits (s.ksEntry j.keyB) 32 32
      let s := cipCount 0 (6 * (j.len / 8 - 1)) s
      match keyUnwrap key (leBytes j.len v) with
      | none => (ksWrite j.keyB 0 0 gen 0 s, some 6)
      | some k => (ksWrite j.keyB type (nbits j.iv 8 5) (gen + 1) (ofLe (keyWrap (s.fuseKey 0) k)) (cipCount 0 (6 * (j.len / 8 - 1)) s), some 0)

/-- KEY_IMPORT. -/
def execKeyImport (q : Fin 4) (s : State) : Out := privRun q 1 keyImport s

/-- KEY_LOAD. -/
def execKeyLoad (q : Fin 4) (s : State) : Out := privRun q 2 (fun j s => let (s, st) := keyLoad j.keyA s; (s, some st)) s

/-- KEY_EVICT. -/
def execKeyEvict (q : Fin 4) (s : State) : Out := privRun q 3 (fun j s => (setKeys (mdel s.keys j.keyA) s, some 0)) s

/-- KEY_ERASE: the entry empty, its GEN kept, and evicted. -/
def execKeyErase (q : Fin 4) (s : State) : Out :=
  privRun q 4 (fun j s => (setKeys (mdel s.keys j.keyA) (ksWrite j.keyA 0 0 (nbits (s.ksEntry j.keyA) 32 32) 0 s), some 0)) s

/-! ### Microcode and fuses (R311, R312, R316) -/

/-- The microcode's header is right (R311). -/
def ucHeader (v len : Nat) : Bool :=
  nbits v 0 32 = 0x31434843 && nbits v 32 16 = 1 && 1 ≤ nbits v 48 16 && nbits v 48 16 ≤ 32 && nbits v 64 32 = len && 164 ≤ len && len % 4 = 0

/-- The copy and check of the microcode (R312). -/
def microcodeLoad (s : State) : State :=
  let a := s.fld CIP_UCADDR_VALUE
  let n := s.fld CIP_UCLEN_VALUE
  match cipIn a n s with
  | (_, .wait) => s
  | (s, r) =>
    let v := r.val.getD 0
    let s := cipCount 1 (ceilDiv (n - 16) 16 + 1) s
    let tagged := r.val.isSome && 16 ≤ n && ofLe (cmac (s.fuseKey 1) (leBytes (n - 16) v)) = v >>> (8 * (n - 16))
    if tagged && ucHeader v n then
      let progs := nbits v 48 16
      let imem := (List.range ((n - 160) / 4)).foldl (fun m i => mput 0 m i (nbits v (8 * (144 + 4 * i)) 32)) []
      let entry := (List.range progs).foldl (fun m p => mput 0xFFFFFFFF m p (nbits v (8 * (16 + 4 * p)) 32)) []
      ({ s with cip.imem := imem, cip.entry := entry }.setFld CIP_STAT_UCVALID 1).setFld CIP_STAT_UCFAIL 0
    else
      let s := { s with cip.imem := [], cip.entry := [] }
      let s := (s.setFld CIP_STAT_UCVALID 0).setFld CIP_STAT_UCFAIL 1
      let s := if r.val.isSome && !tagged then occur 20 a 18 3 (raise EV_CIP_AUTHFAIL 62 (s.inc CIP_AUTHFAIL_COUNT)) else s
      raise EV_CIP_UCFAIL 0 s

/-- MICROCODE_LOAD (R312): in CONFIG, once. -/
def execMicrocodeLoad (s : State) : Out :=
  .next (if s.mode = mCONFIG && s.domOn dCIPHER && !s.flag CIP_STAT_UCVALID && !s.flag CIP_STAT_UCFAIL && s.fld CIP_UCLEN_VALUE != 0
    then microcodeLoad s else s)

/-- Bits of CIP_STAT.FUSED as they read: keys fused at manufacture and keys programmed since (R316). -/
def State.fused (s : State) : Nat := s.fld CIP_STAT_FUSED ||| Config.fusedAtReset.toNat

/-- Begin to program the fuse key that SEL names. -/
def fuseGo (sel : Nat) (s : State) : State :=
  if s.cip.fuseRun.isSome || nbit s.fused sel then s
  else { s.setFld CIP_FUSECTL_GO 1 with cip.fuseRun := some sel }

/-- FUSE_PROGRAM (R316): in BOOT, a write of CIP_FUSECTL with GO. -/
def execFuseProgram (m : MasterId) (sel : Fin 4) (s : State) : Out :=
  let a := 0x40000000 + CIP_FUSECTL.at 0 0 0
  if s.mode != mBOOT then .next (if s.mapAllows m .write a then (if s.domOn dCIPHER then accessError m .write a s else s) else accessDenied m .write a s)
  else if sel.val = 3 && s.mapAllows m .write a then .fault (.undefinedCase "CIP_FUSECTL.SEL = 3 is reserved")
  else .next (regCmd m CIP_FUSECTL 0 (fun s => if s.domOn dCIPHER then fuseGo sel (s.setFld CIP_FUSECTL_SEL sel) else s) s)

/-- FUSE_PROGRAM_DONE (R316): 10 ms have passed. -/
def execFuseProgramDone (s : State) : Out :=
  match s.cip.fuseRun with
  | none => .next s
  | some k =>
    let v := (List.range 8).foldl (fun n w => n + (mget 0 s.cip.fuseData w).toNat * 2 ^ (32 * w)) 0
    let s := { s.pass 1000000 with cip.fuseRun := none, cip.fuse := mins s.cip.fuse k v }
    .next ((s.setFld CIP_STAT_FUSED (s.fld CIP_STAT_FUSED ||| 2 ^ k)).setFld CIP_FUSECTL_GO 0)

end Sys2Proof.Machine
end

