-- ==== Sys2Proof/Machine/Commit.lean ====
section
/-! DEFINITION. Blocks and their windows (R15), staged configuration (R72–R75): COMMIT, the checks at a boundary, what comes into force. -/

namespace Sys2Proof.Machine

/-- A block: the offset and size of its window, its domain, its registers, its channel where it is one of FCH0 to FCH31. -/
structure Blk where
  base : Nat
  size : Nat
  dom  : Nat
  regs : List Reg
  ch   : Option Nat := none

/-- Block b, numbered in the order of the table of R15: TCK 0, FCH0–FCH31 1 to 32, ECC 33, …, JDP 56. -/
def blk (b : Nat) : Blk :=
  if b = 0 then ⟨0, 0x100000, dCTRL, regsTCK, none⟩
  else if b ≤ 32 then ⟨0x100000 + (b - 1) * 0x10000, 0x10000, dMEDIA, regsFCH, some (b - 1)⟩
  else
    let w (dom : Nat) (r : List Reg) : Blk := ⟨(b - 30) * 0x100000, 0x100000, dom, r, none⟩
    match b with
    | 33 => w dMEDIA regsECC
    | 34 => w dCTRL regsTXE
    | 35 => w dCTRL regsSKM
    | 36 => w dCTRL regsSTE
    | 37 => w dCTRL regsCKP
    | 38 => w dHOST regsHPT
    | 39 => w dFABRIC regsFAB
    | 40 => w dFABRIC regsHRD
    | 41 => w dLEX regsLEX
    | 42 => w dFABRIC regsPLK
    | 43 => w dCIPHER regsCIP
    | 44 => w dCTRL regsSRM
    | 45 => w dCTRL regsBPM
    | 46 => w dCTRL regsDMA
    | 47 => w dDRAM regsDRC
    | 48 => w dCTRL regsCFL
    | 49 => w dCTRL regsBOT
    | 50 => w dCTRL regsLAY
    | 51 => w dCTRL regsEVR
    | 52 => w dCTRL regsMBX
    | 53 => w dAON regsFLT
    | 54 => w dAON regsPWR
    | 55 => w dCTRL regsPMU
    | _ => w dAON regsJDP

/-- All block numbers. -/
def allBlks : List Nat := List.range 57

/-- The block whose window holds an offset of register space. -/
def blkOf (off : Nat) : Option Nat :=
  let k := off / 0x100000
  if k = 0 then some 0
  else if k ≤ 2 then some (1 + (off - 0x100000) / 0x10000)
  else if k ≤ 26 then some (30 + k)
  else none

/-- The register at an offset, with its indices. -/
def regAt (off : Nat) : Option (Reg × Nat × Nat × Nat) :=
  match blkOf off with
  | none => none
  | some b => (blk b).regs.findSome? fun r => (r.hit off).map fun x => (r, x.1, x.2.1, x.2.2)

/-- The RWS bits of the register at an offset. -/
def rwsAt (off : Nat) : Word := match regAt off with | some (r, _) => r.rws | none => 0

/-- A block has staged registers. -/
def hasRws (b : Nat) : Bool := (blk b).regs.any fun r => r.rws != 0

/-- An offset lies in a block's window. -/
def Blk.holds (w : Blk) (off : Nat) : Bool := w.base ≤ off && off < w.base + w.size

/-- The block's BLOCK_CSTAT register (R75). -/
def cstat (b : Nat) : Reg := { off := (blk b).base + 0xFF4, w1c := 2, ro := 1 }
def cstatPENDING (b : Nat) : Fld := ⟨cstat b, 0, 1⟩
def cstatREFUSED (b : Nat) : Fld := ⟨cstat b, 1, 1⟩

/-- The power of a block: its domain, and for a channel its quad. -/
def State.blkOn (s : State) (b : Nat) : Bool :=
  let w := blk b
  s.domOn w.dom && (match w.ch with | some c => s.quadOn c | none => true)

/-- The staged copies of a block's RWS bits, where they differ from the reset value. -/
def State.stagedOf (s : State) (b : Nat) : SMap Word :=
  let w := blk b
  s.regs.filterMap fun e =>
    if w.holds e.1 then
      match regAt e.1 with
      | some (r, _) =>
        let v := (r.reset &&& ~~~r.rws) ||| (e.2 &&& r.rws)
        if r.rws = 0 || v = r.reset then none else some (e.1, v)
      | none => none
    else none

/-- Copy a block's staged registers into its pending set (R72); a block that is off, or has none, has no COMMIT. -/
def commitBlk (b : Nat) (s : State) : State :=
  if hasRws b && s.blkOn b then ({ s with pend := mins s.pend b (s.stagedOf b) }).setFld (cstatPENDING b) 1 else s

/-- The state in which a block's pending set is in force. -/
def applySet (b : Nat) (p : SMap Word) (s : State) : State :=
  let w := blk b
  { s with force := p.foldl (fun m e => mins m e.1 e.2) (s.force.filter fun e => !w.holds e.1) }

/-- A value in force lies in lo … hi. -/
def State.within (s : State) (f : Fld) (lo hi : Nat) (i : Nat := 0) : Bool := lo ≤ s.cur f i && s.cur f i ≤ hi

/-- The pending set is in range: n is the state with it in force, o the state before (R73, R106, R128, R157, R176, R197, R219, R245, R262,
R282, R322, R357 and the register notes of HRD, PLK, SRM, BPM and PWR). -/
def setOk (b : Nat) (o n : State) : Bool :=
  let r (f : Fld) (lo hi : Nat) : Bool := n.within f lo hi
  match (blk b).ch with
  | some c =>
    !(n.on FCH_CFG_RAW c && !nbit (n.cur TCK_MODE_DIRECT) c) && 1 ≤ n.cur FCH_TRK_HYST c && 1 ≤ n.cur FCH_OFSCFG_STEP c &&
    ((List.range 4).all fun k => (List.range 15).all fun i => nbits (n.cur FCH_TRKPOL_POL c k) (2 * i) 2 != 2) &&
    1 ≤ n.cur FCH_TMAX2_TSUS c && 1 ≤ n.cur FCH_TMAX3_TRSLC c && 1 ≤ n.cur FCH_TMAX3_TSOFT c && 1 ≤ n.cur FCH_TMAX3_TPROGSLC c
  | none =>
    match b with
    | 0 =>
      r TCK_PERIOD_PERIOD 4 32 && r TCK_CUTOFF_CUTOFF 5 20 && n.cur TCK_CUTOFF_CUTOFF < 5 * n.cur TCK_PERIOD_PERIOD &&
      r TCK_WEIGHT_READ 1 255 && r TCK_WEIGHT_WRITE 1 255 && r TCK_WEIGHT_SKIM 1 255 && r TCK_WEIGHT_PATROL 1 255 &&
      r TCK_QUOTA_STARTS 1 16 && r TCK_QUOTA_RDRES 1 16 && r TCK_CREDIT_FLOOR 0 1024
    | 33 =>
      r ECC_NEAR_THRESH 1 2047 && r ECC_HARD_ITER 1 63 && r ECC_SOFT_ITER 1 255 && r ECC_SOFT_PASSES 1 2 &&
      r ECC_LLR_R0 1 15 && r ECC_LLR_R1 1 15 && r ECC_LLR_R2 1 15 && r ECC_LLR_R3 1 15
    | 34 => r TXE_CREAM_FRAC_FRAC 1 255 && r TXE_CREAM_MAX_GIB (n.fld TXE_CREAM_MIN_GIB) 16384
    | 35 =>
      n.cur SKM_LWM_RESV < n.cur SKM_LWM_CRIT && n.cur SKM_LWM_CRIT < n.cur SKM_LWM_LOW && n.cur SKM_LWM_LOW < n.cur SKM_LWM_HIGH &&
      r SKM_CURVE_TOP 1 65535 && r SKM_CTL_FGPAR 1 15 && r SKM_CTL_BGPAR 1 15 && r SKM_WL_SLCW 1 16 && r SKM_WL_GAP 16 65535 &&
      r SKM_ENDUR_CYCLES 1 65535 && r SKM_ENDUR_SPTHR 0 100
    | 36 =>
      let l := [STE_STREAM_CREAM, STE_STREAM_QLC, STE_STREAM_FOLD, STE_STREAM_SKIM, STE_STREAM_COLD, STE_STREAM_REBUILD].map fun f => n.cur f
      r STE_CLOSE_TICKS 1 16 && r STE_PATROL_DAYS 1 365 && (l.all fun v => 1 ≤ v) && l.foldl (· + ·) 0 ≤ 63
    | 37 => r CKP_PERIOD_MS 100 10000 && r CKP_BYTES_GIB 1 64 && r CKP_DIRTYMAX_PAGES 1024 1048575 && r CKP_REFRESH_PAGES 1024 1048575
    | 39 =>
      let mac (i : Nat) : Nat := n.cur FAB_MAC_LO_MAC i + 2 ^ 32 * n.cur FAB_MAC_HI_MAC i
      ((List.range 4).all fun i => n.within FAB_PORTCTL_MTU 375 2304 i && (!n.on FAB_VLAN_TAG i || n.within FAB_VLAN_VID 1 4094 i)) &&
      ((List.range 4).all fun i => (List.range i).all fun j => !(n.on FAB_PORTCTL_ENA i && n.on FAB_PORTCTL_ENA j && mac i = mac j)) &&
      r FAB_TCP_LPORT 1 65535 && r FAB_TCP_RTOMIN 1 255 && r FAB_TCP_RETRIES 1 15 && r FAB_NVT_GRANTS 1 16 && r FAB_NVT_C2HMAX 1 16 &&
      r FAB_ASSOC_MAXIOQ 1 4096
    | 40 => r HRD_CTL_ETYPE 0x600 0xFFFF && r HRD_DEADLINE_US 100 65535 && !([0x800, 0x806, 0x86DD, 0x8100, 0x8808] : List Nat).contains (n.cur HRD_CTL_ETYPE)
    | 41 => r LEX_GEOM_BUCKETLOG 16 22 && (n.cur LEX_GEOM_BUCKETLOG = o.cur LEX_GEOM_BUCKETLOG || !o.flag LEX_COUNT_ENTRIES)
    | 42 =>
      !(n.on PLK_WITNESS_ENA && (n.cur PLK_WITNESS_TCPPORT = 0 || (List.range 4).all fun w => n.cur PLK_WITADDR_ADDR w = 0)) &&
      (n.cur PLK_WITNESS_ENA = o.cur PLK_WITNESS_ENA || o.fld PLK_STAT_STATE != 3)
    | 43 => r CIP_CTL_STEPS 1 255 && (List.range 16).all fun c => n.cipWeight c != 0
    | 44 => r SRM_SCRUB_MS 100 10000
    | 45 => (List.range 4).all fun k => n.cur BPM_PLOW_LOW k ≤ n.fld BPM_PCFG_COUNT k
    | 47 => r DRC_REF_POLL 1 255 && n.cur DRC_PAGE_MODE != 3 && r DRC_PAGE_IDLE 1 65535 && r DRC_RH_RADIUS 1 4 && r DRC_RH_THRESH 64 65535 && r DRC_SCRUB_SEC 60 3600
    | 54 => r PWR_DEMAND_IDLE 1 1023 && r PWR_DVFS_SETTLE 10 500
    | _ => true

/-- One block's pending set at a boundary: it comes into force whole, or is refused whole (R73).  Answers whether it was applied. -/
def applyBlk (b : Nat) (p : SMap Word) (s : State) : State × Bool :=
  let n := applySet b p s
  if setOk b s n then (n.setFld (cstatPENDING b) 0, true)
  else (raise EV_TCK_COMMITREF b ((s.setFld (cstatPENDING b) 0).setFld (cstatREFUSED b) 1), false)

/-- CKP_HOLDUP.NEED (R198): 200 µs plus the largest need of a populated channel; EV_CKP_HOLDUP above 4,000 µs. -/
def holdupSettle (s : State) : State :=
  let need (c : Nat) : Nat :=
    if s.on FCH_BOD_ERSUSP c then s.cur FCH_TMAX1_TPROG c + s.cur FCH_TMAX2_TSUS c else max (s.cur FCH_TMAX1_TPROG c) (s.cur FCH_TMAX1_TBERS c)
  let pop (c : Nat) : Bool := (List.range 64).any fun d => s.populated (c * 64 + d)
  let n := 200 + (((List.range 32).filter pop).map need).foldl max 0
  let s := s.setFld CKP_HOLDUP_NEED (min n 65535)
  if 4000 < n then raise EV_CKP_HOLDUP n s else s

/-- A channel's fields of R198 differ between two states. -/
def holdupMoved (o n : State) (c : Nat) : Bool :=
  [FCH_TMAX1_TPROG, FCH_TMAX1_TBERS, FCH_TMAX2_TR, FCH_TMAX2_TSUS, FCH_TMAX2_TNOSUS, FCH_BOD_ERSUSP].any fun f => o.cur f c != n.cur f c

/-- A committed change of BUCKETLOG clears the Lexicon area to zero (R265). -/
def lexClear (o : State) (s : State) : State :=
  if s.cur LEX_GEOM_BUCKETLOG = o.cur LEX_GEOM_BUCKETLOG then s else
  let a := s.lexBase
  ckpMark { s.setFld LEX_HEAP_SLOTS s.lexSlots with
    mem := s.mem.filter (fun c => !(a ≤ c.1 && c.1 < a + 2 ^ 30)), chk := clearChk s.chk a (2 ^ 30), lex.cache := [] } a (2 ^ 30)

/-- Every pending set at a boundary (R53, R72), in block order; then what follows from new values: NEED (R198), the spare threshold
and the wear gap (R168, R174), the hardware channels (R322). -/
def applyPending (s0 : State) : State :=
  let s := s0
  let sets := s.pend.filter fun e => s.blkOn e.1
  let (s, done) := sets.foldl (fun (x : State × List Nat) e =>
    let (s, ok) := applyBlk e.1 e.2 x.1
    (s, if ok then x.2 ++ [e.1] else x.2)) ({ s with pend := [] }, [])
  if done.isEmpty then s else
  let s := if (List.range 32).any (holdupMoved s0 s) then holdupSettle s else s
  let s := if done.contains 35 then wearSettle (spareSettle s) else s
  let s := if done.any fun b => b = 41 || b = 43 then cipHw s else s
  let s := if done.contains 41 then lexClear s0 s else s
  raise EV_TCK_COMMIT 0 s

/-- COMMIT (R72): a master writes BLOCK_COMMIT of block b with GO. -/
def execCommit (m : MasterId) (b : Fin 57) (s : State) : Out :=
  let a := 0x40000000 + (blk b).base + 0xFF0
  .next (if s.mapAllows m .write a then commitBlk b s else accessDenied m .write a s)

/-- GLOBAL_COMMIT (R74): TCK_GCOMMIT.GO. -/
def execGlobalCommit (m : MasterId) (s : State) : Out := .next (regCmd m TCK_GCOMMIT 0 (fun s => allBlks.foldl (fun s b => commitBlk b s) s) s)

end Sys2Proof.Machine
end

