-- ==== Sys2Proof/Machine/Modes.lean ====
section
/-! DEFINITION. Named operations over the device's modes (R25–R32), its power domains (R26, R401), the cores' release and halt (R368, R369, R374), and the entry into BOOT and RECOVERY. -/

namespace Sys2Proof.Machine

/-! ### Cores -/

/-- Core n beside its registers. -/
def State.core (s : State) (n : Nat) : Core := mget {} s.cores n

/-- Update a core. -/
def modCore (n : Nat) (f : Core → Core) (s : State) : State := { s with cores := mmod {} s.cores n f }

/-- Halt a core pair with HALTCAUSE c (R377, R378): 4 is a core that is not released. -/
def haltCore (n c : Nat) (s : State) : State := (s.setFld EVR_CORE_HALTED 1 n).setFld EVR_CORE_HALTCAUSE c n

/-- The debug port's view of a core that has been put in reset or started: it runs, or waits for its release (R423). -/
def clearDebug (n : Nat) (s : State) : State := ((s.setFld JDP_CSTAT_HALTED 0 n).setFld JDP_CSTAT_CAUSE 0 n).setFld JDP_CSTAT_INDEX 0 n

/-- Put a core in reset: held, its state at reset. -/
def holdCore (n : Nat) (s : State) : State := clearDebug n (haltCore n 4 (modCore n (fun _ => {}) s))

/-- Start a core at an address in machine mode (R368, R369, R374, R412): every other part of its state is at reset, and a0 and a1 are given. -/
def startCore (n pc a0 a1 : Nat) (s : State) : State :=
  let s := modCore n (fun _ => { released := true, pc := BitVec.ofNat 64 pc,
                                 x := mput 0 (mput 0 [] 10 (BitVec.ofNat 64 a0)) 11 (BitVec.ofNat 64 a1) }) s
  clearDebug n ((s.setFld EVR_CORE_HALTED 0 n).setFld EVR_CORE_HALTCAUSE 0 n)

/-- Core n runs: released, not halted, its domain up. -/
def State.coreRuns (s : State) (n : Nat) : Bool := (s.core n).released && !s.flag EVR_CORE_HALTED n && s.domOn dCTRL && s.mode != mDORMANT

/-! ### Domains -/

/-- Switch domain d. -/
def setDom (d : Nat) (on : Bool) (s : State) : State :=
  let v := s.fld PWR_DOMSTAT_ON
  s.setFld PWR_DOMSTAT_ON (if on then v ||| 2 ^ d else v - (v &&& 2 ^ d))

/-- Switch a MEDIA quad; the domain is on while any quad is (PWR_DOMSTAT). -/
def setQuad (q : Nat) (on : Bool) (s : State) : State :=
  let v := s.fld PWR_DOMSTAT_QUAD
  let s := s.setFld PWR_DOMSTAT_QUAD (if on then v ||| 2 ^ q else v - (v &&& 2 ^ q))
  setDom dMEDIA (s.flag PWR_DOMSTAT_QUAD) s

/-- The image enables the Lexicon: its area is laid out (R452). -/
def State.lexOn (s : State) : Bool := s.flag CKP_REGION_LEN_PAGES 8

/-- What R26 gives a domain in a mode: some true on, some false off, none by vote.  The Lexicon's domain is never powered where the image
has no SEGMENT record (R43). -/
def domRule (m d : Nat) : Option Bool :=
  if d = dAON then some true
  else if m = mBOOT then some (d = dCTRL || d = dHOST || d = dCIPHER)
  else if m = mCONFIG then some true
  else if m = mDORMANT then some false
  else if d = dCTRL then some true
  else if m = mDRAIN then (if d = dHOST || d = dDRAM then some true else none)
  else if m = mRECOVERY then
    (if d = dHOST || d = dCIPHER then some true else if d = dLEX then some false else none)
  else none

/-- The votes of a domain, and of the clients of a MEDIA quad (R399, R400). -/
def State.votes (s : State) (d : Nat) : Nat := s.fld PWR_VSET_VOTE d
def State.quadVotes (s : State) (q : Nat) : Nat := nbits (s.votes dMEDIA) (8 * q) 8

/-- A domain is wanted (R26, R400); MEDIA is asked quad by quad. -/
def State.wanted (s : State) (d : Nat) : Bool :=
  !(d = dLEX && !s.lexOn) && (match domRule s.mode d with | some b => b | none => s.votes d != 0)

/-- A MEDIA quad is wanted: by the mode, by vote or on demand (R400, R403). -/
def State.quadWanted (s : State) (q : Nat) : Bool :=
  match domRule s.mode dMEDIA with
  | some b => b
  | none => s.quadVotes q != 0 || nbit (s.fld PWR_DOMSTAT_DEMAND) q

/-- The VID code that PWR drives (R435) for a power state's operating point. -/
def vidOf (ps : Nat) : Nat := (if ps = 0 then 50 else if ps = 1 then 40 else 30) + Config.vtrim.toNat

/-- Drive a VID code. -/
def driveVid (n : Nat) (s : State) : State := s.emit (.frame "board" "VID" [n])

/-- A power state's operating point is put in force (R36, R407): PS and, where the voltage changes, its VID code.  A lower clock is switched before
the voltage; a higher one at the end of the DVFS sequencer. -/
def setPoint (ps : Nat) (s : State) : State :=
  let old := vidOf (s.fld PWR_MODE_PS)
  let s := s.setFld PWR_MODE_PS ps
  let s := if s.pwr.clk < ps then { s with pwr.clk := ps } else s
  if vidOf ps = old then s else driveVid (vidOf ps) s

/-! ### Mode changes -/

/-- Enter a mode (R25): PWR_MODE.CUR and PREV, EV_PWR_MODE, and what follows from the mode at once: CSTS (R32), writes that wait on entry to
SPENT (R31), the NVMe controller and ANA on entry to RECOVERY (R32, R295). -/
def setMode (m : Nat) (s : State) : State :=
  let old := s.mode
  if m = old then s else
  let s := raise EV_PWR_MODE m ((s.setFld PWR_MODE_PREV old).setFld PWR_MODE_CUR m)
  let s := if m = mRECOVERY && s.flag HPT_STAT_RDY then hostStop s else s
  let s := if m = mRECOVERY && s.flag PLK_ROLE_IMAGE then setAna 3 s else s
  let s := if m = mSPENT then spentWrites s else s
  rdySettle s

/-- Enter RECOVERY from a mode other than BOOT with a BOT_CAUSE.RECOV code (R374): L0 to L6 are halted, L7 starts at the boot ROM's recovery
entry.  A power state being entered is abandoned; RECOVERY runs at the PS0 point. -/
def enterRecovery (code : Nat) (s : State) : State :=
  let s := setMode mRECOVERY (s.setFld BOT_CAUSE_RECOV code)
  let s := (List.range 7).foldl (fun s n => clearDebug n (haltCore n 4 s)) s
  let s := startCore 7 0x200 0 0 s
  let s := setPoint 0 s
  let s := (s.setFld PWR_MODE_BUSY (b2n (s.pwr.clk != 0))).setFld PWR_READY_CORE 0
  { s with bot.recovWait := true, bot.recovRun := false
           pwr.recovDue := none, pwr.spentDue := false, pwr.soloDue := false, pwr.serviceDue := false
           pwr.psPend := none, pwr.dormEntry := false, pwr.drainEntry := false, pwr.cmdHeld := false }

/-- BOOT cannot go on (R28): the boot ROM, still on L0, is to take the recovery path with a BOT_CAUSE.RECOV code. -/
def bootFails (code : Nat) (s : State) : State :=
  { s.setFld BOT_CAUSE_RECOV code with bot.recovWait := true, bot.bootRun := false }

/-! ### Entry into BOOT -/

/-- SRM writes every SRAM word to zero with valid check bits (R328). -/
def sramZero (s : State) : State :=
  { s with mem := s.mem.filter (fun c => !(0x20000000 ≤ c.1 && c.1 < 0x26000000))
           chk := s.chk.filter (fun c => !(0x20000000 ≤ c.1 && c.1 < 0x26000000)) }

/-- A register offset that keeps its word at a reset other than power-on: those of the AON blocks (R396, R399, R442) and CFL_BOERASE
(R365). -/
def keptAtReset (off : Nat) : Bool :=
  (0x1700000 ≤ off && off < 0x1900000) || (0x1A00000 ≤ off && off < 0x1B00000) || off = CFL_BOERASE.at 0 0 0

/-- RWB and staged fields of kept registers return to their reset value at entry to BOOT (R405, R39). -/
def rwbReset (off : Nat) (w : Word) : Word :=
  match regAt off with
  | some (r, _) => (w &&& ~~~(r.rwb ||| r.rws)) ||| (r.reset &&& (r.rwb ||| r.rws))
  | none => w

/-- The state with every block but those of AON at reset (R27, R405, R442).  Memory outside SRAM, fuses, the fault collector's and the debug
port's state, votes and the supplies' state stay; the boundary's outputs, the free values used and the commands waiting are the model's. -/
def afterReset (s : State) : State :=
  sramZero (State.setFld { ({} : State) with
    regs := s.regs.filterMap fun e =>
      if keptAtReset e.1 then
        let v := rwbReset e.1 e.2
        if (regAt e.1).any (fun r => v = r.1.reset) then none else some (e.1, v)
      else none
    mem := s.mem, chk := s.chk, fchk := s.fchk, out := s.out, free := s.free, pending := s.pending
    flt := { s.flt with bodDrive := false, resetDue := false }
    pwr := { powered := true, resetN := true, refAbsent := s.pwr.refAbsent, clkreq := s.pwr.clkreq }
    cip := { fuse := s.cip.fuse }
    jdp := s.jdp } (cstatPENDING 54) 0)

/-- Enter BOOT with a BOT_CAUSE.RESET code (R27, R368 step 1): the domains of BOOT, SRAM zero, L0 at the boot ROM's start in machine mode, the
other cores held; EV_PWR_MODE. -/
def enterBoot (cause : Nat) (s : State) : State :=
  let old := s.mode
  let s := afterReset s
  let s := (((s.setFld PWR_MODE_PREV old).setFld PWR_MODE_CUR mBOOT).setFld PWR_MODE_PS 0).setFld PWR_MODE_BUSY 0
  let s := ((s.setFld PWR_DOMSTAT_ON 0x4B).setFld PWR_DOMSTAT_QUAD 0).setFld PWR_DOMSTAT_DEMAND 0
  let s := ((s.setFld PWR_DOMSTAT_MOVING 0).setFld PWR_READY_CORE 0).setFld BOT_CAUSE_RESET cause
  let s := s.setFld SRM_STAT_INITDONE 1
  let s := (rangeFrom 1 7).foldl (fun s n => holdCore n s) (startCore 0 0 0 0 (s.setFld JDP_STAT_SPLIT 0))
  driveVid (vidOf 0) (raise EV_PWR_MODE mBOOT s)

end Sys2Proof.Machine
end

