-- ==== Sys2Proof/Machine/Image.lean ====
section
/-! DEFINITION. Family: the layout image and its application in CONFIG (spec/02_layout_image.md), with discovery of the dies (spec/04_flash_channels.md, R81–R87). -/

namespace Sys2Proof.Machine

/-! ### The image's bytes (R38–R42) -/

/-- A record: its byte offset, TYPE, BODYLEN, INSTANCE and the reserved bits of its header (R41). -/
structure LayRec where
  off  : Nat
  type : Nat
  len  : Nat
  inst : Nat
  res  : Nat
  deriving DecidableEq, Repr

/-- n bytes at offset o of the image, as a number. -/
def imgAt (v o n : Nat) : Nat := nbits v (8 * o) (8 * n)

/-- A field of a record's body. -/
def LayRec.fld (r : LayRec) (v o n : Nat) : Nat := imgAt v (r.off + 8 + o) n

/-- The body size of a record TYPE; none for a TYPE the spec does not give (R43). -/
def layLen (t : Nat) : Option Nat :=
  match t with
  | 0x0001 => some 128
  | 0x0002 => some 8
  | 0x0003 => some 32
  | 0x0004 => some 16
  | 0x0005 => some 8
  | 0x0006 => some 16
  | 0x0007 => some 8
  | 0x0008 => some 24
  | 0x0009 => some 8
  | 0x000A => some 40
  | 0x000B => some 128
  | 0x000C => some 1032
  | 0x000D => some 8
  | 0x000E => some 8
  | 0x7FFF => some 0
  | _ => none

/-- Walk the records from offset pos to the CRC at offset lim (check 0x05): the records in order with END last, or the offset of the record that
fails. -/
def layWalk (v lim : Nat) : Nat → Nat → List LayRec → List LayRec ⊕ Nat
  | 0, pos, _ => .inr pos
  | fuel + 1, pos, acc =>
    if lim < pos + 8 then .inr pos else
    let r : LayRec := { off := pos, type := imgAt v pos 2, len := imgAt v (pos + 2) 2, inst := imgAt v (pos + 4) 2, res := imgAt v (pos + 6) 2 }
    if r.len % 4 != 0 || 8192 < r.len || lim < pos + 8 + r.len then .inr pos else
    match layLen r.type with
    | some n =>
      if r.len != n then .inr pos
      else if r.type = 0x7FFF then (if pos + 8 = lim then .inl (acc ++ [r]) else .inr pos)
      else layWalk v lim fuel (pos + 8 + r.len) (acc ++ [r])
    | none => if nbit r.type 15 then layWalk v lim fuel (pos + 8 + r.len) (acc ++ [r]) else .inr pos

/-- A parsed image. -/
structure Img where
  v    : Nat
  len  : Nat
  recs : List LayRec
  deriving DecidableEq, Repr

/-- The first record of a TYPE. -/
def Img.rec? (i : Img) (t : Nat) : Option LayRec := i.recs.find? fun r => r.type = t

/-- A field of the first record of a TYPE; 0 where the record is absent. -/
def Img.get (i : Img) (t o n : Nat) : Nat := match i.rec? t with | some r => r.fld i.v o n | none => 0

/-- The offset of the first record of a TYPE. -/
def Img.offOf (i : Img) (t : Nat) : Nat := match i.rec? t with | some r => r.off | none => 0

/-- The NAMESPACE records. -/
def Img.slots (i : Img) : List LayRec := i.recs.filter fun r => r.type = 0x0003

/-- Maximum size in bytes, indirection unit code and flags of a NAMESPACE record. -/
def Img.nsMax (i : Img) (r : LayRec) : Nat := r.fld i.v 8 8
def Img.nsIu (i : Img) (r : LayRec) : Nat := r.fld i.v 4 1
def Img.nsFlags (i : Img) (r : LayRec) : Nat := r.fld i.v 5 1

/-- Units of a slot's maximum size. -/
def Img.nsUnits (i : Img) (r : LayRec) : Nat := i.nsMax r / (4096 * iuCw (i.nsIu r))

/-! ### Checks (R45) -/

/-- Bytes lo … lo + n − 1 of a record's body are 0. -/
def LayRec.zero (r : LayRec) (v lo n : Nat) : Bool := r.fld v lo n = 0

/-- A field lies in lo … hi. -/
def LayRec.in' (r : LayRec) (v o n lo hi : Nat) : Bool := lo ≤ r.fld v o n && r.fld v o n ≤ hi

/-- The reserved bytes of a channel's delay table (R347): offset and count. -/
def dlyGaps : List (Nat × Nat) :=
  [(8, 8), (218, 38)] ++ [0, 1].flatMap fun r => (List.range 5).map fun l => (25 + 60 * r + 12 * l, 3)

/-- Every field of a record is in its range of R44, and every reserved field 0 (check 0x07). -/
def layFieldsOk (v : Nat) (r : LayRec) : Bool :=
  r.res = 0 &&
  match r.type with
  | 0x0001 => (List.range 32).all fun n => r.in' v (4 * n) 1 0 16 && r.in' v (4 * n + 1) 1 1 4 && r.in' v (4 * n + 2) 1 4 48 && r.in' v (4 * n + 3) 1 0 2
  | 0x0002 => r.in' v 0 1 4 30 && r.in' v 1 1 2 2 && r.in' v 2 1 1 16 && r.zero v 3 1 && r.in' v 4 2 1 365 && r.zero v 6 2
  | 0x0003 => r.inst ≤ 127 && r.in' v 0 4 1 128 && r.in' v 4 1 0 3 && r.in' v 5 1 0 7 && r.zero v 6 2 && r.zero v 18 14 &&
      r.fld v 8 8 % (4096 * iuCw (r.fld v 4 1)) = 0
  | 0x0004 => r.in' v 0 1 4 32 && r.zero v 1 3 && ((List.range 4).all fun k => r.in' v (8 + k) 1 1 255) && r.in' v 12 2 0 1024 && r.zero v 14 2
  | 0x0005 => r.in' v 0 2 0 4096 && r.in' v 2 2 0 4096 && r.in' v 4 2 1 4096 && r.in' v 6 2 0 4096
  | 0x0006 => (List.range 4).all fun k => r.in' v (4 * k + 3) 1 0 1
  | 0x0007 => (List.range 8).all fun n => r.in' v n 1 0 4
  | 0x0008 => r.in' v 0 1 1 2 && r.in' v 1 1 0 1 && r.zero v 2 2 && r.in' v 20 2 1 65535 && r.zero v 22 2
  | 0x0009 => r.in' v 0 2 0 16383 && r.zero v 3 5
  | 0x000A => r.zero v 31 1 && r.fld v 32 4 % 4096 = 0 && r.in' v 36 4 1 65536
  | 0x000B => (List.range 256).all fun i => let o := r.fld v (i / 2) 1 / 16 ^ (i % 2) % 16; o ≤ 7 || o = 15
  | 0x000C => [8, 16, 32, 64, 128].contains (r.fld v 0 2) && r.in' v 2 1 32 64 && r.in' v 3 1 1 2 && r.zero v 4 4 && (List.range 4).all fun c =>
      dlyGaps.all fun g => r.zero v (8 + 256 * c + g.1) g.2
  | 0x000D => r.in' v 0 1 1 255 && r.in' v 1 1 5 200 && r.in' v 2 2 8 1024 && r.in' v 4 2 (r.fld v 2 2) 16384 && r.zero v 6 2
  | 0x000E => r.in' v 0 1 1 1 && r.zero v 1 7
  | _ => true

/-- The first element of a list, with its predecessors, that a test on both names. -/
def firstWith {α : Type} (p : List α → α → Bool) : List α → List α → Option α
  | _, [] => none
  | before, a :: r => if p before a then some a else firstWith p (before ++ [a]) r

/-- Populated channels of the image. -/
def Img.channels (i : Img) : Nat := ((List.range 32).filter fun n => i.get 1 (4 * n) 1 != 0).length

/-- n rounded up to a multiple of a. -/
def alignUp (n a : Nat) : Nat := ceilDiv n a * a

/-- Map bytes of R46, and the demand in MiB; a pool that is no whole number of MiB counts as the next (DESIGN CHOICE, log 87). -/
def Img.mapBytes (i : Img) : Nat := alignUp ((i.slots.map fun r => 5 * i.nsUnits r).foldl (· + ·) 0) (2 ^ 20)
def Img.poolDram (i : Img) : Nat := if i.get 6 15 1 = 1 then i.get 6 12 3 * 262144 else 0
def Img.demandMib (i : Img) : Nat :=
  i.mapBytes / 2 ^ 20 + (if (i.rec? 0x0E).isSome then 1024 else 0) + 4096 + ceilDiv i.poolDram (2 ^ 20)

/-- Check 0x06: a required record is missing (offset 0), or a record comes more often than R43 allows. -/
def Img.countsBad (i : Img) : Option Nat :=
  let once : LayRec → Bool := fun r => (layLen r.type).isSome && r.type != 3
  let slot (r : LayRec) : Bool := r.type = 3
  match firstWith (fun b r => (once r && b.any fun q => q.type = r.type) ||
      (slot r && ((b.any fun q => slot q && q.inst = r.inst) || 128 ≤ (b.filter slot).length))) [] i.recs with
  | some r => some r.off
  | none => if [1, 2, 4, 5, 6, 7, 0xA, 0xB, 0xC, 0xD].all fun t => (i.rec? t).isSome then none else some 0

/-- Check 0x0B: where the 4 KiB-unit slots pass 2 TiB. -/
def Img.smallBad (i : Img) : Option Nat :=
  (firstWith (fun b r => i.nsIu r = 0 && 2 ^ 41 < ((r :: b).filter fun q => i.nsIu q = 0).foldl (fun n q => n + i.nsMax q) 0) [] i.slots).map LayRec.off

/-- The checks of step 4 of R48 that come before DRAM is needed: REASON and LAY_FAILOFF of the first that fails. -/
def Img.checksA (i : Img) : Option (Nat × Nat) :=
  match i.countsBad with
  | some o => some (0x06, o)
  | none =>
  if imgAt i.v 14 2 != 0 || imgAt i.v 19 1 != 0 then some (0x07, 0) else
  match i.recs.find? fun r => !layFieldsOk i.v r with
  | some r => some (0x07, r.off)
  | none =>
  if i.channels < i.get 2 0 1 + 2 then some (0x08, i.offOf 1)
  else if (List.range 32).any fun n => 36 < i.get 1 (4 * n + 2) 1 && i.get 1 (4 * n + 3) 1 ≤ 1 then some (0x09, i.offOf 1) else
  match firstWith (fun b r => (b.any fun q => q.fld i.v 0 4 = r.fld i.v 0 4) || (nbit (i.nsFlags r) 0 && (i.rec? 8).isNone)) [] i.slots with
  | some r => some (0x0A, r.off)
  | none => i.smallBad.map fun o => (0x0B, o)

/-- The checks of step 4 from 0x0C on. -/
def Img.checksB (i : Img) : Option (Nat × Nat) :=
  let role (n : Nat) : Nat := i.get 7 n 1
  let cnt (k : Nat) : Nat := i.get 6 (4 * k) 3
  let dram (k : Nat) : Bool := i.get 6 (4 * k + 3) 1 = 1
  let sram := (List.range 4).foldl (fun n k => if dram k then n else n + cnt k * poolSize k) 0
  let has (x : Nat) : Bool := (List.range 8).any fun n => role n = x
  if i.get 0xC 0 2 * 1024 < i.demandMib then some (0x0C, i.offOf 0xC)
  else if role 0 != 1 || role 7 != 4 || !has 2 || !has 3 then some (0x0E, i.offOf 7)
  else if 80 * 2 ^ 20 < sram || cnt 0 = 0 || cnt 3 = 0 || dram 0 || dram 1 || dram 2 then some (0x0F, i.offOf 6)
  else if i.get 5 0 2 + i.get 5 2 2 = 0 && !(i.slots.any fun r => i.nsFlags r / 2 != 0) then some (0x11, i.offOf 5)
  else none

/-! ### Reading the slot -/

/-- Address of the image slot of the active bank (R38). -/
def State.slotAddr (s : State) : Nat := 0x10000000 + s.fld BOT_BOOT_BANK * 0x800000 + 0x80000

/-- The image's LENGTH is in range. -/
def lenOk (n : Nat) : Bool := n % 4 = 0 && 92 ≤ n && n ≤ 65536

/-- What the boot ROM finds in the slot: a rejection (REASON, LAY_FAILOFF), or an image with its CRC-32C. A read that ends with an error
response is a failed check 0x01 in the header and 0x03 after it. -/
inductive Slot where
  | wait
  | bad (reason off : Nat) (crc : Option Nat)
  | good (i : Img) (crc : Nat)
  deriving DecidableEq, Repr

/-- Steps 1 and 2 of R48, and the record walk (check 0x05).  auth: check the tag (step 3) in between. -/
def readSlot (auth : Bool) (s : State) : State × Slot :=
  let a := s.slotAddr
  match memRead s 0 .read a 64 with
  | (s, .wait) => (s, .wait)
  | (s, .err _) => (s, .bad 1 0 none)
  | (s, .ok h) =>
    let n := imgAt h 8 4
    if imgAt h 0 4 != 0x3159414C || imgAt h 4 2 != 1 || imgAt h 6 2 != 64 || imgAt h 16 2 != 0x7232 || !lenOk n then (s, .bad 1 0 none)
    else if 0xB0 < imgAt h 18 1 then (s, .bad 2 0 none) else
    match memRead s 0 .read a n with
    | (s, .wait) => (s, .wait)
    | (s, .err _) => (s, .bad 3 0 none)
    | (s, .ok v) =>
      let crc := (crc32c (leBytes (n - 20) v)).toNat
      if crc != imgAt v (n - 20) 4 then (s, .bad 3 0 (some crc))
      else if auth && ofLe (cmac (s.fuseKey 1) (leBytes (n - 16) v)) != imgAt v (n - 16) 16 then (s, .bad 4 0 (some crc)) else
      match layWalk v (n - 20) 8192 64 [] with
      | .inr o => (s, .bad 5 o (some crc))
      | .inl rs => if rs.length != imgAt v 12 2 then (s, .bad 5 0 (some crc)) else (s, .good { v, len := n, recs := rs } crc)

/-- The image is rejected (R48): LAY_STAT, LAY_FAILOFF, EV_LAY_REJECT, and CONFIG ends in RECOVERY with BOT_CAUSE.RECOV 4. -/
def layReject (reason off : Nat) (s : State) : State :=
  let s := ((s.setFld LAY_STAT_STATE 3).setFld LAY_STAT_REASON reason).setFld LAY_FAILOFF_OFFSET off
  enterRecovery 4 (raise EV_LAY_REJECT (reason + off * 2 ^ 8) s)

/-! ### DRAM layout (R452) -/

/-- Base of DRAM. -/
def dramBase : Nat := 0x1000000000

/-- The bases of the four parts of the first table: map, Lexicon area, device area, DRAM pool. -/
def Img.partBases (i : Img) : Nat × Nat × Nat × Nat :=
  let lex := dramBase + i.mapBytes
  let dev := if (i.rec? 0x0E).isSome then lex + 2 ^ 30 else lex
  (dramBase, lex, dev, dev + 2 ^ 32)

/-- The sizes of the checkpointed regions 0 to 8 (R203, R452). -/
def Img.regionSizes (i : Img) (blkpp planes : Nat) : List Nat :=
  let g := 64 * blkpp
  [i.mapBytes, 2048 * blkpp * 8, g * 16, g * 256, 131072, 32 * (64 * blkpp * planes * 8), 2 ^ 20, 2 ^ 23, if (i.rec? 0x0E).isSome then 2 ^ 30 else 0]

/-- Pages of 16 KiB of regions 0 to 8. -/
def Img.ckPages (i : Img) (blkpp planes : Nat) : Nat := (i.regionSizes blkpp planes).foldl (fun n r => n + ceilDiv r 16384) 0

/-- Buffers of all pools. -/
def Img.buffers (i : Img) : Nat := (List.range 4).foldl (fun n k => n + i.get 6 (4 * k) 3) 0

/-- The sizes of parts 1 to 16 of the device area. -/
def Img.partSizes (i : Img) (blkpp planes : Nat) : List Nat :=
  let g := 64 * blkpp
  let mir := (i.slots.filter fun r => nbit (i.nsFlags r) 0).foldl (fun n r => n + ceilDiv (i.nsMax r) (2 ^ 20)) 0
  let pages := i.ckPages blkpp planes
  [2 ^ 23, 2 ^ 20, 131072, (i.get 5 6 2 + 1) * 256, 4 * i.buffers, 4 * i.buffers, 131072 * 16, ceilDiv pages 8, 2 ^ 20, 65536, ceilDiv mir 8,
   2048 * blkpp * 8, g * 16, g * 256, 32 * (64 * blkpp * planes * 8), 8 * pages]

/-- Offset of part k (1 to 17) in the device area: each part begins at the next 64 KiB boundary; part 17 is the end of part 16. -/
def Img.partOff (i : Img) (blkpp planes k : Nat) : Nat := ((i.partSizes blkpp planes).take (k - 1)).foldl (fun n z => alignUp (n + z) 65536) 0

/-- Bytes that parts 1 to 16 take. -/
def Img.partsEnd (i : Img) (blkpp planes : Nat) : Nat := i.partOff blkpp planes 16 + nth 0 (i.partSizes blkpp planes) 15

/-- Write a 40-bit base into a LO and HI register pair. -/
def setBase (lo hi : Fld) (a : Nat) (s : State) (k : Nat := 0) : State := s.setPair lo hi a k

/-- Set a checkpoint region's base and length.  Region 0 begins at the start of DRAM whatever its length; an absent region 8 has base 0. -/
def setRegion (r base size : Nat) (s : State) : State :=
  (s.setPair CKP_REGION_LO_BASE_LO CKP_REGION_HI_BASE_HI (if size = 0 && r != 0 then 0 else base) r).setFld CKP_REGION_LEN_PAGES (ceilDiv size 16384) r

/-! ### Image fields (R44) -/

/-- Write n numbered fields. -/
def forAll (n : Nat) (f : State → Nat → State) (s : State) : State := (List.range n).foldl f s

/-- A slot's NAMESPACE record in TXE. -/
def laySlot (i : Img) (s : State) (r : LayRec) : State :=
  let k := r.inst
  let s := ((s.setFld TXE_NSCFG_IU (i.nsIu r) k).setFld TXE_NSCFG_MIRROR (i.nsFlags r % 2) k).setFld TXE_NSCFG_DECL 1 k
  { s with
    txe.nsid := mput 0 s.txe.nsid k (r.fld i.v 0 4), txe.key := mput 0 s.txe.key k (r.fld i.v 16 2)
    txe.flags := mput 0 s.txe.flags k (i.nsFlags r), txe.maxUnits := mput 0 s.txe.maxUnits k (i.nsUnits r) }

/-- A pool's image fields: count, placement, base, and every buffer free (R331, R334). -/
def layPool (i : Img) (s : State) (k : Nat) : State :=
  let cnt (j : Nat) : Nat := i.get 6 (4 * j) 3
  let dram := i.get 6 (4 * k + 3) 1 = 1
  let sram := (List.range k).foldl (fun n j => if i.get 6 (4 * j + 3) 1 = 1 then n else n + cnt j * poolSize j) 0x21000000
  let s := (s.setFld BPM_PCFG_COUNT (cnt k) k).setFld BPM_PCFG_DRAM (b2n dram) k
  let s := setBase BPM_PBASE_LO_ADDR BPM_PBASE_HI_ADDR (if dram then i.partBases.2.2.2 else sram) s k
  let s := (s.setFld BPM_PFREE_FREE (cnt k) k).setFld BPM_PMIN_MIN (cnt k) k
  { s with bpm.ring := mput [] s.bpm.ring k ((List.range (cnt k)).map (handleOf k)), bpm.cache := mput [] s.bpm.cache k [] }

/-- The image fields of the blocks of CTRL. -/
def layCtrl (i : Img) (s : State) : State :=
  let (map, lex, dev, _) := i.partBases
  let part (k : Nat) : Nat := dev + i.partOff 0 0 k
  let s := { s with txe.nsid := [], txe.key := [], txe.flags := [], txe.maxUnits := [] }
  let s := i.slots.foldl (laySlot i) s
  let s := setBase TXE_MAPBASE_LO_ADDR TXE_MAPBASE_HI_ADDR map s
  let s := s.setFld TXE_CREAM_MIN_GIB (i.get 0xD 2 2)
  let s := (s.setFld STE_GEOM_D (i.get 2 0 1)).setFld STE_GEOM_W (i.get 2 0 1 + 2)
  let s := setBase STE_LSBASE_LO_ADDR STE_LSBASE_HI_ADDR (part 3) s
  let s := setRegion 0 map i.mapBytes s
  let s := setRegion 8 lex (if (i.rec? 0x0E).isSome then 2 ^ 30 else 0) s
  let s := setRegion 4 (part 3) 131072 (setRegion 6 (part 2) (2 ^ 20) (setRegion 7 (part 1) (2 ^ 23) s))
  let s := setBase BPM_STBASE_LO_ADDR BPM_STBASE_HI_ADDR (part 5) s
  let s := forAll 4 (layPool i) s
  let s := { s with mem := s.mem.filter fun c => !(part 5 ≤ c.1 && c.1 < part 5 + 4 * i.buffers) }
  forAll 8 (fun s n => s.setFld EVR_CORE_ROLE (i.get 7 n 1) n) s

/-- The image fields of one NAND channel. -/
def layChan (i : Img) (s : State) (n : Nat) : State :=
  (((s.setFld FCH_CFG_IFACE (i.get 1 (4 * n + 3) 1) n).setFld FCH_CFG_RATE (i.get 1 (4 * n + 2) 1) n).setFld FCH_POP_TARGETS (i.get 1 (4 * n) 1) n).setFld
    FCH_POP_LUNS (i.get 1 (4 * n + 1) 1) n

/-- The image fields of the blocks of domain d (R44, R404 step 2). -/
def layFields (i : Img) (d : Nat) (s : State) : State :=
  let (_, lex, dev, _) := i.partBases
  let part (k : Nat) : Nat := dev + i.partOff 0 0 k
  if d = dCTRL then layCtrl i s
  else if d = dHOST then (s.setFld HPT_QCFG_IOQ (i.get 5 0 2)).setFld HPT_QCFG_VEC (i.get 5 4 2)
  else if d = dFABRIC then
    let s := setBase FAB_CTXBASE_LO_ADDR FAB_CTXBASE_HI_ADDR (part 4) s
    let s := { s with fab.maxCtx := i.get 5 6 2, fab.maxQp := i.get 5 2 2 }
    (s.setFld HRD_ID_MEMBER (i.get 9 0 2)).setFld PLK_ROLE_IMAGE (i.get 8 0 1)
  else if d = dDRAM then
    ((s.setFld DRC_CFG_GIB (i.get 0xC 0 2)).setFld DRC_CFG_RATE (i.get 0xC 2 1)).setFld DRC_CFG_RANKS (i.get 0xC 3 1 - 1)
  else if d = dCIPHER then
    let cls (c : Nat) : Nat := i.get 0xA (c / 2) 1 / 16 ^ (c % 2) % 16
    let s := forAll 62 (fun s c => { s.setFld CIP_CHSTAT_CLASS (cls c) c with cip.cls := mput 0 s.cip.cls c (cls c) }) s
    let s := (s.setFld CIP_UCADDR_VALUE (i.get 0xA 32 4)).setFld CIP_UCLEN_VALUE (i.get 0xA 36 4)
    setBase CIP_KSBASE_LO_ADDR CIP_KSBASE_HI_ADDR (part 1) s
  else if d = dLEX then setBase LEX_BASE_LO_ADDR LEX_BASE_HI_ADDR lex (s.setFld LEX_CTL_ENA 1)
  else s

/-- The staged fields of the image, with one COMMIT per block (R44, R48 step 5): in force from the next boundary on (R72).  The witness address is
one little-endian field of 16 bytes (R40), and PLK_WITADDR(0) its most significant word. -/
def layStaged (i : Img) (s : State) : State :=
  let s := commitBlk 36 ((s.setFld STE_CLOSE_TICKS (i.get 2 2 1)).setFld STE_PATROL_DAYS (i.get 2 4 2))
  let s := (s.setFld TCK_PERIOD_PERIOD (i.get 4 0 1)).setFld TCK_MODE_DIRECT (i.get 4 4 4)
  let s := ((s.setFld TCK_WEIGHT_READ (i.get 4 8 1)).setFld TCK_WEIGHT_WRITE (i.get 4 9 1)).setFld TCK_WEIGHT_SKIM (i.get 4 10 1)
  let s := commitBlk 0 ((s.setFld TCK_WEIGHT_PATROL (i.get 4 11 1)).setFld TCK_CREDIT_FLOOR (i.get 4 12 2))
  let s := commitBlk 34 ((s.setFld TXE_CREAM_FRAC_FRAC (i.get 0xD 0 1)).setFld TXE_CREAM_MAX_GIB (i.get 0xD 4 2))
  let s := commitBlk 40 (s.setFld HRD_HOPLIM_LIMIT (i.get 9 2 1))
  if (i.rec? 8).isNone then s else
  let s := (s.setFld PLK_WITNESS_ENA (i.get 8 1 1)).setFld PLK_WITNESS_TCPPORT (i.get 8 20 2)
  commitBlk 42 (forAll 4 (fun s w => s.setFld PLK_WITADDR_ADDR (i.get 8 (16 - 4 * w) 4) w) s)

/-- PWR_OWNER: client j of domain d has owner 4 bits (R44). -/
def layOwners (i : Img) (s : State) : State :=
  forAll 32 (fun s k => s.setFld PWR_OWNER_OWNER (i.get 0xB (4 * k) 4) (k / 4) (k % 4)) s

/-- The records of the pair log in a bank: slot, bytes. -/
def State.pairSlots (s : State) : List (Nat × Nat) :=
  [0, 1].flatMap fun bank => (List.range 256).map fun k => (k, s.rawNat (0x10000000 + bank * 0x800000 + 0xA0000 + 32 * k) 32)

/-- PLK takes its roles, epochs and flags from the record of the pair log with the highest number (R287); with both logs erased, epoch 0, BASE 0,
the image role, CURRENT = 1 and SYNC = 0. -/
def pairStart (s : State) : State :=
  let good := s.pairSlots.filter fun r => nbits r.2 0 32 = 0x31474C50 && (crc32c (leBytes 28 r.2)).toNat = nbits r.2 224 32
  let best := good.foldl (fun (b : Option (Nat × Nat)) r => match b with
    | some x => if nbits x.2 32 32 < nbits r.2 32 32 then some r else b
    | none => some r) none
  match best with
  | some (k, r) =>
    let s := (s.setFld PLK_EPOCH_EPOCH (nbits r 64 32)).setFld PLK_BASE_EPOCH (nbits r 96 32)
    let s := ((s.setFld PLK_ROLE_ACTING (nbits r 192 2)).setFld PLK_STAT_CURRENT (nbits r 194 1)).setFld PLK_STAT_SYNC (nbits r 195 1)
    { s with plk.logNo := nbits r 32 32, plk.logSlot := (k + 1) % 256, plk.pairId := nbits r 128 64 }
  | none => (s.setFld PLK_ROLE_ACTING (s.fld PLK_ROLE_IMAGE)).setFld PLK_STAT_CURRENT 1

/-- Step 5 of R48 on an image that has passed its checks. -/
def layApply (i : Img) (s : State) : State :=
  let s := if (i.rec? 0x0E).isSome then setDom dLEX true s else s
  let s := [dCTRL, dHOST, dFABRIC, dDRAM, dCIPHER].foldl (fun s d => layFields i d s) s
  let s := if (i.rec? 0x0E).isSome then layFields i dLEX s else s
  let s := forAll 32 (layChan i) s
  let s := cipHw (layOwners i (layStaged i s))
  if (i.rec? 8).isSome then pairStart s else s

/-- DRAM is brought up from the DRAM record (R349 steps 1 and 2). -/
def layDram (i : Img) (s : State) : State :=
  let s := layFields i dDRAM s
  let s := forAll 256 (fun s k => dlyWrite (k / 64) (k % 64) (BitVec.ofNat 32 (i.get 0xC (8 + 4 * k) 4)) s) s
  dramInit s

/-- The image is under way in CONFIG and not yet applied. -/
def State.layRuns (s : State) : Bool := s.mode = mCONFIG && s.fld LAY_STAT_STATE ≤ 1

/-- IMAGE_CHECK (R48 steps 1 to 5): the boot ROM reads, authenticates and checks the image of the active slot.  Check 0x0C needs DRAM: where
DRAM is not up, this brings it up and the boot ROM goes on once DRAM_INIT_DONE has answered; with DRAM up, it runs the rest of step 4 and
step 5. -/
def imageCheck (s : State) : State :=
  let s := (s.setFld LAY_STAT_STATE 1).setFld LAY_STAT_SLOT (s.fld BOT_BOOT_BANK)
  let crcSet (c : Option Nat) (s : State) : State := match c with | some c => s.setFld LAY_CRC_CRC c | none => s
  match readSlot true s with
  | (s, .wait) => s
  | (s, .bad r o c) =>
    let s := crcSet c s
    let s := if r = 4 then occur 20 s.slotAddr 18 3 (raise EV_CIP_AUTHFAIL 62 (s.inc CIP_AUTHFAIL_COUNT)) else s
    layReject r o s
  | (s, .good i c) =>
    let s := crcSet (some c) s
    let s := ((s.setFld LAY_SERIAL_LO_SERIAL (imgAt i.v 24 4)).setFld LAY_SERIAL_HI_SERIAL (imgAt i.v 28 4)).setFld LAY_GALUK_VERSION (imgAt i.v 20 4)
    match i.checksA with
    | some (r, o) => layReject r o s
    | none =>
      if !s.flag DRC_INITSTAT_DONE then (if s.drc.initBusy then s else layDram i s) else
      let s := s.setFld LAY_DRAMUSE_MIB (min i.demandMib (2 ^ 20 - 1))
      match i.checksB with
      | some (r, o) => layReject r o s
      | none => { layApply i s with bot.layStep := 1 }

/-- IMAGE_CHECK (R48). -/
def execImageCheck (s : State) : Out :=
  .next (if s.layRuns && s.bot.layStep = 0 then imageCheck s else s)

/-! ### Discovery (R86, R87, R49, R134) -/

/-- A valid extended-timing descriptor (R81): maximum rate, preambles, on-die termination code, training flags, retraining interval in ms, suspend
limit in units of 16. -/
structure ExtTiming where
  rate     : Nat
  rdPre    : Nat
  wrPre    : Nat
  odt      : Nat
  flags    : Nat
  interval : Nat
  susp     : Nat
  deriving DecidableEq, Repr

/-- The descriptor of a page whose signature and version are right (R81). -/
def DieParam.ext (p : DieParam) : Option ExtTiming :=
  let b (i n : Nat) : Nat := nbits p.vendor.toNat (8 * (i - 164)) (8 * n)
  if b 164 1 = 0x43 && b 165 1 = 0x58 && b 166 1 = 1 then
    some { rate := b 167 1, rdPre := b 168 1, wrPre := b 169 1, odt := b 170 1, flags := b 171 1, interval := b 172 2, susp := b 174 1 }
  else none

/-- A copy of the page has a valid CRC. -/
def DieParam.valid (p : DieParam) : Bool := p.copies.any id

/-- A die that R86 and R134 let the sequencer support. -/
def dieFits (p : DieParam) : Bool :=
  p.dataBytes = 16384 && 2048 ≤ p.spareBytes && 1 ≤ p.planes && p.planes ≤ 4 && p.blkpp ≤ 65535 && p.suspendOk && p.pageBits ≤ 12 &&
  (match DieParam.ext p with | some e => e.susp = 0 || 1024 ≤ 16 * e.susp | none => true) &&
  Nat.log2 (2 * p.blkpp - 1) + p.pageBits + planeBits p.planes + 2 ≤ 26

/-- Two dies have the same geometry. -/
def sameGeom (p q : DieParam) : Bool := p.planes = q.planes && p.pageBits = q.pageBits && p.blkpp = q.blkpp

/-- Declared die positions (R44). -/
def State.declared (s : State) (pos : Nat) : Bool :=
  let d := posDie pos
  d / 4 < s.fld FCH_POP_TARGETS (posCh pos) && d % 4 < s.fld FCH_POP_LUNS (posCh pos)

/-- Saturate at a width. -/
def satur (w n : Nat) : Nat := min n (2 ^ w - 1)

/-- The commands that discovery issues to target k % 16 of channel k / 16 (R87 steps 1 to 3): Reset in SDR timing mode 0; of a target that becomes
ready, Read ID, and the copies of the parameter page up to the first valid one. -/
def probeTarget (found : List (Nat × DieParam)) (s : State) (k : Nat) : State :=
  let put (op row : Nat) (s : State) : State := s.emit (.nand (k / 16) (4 * (k % 16)) op row 0)
  let s := put 256 0 s
  match mfind found k with
  | none => s
  | some p => (List.range (min p.copies.length ((p.copies.takeWhile (!·)).length + 1))).foldl (fun s c => put 261 c s) (put 260 0 s)

/-- The rate at which a channel runs at full speed (R82): the image's, or the lowest that its dies declare; an interface 2 with a die that has no
valid descriptor runs at 3,600 MT/s. -/
def fullRate (iface img : Nat) (dies : List DieParam) : Nat :=
  dies.foldl (fun r p => min r (if iface = 2 then (match DieParam.ext p with | some e => e.rate | none => 36) else p.maxRate)) img

/-- FCH_CFG.RATE and DRAINRATE: the rate in force, 800 MT/s in DRAIN where the full rate is above it (R82, R83). -/
def rateSettle (ch : Nat) (s : State) : State :=
  let full := (s.chan ch).full
  let slow : Bool := s.mode = mDRAIN && 8 < full
  (s.setFld FCH_CFG_DRAINRATE (b2n slow) ch).setFld FCH_CFG_RATE (if slow then 8 else full) ch

/-- The targets of a channel with a die that answers. -/
def State.trainTargets (s : State) (ch : Nat) : List Nat :=
  (List.range 16).filter fun t => (List.range 4).any fun l => let x := s.dieState (64 * ch + 4 * t + l); x != 0 && x != 6

/-- The training of a target at the full rate and at 800 MT/s, with new delays for both (R80, R84). -/
def trainBoth (ch : Nat) (s : State) (t : Nat) : State :=
  let k := s.trainKinds ch
  let s := (s.emit (.nand ch (4 * t) 258 (s.chan ch).full k)).emit (.nand ch (4 * t) 258 8 k)
  let (a, s) := s.fresh
  let (b, s) := s.fresh
  modChan s ch fun c => { c with delays := mput (0, 0) c.delays t (a, b), trainAt := s.mtime }

/-- What the parameter pages of a channel's dies in service load into its registers, and steps 5 and 6 of R87 (R82, R84, R87 step 7). -/
def chanLoad (dies : List (Nat × DieParam)) (ch : Nat) (s : State) : State :=
  let s := modChan (s.setFld FCH_STAT_DISCOVERED 1 ch) ch fun c => { c with full := s.fld FCH_CFG_RATE ch }
  match dies with
  | [] => s
  | (_, p) :: _ =>
    let s := ((s.setFld FCH_GEOM_PAGEBITS p.pageBits ch).setFld FCH_GEOM_PLANES p.planes ch).setFld FCH_GEOM_BLKPP p.blkpp ch
    let s := (s.install FCH_TMAX1_TPROG (satur 16 p.tprog) ch).install FCH_TMAX1_TBERS (satur 16 p.tbers) ch
    let s := ((s.install FCH_TMAX2_TR (satur 8 p.tr) ch).install FCH_TMAX2_TSUS (satur 8 p.tsus) ch).install FCH_TMAX2_TNOSUS (satur 8 p.tnosus) ch
    let s := ((s.install FCH_TMAX3_TRSLC (satur 8 p.tr) ch).install FCH_TMAX3_TSOFT (satur 12 (4 * p.tr)) ch).install FCH_TMAX3_TPROGSLC (satur 12 p.tprog) ch
    let lim := match DieParam.ext p with | some e => 16 * e.susp - 16 | none => 0
    let s := s.install FCH_SUSPLIM_LIMIT (satur 12 lim) ch
    let s := s.install FCH_TRAIN_INTERVAL (match DieParam.ext p with | some e => e.interval | none => 0) ch
    let iface := s.fld FCH_CFG_IFACE ch
    let full := fullRate iface (s.fld FCH_CFG_RATE ch) (dies.map (·.2))
    let s := if iface = 2 && dies.any (fun d => (DieParam.ext d.2).isNone) then raise EV_LAY_RATE ch s else s
    let s := modChan s ch fun c => { c with
      full
      timing := dies.foldl (fun m d => match DieParam.ext d.2 with
        | some e => mput (0, 0, 0, 0) m (posDie d.1 / 4) (e.rdPre, e.wrPre, e.odt, e.flags)
        | none => m) [] }
    let ts := s.trainTargets ch
    let s := ts.foldl (fun s t => s.emit (.nand ch (4 * t) 262 (iface + 256 * full) 0)) s
    ts.foldl (trainBoth ch) (rateSettle ch s)

/-- The dies whose targets gave a valid parameter page, by position. -/
def State.foundDies (s : State) (found : List (Nat × DieParam)) : List (Nat × DieParam) :=
  (allPos.filter s.declared).filterMap fun pos => ((mfind found (16 * posCh pos + posDie pos / 4)).filter DieParam.valid).map fun p => (pos, p)

/-- The first die found that the sequencer supports: the one at the lowest position. -/
def firstDie (dies : List (Nat × DieParam)) : Option DieParam := (dies.find? fun d => dieFits d.2).map (·.2)

/-- LAY places the geometry-dependent parts of the device area (R452 step 6), stages each channel's tracker table and commits it. -/
def layTables (i : Img) (blkpp planes : Nat) (s : State) : State :=
  let (_, _, dev, _) := i.partBases
  let part (k : Nat) : Nat := dev + i.partOff blkpp planes k
  let size (k : Nat) : Nat := nth 0 (i.partSizes blkpp planes) (k - 1)
  let s := setRegion 1 (part 12) (size 12) (setBase SKM_BTBASE_LO_ADDR SKM_BTBASE_HI_ADDR (part 12) s)
  let s := setRegion 2 (part 13) (size 13) (setBase SKM_GTBASE_LO_ADDR SKM_GTBASE_HI_ADDR (part 13) s)
  let s := setRegion 3 (part 14) (size 14) (setBase STE_GMBASE_LO_ADDR STE_GMBASE_HI_ADDR (part 14) s)
  let s := setRegion 15 (part 16) (size 16) (setRegion 5 (part 15) (size 15) s)
  forAll 32 (fun s c =>
    let a := part 15 + c * (64 * blkpp * planes * 8)
    commitBlk (1 + c) ((s.setFld FCH_TRKBASE_LO_ADDR (a % 2 ^ 32) c).setFld FCH_TRKBASE_HI_ADDR (a / 2 ^ 32) c)) s

/-- CKP_AREA.LIMIT (R210): 1.25 times the checkpointed bytes in checkpoint groups, rounded up, and 4. -/
def ckpLimit (planes : Nat) (s : State) : Nat :=
  let bytes := (List.range 9).foldl (fun n r => n + s.fld CKP_REGION_LEN_PAGES r * 16384) 0
  let group := s.fld STE_GEOM_D * 4 * planes * 4096 * s.fld STE_GEOM_SPG
  ceilDiv (5 * bytes) (max 1 (4 * group)) + 4

/-- Where the slots' maximum sizes pass the usable capacity, which few dies may leave below 0 (check 0x0D). -/
def Img.usableBad (i : Img) (usable : Int) : Option Nat :=
  if i.slots.isEmpty then (if usable < 0 then some 0 else none) else
  (firstWith (fun b r => usable < ((r :: b).foldl (fun n q => n + i.nsMax q) 0 : Nat)) [] i.slots).map LayRec.off

/-- Usable capacity in bytes (R47), of dies of the given capacity in all. -/
def Img.usable (i : Img) (raw : Nat) : Int :=
  let d := i.get 2 0 1
  (raw * d * (1000 - i.get 0xD 1 1) / ((d + 2) * 1000) : Nat) - (4 * i.get 0xD 2 2 * 2 ^ 30 : Nat)

/-- Which dies enter service (R49, R86): those that fit and share the first one's geometry.  A die whose target gave no page stays absent (R92). -/
def diesSettle (dies : List (Nat × DieParam)) (s : State) : State :=
  let g := firstDie dies
  (allPos.filter s.declared).foldl (fun s pos =>
    match mfind dies pos with
    | some p => if g.any fun q => dieFits p && sameGeom p q then setDieState s pos 1 else raise EV_LAY_DIEMISS pos (setDieState s pos 6)
    | none => raise EV_LAY_DIEMISS pos s) s

/-- Step 6 of R48: what the declared targets answered, by 16 × channel + target.  With no die that fits, the tables have no geometry and take no room.
LAY_USABLE reads 0 for a capacity below 0 and stops at 2^24 − 1; retired dies do not count in it (DESIGN CHOICE, log 87). -/
def discover (found : List (Nat × DieParam)) (s : State) : State :=
  match readSlot false s with
  | (s, .good i _) =>
    let s := setDom dMEDIA true (forAll 4 (fun s q => setQuad q true s) s)
    let s := ((List.range 512).filter fun k => k % 16 < s.fld FCH_POP_TARGETS (k / 16)).foldl (probeTarget found) s
    let dies := s.foundDies found
    let g := firstDie dies
    let s := diesSettle dies s
    let live := dies.filter fun e => s.dieState e.1 = 1
    let s := forAll 32 (fun s c => chanLoad (live.filter fun e => posCh e.1 = c) c s) s
    let s := match g with | some q => s.setFld STE_GEOM_SPG (2 ^ (q.pageBits - 2)) | none => s
    let (blkpp, planes) := match g with | some q => (q.blkpp, q.planes) | none => (0, 0)
    let s := layTables i blkpp planes s
    if 4032 * 2 ^ 20 < i.partsEnd blkpp planes then layReject 0x0C (i.offOf 0xC) s else
    let usable := i.usable (live.foldl (fun n e => n + e.2.capacity) 0)
    let s := { s.setFld LAY_USABLE_GIB (min (usable.toNat / 2 ^ 30) (2 ^ 24 - 1)) with txe.usable := usable.toNat, skm.sp0 := i.get 0xD 1 1 * blkpp / 1000 }
    match i.usableBad usable with
    | some o => layReject 0x0D o s
    | none =>
      let s := holdupSettle (widthsSettle true (s.setFld CKP_AREA_LIMIT (ckpLimit planes s)))
      { s with bot.layStep := 2, ckp.t0 := s.mtime, pwr.spentDue := s.pwr.spentDue || g.isNone }
  | (s, _) => s

/-- DIE_DISCOVERY (R87): found gives, by 16 × channel + target, what each declared target that became ready answered with its parameter page. -/
def execDieDiscovery (found : List (Nat × DieParam)) (s : State) : Out :=
  .next (if s.layRuns && s.bot.layStep = 1 && !s.flag CKP_STAT_BOD then discover found s else s)

end Sys2Proof.Machine
end

