-- ==== Sys2Proof/Machine/Startup.lean ====
section
/-! DEFINITION. Family: brown-out (R200–R202) and CKP's start-up (R213–R218), which loads the last checkpoint, recovers the ledger (R190), replays and runs the closing checkpoint. -/

namespace Sys2Proof.Machine

/-! ### Brown-out -/

/-- What the device does at the assertion of the brown-out signal (R200, R201).  Reads and Retrieves in flight are dropped; the ports fetch
nothing while CKP_STAT.BOD is set. -/
def brownOut (s : State) : State :=
  if s.flag CKP_STAT_BOD then s else
  let s := raise EV_CKP_BOD 0 ({ s.setFld CKP_STAT_BOD 1 with pwr.brownOut := true, ckp.recs := [] })
  let s := occur 27 0 31 3 s
  let s := (List.range 32).foldl (fun s ch => seqBrownOut ch s) s
  let s := dropCmds (fun c => c.kv || c.port = 8192 || (c.sq != 0 && c.sqe % 256 = 2)) s
  ckpQuiesce (cflBrownOut s)

/-- BROWN_OUT_ASSERT (R200): src 0 PFAIL_N low, 1 VDD_CORE, which is masked from DORMANT's retention point until step 1 of the exit has ended (R436),
2 a NAND I/O rail, 3 the fault collector's reaction 3 (R394). -/
def execBrownOutAssert (src : Fin 4) (s : State) : Out :=
  .next (if src.val = 1 && s.pwr.retention || src.val = 3 && !s.flt.bodDrive then s else brownOut s)

/-- BROWN_OUT_SELF_RESET (R202): every channel quiesced and PFAIL_N high for 10 ms. -/
def execBrownOutSelfReset (s : State) : Out :=
  .next (if s.flag CKP_STAT_BOD && s.flag CKP_STAT_QUIESCED then enterBoot 3 s else s)

/-! ### The root log (R211, R213) -/

/-- The slots of both root logs: slot number and 64 bytes. -/
def State.rootSlots (s : State) : List (Nat × Nat) :=
  [0, 1].flatMap fun bank => (List.range 1024).map fun k => (k, s.rawNat (0x10000000 + bank * 0x800000 + 0x90000 + 64 * k) 64)

/-- The valid record with the highest record number. -/
def rootBest (l : List (Nat × Nat)) : Option (Nat × Nat) :=
  bestBy (fun a b => nbits b.2 32 32 < nbits a.2 32 32)
    (l.filter fun r => nbits r.2 0 32 = 0x31524B43 && (crc32c (leBytes 60 r.2)).toNat = nbits r.2 480 32)

/-! ### Loading (R214 steps 2 to 4) -/

/-- The trailer's MAGIC and CRC are right. -/
def trailerOk (t : Nat) : Bool :=
  let g := nbits t 288 16
  let k := nbits t 256 32
  nbits t 0 32 = 0x31544B43 && (crc32c (leBytes 60 t ++ leBytes (136 * g + 8 * k) (t / 2 ^ 512))).toNat = nbits t 480 32

/-- The ledger groups of a trailer: group and bitmap of appended stripes. -/
def trailerGroups (t : Nat) : List (Nat × Nat) :=
  (List.range (nbits t 288 16)).map fun i => (nbits t (512 + 8 * 136 * i) 24, nbits t (512 + 8 * 136 * i + 64) 1024)

/-- Directory page p's location in a trailer. -/
def trailerDir (t p : Nat) : Option Nat :=
  let e := nbits t (512 + 8 * 136 * nbits t 288 16 + 64 * p) 64
  if nbit e 37 then some (e % 2 ^ 37) else none

/-- Empty every region, with nothing dirty. -/
def regionsClear (s : State) : State :=
  let inside (a : Nat) : Bool := (List.range 16).any fun r => s.regionBase r ≤ a && a < s.regionBase r + 16384 * s.regionPages r
  { s with mem := s.mem.filter (fun c => !inside c.1), chk := s.chk.filter (fun c => !inside c.1), dirty.pages := [] }

/-- Load the directory and the pages; none where one is missing. -/
def pagesLoad (t : Nat) (f : CkpFound) (s : State) : Option State :=
  let s := regionsClear s
  let dirs := (List.range (nbits t 256 32)).filter fun p => (trailerDir t p).isSome
  if dirs.any fun p => (mfind f.dir p).isNone then none else
  let s := dirs.foldl (fun s p => ringWrite s 20 (s.regionBase 15 + 16384 * p) 16384 (mget 0 f.dir p)) s
  let want := (List.range 9).flatMap fun r => ((List.range (s.regionPages r)).filter fun p => (s.dirEntry r p).isSome).map fun p => (r, p)
  let page (rp : Nat × Nat) : Option Nat := (f.pages.find? fun x => x.1 = rp.1 && x.2.1 = rp.2).map fun x => x.2.2
  if want.any fun rp => (page rp).isNone then none else
  let s := want.foldl (fun s rp => ringWrite s 20 (s.regionBase rp.1 + 16384 * rp.2) 16384 ((page rp).getD 0)) s
  some { s with dirty.pages := [], ckp.dirLoc := dirs.filterMap fun p => (trailerDir t p).map fun c => (p, c) }

/-- A field of the device record in DRAM: n bytes at offset ofs. -/
def State.recField (s : State) (ofs n : Nat) : Nat := s.rawNat (s.regionBase 6 + ofs) n

/-- The namespaces of the device record in DRAM: slot, IU code, NSZE in LBAs, LBA size code, BIRTHSEQ. -/
def State.recSlots (s : State) : List (Nat × Nat × Nat × Nat × Nat) :=
  ((List.range 128).filter fun k => nbit (s.recField (32 * k) 1) 0).map fun k =>
    (k, s.recField (32 * k + 1) 1, s.recField (32 * k + 8) 8, nbits (s.recField (32 * k) 1) 1 1, s.recField (32 * k + 16) 8)

/-- A namespace of the device record. -/
def recSlot (s : State) (x : Nat × Nat × Nat × Nat × Nat) : State :=
  let (slot, _, nsze, lbas, birth) := x
  let s := ((s.setFld TXE_NSCFG_EXISTS 1 slot).setFld TXE_NSCFG_LBAS lbas slot).setPair TXE_NSBIRTH_LO_BIRTHSEQ TXE_NSBIRTH_HI_BIRTHSEQ birth slot
  let s := s.setPair TXE_NSUNITS_LO_UNITS TXE_NSUNITS_HI_UNITS (s.unitsFor slot nsze lbas) slot
  { s with txe.nsze := mput 0 s.txe.nsze slot nsze }

/-- Restore what the device record in DRAM holds (region 6 of R203), and the count of lost stripes. -/
def recLoad (s : State) : State :=
  let s := s.recSlots.foldl recSlot s
  let s := recCounts.zipIdx.foldl (fun s r => s.setReg r.1 (BitVec.ofNat 32 (s.recField (8196 + 4 * r.2) 4))) s
  let s := s.setFld STE_LOST_COUNT ((List.range 8192).filter s.lsUsed).length
  { s with skm.spare := allPos.foldl (fun m p => mput 0 m p (s.recField (4100 + 2 * p) 2)) [], skm.sp0 := s.recField 4096 4
           skm.byCause := (List.range 8).foldl (fun m c => mput 0 m c (s.recField (8252 + 4 * c) 4)) []
           skm.fgCount := s.recField 8284 4, ste.lostOvf := s.recField 8288 4 }

/-! ### The ledger (R190) -/

/-- A ledger entry as a group (R188). -/
def entryGroup (e : Nat) : Nat × Group :=
  let w0 := nbits e 32 8
  let ck := nbits e 64 32
  (nbits e 0 24,
   { stream := nbits e 24 3, cream := nbit e 27, w0, mem := (List.range w0).map fun i =>
       let m := nbits e (8 * (32 + 6 * i)) 48
       (m % 2048, nbits m 11 16, nbits m 27 11)
     closeckp := if ck = 0xFFFFFFFF then none else some ck, endS := nbits e 96 11, durable := true })

/-- A ledger page's MAGIC and CRC are right. -/
def ledgerOk (p : Nat) : Bool :=
  let n := nbits p 48 16
  nbits p 0 32 = 0x3147444C && n ≤ 64 && (crc32c (leBytes 60 p ++ leBytes (224 * n) (p / 2 ^ 512))).toNat = nbits p 480 32

/-- The entries of a ledger page. -/
def ledgerEntries (p : Nat) : List (Nat × Group) :=
  (List.range (nbits p 48 16)).map fun i => entryGroup (nbits p (512 + 8 * 224 * i) (8 * 224))

/-- The group indices that the loaded group table holds in a state other than unused. -/
def State.tableGroups (s : State) : List Nat :=
  let base := s.gtAddr 0
  let n := 16384 * s.regionPages 2
  ((s.mem.filter fun c => base ≤ c.1 && c.1 < base + n).map fun c => (c.1 - base) / 16).eraseDups.filter fun g => s.gtState g != 0

/-- The groups that the loaded tables hold, with the geometry of the group map. -/
def tableLoad (s : State) : State :=
  { s with ste.groups := s.tableGroups.foldl (fun m g => mins m g { (entryGroup (s.rawNat (s.gmAddr g) 224)).2 with led := false }) [] }

/-- Set the STATE of every die block of a group to 1 (R216). -/
def groupBlocks (gi : Nat) (g : Group) (s : State) : State :=
  g.mem.foldl (fun s m => setBt s m.1 m.2.1 { s.bt m.1 m.2.1 with state := 1, group := gi }) s

/-- A ledger group takes its place in the tables; an open one is closed, to leave the ledger once the closing checkpoint is complete. -/
def ledgerGroup (s : State) (x : Nat × Group) : State :=
  let (gi, g) := x
  let s := if s.gtState gi = 0 then ringWrite s 19 (s.gtAddr gi) 16 ((2 + b2n g.cream * 8 + b2n (g.stream = 4) * 16) * 2 ^ 32 + s.fld TCK_COUNT_LO_COUNT * 2 ^ 96)
           else if s.gtState gi = 1 then setGtState s gi 2 else s
  let s := groupBlocks gi g s
  setGroup s gi { g with led := true, durable := true, closeckp := some (g.closeckp.getD (s.fld CKP_CUR_NUM)), next := s.stripesOf g }

/-- The best of the ledger pages read, by ledger sequence number. -/
def ledgerBest (l : List Nat) : Option Nat := bestBy (fun a b => nbits b 64 64 < nbits a 64 64) (l.filter ledgerOk)

/-- Where a ledger copy lies: its die and block, with the next page to write; with no page known, the block counts as full. -/
def ledgerAt (no pos b page : Nat) (s : State) : State :=
  let s := if no = 0 then s.setFld STE_LEDGER_DIE0 pos else s.setFld STE_LEDGER_DIE1 pos
  { s with ste.ledBlock := mins s.ste.ledBlock no b, ste.ledPage := mput 0 s.ste.ledPage no page }

/-- Ledger dies and blocks from the trailer, and from the copies that were read (R189). -/
def ledgerPlaces (t : Nat) (f : CkpFound) (s : State) : State :=
  [0, 1].foldl (fun s no =>
    match f.led.find? fun x => x.1 = no with
    | some (_, pos, b, next, _) => ledgerAt no pos b next s
    | none =>
      let pos := nbits t (304 + 32 * no) 16
      ledgerAt no pos (nbits t (304 + 32 * no + 16) 16) (s.slcLast pos) s) s

/-! ### Replay (R214 step 8, R215) -/

/-- The ledger group and stripe of a CWA. -/
def State.ledgerSpot (s : State) (cwa : Nat) : Option (Nat × Nat × Group) :=
  (s.ste.groups.find? fun e => e.2.led && e.2.mem.any fun m => m.1 = cwaPos cwa && m.2.1 = s.cwaBlk cwa).map
    fun e => (e.1, stripeOfPage e.2.cream (s.cwaPage cwa), e.2)

/-- A unit that the scan finds in stripes complete on the medium (R214 step 7): its tag, the CWA of its first codeword, and the ranges of a trim unit. -/
structure CkpCand where
  type  : Nat
  slot  : Nat
  lu    : Nat
  seq   : Nat
  moves : Nat
  cwa   : Nat
  ranges : List (Nat × Nat × Nat)
  deriving DecidableEq, Repr

/-- What the scan read at a CWA: nothing that decodes, an erased codeword, or information bits. -/
def foundAt (f : CkpFound) (cwa : Nat) : Option (Option Nat) := (f.scan.find? fun x => x.1 = cwa).map Prod.snd

/-- The CWAs of member j of a stripe. -/
def State.memberCwas (s : State) (g : Group) (i j : Nat) : List Nat := (s.slotList g).map (s.slotCwa g i j)

/-- Every codeword of a stripe meets a condition. -/
def State.stripeAll (s : State) (g : Group) (i : Nat) (p : Nat → Bool) : Bool := (List.range (g.width i)).all fun j => (s.memberCwas g i j).all p

/-- A stripe is complete on the medium (R187): the codewords of every member not dropped before it decode and are not erased. -/
def State.onMedium (s : State) (f : CkpFound) (g : Group) (i : Nat) : Bool :=
  s.stripeAll g i fun c => match foundAt f c with | some (some _) => true | _ => false

/-- The members of a stripe are all erased. -/
def State.allErased (s : State) (f : CkpFound) (g : Group) (i : Nat) : Bool := s.stripeAll g i fun c => foundAt f c == some none

/-- The scan of a group's stripes in order, which stops after 16 erased ones in a row (R214 step 7); n have been erased just before. -/
def scanGo (erased : Nat → Bool) : Nat → List Nat → List Nat
  | _, [] => []
  | n, i :: r => if 16 ≤ n then [] else i :: scanGo erased (if erased i then n + 1 else 0) r

/-- The stripes that are scanned and complete on the medium: of a group in the trailer those not marked appended, of another every one. -/
def State.scanned (s : State) (known : List (Nat × Nat)) (f : CkpFound) : List (Nat × Group × Nat) :=
  (s.ste.groups.filter fun e => e.2.led && e.2.stream != 6).flatMap fun e =>
    let l := (List.range (s.stripesIn e.2)).filter fun i => !nbit (mget 0 known e.1) i
    ((scanGo (s.allErased f e.2) 0 l).filter (s.onMedium f e.2)).map fun i => (e.1, e.2, i)

/-- A stripe agrees with its P and Q (R190 case 3, R180). -/
def State.parityOk (s : State) (f : CkpFound) (x : Nat × Group × Nat) : Bool :=
  let (_, g, i) := x
  let w := g.width i
  (s.slotList g).all fun o =>
    let cw (k : Nat) : InfoBits := BitVec.ofNat 32896 (((foundAt f (s.slotCwa g i (dataMember w i k) o)).getD none).getD 0)
    let d := (List.range (w - 2)).map cw
    cw (w - 2) = synP d && cw (w - 1) = synQ d

/-- The unit that begins at a data codeword of a scanned stripe. -/
def candAt (cwa v : Nat) : Option CkpCand :=
  let tag := v >>> 32768
  let c : CkpCand := { type := nbits tag 0 4, slot := nbits tag 8 8, lu := nbits tag 16 40, seq := nbits tag 64 56, moves := nbits tag 120 8, cwa, ranges := [] }
  if c.type = 1 && nbits tag 56 6 = 0 then some c
  else if c.type = 3 then some { c with ranges := trimRead v }
  else none

/-- The units that begin in a scanned stripe. -/
def State.candsOf (s : State) (f : CkpFound) (x : Nat × Group × Nat) : List CkpCand :=
  let (_, g, i) := x
  let w := g.width i
  (List.range (w - 2)).flatMap fun k => (s.memberCwas g i (dataMember w i k)).filterMap fun c => candAt c (((foundAt f c).getD none).getD 0)

/-- A candidate counts: R139 does not exclude its tag, and every stripe that it runs through is complete on the medium. -/
def State.candOk (s : State) (known : List (Nat × Nat)) (good : List (Nat × Group × Nat)) (c : CkpCand) : Bool :=
  c.type = 3 || (c.type = 1 && s.nsExists c.slot && c.lu < s.nsUnits c.slot && s.pair TXE_NSBIRTH_LO_BIRTHSEQ TXE_NSBIRTH_HI_BIRTHSEQ c.slot ≤ c.seq &&
    (List.range (s.slotCw c.slot)).all fun k => match s.ledgerSpot (c.cwa + k) with
      | some (gi, i, _) => nbit (mget 0 known gi) i || good.any fun x => x.1 = gi && x.2.2 = i
      | none => false)

/-- Key (SEQ, MOVES) a is higher than key b (R139). -/
def keyAbove (a b : Nat × Nat) : Bool := b.1 < a.1 || b.1 = a.1 && b.2 < a.2

/-- The key of a current entry in STATE 1 or 2: from the scan, or from the tag that CKP reads at its CWA. -/
def curKey (cands : List CkpCand) (tags : List (Nat × Nat × Nat)) (slot lu cwa : Nat) (s : State) : State × (Nat × Nat) :=
  match cands.find? fun c => c.type = 1 && c.slot = slot && c.lu = lu && c.cwa = cwa with
  | some c => (s, (c.seq, c.moves))
  | none =>
    match tags.find? fun x => x.1 = cwa with
    | some x => (s, x.2)
    | none => let (a, s) := s.fresh; let (b, s) := s.fresh; (s, (a, b))

/-- Write a map entry during replay. -/
def replayPut (slot lu e : Nat) (s : State) : State := mapDirty (s.poke (s.mapAddr slot lu) 5 e) slot lu

/-- A data candidate that is the highest of its unit, against the current entry (R215).  The spec gives no rule for an entry in a reserved STATE,
which stays. -/
def replayData (tseq : Nat) (cands : List CkpCand) (tags : List (Nat × Nat × Nat)) (s : State) (c : CkpCand) : State :=
  let e := s.mapEntry c.slot c.lu
  let put (s : State) : State :=
    match s.ledgerSpot c.cwa with
    | some (_, _, g) => replayPut c.slot c.lu (entOf c.cwa (if g.cream then 2 else 1)) s
    | none => s
  if entSt e = 0 then put s
  else if mapped e then
    let (s, k) := curKey cands tags c.slot c.lu (entCwa e) s
    if keyAbove (c.seq, c.moves) k then put s else s
  else if (entSt e = 4 || entSt e = 5) && tseq ≤ c.seq then put s
  else s

/-- The LUs of a slot whose entry is not 0. -/
def State.listed (s : State) (slot : Nat) : List Nat :=
  let base := s.mapAddr slot 0
  ((s.mem.filter fun c => base ≤ c.1 && c.1 < base + 5 * s.nsUnits slot).map fun c => (c.1 - base) / 5).eraseDups

/-- A trim candidate (R215): entries in its ranges whose SEQ is below its own become 0; an entry outside the scanned stripes counts as below. -/
def replayTrim (cands : List CkpCand) (s : State) (t : CkpCand) : State :=
  t.ranges.foldl (fun s r =>
    if !s.nsExists r.1 || t.seq < s.pair TXE_NSBIRTH_LO_BIRTHSEQ TXE_NSBIRTH_HI_BIRTHSEQ r.1 then s else
    ((s.listed r.1).filter fun lu => r.2.1 ≤ lu && lu < r.2.1 + r.2.2).foldl (fun s lu =>
      let e := s.mapEntry r.1 lu
      match cands.find? fun c => c.type = 1 && c.slot = r.1 && c.lu = lu && c.cwa = entCwa e && mapped e with
      | some c => if c.seq < t.seq then replayPut r.1 lu 0 s else s
      | none => replayPut r.1 lu 0 s) s) s

/-- Insert into a list kept in an order. -/
def insertIn {α : Type} (before : α → α → Bool) (x : α) : List α → List α
  | [] => [x]
  | y :: r => if before x y then x :: y :: r else y :: insertIn before x r

/-- Apply the candidates of the stripes that are good (R215), which are then appended. -/
def replay (tseq : Nat) (known : List (Nat × Nat)) (good : List (Nat × Group × Nat)) (f : CkpFound) (s : State) : State :=
  let cs := (good.flatMap (s.candsOf f)).filter (s.candOk known good)
  let data := cs.filter fun c => c.type = 1
  let top := data.filter fun c => !(data.any fun d => d.slot = c.slot && d.lu = c.lu && keyAbove (d.seq, d.moves) (c.seq, c.moves))
  let s := top.foldl (replayData tseq cs f.tags) s
  let trims := (cs.filter fun c => c.type = 3).foldl (fun l t => insertIn (fun a b : CkpCand => a.seq < b.seq) t l) []
  let s := trims.foldl (replayTrim cs) s
  good.foldl (fun s x => { s with ckp.appended := mput 0 s.ckp.appended x.1 (mget 0 s.ckp.appended x.1 ||| 2 ^ x.2.2) }) s

/-! ### Fixing the tables (R216) -/

/-- Recount VALID of every group and of every slot from the map; the reverse map follows. -/
def recount (s : State) : State :=
  let s := { s.groupIdx.foldl (fun s g => setGtValid s g 0) s with txe.rev := [] }
  (List.range 128).foldl (fun s slot =>
    if !s.nsExists slot then s else
    let us := (s.listed slot).filter fun lu => mapped (s.mapEntry slot lu)
    let s := us.foldl (fun s lu => validate (entCwa (s.mapEntry slot lu)) (s.slotCw slot) slot lu s) s
    s.setPair TXE_NSVALID_LO_VALID TXE_NSVALID_HI_VALID us.length slot) s

/-- The cream stripes that hold units, in the order in which folding takes them (R152): by the group that closed first, then in stripe order, since the tables
hold no more (DEDUCED, log 91). -/
def creamOrder (s : State) : State :=
  let xs := (s.txe.rev.filterMap fun e => let g := s.groupOfCwa e.1; if s.gtCream g then some (g, s.stripeOfCwa e.1) else none).eraseDups
  let before (a b : Nat × Nat) : Bool :=
    s.groupOld b.1 < s.groupOld a.1 || (s.groupOld a.1 = s.groupOld b.1 && (a.1 < b.1 || (a.1 = b.1 && a.2 < b.2)))
  { s with ste.cream := xs.foldl (fun l x => insertIn before x l) [] }

/-- Groups that were fenced or erasing, and victims without valid codewords, are fenced with the closing checkpoint's number; other victims are
taken up again, and a closed group whose VALID has come to 0 is fenced (R160, R216). -/
def refence (s : State) : State :=
  s.groupIdx.foldl (fun s g =>
    let st := s.gtState g
    if 4 ≤ st then enterFenced g s
    else if st = 3 then (if s.gtValid g = 0 then enterFenced g s else takeVictim g false false s)
    else if st = 2 && s.gtValid g = 0 && (s.grp g).any (fun x => x.stream != 6) then enterFenced g s
    else s) s

/-- Dies that the loaded tables show retired stay out of service (R171); the dies that are declared but not in service, and those that hold data and
are no longer declared, are retired (R49). -/
def dieFix (s : State) : State :=
  let blocks := List.range s.blkpp
  let gone := if blocks.isEmpty then [] else allPos.filter fun p => blocks.all fun b => 2 ≤ (s.bt p b).state
  let s := { s with skm.out := gone.foldl (fun m p => mins m p true) s.skm.out }
  let s := gone.foldl (fun s p => if s.declared p && s.populated p then setDieState s p 6 else s) s
  let holds (p : Nat) : Bool := blocks.any fun b => (s.bt p b).state = 1
  let s := (allPos.filter fun p => !s.inService p && (s.declared p || holds p)).foldl (fun s p => retireDieSkm p s) s
  let late := gone.filter fun p => !s.ste.rebPend.contains p && s.txe.rev.any fun e => cwaPos e.1 = p
  { s with ste.rebPend := s.ste.rebPend ++ late }

/-! ### The closing checkpoint (R214 step 10) -/

/-- Begin the closing checkpoint; where no group can be formed, as with no die in service, start-up ends without one and the device goes on to
SPENT. -/
def closingBegin (kind : Nat) (s : State) : State :=
  let s := ledEntries (widthsSettle false (wearSettle (spareSettle s)))
  if s.pickRow.isNone then { s.setFld CKP_START_KIND kind with bot.layStep := 3, pwr.spentDue := true }
  else ckpBegin { s with ckp.closing := some kind, ste.ledDirty := true }

/-- Start-up fails (R218). -/
def startFails (cause : Nat) (s : State) : State := enterRecovery 5 (raise EV_CKP_FAIL cause (s.setFld CKP_RSTAT_CAUSE cause))

/-- A blank medium (R213, R169): empty tables, spare counts, factory marks, dies with more marks than SP0 or missing retired, ledger dies chosen. -/
def startBlank (f : CkpFound) (s : State) : State :=
  let s := regionsClear s
  let s := { s with skm.spare := (allPos.filter s.inService).foldl (fun m p => mput 0 m p s.skm.sp0) [], ste.groups := [] }
  let marks := f.marks.eraseDups.filter fun m => s.inService m.1 && m.2 < s.blkpp
  let s := marks.foldl (fun s m =>
    let s := setBt s m.1 m.2 { s.bt m.1 m.2 with state := 3, cause := 6 }
    { s with skm.spare := mmod 0 s.skm.spare m.1 (· - 1), skm.byCause := mmod 0 s.skm.byCause 6 (· + 1) }) s
  let tooMany := (allPos.filter s.inService).filter fun p => s.skm.sp0 < (marks.filter fun m => m.1 = p).length
  let s := tooMany.foldl (fun s p => retireDieSkm p (setDieState s p 6)) s
  let s := dieFix s
  let s := match allPos.filter s.inService with
    | [] => s
    | p :: r =>
      let q := (r.find? fun q => posCh q != posCh p).getD p
      (s.setFld STE_LEDGER_DIE0 p).setFld STE_LEDGER_DIE1 q
  closingBegin 0 (s.setFld CKP_CUR_NUM 1)

/-- The group marker that a codeword holds (R190): a tag of TYPE 4, and an entry with its CRC. -/
def markerOf (v : Nat) : Option (Nat × Group) :=
  if nbits (v >>> 32768) 0 4 = 4 && (crc32c (leBytes 224 v)).toNat = nbits v 1792 32 then some (entryGroup (nbits v 0 1792)) else none

/-- The groups open at the checkpoint, and those whose marker lies in a die block that was STATE 0 at the checkpoint (R190 case 3). -/
def State.case3 (s : State) (known : List (Nat × Nat)) (f : CkpFound) : List (Nat × Group) :=
  (known.filterMap fun k => (s.grp k.1).map fun g => (k.1, g)) ++
  ((f.markers.filter fun m => (s.bt (cwaPos m.1) (s.cwaBlk m.1)).state = 0).filterMap fun m => markerOf m.2)

/-- The highest SEQ of a unit in the stripes scanned, and one. -/
def State.seqTop (s : State) (f : CkpFound) (l : List (Nat × Group × Nat)) : Nat := (l.flatMap (s.candsOf f)).foldl (fun n c => max n (c.seq + 1)) 0

/-- Steps 6 to 10 of R214, with the ledger's entries found.  After a clean shutdown (kind 1) nothing is scanned. -/
def startReplay (kind t : Nat) (led : List (Nat × Group)) (ledSeq : Nat) (f : CkpFound) (s : State) : State :=
  let known := if kind = 3 then [] else trailerGroups t
  let s := ledgerPlaces t f (led.foldl ledgerGroup s)
  let s := { s with ckp.appended := (trailerGroups t).foldl (fun m x => mput 0 m x.1 x.2) [] }
  let l := if kind = 1 then [] else s.scanned known f
  let (good, broken) := if kind = 3 then l.partition (s.parityOk f) else (l, [])
  let top := s.seqTop f l
  let s := replay (nbits t 64 64) known good f s
  let s := broken.foldl (fun s x => lostFound x.1 x.2.2 0 0 3 s) s
  let s := s.setPair TXE_SEQ_LO_SEQ TXE_SEQ_HI_SEQ (max (nbits t 64 64) top)
  let s := s.setPair STE_LEDSEQ_LO_SEQ STE_LEDSEQ_HI_SEQ ledSeq
  let s := dieFix (refence (creamOrder (recount s)))
  let s := if kind = 1 then s else
    [0, 1].foldl (fun s no => if f.led.any fun x => x.1 = no && ledgerOk x.2.2.2.2 then s else ledgerMove no s) s
  closingBegin kind s

/-- The highest checkpoint number that was found (R214 step 2), from the trailer's on. -/
def foundNmax (f : CkpFound) (t : Nat) : Nat := f.nums.foldl (fun a b => if ckAtLeast b a then b else a) (nbits t 32 32)

/-- The trailer with the highest checkpoint number among those with a valid CRC (R214 step 2). -/
def foundTrailer (f : CkpFound) : Option Nat :=
  bestBy (fun a b => !ckAtLeast (nbits b 32 32) (nbits a 32 32)) (f.trailers.filter trailerOk)

/-- Step 4 of R214 is over, and check 0x10 passed: the ledger by R190: local copies, the partner's, or case 3. -/
def startLoaded (clean : Bool) (t : Nat) (f : CkpFound) (s : State) : State :=
  let s := tableLoad (recLoad s)
  let s := (s.setFld CKP_LAST_NUM (nbits t 32 32)).setFld CKP_CUR_NUM ((foundNmax f t + 1) % 2 ^ 32)
  let s := { s with ckp.live := f.live }.setFld CKP_AREA_LIVE f.live.length
  let groups := (trailerGroups t).filterMap fun k => (s.grp k.1).map fun g => (k.1, g)
  if clean then startReplay 1 t groups (nbits t 128 64) f s else
  match ledgerBest (f.led.map fun x => x.2.2.2.2) with
  | some p => startReplay 2 t (ledgerEntries p) (nbits p 64 64) f s
  | none =>
    match s.plk.lrsp.filter ledgerOk with
    | some p => startReplay 2 t (ledgerEntries p) (nbits p 64 64) f s
    | none => startReplay 3 t (s.case3 (trailerGroups t) f) (nbits t 128 64) f s

/-- CKP's start-up (R213, R214).  Where both local ledger copies are unreadable and the partner is reachable, the first invocation asks for its copy
(R190 case 2), and a later one goes on once LRSP or LREQ_TIMEOUT has come. -/
def ckpStartup (f : CkpFound) (s : State) : State :=
  let slots := s.rootSlots
  if slots.all fun r => r.2 = 2 ^ 512 - 1 then startBlank f s else
  match rootBest slots with
  | none => startFails 1 s
  | some (k, r) =>
    match foundTrailer f with
    | none => startFails 2 s
    | some t =>
      if s.layDigest.toNat != nbits t 224 32 then startFails 4 s else
      let clean := nbit r 96 && nbit t 368
      let askable : Bool := !clean && (ledgerBest (f.led.map fun x => x.2.2.2.2)).isNone && s.flag PLK_ROLE_IMAGE && s.pairUp
      if askable && !s.ckp.asked then pairSend 9 0 0 0 0 0 { s with plk.lreq := true, plk.lrsp := none, ckp.asked := true }
      else if s.ckp.asked && s.plk.lreq then s else
      match pagesLoad t f s with
      | none => startFails 3 s
      | some s =>
        let s := { s.setFld CKP_ROOTNO_NUM (nbits r 32 32) with ckp.rootSlot := (k + 1) % 1024 }
        match readSlot false s with
        | (s, .good i _) =>
          match i.slots.find? fun x => s.recSlots.any fun d => d.1 = x.inst && d.2.1 != i.nsIu x with
          | some x => layReject 0x10 x.off s
          | none => startLoaded clean t f s
        | (s, _) => s

/-- CKP_STARTUP (R214): step 7 of R48. -/
def execCkpStartup (f : CkpFound) (s : State) : Out :=
  .next (if s.layRuns && s.bot.layStep = 2 && s.ckp.closing.isNone && !s.flag CKP_STAT_BOD then ckpStartup f s else s)

/-! ### The end of CONFIG (R27, R29, R369) -/

/-- The boot ROM, running on core n, jumps to an address with a0 and a1: what its code has left in the other general registers the spec does not
say. -/
def jumpCore (n pc : Nat) (a0 a1 : Option Nat) (s : State) : State :=
  let draw (sx : State × SMap DWord) (i : Nat) : State × SMap DWord :=
    let (v, s) := sx.1.freshBits 64
    (s, mput 0 sx.2 i v)
  let (s, x) := (rangeFrom 1 31).foldl draw (s, [])
  let give (i : Nat) (a : Option Nat) (x : SMap DWord) : SMap DWord := match a with | some v => mput 0 x i (BitVec.ofNat 64 v) | none => x
  modCore n (fun c => { c with pc := BitVec.ofNat 64 pc, x := give 10 a0 (give 11 a1 x) }) s

/-- The mode in which CONFIG ends (R27, in the order of R29; R28). -/
def State.configEnds (s : State) : Nat :=
  if s.pwr.spentDue || s.flag SKM_STAT_SPENT || s.spareEmpty then mSPENT
  else if s.flag PLK_ROLE_IMAGE && (s.plk.lost || s.fld PLK_STAT_STATE = 8) then mSOLO
  else mSERVICE

/-- Step 8 of R48, and what follows it (R27, R369): the votes of hardware owners, the pinned keys, the cores. -/
def imageApplied (s : State) : State :=
  let s := raise EV_LAY_APPLIED 0 (s.setFld LAY_STAT_STATE 2)
  let s := (List.range 8).foldl (fun s d => (List.range 32).foldl (fun s k =>
    if nbits (s.fld PWR_OWNER_OWNER d (k / 8)) (4 * (k % 8)) 4 = 15 then s.setFld PWR_VSET_VOTE (s.fld PWR_VSET_VOTE d ||| 2 ^ k) d else s) s) s
  let s := loadPinned s
  let m := s.configEnds
  let s := { s with pwr.spentDue := false, pwr.soloDue := false, pwr.serviceDue := false }
  let s := setMode m s
  let s := jumpCore 0 (s.pair BOT_RESUME_LO_ADDR BOT_RESUME_HI_ADDR) none none s
  (rangeFrom 1 7).foldl (fun s n =>
    if nbit (s.fld BOT_CORERUN_RUN) (n - 1) && s.flag EVR_CORE_ROLE n then startCore n (s.pair BOT_ENTRY_LO_ADDR BOT_ENTRY_HI_ADDR n) 0 0 s else s) s

/-- IMAGE_APPLIED (R48 step 8): CKP has started up; a paired device has reached its partner or declared the link lost (R27). -/
def execImageApplied (s : State) : Out :=
  let paired := s.flag PLK_ROLE_IMAGE
  .next (if s.layRuns && s.bot.layStep = 3 && (!paired || s.flag PLK_STAT_REACH || s.plk.lost) then imageApplied s else s)

end Sys2Proof.Machine
end

