-- ==== Sys2Proof/Machine/Power.lean ====
section
/-! DEFINITION. Family: power manager PWR (spec/20_power.md), the reference clock, the temperature sensor (spec/22_package_electrical.md) and the SMBus status that hardware builds from always-on state (R244). -/

namespace Sys2Proof.Machine

/-! ### Votes (R399) -/

/-- The owner of client i of domain d: 0 to 7 a core, 15 hardware (R44). -/
def State.clientOwner (s : State) (d i : Nat) : Nat := nbits (s.fld PWR_OWNER_OWNER d (i / 8)) (4 * (i % 8)) 4

/-- The clients of domain d, among those that mask names, that master m may change. -/
def State.ownClients (s : State) (m d mask : Nat) : Nat :=
  (List.range 32).foldl (fun n i =>
    let o := s.clientOwner d i
    if nbit mask i && (o = m && m < 8 || m = 8 && o < 8) then n + 2 ^ i else n) 0

/-- A vote write (R399): the writer's own clients change; a bit that names another's sets VOTEREF. -/
def voteWrite (on : Bool) (m d mask : Nat) (s : State) : State :=
  let mine := s.ownClients m d mask
  let v := s.fld PWR_VSET_VOTE d
  let s := s.setFld PWR_VSET_VOTE (if on then v ||| mine else v - (v &&& mine)) d
  if mine = mask then s else s.setFld PWR_STAT_VOTEREF 1

/-- VOTE_SET (R399). -/
def execVoteSet (m : MasterId) (d : Fin 8) (mask : Word) (s : State) : Out := .next (regCmd m PWR_VSET d (voteWrite true m d mask.toNat) s)

/-- VOTE_CLEAR (R399). -/
def execVoteClear (m : MasterId) (d : Fin 8) (mask : Word) (s : State) : Out := .next (regCmd m PWR_VCLR d (voteWrite false m d mask.toNat) s)

/-! ### What a domain holds -/

/-- Block b belongs to domain d; of MEDIA, to quad q, and ECC to the quad that comes up first or drops last. -/
def State.inDomain (s : State) (d q b : Nat) : Bool :=
  let w := blk b
  w.dom = d && (match w.ch with | some c => c / 8 = q | none => d != dMEDIA || s.fld PWR_DOMSTAT_QUAD % 2 ^ q + s.fld PWR_DOMSTAT_QUAD / 2 ^ (q + 1) = 0)

/-- The blocks of a domain, or of a quad. -/
def State.domBlks (s : State) (d q : Nat) : List Nat := allBlks.filter (s.inDomain d q)

/-- The RO fields of a block hold what hardware has found or counted: they go back to their reset value with the block's other registers only in the
blocks whose state the domain drop ends; the map, the stripes, the dies and the pair keep theirs, and so do LEX_COUNT and LEX_HEAP, which describe DRAM. -/
def roKept (b : Nat) : Bool := b ≤ 37 || b = 42 || b = 45 || b = 48 || b = 49 || b = 50 || b = 51

/-- Steps 1 and 3 of R404 for a block: reset values but for RWB fields (R405), and the in-force values of the commit store (R77). -/
def blockReload (b : Nat) (s : State) : State :=
  let w := blk b
  let offs := ((mkeys s.regs ++ mkeys s.force).filter w.holds).eraseDups
  { s with regs := offs.foldl (fun m off =>
      match regAt off with
      | none => mdel m off
      | some (r, _) =>
        let keep := r.rwb ||| (if roKept b || off = LEX_COUNT.at 0 0 0 || off = LEX_HEAP.at 0 0 0 then r.ro &&& ~~~r.rwb else 0)
        let v := (r.reset &&& ~~~(keep ||| r.rws)) ||| (mget r.reset s.regs off &&& keep) ||| (mget r.reset s.force off &&& r.rws)
        mput r.reset m off v) s.regs }

/-! ### Save engine (R406) -/

/-- The save engine is active. -/
def State.saveOn (s : State) : Bool := s.mode = mBOOT || s.mode = mCONFIG || s.mode = mRECOVERY || s.flag PWR_CTL_TEST

/-- Address of a save-list entry. -/
def saveAddr (i : Nat) : Nat := 0x8000C000 + 8 * i

/-- The valid entries whose register lies in a domain: index and register offset. -/
def State.saveList (s : State) (d q : Nat) : List (Nat × Nat) :=
  (List.range (min 512 (s.fld PWR_SAVE_COUNT))).filterMap fun i =>
    let w := s.rawNat (saveAddr i) 4
    let off := w % 2 ^ 26
    if nbit w 31 && (match blkOf off with | some b => s.inDomain d q b | none => false) then some (i, off) else none

/-- An entry names a register with WO, W1C or W1S fields (an undefined case of spec/20_power.md). -/
def State.saveBad (s : State) (d q : Nat) : Bool :=
  s.saveOn && (s.saveList d q).any fun e => match regAt e.2 with | some (r, _) => r.w1c != 0 || r.w1s != 0 || r.wo != 0 | none => false

/-- The record of a PWR event: the domain, and the quad. -/
def domPayload (d q : Nat) : Nat := d + (if d = dMEDIA then q else 0) * 8

/-- Save the listed registers of a domain that begins to drop; an unassigned offset of a window reads 0 (R11). -/
def saveDomain (d q : Nat) (s : State) : State :=
  if !s.saveOn then s else
  let l := s.saveList d q
  let s := l.foldl (fun s e =>
    match regAt e.2 with
    | some (r, i, j, k) => (memWrite s 25 .write (saveAddr e.1 + 4) 4 (s.reg r i j k).toNat).1
    | none => (memWrite s 25 .write (saveAddr e.1 + 4) 4 0).1) s
  if l.isEmpty then s else raise EV_PWR_SAVED (domPayload d q) s

/-- A restore write that ends with an error response counts in PWR_SAVE.ERR. -/
def saveErr (s : State) : State := s.setFld PWR_SAVE_ERR (min 255 (s.fld PWR_SAVE_ERR + 1))

/-- Write one saved value back: RW fields and staged copies; to an RWB field only before the seal (R12); an unassigned offset ignores it (R11). -/
def restoreReg (off v : Nat) (s : State) : State :=
  let a := 0x40000000 + off
  if !s.mapAllows 25 .write a then saveErr (accessDenied 25 .write a s) else
  match regAt off with
  | none => s
  | some (r, i, j, k) =>
    let w := clampSize r (BitVec.ofNat 32 v)
    let old := s.reg r i j k
    let lock := s.flag BOT_STAT_SEALED
    let m := r.rw ||| r.rws ||| (if lock then 0 else r.rwb)
    let s := s.setReg r ((old &&& ~~~m) ||| (w &&& m)) i j k
    if lock && (old ^^^ w) &&& r.rwb != 0 then saveErr (accessError 25 .write a s) else s

/-- Step 4 of R404: restore the listed registers of a domain. -/
def restoreDomain (d q : Nat) (s : State) : State :=
  if !s.saveOn then s else
  let l := s.saveList d q
  let s := l.foldl (fun s e =>
    match memRead s 25 .read (saveAddr e.1 + 4) 4 with
    | (s, .ok v) => restoreReg e.2 v s
    | (s, _) => saveErr s) s
  if l.isEmpty then s else raise EV_PWR_RESTORED (domPayload d q) s

/-! ### Power-up (R401, R404) -/

/-- PWR_DOMSTAT.MOVING follows the domains and quads that move. -/
def movingSettle (s : State) : State :=
  s.setFld PWR_DOMSTAT_MOVING ((List.range 8).foldl (fun n d =>
    if (mfind s.pwr.moving d).isSome || d = dMEDIA && !s.pwr.movingQuad.isEmpty then n + 2 ^ d else n) 0)

/-- A domain, or a quad, is moving: true powering up, false dropping. -/
def State.movingOf (s : State) (d q : Nat) : Option Bool := if d = dMEDIA then mfind s.pwr.movingQuad q else mfind s.pwr.moving d

/-- It begins to move, or no longer moves. -/
def setMoving (d q : Nat) (v : Option Bool) (s : State) : State :=
  let put (m : SMap Bool) (k : Nat) : SMap Bool := match v with | some b => mins m k b | none => mdel m k
  movingSettle (if d = dMEDIA then { s with pwr.movingQuad := put s.pwr.movingQuad q } else { s with pwr.moving := put s.pwr.moving d })

/-- A domain, or a quad of MEDIA, is on. -/
def State.onOf (s : State) (d q : Nat) : Bool := if d = dMEDIA then nbit (s.fld PWR_DOMSTAT_QUAD) q else s.domOn d

/-- Switch it. -/
def setOn (d q : Nat) (on : Bool) (s : State) : State := if d = dMEDIA then setQuad q on s else setDom d on s

/-- An entry is queued for a die of a quad (R403). -/
def State.quadWork (s : State) (q : Nat) : Bool := s.tck.jobs.any fun j => j.2.ch / 8 = q && j.2.phase != 5

/-- Queued entries put a demand on a quad that is off (R403). -/
def demandSettle (s : State) : State :=
  (List.range 4).foldl (fun s q =>
    if s.quadWork q && !nbit (s.fld PWR_DOMSTAT_QUAD) q then
      { s.setFld PWR_DOMSTAT_DEMAND (s.fld PWR_DOMSTAT_DEMAND ||| 2 ^ q) with pwr.idleTicks := mdel s.pwr.idleTicks q }
    else s) s

/-- DOMAIN_POWER_UP (R401): a wanted domain, or MEDIA quad, that is off begins to power up. -/
def execDomainPowerUp (d : Fin 8) (q : Fin 4) (s : State) : Out :=
  let s := if d.val = dMEDIA then demandSettle s else s
  let want : Bool := if d.val = dMEDIA then s.quadWanted q else s.wanted d
  .next (if s.mode != mBOOT && s.mode != mCONFIG && want && !s.onOf d q && (s.movingOf d q).isNone then setMoving d q (some true) s else s)

/-- MBX_FULL follows the messages held. -/
def mbxFull (s : State) : State :=
  let bits (lo : Nat) := (List.range 32).foldl (fun n k => if (mfind s.mbx.msgs (lo + k)).isSome then n + 2 ^ k else n) 0
  (s.setFld MBX_FULL_LO_FULL (bits 0)).setFld MBX_FULL_HI_FULL (bits 32)

/-- A message held when its mailbox's domain drops is discarded (R386). -/
def mbxDrop (s : State) : State :=
  mbxFull { s with mbx.msgs := s.mbx.msgs.filter fun e => s.domOn (s.fld MBX_CFG_DOMAIN e.1) }

/-- EVR after CTRL has powered up: no vector is pending or in service, the rings start afresh; machine time and the cores' roles stay. -/
def evrUp (s : State) : State :=
  (List.range 8).foldl (fun s n =>
    let s := (s.setFld EVR_PEND_LO_VEC 0 n).setFld EVR_PEND_HI_VEC 0 n
    let s := (s.setFld EVR_INSV_LO_VEC 0 n).setFld EVR_INSV_HI_VEC 0 n
    let s := (s.setReg EVR_RWR EVR_RWR.reset n).setFld EVR_WDOG_WARNED 0 n
    s.setFld EVR_WDOG_EXPIRED 0 n) { s with evr := {} }

/-- What the blocks of a domain hold beside their registers, after power-up. -/
def domainState (d q : Nat) (i : Img) (s : State) : State :=
  if d = dCTRL then mbxFull (evrUp { s with mbx.sendLatch := [], mbx.rlatch := [], dma := {}, srm := {}, pmu := {} })
  else if d = dFABRIC then { s with fab := {}, hrd := {} }
  else if d = dLEX then { s with lex.cache := [], lex.deliv := [] }
  else if d = dCIPHER then setKeys [] { s with cip := { fuse := s.cip.fuse, fuseData := s.cip.fuseData } }
  else if d = dDRAM then { s with drc := {} }
  else if d = dMEDIA then (rangeFrom (8 * q) 8).foldl (fun s c => (s.trainTargets c).foldl (trainBoth c) (rateSettle c (layChan i s c))) s
  else s

/-- DRC comes up (R351): the delay table from its copy, the device's organisation, the ranks out of self-refresh, the check. -/
def dramUp (ok : Bool) (s : State) : State :=
  let s := forAll 256 (fun s k => s.setReg DRC_DLY (BitVec.ofNat 32 (s.rawNat (0x8000E000 + 4 * k) 4)) (k / 64) (k % 64)) s
  let s := dramInit s
  if ok then { s.setFld DRC_INITSTAT_DONE 1 with drc.initBusy := false, drc.selfRef := false }
  else { raise EV_DRC_INITFAIL 0 (s.setFld DRC_INITSTAT_FAIL 1) with drc.initBusy := false, drc.selfRef := true }

/-- The reload of a domain's registers (R404) with an image that passes its CRC check; ok is DRC's check of R351.  On CIPHER's power-up the microcode
and the pinned keys are loaded. -/
def domainReload (d q : Nat) (ok : Bool) (i : Img) (s : State) : State :=
  let s := (s.domBlks d q).foldl (fun s b => blockReload b s) s
  let s := domainState d q i s
  let s := layFields i d s
  let s := if d = dDRAM then dramUp ok s else s
  let s := restoreDomain d q (setOn d q true s)
  if d = dCIPHER then
    let s := cipHw s
    let s := if s.fld CIP_UCLEN_VALUE != 0 then microcodeLoad s else s
    loadPinned s
  else if d = dHOST then rdySettle s
  else s

/-- The image fails its check at a power-up (R404 step 2): the domain stays in reset, and the device is put in RECOVERY. -/
def reloadFails (s : State) : State :=
  let s := raise EV_LAY_REJECT 3 s
  if s.mode = mRECOVERY then s else enterRecovery 4 s

/-- The image as R404 reads it again; none where its CRC differs from LAY_CRC. -/
def imageAgain (s : State) : State × Option (Option Img) :=
  match readSlot false s with
  | (s, .wait) => (s, none)
  | (s, .good i c) => (s, some (if c = s.fld LAY_CRC_CRC then some i else none))
  | (s, .bad _ _ _) => (s, some none)

/-- The power-up of a domain ends (R404). -/
def domainUp (d q : Nat) (ok : Bool) (s : State) : State :=
  match imageAgain s with
  | (s, none) => s
  | (s, some none) => reloadFails (setMoving d q none s)
  | (s, some (some i)) =>
    let s := domainReload d q ok i (setMoving d q none s)
    let s := raise EV_PWR_DOMUP (domPayload d q) s
    if d = dDRAM && !ok && s.mode != mRECOVERY then enterRecovery 7 s else s

/-- DOMAIN_UP_DONE (R404); ok: DRC's check of R351 passes. -/
def execDomainUpDone (d : Fin 8) (q : Fin 4) (ok : Bool) (s : State) : Out :=
  if s.movingOf d q != some true then .next s
  else if s.saveBad d q then .fault (.undefinedCase "a save list entry names a WO, W1C or W1S register")
  else .next (domainUp d q ok s)

/-! ### Drop (R401) -/

/-- The drop condition of R401. -/
def State.mayDrop (s : State) (d q : Nat) : Bool :=
  if d = dMEDIA then
    !s.quadWork q && (rangeFrom (512 * q) 512).all fun p =>
      let x := s.dieState p
      (x = 0 || x = 1 || 5 ≤ x) && !s.dieBusy p && (s.die p).held.isNone
  else if d = dCIPHER then (s.cip.seqs.all fun e => e.2.ended.isSome) && s.cip.saved.isEmpty
  else if d = dLEX then s.lex.deliv.isEmpty && s.lex.fbWait.isEmpty
  else true

/-- What a block does as its domain drops (R401). -/
def dropAction (d : Nat) (s : State) : State :=
  if d = dHOST then pcieReset s
  else if d = dFABRIC then
    let s := (s.fab.ctxs.map (·.1)).foldl (fun s a => closeConn a 1 s) s
    let s := (List.range 4).foldl (fun s p => portDown p s) s
    laneSettle 0 s
  else if d = dDRAM then { s with drc.selfRef := true }
  else if d = dCIPHER then { s with cip.seqs := [], cip.taken := [] }
  else if d = dLEX then { s with lex.cache := [] }
  else s

/-- A domain begins to drop: save list, the blocks' action, pending sets discarded (R77). -/
def domainDrop (d q : Nat) (s : State) : State :=
  let bs := s.domBlks d q
  let s := dropAction d (saveDomain d q s)
  let s := bs.foldl (fun s b => s.setFld (cstatPENDING b) 0) { s with pend := s.pend.filter fun e => !bs.contains e.1 }
  setMoving d q (some false) (mbxDrop (setOn d q false s))

/-- DRAM holds live state of TXE, LEX or the key store. -/
def State.dramLive (s : State) : Bool :=
  (List.range 128).any s.nsExists || s.flag LEX_COUNT_ENTRIES || !s.keys.isEmpty

/-- DOMAIN_DROP (R401): a domain, or quad, that is not wanted, or that R26 does not power in the mode in force, begins to drop at a boundary at which its condition holds. -/
def execDomainDrop (d : Fin 8) (q : Fin 4) (s : State) : Out :=
  let want : Bool := if d.val = dMEDIA then s.quadWanted q else s.wanted d
  if want || !s.onOf d q || (s.movingOf d q).isSome || !s.mayDrop d q then .next s
  else if d.val = dDRAM && s.dramLive then .fault (.undefinedCase "DRAM dropped while it holds live state")
  else if d.val = dFABRIC && s.mode = mSERVICE && s.flag PLK_ROLE_IMAGE && s.pairUp then
    .fault (.undefinedCase "FABRIC dropped on a paired device in SERVICE")
  else if s.saveBad d q then .fault (.undefinedCase "a save list entry names a WO, W1C or W1S register")
  else .next (domainDrop d q s)

/-- DOMAIN_DROP_DONE (R401). -/
def execDomainDropDone (d : Fin 8) (q : Fin 4) (s : State) : Out :=
  .next (if s.movingOf d q = some false then raise EV_PWR_DOMDOWN (domPayload d q) (setMoving d q none s) else s)

/-- DEMAND_LAPSE (R403): no entry has been queued for the quad for IDLE ticks in a row. -/
def execDemandLapse (q : Fin 4) (s : State) : Out :=
  .next (if nbit (s.fld PWR_DOMSTAT_DEMAND) q && !s.quadWork q && s.cur PWR_DEMAND_IDLE ≤ mget 0 s.pwr.idleTicks q then
    { s.setFld PWR_DOMSTAT_DEMAND (s.fld PWR_DOMSTAT_DEMAND - 2 ^ q.val) with pwr.idleTicks := mdel s.pwr.idleTicks q }
  else s)

/-! ### Power states (R407, R408) -/

/-- PWR_PSREQ.GO: refused (R408), or accepted: BUSY, and the change at the next boundary; for PS4 the entry of R410 begins, EV_PWR_MODE names DORMANT
and every open stripe is to close (R35). -/
def psRequest (ps : Nat) (s : State) : State :=
  let s := s.setFld PWR_PSREQ_PS ps
  let m := s.mode
  let serving := m = mSERVICE || m = mSOLO || m = mDRAIN || m = mSPENT
  if s.flag PWR_MODE_BUSY || 4 < ps || (3 ≤ ps && (m = mSOLO || m = mSPENT)) || (ps = 4 && s.holdsMirrored) || !serving then s.setFld PWR_STAT_PSREF 1
  else
    let s := s.setFld PWR_MODE_BUSY 1
    if ps = 4 then
      let s := raise EV_PWR_MODE mDORMANT s
      { s with pwr.dormEntry := true, pwr.modeBefore := m, pwr.psBefore := s.fld PWR_MODE_PS, pwr.cmdHeld := false,
               ste.stripes := s.ste.stripes.map fun x => if x.st = 0 then { x with full := true } else x }
    else { s with pwr.psPend := some ps, pwr.drainEntry := ps = 3 && m != mDRAIN }

/-- POWER_STATE_REQUEST (R407). -/
def execPowerStateRequest (m : MasterId) (ps : Fin 8) (s : State) : Out := .next (regCmd m PWR_PSREQ 0 (psRequest ps) s)

/-- A power-state change at its boundary (R407): the mode, the point; the DVFS sequencer then runs. -/
def psApply (ps : Nat) (s : State) : State :=
  let m := s.mode
  let s := { s with pwr.psPend := none }
  setPoint ps (if ps = 3 then setMode mDRAIN s else if m = mDRAIN then setMode mSERVICE s else s)

/-- DVFS_DONE (R407): the sequencer's last step ends; a higher clock is in force from now on. -/
def execDvfsDone (s : State) : Out :=
  .next (if s.flag PWR_MODE_BUSY && s.pwr.psPend.isNone && !s.pwr.dormEntry && s.mode != mDORMANT then
    raise EV_PWR_DVFS (s.fld PWR_MODE_PS) { s.setFld PWR_MODE_BUSY 0 with pwr.drainEntry := false, pwr.clk := s.fld PWR_MODE_PS } else s)

/-! ### DORMANT (R410–R412) -/

/-- DORMANT_READY (R410): PWR_READY, write 1 to set. -/
def execDormantReady (m : MasterId) (mask : Byte) (s : State) : Out :=
  .next (regCmd m PWR_READY 0 (fun s => s.setFld PWR_READY_CORE (s.fld PWR_READY_CORE ||| mask.toNat)) s)

/-- Every released core has written its PWR_READY bit. -/
def State.coresReady (s : State) : Bool := (List.range 8).all fun n => !(s.core n).released || nbit (s.fld PWR_READY_CORE) n

/-- Steps 1 and 2 of R35: no stripe is open or started, and no pulse is in flight. -/
def State.mediaAtRest (s : State) : Bool :=
  s.ste.stripes.isEmpty && (s.tck.jobs.all fun j => j.2.phase = 0 || j.2.phase = 5) && allPos.all fun p => !s.dieBusy p

/-- The mask of SRAM banks that PWR_RETAIN selects (R411). -/
def State.retainMask (s : State) : Nat := s.fld PWR_RETAIN_BANK 0 + s.fld PWR_RETAIN_BANK 1 * 2 ^ 32 + s.fld PWR_RETAIN_BANK 2 * 2 ^ 64

/-- The retention point (R410, R411, R35 steps 3 and 4): the last boundary's commits, the connections closed (R33), the save list, HPT's state saved
(R231; its queues and configuration stand in State) and the link in L1.2, power removed. -/
def retentionPoint (s : State) : State :=
  let s := applyPending s
  let on := (rangeFrom 1 7).filter s.domOn
  let quads := (List.range 4).filter fun q => nbit (s.fld PWR_DOMSTAT_QUAD) q
  let s := on.foldl (fun s d => if d = dMEDIA then quads.foldl (fun s q => saveDomain d q s) s else saveDomain d 0 s) s
  let s := if s.domOn dFABRIC then dropAction dFABRIC s else s
  let s := if s.domOn dHOST then { s.setFld HPT_LINK_PM 3 with hpt.saved := some (s.reg HPT_STAT &&& 0x1F, s.reg HPT_LINK) } else { s with hpt.saved := none }
  let s := { s with drc.selfRef := true, lex.cache := [], pend := [] }
  let s := (((s.setFld PWR_DOMSTAT_ON 1).setFld PWR_DOMSTAT_QUAD 0).setFld PWR_DOMSTAT_DEMAND 0).setFld PWR_READY_CORE 0
  let s := ((s.setFld PWR_MODE_PREV s.mode).setFld PWR_MODE_CUR mDORMANT).setFld PWR_MODE_PS 4
  movingSettle (driveVid 10 { (mbxDrop s).setFld PWR_MODE_BUSY 0 with
    pwr.retained := s.retainMask, pwr.dormEntry := false, pwr.retention := true, pwr.moving := [], pwr.movingQuad := [], pwr.idleTicks := [] })

/-- RETENTION_POINT (R410). -/
def execRetentionPoint (s : State) : Out :=
  if !s.pwr.dormEntry || !s.coresReady || !s.mediaAtRest then .next s
  else if (List.range 8).any fun d => (List.range 4).any fun q => s.saveBad d q then
    .fault (.undefinedCase "a save list entry names a WO, W1C or W1S register")
  else .next (retentionPoint s)

/-- DORMANT_ENTRY_ABANDON (R410): a released core has not written its bit 20 ms after GO. -/
def execDormantEntryAbandon (s : State) : Out :=
  .next (if s.pwr.dormEntry && !s.coresReady then
    { ((s.setFld PWR_MODE_BUSY 0).setFld PWR_STAT_PSREF 1).setFld PWR_READY_CORE 0 with pwr.dormEntry := false, pwr.cmdHeld := false }
  else s)

/-- A wake cause (R412): bit 0 CLKREQ#, 1 SMBus, 2 a command accepted during entry; the exit begins with step 1, the core supply. -/
def wake (cause : Nat) (s : State) : State :=
  let s := s.setReg PWR_WAKE (s.reg PWR_WAKE ||| BitVec.ofNat 32 (2 ^ cause))
  let s := if cause = 0 then { s with pwr.clkreq := true } else s
  if s.pwr.exiting then s else driveVid (vidOf s.pwr.psBefore) { s with pwr.exiting := true, pwr.retention := false }

/-- WAKE (R412). -/
def execWake (cause : Fin 3) (s : State) : Out :=
  .next (if s.mode = mDORMANT && (cause.val != 2 || s.pwr.cmdHeld) then wake cause s else s)

/-- SRM zeroes the SRAM banks that were not retained (R328, R411). -/
def banksZero (s : State) : State :=
  let lost (a : Nat) : Bool := 0x20000000 ≤ a && a < 0x26000000 && !nbit s.pwr.retained ((a - 0x20000000) / 0x100000)
  { s with mem := s.mem.filter (fun c => !lost c.1), chk := s.chk.filter (fun c => !lost c.1) }

/-- HPT reloads its controller and link state (R231); the link leaves L1.2. -/
def hptRestore (s : State) : State :=
  match s.hpt.saved with
  | some (st, link) =>
    let s := (s.setReg HPT_STAT ((s.reg HPT_STAT &&& ~~~0x1F) ||| st)).setReg HPT_LINK link
    pmSettle { s with hpt.saved := none }
  | none => s

/-- The DORMANT exit (R412): the domains of the mode before PS4 under R404, each released core at PWR_WAKEENT, the Churn a microsecond before its
boundary (R21). -/
def dormantExit (ok : Bool) (s : State) : State :=
  match imageAgain (setDom dCTRL true (banksZero s)) with
  | (s, none) => s
  | (s, some none) => reloadFails { s with pwr.exiting := false }
  | (s, some (some i)) =>
    let m := s.pwr.modeBefore
    let at' := { s.setFld PWR_MODE_CUR m with pwr.moving := [] }
    let doms := [dCTRL, dDRAM, dHOST, dFABRIC, dCIPHER, dLEX].filter fun d => d = dCTRL || d = dDRAM || at'.wanted d
    let quads := (List.range 4).filter at'.quadWanted
    let s := doms.foldl (fun s d => domainReload d 0 ok i s) s
    let s := quads.foldl (fun s q => domainReload dMEDIA q ok i s) (hptRestore s)
    let s := raise EV_PWR_WAKE (s.reg PWR_WAKE).toNat s
    let s := { s with pwr.exiting := false, pwr.cmdHeld := false, pwr.clk := s.pwr.psBefore }
    if !ok then enterRecovery 7 s else
    let a0 := (s.reg PWR_WAKE).toNat
    let s := (List.range 8).foldl (fun s n =>
      if (s.core n).released then startCore n (s.pair PWR_WAKEENT_LO_ADDR PWR_WAKEENT_HI_ADDR n) a0 0 s else s) s
    let s := setMode m (s.setFld PWR_MODE_PS s.pwr.psBefore)
    s.setFld TCK_PHASE_CYCLES (s.tickCycles - 100)

/-- DORMANT_EXIT_DONE (R412); ok: DRC's check of R351 passes. -/
def execDormantExitDone (ok : Bool) (s : State) : Out :=
  if !(s.mode = mDORMANT && s.pwr.exiting) then .next s
  else if (List.range 8).any fun d => (List.range 4).any fun q => s.saveBad d q then
    .fault (.undefinedCase "a save list entry names a WO, W1C or W1S register")
  else .next (dormantExit ok s)

/-! ### Temperature, reference clock, SMBus -/

/-- PWR_TEMP.TRIP: as written, or the grade's reset value (R447). -/
def State.trip (s : State) : Nat := s.pwr.trip.getD (if Config.gradeX then 120 else 115)

/-- TEMPERATURE_UPDATE (R447): tj in 0.25 °C, two's complement; THERM_N against TRIP, with 5 °C of hysteresis. -/
def execTemperatureUpdate (tj : BitVec 11) (s : State) : Out :=
  let s := s.setFld PWR_TEMP_TJ tj.toNat
  let trip : Int := 4 * (max 90 (min 125 s.trip) : Nat)
  let was := s.flag PWR_TEMP_HOT
  let hot : Bool := if was then trip - 20 < tj.toInt else trip ≤ tj.toInt
  .next (if hot = was then s else (s.setFld PWR_TEMP_HOT (b2n hot)).emit (.frame "board" "THERM_N" [b2n !hot]))

/-- REFERENCE_CLOCK_STOP (R440): in DORMANT, once CLKREQ# is deasserted; no fault occurrence. -/
def execReferenceClockStop (s : State) : Out :=
  .next (if s.mode = mDORMANT && !s.pwr.exiting then { s with pwr.clkreq := false, pwr.refAbsent := true } else s)

/-- REFERENCE_CLOCK_RETURN (R20): the reference runs again. -/
def execReferenceClockReturn (s : State) : Out := .next { s with pwr.refAbsent := false }

/-- Critical Warning of the SMART log as hardware supplies it (R174). -/
def State.smartWarnings (s : State) : Nat :=
  b2n (s.flag SKM_STAT_SPARELOW) + b2n (s.flag SKM_DIERET_DIES || s.flag STE_LOST_COUNT) * 4 + b2n (s.mode = mSPENT) * 8

/-- Percentage Used (R174). -/
def State.percentUsed (s : State) : Nat := min 255 (100 * s.fld SKM_WEARAVG_WEAR / (16 * max 1 (s.cur SKM_ENDUR_CYCLES)))

/-- The packet error code of SMBus: CRC-8 with polynomial x⁸ + x² + x + 1, most significant bit first (PRESUMED, log 79). -/
def smbusPec (l : List Nat) : Nat :=
  l.foldl (fun c b => (List.range 8).foldl (fun c _ => if 128 ≤ c then (c * 2 % 256) ^^^ 7 else c * 2) (c ^^^ b % 256)) 0

/-- A block read of a command code from address 0x6A: its length, its bytes, and the PEC over address, code, address and all of them. -/
def smbusBlock (code : Nat) (l : List Nat) : List Nat :=
  let l := l.length :: l
  l ++ [smbusPec ([0xD4, code, 0xD5] ++ l)]

/-- CTemp of NVMe-MI basic management: whole °C of the on-die sensor, two's complement from -59 on; 0x7F stands for 127 and above, 0xC4 for -60 and below
(PRESUMED, log 79). -/
def ctempByte (tj : BitVec 11) : Nat :=
  let c := Int.fdiv tj.toInt 4
  if 127 ≤ c then 0x7F else if c ≤ -60 then 0xC4 else (c % 256).toNat

/-- SFLGS: bit 6 ready (R244); functional (5) outside RECOVERY, reset not required (4), the link active (3) (PRESUMED, log 79). -/
def State.sflgs (s : State) : Nat :=
  let m := s.mode
  b2n (m = mSERVICE || m = mSOLO || m = mDRAIN || m = mSPENT) * 64 + b2n (m != mRECOVERY) * 32 + 16 + b2n (s.flag HPT_LINK_UP) * 8

/-- SMBUS_STATUS_READ (R244): command code 0: SFLGS, SMART Warnings inverted, CTemp, PDLU, two reserved bytes, with PEC; in DORMANT the address is not
acknowledged and the exit begins. -/
def execSmbusStatusRead (s : State) : Out :=
  if s.mode = mDORMANT then .next (wake 1 (s.emit (.frame "smbus" "NACK" []))) else
  .next (s.emit (.frame "smbus" "status" (smbusBlock 0 [s.sflgs, 255 - s.smartWarnings, ctempByte (BitVec.ofNat 11 (s.fld PWR_TEMP_TJ)), s.percentUsed, 0, 0])))

/-- SMBUS_VENDOR_READ (R244): command code 8: the vendor ID, most significant byte first, and the serial number in always-on memory, with PEC. -/
def execSmbusVendorRead (s : State) : Out :=
  if s.mode = mDORMANT then .next (wake 1 (s.emit (.frame "smbus" "NACK" []))) else
  let v := s.fld HPT_PCIID_VENDOR
  .next (s.emit (.frame "smbus" "vendor" (smbusBlock 8 ([v / 256, v % 256] ++ (List.range 20).map fun i => s.rawNat (0x8000EF00 + i) 1))))

end Sys2Proof.Machine
end

