-- ==== Sys2Proof/Machine/Boot.lean ====
section
/-! DEFINITION. Family: power-on and reset (R27, R442), the boot sequence (R366–R369), the seal, and the entry into RECOVERY (R28, R373, R374). -/

namespace Sys2Proof.Machine

/-! ### Power-on and reset -/

/-- POWER_ON (R27, R441): everything but the code flash and the fuses is at reset; the straps are sampled. -/
def powerOn (s : State) : State :=
  enterBoot 1 { ({} : State) with
    mem := s.mem.filter (fun c => 0x10000000 ≤ c.1 && c.1 < 0x11000000), fchk := s.fchk
    out := s.out, free := s.free, pending := s.pending, cip := { fuse := s.cip.fuse } }

/-- POWER_ON; testN and refssc are the straps of R441. -/
def execPowerOn (testN _refssc : Bool) (s : State) : Out :=
  if testN then .next (powerOn s) else .fault (.undefinedCase "TEST_N low at a strap sample")

/-- What a channel sequencer does when RESET_N falls: steps 2 to 6 of R103. -/
def seqReset (ch : Nat) (s : State) : State :=
  if !s.quadOn ch || !s.on FCH_BOD_ERSUSP ch then s else
  (rangeFrom (ch * 64) 64).foldl (fun s p => match (s.die p).run with
    | some r => if isEraseOp r.step.subop && s.dieState p != 3 then s.emit (.nand ch (posDie p) 32 (s.cur FCH_OPC_SUSP ch) 0) else s
    | none => s) s

/-- RESET_N_FALL (R442): every domain except AON resets; the dies' running operations end outside. -/
def execResetNFall (s : State) : Out :=
  let m := s.mode
  let s := afterReset ((List.range 32).foldl (fun s ch => seqReset ch s) s)
  let s := ((s.setFld PWR_MODE_CUR m).setFld PWR_DOMSTAT_ON 1).setFld PWR_DOMSTAT_QUAD 0
  let s := ((s.setFld PWR_DOMSTAT_DEMAND 0).setFld PWR_DOMSTAT_MOVING 0).setFld PWR_READY_CORE 0
  .next { (List.range 8).foldl (fun s n => holdCore n s) s with pwr.resetN := false }

/-- RESET_N_RISE (R442, R441). -/
def execResetNRise (testN _refssc : Bool) (s : State) : Out :=
  if s.pwr.resetN then .next s
  else if testN then .next (enterBoot 2 s) else .fault (.undefinedCase "TEST_N low at a strap sample")

/-- FAULT_RESET (R394 reaction 3): once CKP_STAT.QUIESCED is set. -/
def execFaultReset (s : State) : Out :=
  .next (if s.flt.resetDue && s.flag CKP_STAT_QUIESCED then enterBoot 2 (s.setFld FLT_STAT_FRESET 1) else s)

/-! ### Boot blocks (R366, R368) -/

/-- Address of a bank. -/
def bankAddr (b : Nat) : Nat := 0x10000000 + b * 0x800000

/-- A header's MAGIC, FORMAT, LENGTH and MINSTEP are right (R366). -/
def headerOk (h magic maxLen : Nat) : Bool :=
  let n := imgAt h 8 4
  imgAt h 0 4 = magic && imgAt h 4 2 = 1 && n % 8 = 0 && 80 ≤ n && n ≤ maxLen && imgAt h 20 1 ≤ 0xB0

/-- The fault of a failed tag on privileged channel ch (R321). -/
def bootAuthFail (ch a : Nat) (s : State) : State := occur 20 a 18 3 (raise EV_CIP_AUTHFAIL ch (s.inc CIP_AUTHFAIL_COUNT))

/-- Steps 2 to 5 of R368. -/
def bootAuthenticate (s : State) : State :=
  let c0 := s.selCount 0
  let c1 := s.selCount 1
  let b := if c0 < c1 then 1 else 0
  let s := ((s.setFld BOT_BOOT_COUNT0 c0).setFld BOT_BOOT_COUNT1 c1).setFld BOT_BOOT_BANK b
  let a := bankAddr b
  match memRead s 0 .read a 64 with
  | (s, .wait) => s
  | (s, .err _) => bootFails 1 s
  | (s, .ok h) =>
    let n := imgAt h 8 4
    let load := imgAt h 16 4
    if !(headerOk h 0x31425442 524288 && 0x20000000 ≤ load && load + n ≤ 0x20C00000) then bootFails 1 s else
    match authCopy a load (n - 16) (a + n - 16) (cipCount 1 0 s) with
    | (_, none) => s
    | (s, some 0) =>
      let s := jumpCore 0 (load + imgAt h 12 4) (some b) (some (s.reg BOT_CAUSE).toNat) s
      { s with bot.bootRun := true, bot.revision := imgAt h 24 8 }
    | (s, some 6) => bootFails 2 (bootAuthFail 63 a s)
    | (s, some _) => bootFails 2 s

/-- BOOT_AUTHENTICATE (R368). -/
def execBootAuthenticate (s : State) : Out :=
  .next (if s.mode = mBOOT && s.pwr.resetN && !s.bot.bootRun && !s.bot.recovWait then bootAuthenticate s else s)

/-- BOT_SEAL.SEAL = 1 in BOOT (R369): the map is enforced, RWB registers are read-only, the device enters CONFIG with every domain on (R26), and L0
restarts at the boot ROM's CONFIG entry. -/
def sealConfig (s : State) : State :=
  let s := (s.setFld BOT_SEAL_SEAL 1).setFld BOT_STAT_SEALED 1
  let s := forAll 4 (fun s q => setQuad q true s) (((s.setFld PWR_DOMSTAT_ON 0x7F)))
  let s := startCore 0 0x100 0 0 (setMode mCONFIG s)
  { s with bot.bootRun := false, bot.layStep := 0 }

/-- SEAL (R369): a write of 1 to BOT_SEAL.SEAL; once sealed it changes nothing (R449). -/
def execSeal (m : MasterId) (s : State) : Out :=
  .next (regCmd m BOT_SEAL 0 (fun s => if s.mode = mBOOT && !s.flag BOT_STAT_SEALED then sealConfig s else s) s)

/-- SEAL_TIMEOUT (R368): no seal 2 s after the boot block was entered. -/
def execSealTimeout (s : State) : Out :=
  .next (if s.mode = mBOOT && s.bot.bootRun then bootFails 3 s else s)

/-! ### RECOVERY (R27, R28, R374) -/

/-- RECOVERY_REQUEST (R27): PWR_CTL.RECOV. -/
def execRecoveryRequest (m : MasterId) (s : State) : Out :=
  let mine (op : FlashOp) : Bool := op.who = m.val
  if s.mapAllows m .write (0x40000000 + PWR_CTL.off) && ((s.cfl.run.any fun e => mine e.2) || s.cfl.queue.any mine) then
    .fault (.undefinedCase "recovery request during a code-flash operation of the requesting core")
  else
    .next (regCmd m PWR_CTL 0 (fun s =>
      if s.mode = mSERVICE || s.mode = mSOLO || s.mode = mDRAIN || s.mode = mSPENT then { s with pwr.recovDue := some 6 } else s) s)

/-- Address at which a recovery image loads. -/
def recovLoad : Nat := 0x20C00000

/-- The boot ROM, on core n, tries the recovery image of bank b: its header where it passes; none of that where an access must wait. -/
def tryRecovery (n b : Nat) (s : State) : State × Option (Option Nat) :=
  let a := bankAddr b + 0xC0000
  match memRead s n .read a 64 with
  | (s, .wait) => (s, none)
  | (s, .err _) => (s, some none)
  | (s, .ok h) =>
    if !headerOk h 0x31564352 262144 then (s, some none) else
    let len := imgAt h 8 4
    match authCopy a recovLoad (len - 16) (a + len - 16) (cipCount 1 0 s) with
    | (_, none) => (s, none)
    | (s, some 0) => (s, some (some h))
    | (s, some 6) => (bootAuthFail 63 a s, some none)
    | (s, some _) => (s, some none)

/-- The active bank's image, then the other bank's: the source (0, 1, or 2 for none) and the header (R374). -/
def recoveryImage (n : Nat) (s : State) : State × Option (Nat × Nat) :=
  let b := s.activeBank
  match tryRecovery n b s with
  | (s, none) => (s, none)
  | (s, some (some h)) => (s, some (0, h))
  | (s, some none) =>
    match tryRecovery n (1 - b) s with
    | (s, none) => (s, none)
    | (s, some (some h)) => (s, some (1, h))
    | (s, some none) => (s, some (2, 0))

/-- The default map (R373). -/
def defaultMap (s : State) : State :=
  let put (i base lim r w x : Nat) (s : State) : State :=
    ((((s.setFld BOT_RBASE_PAGE base i).setFld BOT_RLIM_PAGE lim i).setFld BOT_RR_MASTERS r i).setFld BOT_RW_MASTERS w i).setFld BOT_RX_MASTERS x i
  let s := put 0 0x10000 0x10FFF 0x7FFFFFF 0x180 0xFF s
  let s := put 1 0 0xFFFFFFF 0x7FFFFFF 0x7FFFFFF 0xFF s
  (s.setFld BOT_RENA_LO_ENA 3).setFld BOT_RENA_HI_ENA 0

/-- Entry from BOOT (R374): the host identity, the default map, the seal, L7. -/
def recoveryFromBoot (s : State) : State :=
  match recoveryImage 0 s with
  | (s, none) => s
  | (s, some (src, h)) =>
    let s := if src = 2 || s.flag HPT_CTL_CFGREADY then s else
      (((s.setFld HPT_PCIID_VENDOR (imgAt h 32 2)).setFld HPT_SUBSYS_SVID (imgAt h 34 2)).setFld HPT_SUBSYS_SSID (imgAt h 36 2)).setFld HPT_CTL_CFGREADY 1
    let s := ((defaultMap s).setFld BOT_SEAL_SEAL 1).setFld BOT_STAT_SEALED 1
    let s := setMode mRECOVERY (s.setFld BOT_CAUSE_RCVSRC src)
    let s := (List.range 7).foldl (fun s n => clearDebug n (haltCore n 4 s)) s
    let s := if src = 2 then startCore 7 0x200 0 0 s else jumpCore 7 (recovLoad + imgAt h 12 4) none none (startCore 7 0x200 0 0 s)
    { s with bot.recovWait := false, bot.recovRun := src != 2 }

/-- Entry from another mode (R374): L7, at the boot ROM's recovery entry, finds an image and jumps to it. -/
def recoveryOnL7 (s : State) : State :=
  match recoveryImage 7 s with
  | (s, none) => s
  | (s, some (src, h)) =>
    let s := s.setFld BOT_CAUSE_RCVSRC src
    let s := if src = 2 then s else jumpCore 7 (recovLoad + imgAt h 12 4) none none s
    { s with bot.recovWait := false, bot.recovRun := src != 2 }

/-- RECOVERY_ENTRY (R374). -/
def execRecoveryEntry (s : State) : Out :=
  .next (if !s.bot.recovWait then s else if s.mode = mBOOT then recoveryFromBoot s else if s.mode = mRECOVERY then recoveryOnL7 s else s)

/-! ### DRAM initialisation (R349) -/

/-- DRAM_INIT_DONE (R349): fail, cause and laneFail are what DRC found; a delay table that gives no organisation of R343 is cause 3. -/
def execDramInitDone (fail : Bool) (cause : Fin 4) (laneFail : BitVec 20) (s : State) : Out :=
  if !s.drc.initBusy || !s.domOn dDRAM then .next s else
  let org := s.dramOrgOk
  let bad := fail || !org
  let s := { s.setFld DRC_INITSTAT_DONE 1 with drc.initBusy := false, drc.selfRef := bad }
  if !bad then .next s else
  let c := if org then cause.val else 3
  let s := ((s.setFld DRC_INITSTAT_FAIL 1).setFld DRC_INITSTAT_CAUSE c).setFld DRC_INITSTAT_LANEFAIL laneFail.toNat
  let s := raise EV_DRC_INITFAIL c s
  .next (if s.mode = mCONFIG then enterRecovery 7 s else s)

end Sys2Proof.Machine
end

