-- ==== Sys2Proof/Machine/Tick.lean ====
section
/-! DEFINITION. Family: the Churn TCK (spec/03_churn_tick.md): the cutoff, with read admission and the building of tick programs (R53, R60–R66, R69, R70, R453), and the boundary (R53, R58, R72, R29, R83). -/

namespace Sys2Proof.Machine

/-! ### The managed builder (R60) -/

/-- The scheduler start quota of the power state in force, in eighths (R33). -/
def State.quotaEighths (s : State) : Nat :=
  match s.fld PWR_MODE_PS with
  | 0 => 8
  | 1 => 6
  | 2 => 4
  | _ => 1

/-- The start quota of a channel, and the read reservation (R62). -/
def State.startQuota (s : State) : Nat := max 1 (s.cur TCK_QUOTA_STARTS * s.quotaEighths / 8)
def State.readRes (s : State) : Nat := min (s.cur TCK_QUOTA_RDRES) s.startQuota

/-- A channel's pieces of work, older first; a retry or soft read is the oldest on its die (R99, R120). -/
def State.chWork (s : State) (ch : Nat) : List (Nat × Job) :=
  let l := s.tck.jobs.filter fun e => e.2.ch = ch && e.2.client != .direct
  l.filter (fun e => e.2.oldest) ++ l.filter fun e => !e.2.oldest

/-- A read of the read queue that waits for its START. -/
def Job.readWaits (j : Job) : Bool := j.q = 0 && j.phase = 0 && isReadOp j.op

/-- A read that has been placed, runs, or awaits data-out. -/
def Job.readUnder (j : Job) : Bool := isReadOp j.op && 1 ≤ j.phase && j.phase ≤ 3

/-- The first waiting read of each die that has no read under way (R64). -/
def firstReads (w : List (Nat × Job)) : List Nat → List (Nat × Job) → List (Nat × Job)
  | _, [] => []
  | seen, e :: r =>
    if !e.2.readWaits || seen.contains e.2.die then firstReads w seen r
    else if w.any fun x => x.2.die = e.2.die && x.2.readUnder then firstReads w seen r
    else e :: firstReads w (e.2.die :: seen) r

/-- The program being built: its control steps and transfer steps, the STARTs placed, the credits left, jobs to mark as placed, dies that hold a START. -/
structure Build where
  ctl    : List Step := []
  xfer   : List Step := []
  starts : Nat := 0
  credits : Nat := 0
  placed : List Nat := []
  dies   : List Nat := []

/-- Room for n further steps (R54). -/
def Build.room (b : Build) (n : Nat) : Bool := b.ctl.length + b.xfer.length + n ≤ 16

/-- Sort by a key, smaller first; equal keys keep their order. -/
def insertBy (key : Nat → Nat) (x : Nat) : List Nat → List Nat
  | [] => [x]
  | y :: r => if key x ≤ key y then x :: y :: r else y :: insertBy key x r
def sortBy (key : Nat → Nat) (l : List Nat) : List Nat := l.foldr (insertBy key) []

/-- The START of a piece of work. -/
def startStep (id : Nat) (j : Job) : Step :=
  { op := 1, subop := j.op, target := j.die / 4, lun := j.die % 4, planes := j.planes, tag := j.tag % 256, w1 := j.row, job := some id }

/-- A step of another kind to a die. -/
def dieStep (op die : Nat) : Step := { op := op, target := die / 4, lun := die % 4 }

/-- Place a START. -/
def Build.start (b : Build) (id : Nat) (j : Job) : Build :=
  { b with ctl := b.ctl ++ [startStep id j], starts := b.starts + 1, placed := b.placed ++ [id], dies := j.die :: b.dies }

/-- A program or erase runs on the die and may be suspended for a read (R64, R66). -/
def State.suspendable (s : State) (ch die : Nat) : Bool :=
  let pos := ch * 64 + die
  let limit := s.cur FCH_SUSPLIM_LIMIT ch
  s.dieState pos = 2 && s.on TCK_SUSP_RDSUSP &&
    (match (s.die pos).run with | some r => !isReadOp r.step.subop && (limit = 0 || r.susp < limit) | none => false)

/-- Item 1: admitted reads, each with the SUSPEND that it needs. -/
def buildReads (ch : Nat) (s : State) : List (Nat × Job) → Build → Build
  | [], b => b
  | e :: r, b =>
    let susp := s.suspendable ch e.2.die
    if !b.room (if susp then 2 else 1) then b else
    let b := if susp then { b with ctl := b.ctl ++ [dieStep 2 e.2.die] } else b
    buildReads ch s r (b.start e.1 e.2)

/-- Item 2: the dies to resume, those whose suspended work is oldest first. -/
def State.resumeDies (s : State) (ch : Nat) (w : List (Nat × Job)) (b : Build) : List Nat :=
  let l := (List.range 64).filter fun d =>
    s.dieState (ch * 64 + d) = 4 && (s.die (ch * 64 + d)).armed.isNone && !b.dies.contains d && !(w.any fun e => e.2.die = d && e.2.readUnder)
  let key (d : Nat) : Nat := match (s.die (ch * 64 + d)).held with | some r => r.step.job.getD 0 | none => 0
  sortBy key l

/-- Add steps, in order, while there is room. -/
def Build.ctlAll (b : Build) (l : List Step) : Build := l.foldl (fun b st => if b.room 1 then { b with ctl := b.ctl ++ [st] } else b) b
def Build.xferAll (b : Build) (l : List Step) : Build := l.foldl (fun b st => if b.room 1 then { b with xfer := b.xfer ++ [st] } else b) b

/-- The transfer steps that a piece of work still needs, one for each descriptor not sent. -/
def xferSteps (id : Nat) (j : Job) : List Step :=
  let out := isReadOp j.op
  (j.descs.zipIdx.drop j.sent).map fun d =>
    { op := if out then 4 else 5, target := j.die / 4, lun := j.die % 4, wait := out, tag := j.tag % 256, w1 := d.2, desc := some d.1, job := some id }

/-- A die's continuation record names a descriptor of this work (R59). -/
def State.continues (s : State) (e : Nat × Job) : Bool :=
  match (s.die (e.2.ch * 64 + e.2.die)).cont with
  | some (k, _) => (k - 65536) / 16 = e.1 && 65536 ≤ k
  | none => false

/-- The continuation steps among pieces of work: of each the one step that goes on (R59). -/
def State.contSteps (s : State) (l : List (Nat × Job)) : List Step :=
  (l.filter s.continues).flatMap fun e => (xferSteps e.1 e.2).filter fun st =>
    match (s.die (e.2.ch * 64 + e.2.die)).cont with | some (k, _) => k = st.key | none => false

/-- Steps that a program does not hold yet. -/
def Build.fresh (b : Build) (l : List Step) : List Step := l.filter fun st => !(b.xfer.any fun y => y.job = st.job && y.w1 = st.w1)

/-- A member program that would be its stripe's first needs a write credit (R63). -/
def State.needsCredit (s : State) (b : Build) (j : Job) : Bool :=
  j.credit && (match j.client with
    | .member g i _ => (match s.stripe g i with | some x => x.st ≤ 1 | none => false) &&
        !(s.tck.jobs.any fun e => (e.2.phase = 12 || b.placed.contains e.1) && (match e.2.client with | .member g' i' _ => g' = g && i' = i | _ => false))
    | _ => false)

/-- A START of item 4 may be placed on its die now (R60, R65).  A member's START waits for its group's ledger entry (R185), and for
a root record that is to come before it (R211, R212); background Skim for empty read and
write queues, until foreground Skim is active (R165). -/
def State.startable (s : State) (ch : Nat) (w : List (Nat × Job)) (b : Build) (e : Nat × Job) : Bool :=
  let j := e.2
  let pos := ch * 64 + j.die
  let d := s.die pos
  let st := s.dieState pos
  e.2.q != 0 && (if isReadOp j.op then j.phase = 0 else j.phase = 11) && !b.placed.contains e.1 && !b.dies.contains j.die
    && (st = 1 || 5 ≤ st) && d.run.isNone && d.armed.isNone && d.held.isNone && !d.resetting
    && !(w.any fun x => x.1 != e.1 && x.2.die = j.die && (x.2.readUnder || x.2.phase = 12 || x.2.phase = 13))
    && (match j.client with
        | .member g i _ => ((s.grp g).any (fun x => x.durable) || (s.stripe g i).any fun x => 2 ≤ x.st) && !s.rootWaits (if (s.grp g).any fun x => x.stream = 6 then 0 else 3)
        | _ => true)
    && !(j.bg && !s.flag SKM_STAT_FG && w.any fun x => x.2.q ≤ 1 && (x.2.phase = 0 || x.2.phase = 10 || x.2.phase = 11))
    && (!s.needsCredit b j || 0 < b.credits)

/-- Take up to n steps that f places, one for each success. -/
def takeUp (f : Build → Option Build) : Nat → Build → Build
  | 0, b => b
  | n + 1, b => match f b with
    | some b => takeUp f n b
    | none => b

/-- The weight of a queue (R61). -/
def State.weight (s : State) (q : Nat) : Nat :=
  match q with
  | 0 => s.cur TCK_WEIGHT_READ
  | 1 => s.cur TCK_WEIGHT_WRITE
  | 2 => s.cur TCK_WEIGHT_SKIM
  | _ => s.cur TCK_WEIGHT_PATROL

/-- Rounds of a weighted round robin over the four queues (R61); f q places one further step of queue q. -/
def rounds (s : State) (f : Nat → Build → Option Build) : Nat → Build → Build
  | 0, b => b
  | n + 1, b => rounds s f n ((List.range 4).foldl (fun b q => takeUp (f q) (s.weight q) b) b)

/-- Item 4: one further START of queue q, within the start quota. -/
def startOne (s : State) (ch : Nat) (w : List (Nat × Job)) (q : Nat) (b : Build) : Option Build :=
  if !b.room 1 || s.startQuota ≤ b.starts then none else
  match (w.filter fun e => e.2.q = q).find? (s.startable ch w b) with
  | none => none
  | some e =>
    let credits := if s.needsCredit b e.2 then b.credits - 1 else b.credits
    some { b.start e.1 e.2 with credits := credits }

/-- Work with transfer steps for item 5: reads that are in array read or ready and that item 3 has not placed, and of each die the oldest program that awaits
its data. -/
def State.item5 (s : State) (ch : Nat) (w : List (Nat × Job)) (b : Build) : List (Nat × Job) :=
  w.filter fun e =>
    let j := e.2
    let st := s.dieState (ch * 64 + j.die)
    st != 3 && !b.placed.contains e.1 &&
    (if isReadOp j.op then j.phase = 2 || j.phase = 3
     else j.phase = 10 && !b.dies.contains j.die && !(w.any fun x => x.2.die = j.die && !isReadOp x.2.op && 11 ≤ x.2.phase && x.2.phase ≤ 13)
       && (match w.find? fun x => x.2.die = j.die && !isReadOp x.2.op && x.2.phase = 10 with | some x => x.1 = e.1 | none => false))

/-- Item 5: one further transfer step of queue q. -/
def xferOne (l : List (Nat × Step)) (q : Nat) (b : Build) : Option Build :=
  if !b.room 1 then none else
  match (l.filter fun e => e.1 = q).find? fun e => !(b.xfer.any fun y => y.job = e.2.job && y.w1 = e.2.w1) with
  | some e => some { b with xfer := b.xfer ++ [e.2] }
  | none => none

/-- The dies that a POLL step reads (R453): busy, with no status read in the present tick, oldest operation first. -/
def State.pollDies (s : State) (ch : Nat) : List Nat :=
  let l := (List.range 64).filter fun d => s.dieState (ch * 64 + d) = 2 && (s.die (ch * 64 + d)).run.isSome && !(s.die (ch * 64 + d)).polled
  let key (d : Nat) : Nat := match (s.die (ch * 64 + d)).run with | some r => r.born | none => 0
  sortBy key l

/-- Build a managed program with a number of credits left: the steps, the work that they start, the credits left. -/
def State.build (s : State) (ch credits : Nat) : Build :=
  let w := s.chWork ch
  let alive := w.filter fun e => !(s.die (ch * 64 + e.2.die)).resetting
  let b := buildReads ch s ((firstReads w [] alive).take s.readRes) { credits := credits }
  let b := b.ctlAll ((s.resumeDies ch w b).map (dieStep 3))
  let outs := w.filter fun e => e.2.q = 0 && isReadOp e.2.op && (e.2.phase = 2 || e.2.phase = 3) && s.dieState (ch * 64 + e.2.die) != 3
  let b := b.xferAll (s.contSteps outs)
  let b := b.xferAll (b.fresh (outs.flatMap fun e => xferSteps e.1 e.2))
  let b := rounds s (startOne s ch w) 16 b
  let l := s.item5 ch w b
  let b := b.xferAll (b.fresh (s.contSteps l))
  let b := rounds s (xferOne (l.flatMap fun e => (xferSteps e.1 e.2).map fun st => (e.2.q, st))) 16 b
  b.xferAll ((s.pollDies ch).map (dieStep 6))

/-- A piece of work whose START is placed in the program for the tick that is to begin (R64). -/
def placedJob (t : Nat) (j : Job) : Job :=
  { j with phase := if isReadOp j.op then 1 else 12, due := if isReadOp j.op && j.due.isNone then some t else j.due }

/-- The cutoff of a managed channel (R60, R64, R66): its program; reads that were not admitted at their first cutoff are late. -/
def cutManaged (ch : Nat) (s : State) : State :=
  let b := s.build ch s.tck.credits
  let t := (s.fld TCK_COUNT_LO_COUNT + 1) % 2 ^ 32
  let s := b.placed.foldl (fun s id => modJob s id (placedJob t)) s
  let s : State := { s with tck.credits := b.credits
                            tck.jobs := s.tck.jobs.map fun e => if e.2.ch = ch && e.2.readWaits then (e.1, { e.2 with late := true }) else e }
  modChan s ch fun c => { c with next := b.ctl ++ b.xfer, nextCarry := false, nextDirect := false }

/-! ### Direct mode (R69, R70) -/

/-- A step as its two words spell it (R54). -/
def stepOf (w0 w1 : Nat) : Step :=
  { op := w0 % 16, subop := nbits w0 4 4, target := nbits w0 8 4, lun := nbits w0 12 2, planes := nbits w0 14 4, wait := nbit w0 18, tag := nbits w0 24 8, w1 := w1 }

/-- The shadow row of a channel. -/
def State.shadowRow (s : State) (ch : Nat) : List Step :=
  (List.range (min 16 (s.fld TCK_DLEN_LEN ch))).map fun k => stepOf (s.fld TCK_SHADOW_WORD ch (2 * k)) (s.fld TCK_SHADOW_WORD ch (2 * k + 1))

/-- The cutoff of a direct-mode channel: the shadow row, or a slip. -/
def cutDirect (ch : Nat) (s : State) : State :=
  if nbit (s.fld TCK_DREADY_READY) ch then
    let row := s.shadowRow ch
    modChan s ch fun c => { c with next := row, nextCarry := false, nextDirect := true }
  else
    let s := modChan s ch fun c => { c with next := [], nextCarry := true, nextDirect := false }
    raise EV_TCK_SLIP ch ((s.setFld TCK_SLIPSTAT_SLIP (s.fld TCK_SLIPSTAT_SLIP ||| 2 ^ ch)).inc TCK_SLIPCNT_COUNT)

/-! ### The cutoff -/

/-- The Churn runs (R21, R52). -/
def State.churnRuns (s : State) : Bool := s.domOn dCTRL && s.mode != mDORMANT

/-- A channel's cutoff; none is built for a quad that is off, or after a brown-out (R103). -/
def cutChannel (s : State) (ch : Nat) : State :=
  if nbit (s.cur TCK_MODE_DIRECT) ch then cutDirect ch s
  else if s.quadOn ch && !s.fchBod ch then cutManaged ch s
  else modChan s ch fun c => { c with next := [], nextCarry := false, nextDirect := false }

/-- The cutoff of the present tick (R53): soft reads that still wait are counted (R120), the programs of all channels are made. -/
def cutoff (s : State) : State :=
  let s := s.inc ECC_SOFTWAIT_COUNT (s.ecc.softWait.filter s.softLacks).length
  (List.range 32).foldl cutChannel { s with tck.cut := true, tck.credits := s.fld TCK_CREDNOW_CREDIT }

/-- Time runs up to a position within the tick. -/
def passTo (phase : Nat) (s : State) : State := s.pass (phase - s.fld TCK_PHASE_CYCLES)

/-- TICK_CUTOFF (R53): C before the boundary. -/
def execTickCutoff (s : State) : Out :=
  .next (if s.churnRuns && !s.tck.cut then cutoff (passTo (s.tickCycles - 10 * s.cur TCK_CUTOFF_CUTOFF) s) else s)

/-! ### The boundary -/

/-- End the steps of a channel that have not ended (R55, R56, R58): transfer steps with STATUS 4, control steps and reserved ones dropped; seen are the
dies with a transfer step that has ended so. -/
def endSteps (ch : Nat) (seen : List Nat) : List Step → Nat → State → State × Nat
  | [], n, s => (s, n)
  | st :: r, n, s =>
    if st.isTransfer then endSteps ch (st.die :: seen) r (n + 1) (abandonHead ch 4 st (seen.contains st.die) s)
    else if st.op = 0 then endSteps ch seen r n (popStep ch 1 0 s)
    else endSteps ch seen r n (dropHead ch st s)

/-- A step of managed work is still wanted: its work is there, and a transfer's data has not moved in the build window (R60). -/
def State.live (s : State) (st : Step) : Bool :=
  match st.job, st.job.bind (mfind s.tck.jobs) with
  | none, _ => true
  | some _, none => false
  | some _, some j => !st.isTransfer || (j.sent ≤ st.w1 && (if st.op = 4 then j.phase = 2 || j.phase = 3 else j.phase = 10))

/-- What a channel does at a boundary before commits: the unfinished steps end, and TCK_CHSTAT reports the tick. -/
def endTick (ch : Nat) (s : State) : State :=
  let (s, n) := endSteps ch [] (s.chan ch).prog 0 s
  let c := s.chan ch
  let s := ((s.setFld TCK_CHSTAT_EXEC (min c.nExec 31) ch).setFld TCK_CHSTAT_DROPPED (min c.nDrop 31) ch).setFld TCK_CHSTAT_ABANDONED (min n 31) ch
  let s := s.setFld TCK_CHSTAT_CARRY (b2n c.carry) ch
  let s := s.setFld FCH_STAT_TRAINING 0 ch
  { modChan s ch (fun c => { c with nExec := 0, nDrop := 0, carry := false, transfer := false })
    with dies := s.dies.map fun e => if e.1 / 64 = ch then (e.1, { e.2 with polled := false, stepRead := false }) else e }

/-- Install a channel's program (R53, R69); after a brown-out, and for a quad that is off, it is empty: the direct-mode steps addressed to a quad that is off
are dropped (R79), with no record, as their sequencer is down. -/
def installProg (ch : Nat) (s : State) : State :=
  let c := s.chan ch
  let steps := c.next.filter s.live
  let prog := if s.fchBod ch || !s.quadOn ch then [] else steps
  let s := if c.nextDirect then s.setFld TCK_DREADY_READY (s.fld TCK_DREADY_READY - (s.fld TCK_DREADY_READY &&& 2 ^ ch)) else s
  let gone := if s.quadOn ch then [] else steps
  let s := gone.foldl (fun s st => if c.nextDirect && st.op != 0 then raise EV_TCK_DROP ch s else unplace st s) s
  let n := if c.nextDirect then (gone.filter fun st => st.op != 0).length else 0
  modChan s ch fun c => { c with prog := prog, moved := 0, held := false, carry := c.nextCarry, next := [], nextCarry := false, nextDirect := false,
                                 nDrop := c.nDrop + n }

/-- The queues of a channel hold work: changing its mode is undefined then. -/
def State.queuesHold (s : State) (ch : Nat) : Bool := s.tck.jobs.any fun e => e.2.ch = ch && e.2.client != .direct && e.2.phase != 5 && e.2.phase != 4

/-- The pending set of TCK would change the mode of a channel whose queues hold work. -/
def State.modeClash (s : State) : Bool :=
  match mfind s.pend 0 with
  | none => false
  | some p =>
    let n := nbits (mget TCK_MODE.reset p (TCK_MODE.at 0 0 0)).toNat 0 32
    let o := s.cur TCK_MODE_DIRECT
    (List.range 32).any fun ch => nbit n ch != nbit o ch && s.queuesHold ch

/-- A power-state request, or an entry to PS3 or PS4, loses to a mode change (R29, R408); in SOLO and SPENT after DRAIN, or during such an entry, the
sequencer runs to the PS0 point. -/
def psLose (was : Nat) (s : State) : State :=
  let asked := s.pwr.psPend.isSome || s.pwr.dormEntry
  let entry := s.pwr.drainEntry || s.pwr.dormEntry
  let s := if asked then s.setFld PWR_STAT_PSREF 1 else s
  let s : State := { s with pwr.psPend := none, pwr.dormEntry := false, pwr.drainEntry := false, pwr.cmdHeld := false }
  if was = mDRAIN || entry then setPoint 0 (s.setFld PWR_MODE_BUSY 1)
  else if asked then s.setFld PWR_MODE_BUSY 0 else s

/-- The mode change due at a boundary: the highest of R29 that R27 lists for the mode. -/
def modeChange (s : State) : State :=
  let m := s.mode
  let clear (s : State) : State := { s with pwr.spentDue := false, pwr.soloDue := false, pwr.serviceDue := false }
  let serving := m = mSERVICE || m = mSOLO || m = mDRAIN
  match s.pwr.recovDue with
  | some code => if serving || m = mSPENT then enterRecovery code s else { s with pwr.recovDue := none }
  | none =>
    if s.pwr.spentDue && serving then psLose m (setMode mSPENT (clear s))
    else if s.pwr.soloDue && (m = mSERVICE || m = mDRAIN) then psLose m (setMode mSOLO (clear s))
    else if s.pwr.serviceDue && m = mSOLO then psLose m (setMode mSERVICE (clear s))
    else match s.pwr.psPend with
      | some ps => psApply ps s
      | none => s

/-- The rate of every discovered channel follows the mode (R83). -/
def drainRate (s : State) : State :=
  (List.range 32).foldl (fun s ch => if s.quadOn ch && s.flag FCH_STAT_DISCOVERED ch then rateSettle ch s else s) s

/-- Ticks without work of each quad that has a demand (R403). -/
def demandTicks (s : State) : State :=
  (List.range 4).foldl (fun s q =>
    if nbit (s.fld PWR_DOMSTAT_DEMAND) q then
      { s with pwr.idleTicks := if s.quadWork q then mdel s.pwr.idleTicks q else mmod 0 s.pwr.idleTicks q (· + 1) }
    else s) s

/-- SKM's part of a boundary (R162, R165, R63), once the layout is in force. -/
def skmBoundary (s : State) : State := if 2 ≤ s.bot.layStep && s.mode != mBOOT && s.mode != mRECOVERY then victimSettle (creditUpdate s) else s

/-- Commits of a boundary (R53, R72), and what follows from them: the cream target (R149). -/
def commits (s : State) : State :=
  let n := applyPending s
  if n.cur TXE_CREAM_FRAC_FRAC != s.cur TXE_CREAM_FRAC_FRAC || n.cur TXE_CREAM_MAX_GIB != s.cur TXE_CREAM_MAX_GIB then creamTarget n else n

/-- The boundary that follows the first placement in a stripe (R183). -/
def stripesFirst (s : State) : State :=
  let t := s.pair TCK_COUNT_LO_COUNT TCK_COUNT_HI_COUNT
  { s with ste.stripes := s.ste.stripes.map fun x => if x.st = 0 && x.first.isNone && !x.pieces.isEmpty then { x with first := some t } else x }

/-- The boundary (R53). -/
def boundary (s : State) : State :=
  let s := passTo s.tickCycles (if s.tck.cut then s else cutoff s)
  let s := (List.range 32).foldl (fun s ch => endTick ch s) s
  let s := commits s
  let s := modeChange s
  let s := drainRate s
  let s := (List.range 32).foldl (fun s ch => if s.quadOn ch then resetsDue ch s else s) s
  let s := (List.range 32).foldl (fun s ch => installProg ch s) s
  let s := (s.incPair TCK_COUNT_LO_COUNT TCK_COUNT_HI_COUNT).setFld TCK_PHASE_CYCLES 0
  let s := raise EV_TCK_BOUNDARY 0 s
  let s := skmBoundary (stripesFirst (demandTicks (demandSettle s)))
  cflHoldDue { s with tck.cut := false, ecc.nearSeen := [], srm.ceTick := false, drc.ceTick := false, cfl.ceTick := false }

/-- TICK_BOUNDARY (R53). -/
def execTickBoundary (s : State) : Out :=
  if !s.churnRuns then .next s
  else if s.modeClash then .fault (.undefinedCase "TCK_MODE changed for a channel whose queues hold work")
  else .next (boundary s)

end Sys2Proof.Machine
end

