-- ==== Sys2Proof/Machine/Vendor.lean ====
section
/-! DEFINITION. Family: the vendor Lexicon commands (spec/12_segment_service.md R280): HPT hands each to firmware; firmware carries it out with the operations of R277, and completes it when R278 allows. -/

namespace Sys2Proof.Machine

/-- Firmware writes the completion of ring entry i: HPT_FWCPL0 to HPT_FWCPL3 (R241). -/
def fwFinish (i st dw0 : Nat) (s : State) : State :=
  fwComplete (st % 256) (st / 256) 0 (((s.setFld HPT_FWCPL0_DW dw0).setFld HPT_FWCPL1_DW 0).setFld HPT_FWCPL2_INDEX i)

/-- What the completion of a vendor Lexicon command waits for has come. -/
def State.vendReady (s : State) (wait : Nat) : Bool :=
  wait = 0 || (if wait = 1 then !s.flag LEX_CSTAT_PENDING else ckAtLeast (s.fld CKP_LAST_NUM) (wait - 2))

/-- Firmware has carried a command out: it is complete at once where nothing reaches the medium, else once the wait has ended. -/
def vendDone (id i st dw0 wait : Nat) (s : State) : State :=
  if wait = 0 then fwFinish i st dw0 s else { s with lex.vend := mins s.lex.vend id (st, dw0, wait) }

/-- A vendor Lexicon command: while it is fetched, HPT hands it to firmware; while firmware has it, firmware carries it out by run; then it completes it.
Without a SEGMENT record firmware completes it with Invalid Command Opcode (R263). -/
def lexVendor (id opc : Nat) (run : Cmd → Nat → State → State) (s : State) : Out :=
  match s.cmd id with
  | none => .next s
  | some c =>
    if c.phase = 0 then withAdmin id (· = opc) (fun _ s => toFirmware id 2 s) s
    else if c.phase != 7 || !c.isAdmin || c.port ≥ 8192 || c.opc != opc then .next s
    else match c.fw, mfind s.lex.vend id with
      | none, _ => .next s
      | some i, some (st, dw0, wait) =>
        if !s.vendReady wait then .next s
        else if wait = 1 then
          .next (fwFinish i (if s.flag LEX_CSTAT_REFUSED then stSequence else st) s.lexSlots { s with lex.vend := mdel s.lex.vend id })
        else .next (fwFinish i st dw0 { s with lex.vend := mdel s.lex.vend id })
      | some i, none =>
        if !s.flag LEX_CTL_ENA then .next (fwFinish i stInvalidOpcode 0 s)
        else if !s.domOn dLEX then .next s
        else .next (run c i s)

/-- Records in order, up to the first that fails: f works record k and answers a status, 0 for success.  Answers how many were applied, and the status. -/
def records (f : Nat → State → State × Nat) : Nat → Nat → State → State × Nat × Nat
  | 0, k, s => (s, k, 0)
  | n + 1, k, s => match f k s with
    | (s, 0) => records f n (k + 1) s
    | (s, st) => (s, k, st)

/-- Carry out a command of n records of the given size; changes are reported once a checkpoint that begins afterwards is complete (R278), which firmware
asks for with CKP_CTL.NOW. -/
def runRecords (id i n size : Nat) (changes : Bool) (f : Nat → State → State × Nat) (s : State) : State :=
  if n = 0 || 2 ^ 20 < n * size then fwFinish i stInvalidField 0 s else
  let (s, k, st) := records f n 0 s
  if changes && 0 < k then
    let wait := s.nextCkp + 2
    vendDone id i st k wait { s with ckp.want := true }
  else vendDone id i st k 0 s

/-- The status of a record from LEX_OPSTAT.RESULT. -/
def resultStatus (r : Nat) : Nat :=
  match r with
  | 0 => 0
  | 1 => stKeyNotExist
  | 2 => stKeyExists
  | 3 => stCapacity
  | _ => stInvalidField

/-- LEXICON_LOAD (R280): insert, or with REPLACE insert or replace, each 64-byte entry.  host: the bytes of the host's buffer. -/
def execLexiconLoad (id host : Nat) (s : State) : Out :=
  lexVendor id 0xC5 (fun c i s =>
    runRecords id i (c.cdw 10) 64 true (fun k s =>
      let s := lexOp (if nbit (c.cdw 11) 0 then 3 else 1) (putOpData (nbits (c.input host) (512 * k) 512) s)
      (s, resultStatus (s.fld LEX_OPSTAT_RESULT))) s) s

/-- Write the nine key bytes of LEX_OPKEY. -/
def putOpKey (v : Nat) (s : State) : State :=
  ((s.setFld LEX_OPKEY_KEY (nbits v 0 32) 0).setFld LEX_OPKEY_KEY (nbits v 32 32) 1).setFld LEX_OPKEY_KEY (nbits v 64 8) 2

/-- LEXICON_REMOVE (R280): delete each key; its bytes 9 to 15 are ignored. -/
def execLexiconRemove (id host : Nat) (s : State) : Out :=
  lexVendor id 0xC9 (fun c i s =>
    runRecords id i (c.cdw 10) 16 true (fun k s =>
      let s := lexOp 4 (putOpKey (nbits (c.input host) (128 * k) 72) s)
      (s, resultStatus (s.fld LEX_OPSTAT_RESULT))) s) s

/-- SEGMENT_TABLE_WRITE (R280): heap slots from CDW10 on. -/
def execSegmentTableWrite (id host : Nat) (s : State) : Out :=
  lexVendor id 0xCD (fun c i s =>
    runRecords id i (c.cdw 11) 64 true (fun k s =>
      if 2 ^ 32 ≤ c.cdw 10 + k then (s, stInvalidField) else
      let s := lexOp 6 (putOpData (nbits (c.input host) (512 * k) 512) (s.setFld LEX_OPKEY_KEY (c.cdw 10 + k) 0))
      (s, resultStatus (s.fld LEX_OPSTAT_RESULT))) s) s

/-- Read one bucket with four operations 5 and send its 256 bytes; an empty way reads as zeros. -/
def readBucket (id b k : Nat) (s : State) : State × Nat :=
  if s.lexB ≤ b then (s, stInvalidField) else
  let (s, v) := (List.range 4).foldl (fun (x : State × Nat) w =>
    let s := lexOp 5 (putOpLoc (some (b, w)) x.1)
    (s, x.2 + (if s.fld LEX_OPSTAT_RESULT = 0 then s.opData else 0) * 2 ^ (512 * w))) (s, 0)
  (dataOut id (256 * k) 256 v false s, 0)

/-- LEXICON_READ (R280): buckets from CDW10 on. -/
def execLexiconRead (id : Nat) (s : State) : Out :=
  lexVendor id 0xCA (fun c i s => runRecords id i (c.cdw 11) 256 false (fun k s => readBucket id (c.cdw 10 + k) k s) s) s

/-- LEXICON_GEOMETRY (R280): BUCKETLOG through LEX_GEOM and LEX_COMMIT; DW0 is the number of heap slots. -/
def execLexiconGeometry (id : Nat) (s : State) : Out :=
  lexVendor id 0xCC (fun c i s =>
    let v := nbits (c.cdw 10) 0 5
    if s.flag LEX_COUNT_ENTRIES then fwFinish i stSequence 0 s
    else if v < 16 || 22 < v then fwFinish i stInvalidField 0 s
    else vendDone id i 0 0 1 (commitBlk 41 ((s.setFld LEX_CSTAT_REFUSED 0).setFld LEX_GEOM_BUCKETLOG v))) s

end Sys2Proof.Machine
end

