-- ==== Sys2Proof/Machine/Evr.lean ====
section
/-! DEFINITION. Family: the event router EVR, the mailboxes MBX, the cores' watchdogs and lockstep comparison (spec/18_cores_events_mailboxes.md). -/

namespace Sys2Proof.Machine

/-! ### Claims (R381) -/

/-- Vector v of core n is pending. -/
def State.pendingVec (s : State) (n v : Nat) : Bool :=
  if v < 32 then nbit (s.fld EVR_PEND_LO_VEC n) v else nbit (s.fld EVR_PEND_HI_VEC n) (v - 32)

/-- Vector v of core n is in service. -/
def State.inServiceVec (s : State) (n v : Nat) : Bool :=
  if v < 32 then nbit (s.fld EVR_INSV_LO_VEC n) v else nbit (s.fld EVR_INSV_HI_VEC n) (v - 32)

/-- The priority of a pending vector: the highest PRIO that raised it since it was last claimed. -/
def State.vecPrio (s : State) (n v : Nat) : Nat := mget 0 s.evr.prio (n * 64 + v)

/-- The priority that a claim on core n must exceed: mevthresh and every vector in service. -/
def State.claimFloor (s : State) (n : Nat) : Nat :=
  (List.range 64).foldl (fun m v => if s.inServiceVec n v then max m (mget 0 s.evr.insvPrio (n * 64 + v)) else m) (s.core n).mevthresh

/-- Vector v of core n is claimable. -/
def State.claimable (s : State) (n v : Nat) : Bool := s.pendingVec n v && !s.inServiceVec n v && s.claimFloor n < s.vecPrio n v

/-- The vector that a claim takes: of highest priority, the lower number first. -/
def State.claimNext (s : State) (n : Nat) : Option Nat :=
  (List.range 64).foldl (fun b v =>
    if s.claimable n v then
      match b with
      | some w => if s.vecPrio n w < s.vecPrio n v then some v else b
      | none => some v
    else b) none

/-- Set or clear vector v's pending and in-service bits. -/
def setVec (n v : Nat) (pend insv : Bool) (s : State) : State :=
  let put (x : Nat) (b : Nat) (on : Bool) : Nat := if on then x ||| 2 ^ b else x - (x &&& 2 ^ b)
  if v < 32 then (s.setFld EVR_PEND_LO_VEC (put (s.fld EVR_PEND_LO_VEC n) v pend) n).setFld EVR_INSV_LO_VEC (put (s.fld EVR_INSV_LO_VEC n) v insv) n
  else (s.setFld EVR_PEND_HI_VEC (put (s.fld EVR_PEND_HI_VEC n) (v - 32) pend) n).setFld EVR_INSV_HI_VEC (put (s.fld EVR_INSV_HI_VEC n) (v - 32) insv) n

/-- A read of mevclaim by core n: its value, and the vector's move from pending into service. -/
def claim (n : Nat) (s : State) : State × Nat :=
  match s.claimNext n with
  | none => (s, 0)
  | some v =>
    let p := s.vecPrio n v
    let s := setVec n v false true s
    ({ s with evr.prio := mdel s.evr.prio (n * 64 + v), evr.insvPrio := mput 0 s.evr.insvPrio (n * 64 + v) p }, 64 + v)

/-- A write of vector v to mevcomplete by core n: ignored where v is not in service. -/
def complete (n v : Nat) (s : State) : State :=
  if s.inServiceVec n v then { setVec n v (s.pendingVec n v) false s with evr.insvPrio := mdel s.evr.insvPrio (n * 64 + v) } else s

/-- mip of core n (R376): machine software 3, machine timer 7, machine external 11, watchdog warning 16. -/
def State.mip (s : State) (n : Nat) : Nat :=
  (if s.flag EVR_CORE_MSIP n then 2 ^ 3 else 0) +
  (if s.pair EVR_MTIMECMP_LO_CMP EVR_MTIMECMP_HI_CMP n ≤ s.mtime then 2 ^ 7 else 0) +
  (if (s.claimNext n).isSome then 2 ^ 11 else 0) +
  (if s.flag EVR_WDOG_WARNED n then 2 ^ 16 else 0)

/-! ### Raises -/

/-- EVENT_RAISE (R380): source src is raised, its record carrying payload. -/
def execEventRaise (src : Fin 640) (payload : DWord) (s : State) : Out := .next (raise src payload.toNat s)

/-- SOFTWARE_RAISE (R383): EVR_SWRAISE.GO. -/
def execSoftwareRaise (m : MasterId) (index : Fin 64) (s : State) : Out := .next (regCmd m EVR_SWRAISE 0 (raise (EV_EVR_SW index) 0) s)

/-- MACHINE_TIMER_MATCH (R376): machine time reaches EVR_MTIMECMP of core n; code 7 is then asserted in mip. -/
def execMachineTimerMatch (n : CoreId) (s : State) : Out :=
  .next (if s.mode = mDORMANT then s else s.pass (s.pair EVR_MTIMECMP_LO_CMP EVR_MTIMECMP_HI_CMP n - s.mtime))

/-! ### Watchdog and lockstep (R377, R378) -/

/-- A pair halts by lockstep (1) or watchdog (2): EVR_CORE, and what JDP shows (R426). -/
def faultHalt (n c : Nat) (s : State) : State :=
  let s := ((haltCore n c s).setFld JDP_CSTAT_HALTED 1 n).setFld JDP_CSTAT_CAUSE 6 n
  modCore n (fun k => { k with wfi := false, stepping := false }) (s.setFld JDP_CSTAT_INDEX 0 n)

/-- A mismatch of pair n (R377): halt, the two events and the collector's line n. -/
def lockstep (n : Nat) (s : State) : State := occur n 0 n 3 (raise EV_CORE_HALTED 0 (raise EV_CORE_LOCKSTEP 0 (faultHalt n 1 s)))

/-- LOCKSTEP_MISMATCH (R377): while the pair runs; a split pair is not compared (R426). -/
def execLockstepMismatch (n : CoreId) (s : State) : Out :=
  .next (if s.coreRuns n && !nbit (s.fld JDP_STAT_SPLIT) n then lockstep n s else s)

/-- The watchdog of core n counts (R378): PERIOD is not 0 and the pair is not halted; it runs in WFI. -/
def State.wdogRuns (s : State) (n : Nat) : Bool := s.flag EVR_WDOG_PERIOD n && s.coreRuns n

/-- A restart of the watchdog: both marks of its earlier expiries clear. -/
def wdogKick (n : Nat) (s : State) : State := (s.setFld EVR_WDOG_WARNED 0 n).setFld EVR_WDOG_EXPIRED 0 n

/-- WATCHDOG_WARNING (R378): the first expiry asserts code 16 in mip. -/
def execWatchdogWarning (n : CoreId) (s : State) : Out :=
  .next (if s.wdogRuns n && !s.flag EVR_WDOG_WARNED n then raise EV_CORE_WDOGWARN 0 (s.setFld EVR_WDOG_WARNED 1 n) else s)

/-- WATCHDOG_EXPIRY (R378): the second expiry halts the pair. -/
def execWatchdogExpiry (n : CoreId) (s : State) : Out :=
  .next (if s.wdogRuns n && s.flag EVR_WDOG_WARNED n then
    occur (8 + n) 0 n 3 (raise EV_CORE_HALTED 0 (raise EV_CORE_WDOG 0 (faultHalt n 2 (s.setFld EVR_WDOG_EXPIRED 1 n))))
  else s)

/-- A write of EVR_WDOG.PERIOD. -/
def wdogPeriod (n p : Nat) (s : State) : State := wdogKick n (s.setFld EVR_WDOG_PERIOD p n)

/-- WATCHDOG_PERIOD_WRITE (R378). -/
def execWatchdogPeriodWrite (m : MasterId) (n : CoreId) (period : BitVec 16) (s : State) : Out :=
  .next (regCmd m EVR_WDOG n (wdogPeriod n period.toNat) s)

/-! ### Mailboxes (R384–R386) -/

/-- An access by master m to a register of mailbox k (offset from the start of MBX's window), unless the mailbox's domain is down (R386). -/
def mbxAccess (m k off : Nat) (f : State → State × MemR) (s : State) : State × MemR :=
  if s.domOn (s.fld MBX_CFG_DOMAIN k) then f s
  else ((raise EV_MBX_PWRERR 0 s).emit (.busError m (0x41600000 + off)), .err 6)

/-- A write of MBX_SENDLO(k). -/
def mbxSendLo (m k v : Nat) (s : State) : State × MemR :=
  mbxAccess m k (0x1000 + 16 * k) (fun s =>
    if 9 < m then (s.emit (.busError m (0x41601000 + 16 * k)), .err 4)
    else ({ s with mbx.sendLatch := mput 0 s.mbx.sendLatch m (BitVec.ofNat 32 v) }, .ok 0)) s

/-- A write of MBX_SENDHI(k): the post, or its refusal where the mailbox is full. -/
def mbxSendHi (m k v : Nat) (s : State) : State × MemR :=
  mbxAccess m k (0x1004 + 16 * k) (fun s =>
    if 9 < m then (s.emit (.busError m (0x41601004 + 16 * k)), .err 4)
    else if (mfind s.mbx.msgs k).isSome then
      ((raise EV_MBX_REJECT 0 (s.inc MBX_REJCNT_COUNT)).emit (.busError m (0x41601004 + 16 * k)), .err 5)
    else
      let msg := (mget 0 s.mbx.sendLatch m).toNat + nbits v 0 8 * 2 ^ 32 + nbits v 16 16 * 2 ^ 40
      (raise (EV_MBX_MSG k) 0 (mbxFull { s with mbx.msgs := mins s.mbx.msgs k msg }), .ok 0)) s

/-- MBX_PEEK(k) as it reads: PTR bits 39:32, VALID, TAG. -/
def State.mbxPeek (s : State) (k : Nat) : Nat :=
  match mfind s.mbx.msgs k with
  | some msg => nbits msg 32 8 + 2 ^ 8 + nbits msg 40 16 * 2 ^ 16
  | none => 0

/-- A read of MBX_RECV(k): it takes the message. -/
def mbxRecv (m k : Nat) (s : State) : State × MemR :=
  mbxAccess m k (0x1008 + 16 * k) (fun s =>
    match mfind s.mbx.msgs k with
    | some msg =>
      let v := s.mbxPeek k
      let s := { s with mbx.rlatch := mput 0 s.mbx.rlatch m (BitVec.ofNat 32 msg), mbx.msgs := mdel s.mbx.msgs k }
      (raise (EV_MBX_EMPTY k) 0 (mbxFull s), .ok v)
    | none => (s, .ok 0)) s

/-- A register access of master m at address a that the access map allows. -/
def mapped1 (m : Nat) (ty : Acc) (a : Nat) (f : State → State × MemR) (s : State) : State × MemR :=
  if s.mapAllows m ty a then f s else (accessDenied m ty a s, .err 0)

/-- MBX_SENDLO (R384). -/
def execMbxSendlo (m : MasterId) (k : Fin 64) (ptr : Word) (s : State) : Out :=
  .next (mapped1 m .write (0x41601000 + 16 * k) (mbxSendLo m k ptr.toNat) s).1

/-- MBX_SENDHI (R384). -/
def execMbxSendhi (m : MasterId) (k : Fin 64) (ptr : Byte) (tag : BitVec 16) (s : State) : Out :=
  .next (mapped1 m .write (0x41601004 + 16 * k) (mbxSendHi m k (ptr.toNat + tag.toNat * 2 ^ 16)) s).1

/-- MBX_RECV (R385): the word read is answered to the master. -/
def execMbxRecv (m : MasterId) (k : Fin 64) (s : State) : Out :=
  .next (answerRead m (0x41601008 + 16 * k) (mapped1 m .read (0x41601008 + 16 * k) (mbxRecv m k) s))

end Sys2Proof.Machine
end

