-- ==== Sys2Proof/Machine/Csr.lean ====
section
/-! DEFINITION. The cores' registers and CSRs (R375, R376): what a read gives and what a write does.  The fields of the standard CSRs are those of the RISC-V privileged architecture with machine and user modes only. -/

namespace Sys2Proof.Machine

/-- General register r of a core; x0 is 0. -/
def Core.gpr (c : Core) (r : Nat) : Nat := if r = 0 then 0 else (mget 0 c.x r).toNat

/-- Write general register r; a write of x0 is discarded. -/
def Core.setGpr (c : Core) (r v : Nat) : Core := if r = 0 then c else { c with x := mput 0 c.x r (BitVec.ofNat 64 v) }

/-- Write register r of core n. -/
def setX (n r v : Nat) (s : State) : State := modCore n (fun c => c.setGpr r v) s

/-- mstatus as it reads: MIE, MPIE, MPP, MPRV, TW; UXL is 2. -/
def Core.mstatus (c : Core) : Nat :=
  b2n c.mstatusMIE * 2 ^ 3 + b2n c.mstatusMPIE * 2 ^ 7 + (if c.mstatusMPPU then 0 else 3) * 2 ^ 11 + b2n c.mstatusMPRV * 2 ^ 17 +
  b2n c.mstatusTW * 2 ^ 21 + 2 * 2 ^ 32

/-- The interrupts that mie can enable: codes 3, 7, 11, 16. -/
def mieMask : Nat := 2 ^ 3 + 2 ^ 7 + 2 ^ 11 + 2 ^ 16

/-- A CSR of the performance counters that reads 0 and ignores writes (R376). -/
def hpmCsr (a : Nat) : Bool := (0xB03 ≤ a && a ≤ 0xB1F) || (0x323 ≤ a && a ≤ 0x33F)

/-- The CSR exists (R375, R376). -/
def csrExists (a : Nat) : Bool :=
  hpmCsr a || [0xF11, 0xF12, 0xF13, 0xF14, 0x300, 0x301, 0x304, 0x305, 0x306, 0x320, 0x340, 0x341, 0x342, 0x343, 0x344, 0xB00, 0xB02,
    0xFC0, 0xFC1, 0xFC2, 0x7C0, 0x7C1, 0x7C2].contains a

/-- A read of CSR a by core n; it claims a vector where a is mevclaim (R381). -/
def csrRead (n a : Nat) (s : State) : State × Nat :=
  let c := s.core n
  if a = 0xFC0 then claim n s
  else (s,
    if a = 0xF13 then 0x723200B0
    else if a = 0xF14 then n
    else if a = 0x300 then c.mstatus
    else if a = 0x301 then 0x8000000000101105
    else if a = 0x304 then c.mie.toNat
    else if a = 0x305 then c.mtvec.toNat
    else if a = 0x306 then c.mcounteren.toNat
    else if a = 0x320 then c.mcountinhibit.toNat
    else if a = 0x340 then c.mscratch.toNat
    else if a = 0x341 then c.mepc.toNat
    else if a = 0x342 then c.mcause.toNat
    else if a = 0x343 then c.mtval.toNat
    else if a = 0x344 then s.mip n
    else if a = 0xB00 then c.mcycle.toNat
    else if a = 0xB02 then c.minstret.toNat
    else if a = 0xFC1 then s.fld EVR_CORE_ROLE n
    else if a = 0xFC2 then c.mfaultinfo
    else if a = 0x7C1 then c.mevthresh
    else 0)

/-- A write of mstatus.  MPP holds 0 or 3; what a write of 1 or 2 leaves is free. -/
def writeMstatus (n v : Nat) (s : State) : State :=
  let mpp := nbits v 11 2
  let (f, s) := if mpp = 1 || mpp = 2 then s.fresh else (mpp, s)
  modCore n (fun c => { c with
    mstatusMIE := nbit v 3, mstatusMPIE := nbit v 7, mstatusMPRV := nbit v 17, mstatusTW := nbit v 21
    mstatusMPPU := if mpp = 0 then true else if mpp = 3 then false else f % 2 = 0 }) s

/-- A write of mtvec: direct (0) or vectored (1); what a write of another MODE leaves is free. -/
def writeMtvec (n v : Nat) (s : State) : State :=
  let (f, s) := if 2 ≤ v % 4 then s.fresh else (v % 4, s)
  modCore n (fun c => { c with mtvec := BitVec.ofNat 64 (v / 4 * 4 + f % 2) }) s

/-- A write of CSR a by core n; read-only CSRs ignore it. -/
def csrWrite (n a v : Nat) (s : State) : State :=
  let w := BitVec.ofNat 64 v
  if a = 0x300 then writeMstatus n v s
  else if a = 0x305 then writeMtvec n v s
  else if a = 0x7C0 then complete n (v % 64) s
  else if a = 0x7C2 then wdogKick n s
  else modCore n (fun c =>
    if a = 0x304 then { c with mie := BitVec.ofNat 64 (v &&& mieMask) }
    else if a = 0x306 then { c with mcounteren := BitVec.ofNat 64 (v % 2 ^ 32) }
    else if a = 0x320 then { c with mcountinhibit := BitVec.ofNat 64 (v &&& 5) }
    else if a = 0x340 then { c with mscratch := w }
    else if a = 0x341 then { c with mepc := BitVec.ofNat 64 (v / 2 * 2) }
    else if a = 0x342 then { c with mcause := w }
    else if a = 0x343 then { c with mtval := w }
    else if a = 0xB00 then { c with mcycle := w }
    else if a = 0xB02 then { c with minstret := w }
    else if a = 0x7C1 then { c with mevthresh := v % 16 }
    else c) s

/-- Bits 11:10 of a CSR number say that it is read-only. -/
def csrRo (a : Nat) : Bool := nbits a 10 2 = 3

end Sys2Proof.Machine
end

