-- ==== Sys2Proof/Machine/Monitor.lean ====
section
/-! DEFINITION. Family: the performance monitor PMU, and JDP's control of the cores as far as it needs no bus access (spec/21_perf_debug.md). -/

namespace Sys2Proof.Machine

/-! ### PMU commands (R417, R418) -/

/-- The bytes of a snapshot as a little-endian number: machine time, TCK_COUNT_LO, the number, and the 256 counters with their PMU_OVF bits. -/
def State.snapshot (s : State) : Nat :=
  let no := s.pmu.snapNo + (if Config.snapFromOne then 1 else 0)
  (List.range 256).foldl (fun v i =>
    v + (s.pair PMU_CNT_LO_COUNT PMU_CNT_HI_COUNT i + (if nbit (s.fld PMU_OVF_OVF (i / 32)) (i % 32) then 2 ^ 63 else 0)) * 2 ^ (8 * (16 + 8 * i)))
    (s.mtime % 2 ^ 64 + s.fld TCK_COUNT_LO_COUNT * 2 ^ 64 + no % 2 ^ 32 * 2 ^ 96)

/-- SNAP: capture, unless a snapshot is being written. -/
def pmuSnap (s : State) : State :=
  if s.flag PMU_STAT_SNAPBUSY then s.setFld PMU_STAT_SNAPREF 1
  else { s.setFld PMU_STAT_SNAPBUSY 1 with pmu.snap := s.snapshot, pmu.snapNo := s.pmu.snapNo + 1 }

/-- CLEAR: every counter and every PMU_OVF bit. -/
def pmuClear (s : State) : State :=
  let s := (List.range 256).foldl (fun s i => s.setPair PMU_CNT_LO_COUNT PMU_CNT_HI_COUNT 0 i) s
  (List.range 8).foldl (fun s w => s.setFld PMU_OVF_OVF 0 w) s

def pmuFreeze (s : State) : State := s.setFld PMU_GCTL_FROZEN 1
def pmuUnfreeze (s : State) : State := s.setFld PMU_GCTL_FROZEN 0

/-- A write of PMU_GCMD: SNAP, CLEAR, then UNFREEZE and FREEZE (R418). -/
def pmuCmd (v : Nat) (s : State) : State :=
  let s := if nbit v 2 then pmuSnap s else s
  let s := if nbit v 3 then pmuClear s else s
  let s := if nbit v 1 then pmuUnfreeze s else s
  if nbit v 0 then pmuFreeze s else s

/-- FREEZE (R417). -/
def execFreeze (m : MasterId) (s : State) : Out := .next (regCmd m PMU_GCMD 0 pmuFreeze s)

/-- UNFREEZE (R417). -/
def execUnfreeze (m : MasterId) (s : State) : Out := .next (regCmd m PMU_GCMD 0 pmuUnfreeze s)

/-- SNAP (R417). -/
def execSnap (m : MasterId) (s : State) : Out := .next (regCmd m PMU_GCMD 0 pmuSnap s)

/-- CLEAR (R417). -/
def execClear (m : MasterId) (s : State) : Out := .next (regCmd m PMU_GCMD 0 pmuClear s)

/-- The snapshot's bytes are written, 16 at a time, by master 26 from PMU_SNAPBASE: how the writes end. -/
def snapWrite (s : State) : State × MemR :=
  let base := s.pair PMU_SNAPBASE_LO_ADDR PMU_SNAPBASE_HI_ADDR / 64 * 64
  writeParts (fun s k => memWrite s 26 .write (base + 16 * k) 16 (s.pmu.snap / 2 ^ (128 * k) % 2 ^ 128)) (List.range 129) s

/-- SNAPSHOT_DONE (R417): the snapshot is written, or stays incomplete at a write that ends with an error response. -/
def execSnapshotDone (s : State) : Out :=
  if !s.flag PMU_STAT_SNAPBUSY then .next s else
  match snapWrite s with
  | (_, .wait) => .next s
  | (s, .ok _) => .next (raise EV_PMU_SNAP 0 { s.setFld PMU_STAT_SNAPBUSY 0 with pmu.snap := 0 })
  | (s, .err _) => .next { (s.setFld PMU_STAT_SNAPBUSY 0).setFld PMU_STAT_SNAPREF 1 with pmu.snap := 0 }

/-! ### Overflows and samples (R416, R417, R420) -/

/-- Record a sampled PC. -/
def pmuSample (pc : Nat) (s : State) : State :=
  let s := if s.flag PMU_SPC_HI_VALID then s.setFld PMU_STAT_SAMPLEOVF 1 else s
  raise EV_PMU_SAMPLE 0 (((s.setFld PMU_SPC_LO_PC pc).setFld PMU_SPC_HI_PC (pc / 2 ^ 32)).setFld PMU_SPC_HI_VALID 1)

/-- COUNTER_OVERFLOW (R416, R417, R420): an overflow of counter i is reported; pc is that of an instruction which the sampled core, where it runs, retires
within the next 12. -/
def execCounterOverflow (i : Fin 256) (pc : Addr) (s : State) : Out :=
  if !s.pmu.due.contains i.val then .next s else
  let s := { s with pmu.due := s.pmu.due.erase i.val }
  let n := s.fld PMU_SAMPLE_CORE
  let at' := if s.coreRuns n && !(s.core n).wfi then pc.toNat else (s.core n).pc.toNat % 2 ^ 40
  let s := if s.flag PMU_SEL_SAMPLE i then pmuSample at' s else s
  if s.flag PMU_SEL_OVFEV i then
    let s := raise EV_PMU_OVF i s
    .next (if s.flag PMU_GCTL_FRZOVF then pmuFreeze s else s)
  else .next s

/-- SAMPLE_PC_READ (R420): a read of PMU_SPC_HI answers it and clears VALID. -/
def execSamplePcRead (m : MasterId) (s : State) : Out :=
  .next (answerRead m (0x40000000 + PMU_SPC_HI.off) (mapped1 m .read (0x40000000 + PMU_SPC_HI.off)
    (fun s => (s.setFld PMU_SPC_HI_VALID 0, .ok (s.reg PMU_SPC_HI).toNat)) s))

/-! ### Core control (R423–R426) -/

/-- A command that does not fit the core's state is ignored. -/
def jdpRerr (n : Nat) (s : State) : State := s.setFld JDP_CSTAT_RERR 1 n

/-- A pair halts for JDP with CAUSE c and INDEX i; EV_JDP_HALT names the core and CAUSE. -/
def jdpHalt (n c i : Nat) (s : State) : State :=
  let s := (((haltCore n 3 s).setFld JDP_CSTAT_HALTED 1 n).setFld JDP_CSTAT_CAUSE c n).setFld JDP_CSTAT_INDEX i n
  let s := modCore n (fun k => { k with stepping := false, skipBp := c = 3 }) s
  raise EV_CORE_HALTED 0 (raise EV_JDP_HALT (n + c * 8) s)

/-- HALT (R423). -/
def coreHalt (n : Nat) (s : State) : State := if s.coreRuns n then jdpHalt n 1 0 s else jdpRerr n s

/-- A halted pair may go on: one that lockstep or the watchdog halted only once it is split (R426). -/
def State.mayResume (s : State) (n : Nat) : Bool :=
  s.flag JDP_CSTAT_HALTED n && (s.fld JDP_CSTAT_CAUSE n != 6 || nbit (s.fld JDP_STAT_SPLIT) n)

/-- The pair runs again. -/
def coreGo (n : Nat) (s : State) : State := clearDebug n ((s.setFld EVR_CORE_HALTED 0 n).setFld EVR_CORE_HALTCAUSE 0 n)

/-- RESUME (R423, R426). -/
def coreResume (n : Nat) (s : State) : State := if s.mayResume n then raise EV_JDP_RESUME 0 (coreGo n s) else jdpRerr n s

/-- STEP (R423): the pair runs and is to halt after one instruction. -/
def coreStep (n : Nat) (s : State) : State :=
  if s.mayResume n then modCore n (fun k => { k with stepping := true, wfi := false }) (coreGo n s) else jdpRerr n s

/-- SPLIT (R426): comparison of a halted pair stops. -/
def coreSplit (n : Nat) (s : State) : State :=
  if s.flag JDP_CSTAT_HALTED n then s.setFld JDP_STAT_SPLIT (s.fld JDP_STAT_SPLIT ||| 2 ^ n) else s

/-- IINV (R423), FENCE.I: the instruction cache is empty. -/
def coreIinv (n : Nat) (s : State) : State := modCore n (fun k => { k with icache := [] }) s

/-- A write of JDP_CCTL(n): STEPIE and EBRK, then the commands of the bits written 1. -/
def coreControl (n v : Nat) (s : State) : State :=
  let s := (s.setFld JDP_CCTL_STEPIE (nbits v 8 1) n).setFld JDP_CCTL_EBRK (nbits v 9 1) n
  let s := if nbit v 4 then coreIinv n s else s
  let s := if nbit v 0 then coreHalt n s else s
  let s := if nbit v 3 then coreSplit n s else s
  let s := if nbit v 1 then coreResume n s else s
  if nbit v 2 then coreStep n s else s

/-- HALT (R423). -/
def execHalt (m : MasterId) (n : CoreId) (s : State) : Out := .next (regCmd m JDP_CCTL n (coreHalt n) s)

/-- RESUME_CORE (R423). -/
def execResumeCore (m : MasterId) (n : CoreId) (s : State) : Out := .next (regCmd m JDP_CCTL n (coreResume n) s)

/-- SPLIT (R426). -/
def execSplit (m : MasterId) (n : CoreId) (s : State) : Out := .next (regCmd m JDP_CCTL n (coreSplit n) s)

/-- IINV (R423). -/
def execIinv (m : MasterId) (n : CoreId) (s : State) : Out := .next (regCmd m JDP_CCTL n (coreIinv n) s)

/-! ### Register access (R425) -/

/-- JDP_RDATA(n) as one number. -/
def State.rdata (s : State) (n : Nat) : Nat := s.pair JDP_RDATA_LO_DATA JDP_RDATA_HI_DATA n

/-- The register access that JDP_RSEL(n) selects; differ: the two cores of the pair hold different values. -/
def coreRegister (n : Nat) (differ : Bool) (s : State) : State :=
  let num := s.fld JDP_RSEL_NUM n
  let csr := s.flag JDP_RSEL_CSR n
  let put (x : State × Nat) : State :=
    if differ && !nbit (s.fld JDP_STAT_SPLIT) n then lockstep n x.1 else x.1.setPair JDP_RDATA_LO_DATA JDP_RDATA_HI_DATA x.2 n
  if !s.flag JDP_CSTAT_HALTED n then jdpRerr n s
  else if csr then
    if !csrExists num then jdpRerr n s
    else if s.flag JDP_RSEL_WRITE n then (if csrRo num then s else csrWrite n num (s.rdata n) s)
    else put (csrRead n num s)
  else if num < 32 then (if s.flag JDP_RSEL_WRITE n then setX n num (s.rdata n) s else put (s, (s.core n).gpr num))
  else if num = 32 then
    if s.flag JDP_RSEL_WRITE n then modCore n (fun k => { k with pc := BitVec.ofNat 64 (s.rdata n / 2 * 2), skipBp := false }) s
    else put (s, (s.core n).pc.toNat)
  else jdpRerr n s

/-- A write of JDP_RSEL(n). -/
def rselWrite (n v : Nat) (differ : Bool) (s : State) : State :=
  let s := s.setReg JDP_RSEL (BitVec.ofNat 32 v) n
  if nbit v 31 then coreRegister n differ s else s

/-- CORE_REGISTER_ACCESS (R425): JDP_RSEL(n) is written with GO. -/
def execCoreRegisterAccess (m : MasterId) (n : CoreId) (num : BitVec 12) (csr write differ : Bool) (s : State) : Out :=
  .next (regCmd m JDP_RSEL n (rselWrite n (num.toNat + b2n csr * 2 ^ 12 + b2n write * 2 ^ 13 + 2 ^ 31) differ) s)

end Sys2Proof.Machine
end

