-- ==== Sys2Proof/Machine/Bus.lean ====
section
/-! DEFINITION. The control bus: reads and writes of registers by any master (R9–R12, R18, R75, R385, R419, R449, R450), and the family of its commands. -/

namespace Sys2Proof.Machine

/-! ### Reads -/

/-- Registers whose read of LO latches HI, with the distance from LO to HI and the number of elements. -/
def latchPairs : List (Reg × Reg) :=
  [(TCK_COUNT_LO, TCK_COUNT_HI), (ECC_CWCNT_LO, ECC_CWCNT_HI), (TXE_SEQ_LO, TXE_SEQ_HI), (TXE_NSVALID_LO, TXE_NSVALID_HI), (SKM_HOSTCW_LO, SKM_HOSTCW_HI),
   (SKM_NANDCW_LO, SKM_NANDCW_HI), (STE_LEDSEQ_LO, STE_LEDSEQ_HI), (STE_STRIPES_LO, STE_STRIPES_HI), (HPT_CMDS_LO, HPT_CMDS_HI), (LEX_RETR_LO, LEX_RETR_HI),
   (PLK_MSN_LO, PLK_MSN_HI), (PLK_PEERMSN_LO, PLK_PEERMSN_HI), (CIP_BLK_LO, CIP_BLK_HI), (EVR_MTIME_LO, EVR_MTIME_HI), (PMU_CNT_LO, PMU_CNT_HI)]

/-- Word of register r that its plain fields do not hold: what a read gives, and what it does. -/
def specialRead (m : MasterId) (r : Reg) (i j off : Nat) (s : State) : Option (State × MemR) :=
  let w := s.reg r i j
  let is (x : Reg) : Bool := r.off = x.off
  let ok (v : Nat) : Option (State × MemR) := some (s, .ok v)
  match latchPairs.find? fun p => is p.1 with
  | some p => some ({ s with latch := mput 0 s.latch (p.2.at i j 0) (s.reg p.2 i j) }, .ok w.toNat)
  | none =>
  if latchPairs.any fun p => is p.2 then ok (mget 0 s.latch off).toNat
  else if is CIP_STAT then ok (putField w CIP_STAT_FUSED s.fused).toNat
  else if is SRM_STAT then ok (putField w SRM_STAT_TESTACT (s.fld SRM_TEST_ENA)).toNat
  else if is BOT_ID then ok (putField w BOT_ID_GRADE (b2n Config.gradeX)).toNat
  else if is PWR_VTRIM then ok Config.vtrim.toNat
  else if is PWR_TEMP then ok (putField w PWR_TEMP_TRIP s.trip).toNat
  else if is PWR_VCLR then ok (s.reg PWR_VSET i).toNat
  else if is FLT_CAUSE then ok s.causes
  else if is FLT_HIST3 then some ({ s with flt.unread := mput false s.flt.unread i false }, .ok w.toNat)
  else if is PMU_SPC_HI then some (s.setFld PMU_SPC_HI_VALID 0, .ok w.toNat)
  else if is MBX_RLATCH then ok (mget 0 s.mbx.rlatch m).toNat
  else if is MBX_RECV then some (mbxRecv m i s)
  else if is MBX_PEEK then some (mbxAccess m i (0x100C + 16 * i) (fun s => (s, .ok (s.mbxPeek i))) s)
  else if is MBX_SENDLO then some (mbxAccess m i (0x1000 + 16 * i) (fun s => (s, .ok 0)) s)
  else if is MBX_SENDHI then some (mbxAccess m i (0x1004 + 16 * i) (fun s => (s, .ok 0)) s)
  else if is FCH_TRKDATA0 then ok (s.trkVec i (s.fld FCH_TRKIDX_DIE i) (s.fld FCH_TRKIDX_BLOCK i) % 2 ^ 32)
  else if is FCH_TRKDATA1 then ok (s.trkVec i (s.fld FCH_TRKIDX_DIE i) (s.fld FCH_TRKIDX_BLOCK i) / 2 ^ 32)
  else if is PMU_THR then ok (if i < 192 then (putField w PMU_THR_N 0).toNat else w.toNat)
  else none

/-- A user-mode load of the PMU window is answered with the register only for the counter groups and PMU_OVF, and only to a core that PMU_USER
names (R419). -/
def State.pmuReadable (s : State) (m off : Nat) : Bool :=
  nbit (s.fld PMU_USER_READ) m && ((0x1901000 ≤ off && off < 0x1902000) || (PMU_OVF.off ≤ off && off < PMU_OVF.off + 32))

/-- The PMU window. -/
def inPmu (off : Nat) : Bool := 0x1900000 ≤ off && off < 0x1A00000

/-- The offset that an offset of a block's committed-value view stands for (R75). -/
def viewOf (b off : Nat) : Option Nat :=
  let w := blk b
  let d := if w.ch.isSome then 0x8000 else 0x80000
  if hasRws b && w.base + d ≤ off then some (off - d) else none

/-- Read the register word at an aligned offset that the access map allows. -/
def regRead (m : MasterId) (user : Bool) (off : Nat) (s : State) : State × MemR :=
  match blkOf off with
  | none => (accessError m .read (0x40000000 + off) s, .err 4)
  | some b =>
    if inPmu off && user && !s.pmuReadable m off then (s, .ok 0)
    else if !s.blkOn b then
      let (v, s) := s.freshBits 32
      (s, .ok v.toNat)
    else match viewOf b off with
      | some o => (s, .ok (match regAt o with | some (r, i, j, k) => (s.inForce r i j k).toNat | none => 0))
      | none =>
        if off = (cstat b).off then (s, .ok (s.reg (cstat b)).toNat)
        else match regAt off with
          | none => (s, .ok 0)
          | some (r, i, j, k) => (specialRead m r i j off s).getD (s, .ok (s.reg r i j k).toNat)

/-- An access of n bytes at address a is no aligned word (R10): an error response, which the rules do not make the fault collector record. -/
def wrongSize (m a : Nat) (s : State) : State × MemR := (s.emit (.busError m a), .err 7)

/-- Address a lies in register space (R17). -/
def inRegs (a : Nat) : Bool := 0x40000000 ≤ a && a < 0x44000000

/-- A read by master m of n bytes at address a, of a register or of memory. -/
def busRead (m : MasterId) (user : Bool) (ty : Acc) (a n : Nat) (s : State) : State × MemR :=
  if !inRegs a then memRead s m ty a n
  else if !s.mapAllowsAll m ty a n then (accessDenied m ty a s, .err 0)
  else if 0x41B00000 ≤ a then (accessError m ty a s, .err 4)
  else if n != 4 || a % 4 != 0 then wrongSize m a s
  else regRead m user (a - 0x40000000) s

/-! ### Writes -/

/-- The word that a write of v leaves in a register by its access types (R12, R449): RWB fields change in BOOT only. -/
def writeWord (boot : Bool) (r : Reg) (old v : Word) : Word :=
  let set := r.rw ||| r.rws ||| (if boot then r.rwb else 0)
  (old &&& ~~~(set ||| r.w1c)) ||| (v &&& set) ||| (old &&& r.w1c &&& ~~~v) ||| (v &&& r.w1s)

/-- A plain write: the word by its access types; an error response where an RWB field outside BOOT was to change. -/
def plainWrite (m : Nat) (r : Reg) (i j k : Nat) (v : Word) (s : State) : State × MemR :=
  let old := s.reg r i j k
  let boot : Bool := s.mode = mBOOT
  let v := clampSize r v
  let s := s.setReg r (writeWord boot r old v) i j k
  if !boot && (old ^^^ v) &&& r.rwb != 0 then (accessError m .write (0x40000000 + r.at i j k) s, .err 8) else (s, .ok 0)

/-- Reads of block `blk` of die `die` of channel ch are in flight. -/
def State.blkReads (s : State) (ch die blk : Nat) : Bool :=
  s.tck.jobs.any fun e => e.2.ch = ch && e.2.die = die && (e.2.op = 0 || e.2.op = 1) && 1 ≤ e.2.phase && e.2.phase ≤ 4 && s.rowBlock ch e.2.row = blk

/-- Installed steps of a channel, or an armed one, may refer to its rings. -/
def State.chanBusy (s : State) (ch : Nat) : Bool := !(s.chan ch).prog.isEmpty || (List.range 64).any fun d => (s.die (ch * 64 + d)).armed.isSome

/-- A route entry that is valid names MAC entry i. -/
def State.macUsed (s : State) (i : Nat) : Bool :=
  s.regs.any fun e =>
    HRD_ROUTE0.off ≤ e.1 && e.1 < HRD_ROUTE0.off + 0x20000 && (e.1 - HRD_ROUTE0.off) % 8 = 0 && nbit e.2.toNat 0 &&
    s.fld HRD_ROUTE1_MACIDX ((e.1 - HRD_ROUTE0.off) / 8) = i

/-- A code-flash sector holds a programmed word. -/
def State.sectorUsed (s : State) (sec : Nat) : Bool :=
  let a := 0x10000000 + 4096 * sec
  (s.mem.any fun c => a ≤ c.1 && c.1 < a + 4096) || s.fchk.any fun c => a ≤ c.1 && c.1 < a + 4096

/-- A write that enters an undefined case of spec/ (R6). -/
def badWrite (r : Reg) (i : Nat) (v : Word) (s : State) : Option String :=
  let is (x : Reg) : Bool := r.off = x.off
  let no (c : Bool) (w : String) : Option String := if c then some w else none
  if is TCK_SHADOW then no (nbit (s.fld TCK_DREADY_READY) i) "a shadow row written while its TCK_DREADY bit is set"
  else if is FCH_TRKDATA0 || is FCH_TRKDATA1 then
    no (s.blkReads i (s.fld FCH_TRKIDX_DIE i) (s.fld FCH_TRKIDX_BLOCK i)) "FCH_TRKDATA written while reads to the block are in flight"
  else if is FCH_DRING_LO || is FCH_DRING_HI || is FCH_CRING_LO || is FCH_CRING_HI then
    no (s.reg r i != v && s.chanBusy i) "FCH_DRING or FCH_CRING changed while steps are installed or armed"
  else if is ECC_RRING_LO || is ECC_RRING_HI then
    no (s.reg r != v && s.tck.jobs.any fun e => e.2.client = .direct && e.2.phase != 5) "ECC_RRING changed while reads are in flight"
  else if is HPT_FWRING_LO || is HPT_FWRING_HI then no (s.reg r != v && !s.hpt.fw.isEmpty) "HPT_FWRING changed while firmware entries are outstanding"
  else if is HPT_XFER_LO || is HPT_XFER_HI || is HPT_XOFS || is HPT_XLEN then no (s.flag HPT_XSTAT_BUSY) "HPT_XFER registers written while HPT_XSTAT.BUSY is 1"
  else if is HRD_MAC_LO || is HRD_MAC_HI then no (s.reg r i != v && s.macUsed i) "HRD_MAC changed while valid route entries name it"
  else if is CIP_RING_LO || is CIP_RING_HI then no (s.reg r i != v && 0 < s.cipJobs i) "CIP_RING changed while the channel holds jobs"
  else if is CIP_RING_LOP || is CIP_RING_HIP then no (s.reg r i != v && 0 < s.cipJobs (62 + i)) "CIP_RING changed while the channel holds jobs"
  else if is DRC_DLY then no (!nbit (s.fld DRC_CHCTL_HELD) i) "DRC_DLY written of a channel that is not held"
  else if is CFL_ADDR || is CFL_DATA_LO || is CFL_DATA_HI then no (s.flag CFL_STAT_FWBUSY) "CFL_ADDR or CFL_DATA written while CFL_STAT.FWBUSY is 1"
  else if is CFL_CMD then no (s.flag CFL_STAT_FWBUSY && nbits v.toNat 0 3 != 3) "CFL_CMD written while CFL_STAT.FWBUSY is 1"
  else if is CFL_MODE then
    no ((List.range 32).any fun b => nbit (s.reg r i ^^^ v).toNat b && s.sectorUsed (32 * i + b)) "CFL_MODE changed of a sector that holds programmed words"
  else if is PWR_WAKEENT_LO || is PWR_WAKEENT_HI then
    no (s.pwr.dormEntry && (s.core i).released) "PWR_WAKEENT of a released core written during DORMANT entry"
  else none

/-- A number below n as an index. -/
def finOf (n : Nat) (h : 0 < n) (v : Nat) : Fin n := ⟨v % n, Nat.mod_lt v h⟩

/-- Writes that act beyond their access types: what the commands of their registers do. -/
def specialWrite (m : MasterId) (r : Reg) (i j : Nat) (v : Word) (s : State) : Option (Out × MemR) :=
  let n := v.toNat
  let is (x : Reg) : Bool := r.off = x.off
  let go (o : Out) : Option (Out × MemR) := some (o, .ok 0)
  let st (s : State) : Option (Out × MemR) := some (.next s, .ok 0)
  let ans (x : State × MemR) : Option (Out × MemR) := some (.next x.1, x.2)
  let plain (s : State) : State × MemR := plainWrite m r i j 0 v s
  if is TCK_GCOMMIT then (if nbit n 0 then go (execGlobalCommit m s) else none)
  else if is FCH_DIECTL then
    let p := i * 64 + nbits n 0 6
    let s := if nbit n 8 then modDie s p fun d => { d with resetDue := true } else s
    st (if nbit n 9 then dieRetire p s else s)
  else if is FCH_TRKDATA0 || is FCH_TRKDATA1 then
    let d := s.fld FCH_TRKIDX_DIE i
    let b := s.fld FCH_TRKIDX_BLOCK i
    let old := s.trkVec i d b
    st (trkTouch (setTrk s i d b (if is FCH_TRKDATA0 then old / 2 ^ 32 * 2 ^ 32 + n else n * 2 ^ 32 + old % 2 ^ 32)) i d b)
  else if is TXE_ENTSEL_HI then st (entryWrite (nbits n 16 2) (nbits n 8 7) (n % 256) s)
  else if is SKM_RETIRE then st (if nbit n 31 then skmRetireGo (nbits n 0 11) (nbits n 12 16) s else s)
  else if is STE_LSCLR then st (if nbit n 31 then lsClear (nbits n 0 13) s else s)
  else if is CKP_CTL then
    let s := (plain s).1
    let s := if nbit n 1 then ckpNow s else s
    st (if nbit n 2 then shutdownStart false s else s)
  else if is HPT_CTL then
    let x := plain s
    if nbit n 12 && x.1.hptUp then
      let (w, s) := x.1.fresh
      let (q, s) := s.fresh
      let (f, s) := s.fresh
      some (.next (linkSettle (w % 4) (q % 7) (f % 2 = 1) s), x.2)
    else ans x
  else if is HPT_FWRD then st (fwRetry (plain s).1)
  else if is HPT_FWCPL3 then st (if nbit n 31 then fwComplete (nbits n 0 8) (nbits n 8 3) (nbits n 11 4) (plain s).1 else (plain s).1)
  else if is HPT_XCTL then (if nbit n 31 then go (execFirmwareTransfer m (BitVec.ofNat 12 n) (nbit n 16) s) else none)
  else if is HPT_AEN then
    (if nbit n 31 then go (execAenPost m (finOf 8 (by decide) n) (BitVec.ofNat 8 (nbits n 8 8)) (BitVec.ofNat 8 (nbits n 16 8)) s) else none)
  else if is LEX_OPCTL then st (if nbit n 31 then lexOp (nbits n 0 3) (plain s).1 else (plain s).1)
  else if is CIP_TAIL then go (execCipherTailWrite m (finOf 64 (by decide) i) (BitVec.ofNat 12 n) s)
  else if is CIP_TAILP then go (execCipherTailWrite m (finOf 64 (by decide) (62 + i)) (BitVec.ofNat 12 n) s)
  else if is CIP_FUSECTL then
    (if nbit n 31 && s.mode = mBOOT then go (execFuseProgram m (finOf 4 (by decide) n) s) else none)
  else if is CIP_FUSEDATA then st { s with cip.fuseData := mput 0 s.cip.fuseData i v }
  else if is BPM_ALLOC then st (bpmGroup m i (bpmAlloc m (nbits n 0 19)) s)
  else if (is BPM_RES || is BPM_TARGET) && m.val != i then st (bpmGroup m i id s)
  else if is BPM_OP then st (bpmOpWrite m i v s)
  else if is DMA_GSTAT then st (if nbit n 0 then dmaResume s else s)
  else if is DMA_NSRC_LO || is DMA_NSRC_HI || is DMA_NDST_LO || is DMA_NDST_HI || is DMA_NCNT then
    (if s.flag DMA_CHSTAT_SHADOW i then st (raise EV_DMA_SHADOWBUSY i s) else none)
  else if is DMA_NCTL then
    let s := if nbit n 2 then dmaAbort i s else s
    if nbit n 1 then st (dmaLoad i (nbit n 0) s)
    else if s.flag DMA_CHSTAT_SHADOW i && !nbit n 2 then st (raise EV_DMA_SHADOWBUSY i s)
    else st (s.setFld DMA_NCTL_IRQ (n % 2) i)
  else if is DRC_INIT then st (if nbit n 0 then dramInit s else s)
  else if is DRC_CHCTL then st (dramHold (n % 16) s)
  else if is DRC_DLY then st (dlyWrite i j v s)
  else if is CFL_CMD then (if nbit n 31 then go (cflGoChecked m (nbits n 0 3) s) else none)
  else if is BOT_SWAP then st (if nbit n 31 then botSwap s else s)
  else if is BOT_SEAL then (if nbit n 0 && s.mode = mBOOT then go (execSeal m s) else none)
  else if is EVR_SWRAISE then st (if nbit n 31 then raise (EV_EVR_SW (nbits n 0 6)) 0 s else s)
  else if is EVR_WDOG then st (wdogPeriod i (n % 2 ^ 16) s)
  else if is MBX_SENDLO then ans (mbxSendLo m i n s)
  else if is MBX_SENDHI then ans (mbxSendHi m i n s)
  else if is MBX_RECV then ans (mbxAccess m i (0x1008 + 16 * i) (fun s => (s, .ok 0)) s)
  else if is MBX_PEEK then ans (mbxAccess m i (0x100C + 16 * i) (fun s => (s, .ok 0)) s)
  else if is FLT_CTL then
    let s := (plain s).1
    st (if nbit n 1 then fltHistClear s else s)
  else if is FLT_LINE then st (fltLineClear n s)
  else if is FLT_REACT0 || is FLT_REACT1 then st (fltSettle (plain s).1)
  else if is PWR_PSREQ then st (if nbit n 31 then psRequest (nbits n 0 3) s else (plain s).1)
  else if is PWR_CTL then
    let x := plain s
    if nbit n 0 then
      match execRecoveryRequest m x.1 with
      | .next t => some (.next t, x.2)
      | o => some (o, x.2)
    else ans x
  else if is PWR_VSET then st (voteWrite true m i n s)
  else if is PWR_VCLR then st (voteWrite false m i n s)
  else if is PWR_TEMP then
    let t := nbits n 16 8
    if s.mode = mBOOT then st { s with pwr.trip := some t }
    else if t = s.trip then st s
    else some (.next (accessError m .write (0x40000000 + PWR_TEMP.off) s), .err 8)
  else if is PMU_GCMD then st (pmuCmd n s)
  else if is PMU_THR then st (s.setReg PMU_THR (if i < 192 then putField v PMU_THR_N 0 else v) i)
  else if is JDP_CCTL then st (coreControl i n s)
  else if is JDP_RSEL then st (rselWrite i n false s)
  else none

/-- Write the register word at an aligned offset that the access map allows. -/
def regWrite (m : MasterId) (user : Bool) (off : Nat) (v : Word) (s : State) : Out × MemR :=
  match blkOf off with
  | none => (.next (accessError m .write (0x40000000 + off) s), .err 4)
  | some b =>
    if (inPmu off && user) || !s.blkOn b || (viewOf b off).isSome then (.next s, .ok 0)
    else if hasRws b && off = (blk b).base + 0xFF0 then (.next (if v.toNat % 2 = 1 then commitBlk b s else s), .ok 0)
    else match regAt off with
      | none => (.next s, .ok 0)
      | some (r, i, j, k) =>
        match badWrite r i (clampSize r v) s with
        | some w => (.fault (.undefinedCase w), .ok 0)
        | none =>
          match specialWrite m r i j v s with
          | some x => x
          | none =>
            let x := plainWrite m r i j k v s
            (.next x.1, x.2)

/-- A write by master m of n bytes of v at address a, of a register or of memory. -/
def busWrite (m : MasterId) (user : Bool) (ty : Acc) (a n v : Nat) (s : State) : Out × MemR :=
  if !inRegs a then
    match s.storeUndef m a n with
    | some w => (.fault (.undefinedCase w), .ok 0)
    | none =>
      let x := memWrite s m ty a n v
      (.next x.1, x.2)
  else if !s.mapAllowsAll m ty a n then (.next (accessDenied m ty a s), .err 0)
  else if 0x41B00000 ≤ a then (.next (accessError m ty a s), .err 4)
  else if n != 4 || a % 4 != 0 then
    let x := wrongSize m a s
    (.next x.1, x.2)
  else regWrite m user (a - 0x40000000) (BitVec.ofNat 32 v) s

/-- REGISTER_WRITE (R12, R449): master m writes word v at an offset of register space. -/
def execRegisterWrite (m : MasterId) (off : BitVec 26) (v : Word) (s : State) : Out :=
  (busWrite m false .write (0x40000000 + off.toNat) 4 v.toNat s).1

/-- ILLEGAL_WRITE (R19): a plain store of n bytes of v to boot ROM or code flash; at any other address it is no such command. -/
def execIllegalWrite (m : MasterId) (a : Addr) (n : Fin 65) (v : BitVec 512) (s : State) : Out :=
  .next (if s.region a.toNat = .rom || s.region a.toNat = .flash then (memWrite s m .write a.toNat n v.toNat).1 else s)

/-- UNMAPPED_ACCESS (R18): an access of n bytes outside the address map; at any other address it is no such command. -/
def execUnmappedAccess (m : MasterId) (a : Addr) (n : Fin 65) (write fetch : Bool) (s : State) : Out :=
  .next (if s.region a.toNat = .none then
    (if write then (memWrite s m .write a.toNat n 0).1 else (memRead s m (if fetch then .fetch else .read) a.toNat n).1) else s)

end Sys2Proof.Machine
end

