-- ==== Sys2Proof/Machine/Isa.lean ====
section
/-! DEFINITION. The instructions of the logical cores, RV64IMAC with Zicsr and Zifencei (R375): decoding of 32-bit and 16-bit words, and the arithmetic. -/

namespace Sys2Proof.Machine

/-- Integer operations of the I and M extensions. -/
inductive Alu where
  | add | sub | sll | slt | sltu | xor | srl | sra | or | and
  | mul | mulh | mulhsu | mulhu | div | divu | rem | remu
  deriving DecidableEq, Repr

/-- Atomic operations of the A extension. -/
inductive AmoOp where
  | swap | add | xor | and | or | min | max | minu | maxu
  deriving DecidableEq, Repr

/-- A decoded instruction. -/
inductive Op where
  | lui (rd : Nat) (imm : DWord)
  | auipc (rd : Nat) (imm : DWord)
  | jal (rd : Nat) (off : DWord)
  | jalr (rd rs1 : Nat) (imm : DWord)
  | branch (f3 rs1 rs2 : Nat) (off : DWord)
  | load (f3 rd rs1 : Nat) (imm : DWord)
  | store (f3 rs1 rs2 : Nat) (imm : DWord)
  | aluImm (k : Alu) (w : Bool) (rd rs1 : Nat) (imm : DWord)
  | alu (k : Alu) (w : Bool) (rd rs1 rs2 : Nat)
  | lr (w : Bool) (rd rs1 : Nat)
  | sc (w : Bool) (rd rs1 rs2 : Nat)
  | amo (k : AmoOp) (w : Bool) (rd rs1 rs2 : Nat)
  | fence
  | fenceI
  | ecall
  | ebreak
  | mret
  | wfi
  | csr (f3 rd rs1 num : Nat)
  | illegal
  deriving DecidableEq, Repr

/-! ### Arithmetic -/

/-- Division as the M extension defines it: by zero it gives all ones; the overflow gives the dividend. -/
def rvDiv {w : Nat} (a b : BitVec w) : BitVec w := if b = 0 then BitVec.allOnes w else a.sdiv b
def rvDivu {w : Nat} (a b : BitVec w) : BitVec w := if b = 0 then BitVec.allOnes w else a / b
/-- Remainder: by zero it gives the dividend. -/
def rvRem {w : Nat} (a b : BitVec w) : BitVec w := if b = 0 then a else a.srem b
def rvRemu {w : Nat} (a b : BitVec w) : BitVec w := if b = 0 then a else a % b

/-- The upper half of a product. -/
def mulHigh (w : Nat) (p : Int) : BitVec w := BitVec.ofInt w (p / 2 ^ w)

/-- An operation on w-bit values with a shift amount of sh bits (6 for 64-bit, 5 for 32-bit forms). -/
def aluOf {w : Nat} (sh : Nat) (k : Alu) (a b : BitVec w) : BitVec w :=
  let n := b.toNat % 2 ^ sh
  match k with
  | .add => a + b
  | .sub => a - b
  | .sll => a <<< n
  | .slt => BitVec.ofNat w (b2n (a.slt b))
  | .sltu => BitVec.ofNat w (b2n (a.ult b))
  | .xor => a ^^^ b
  | .srl => a >>> n
  | .sra => a.sshiftRight n
  | .or => a ||| b
  | .and => a &&& b
  | .mul => a * b
  | .mulh => mulHigh w (a.toInt * b.toInt)
  | .mulhsu => mulHigh w (a.toInt * b.toNat)
  | .mulhu => mulHigh w (a.toNat * b.toNat)
  | .div => rvDiv a b
  | .divu => rvDivu a b
  | .rem => rvRem a b
  | .remu => rvRemu a b

/-- The value of an operation; a W form works on the low 32 bits and sign-extends its result. -/
def aluVal (k : Alu) (w : Bool) (a b : DWord) : DWord :=
  if w then (aluOf 5 k (a.setWidth 32) (b.setWidth 32)).signExtend 64 else aluOf 6 k a b

/-- The value that an atomic operation stores. -/
def amoVal {w : Nat} (k : AmoOp) (old v : BitVec w) : BitVec w :=
  match k with
  | .swap => v
  | .add => old + v
  | .xor => old ^^^ v
  | .and => old &&& v
  | .or => old ||| v
  | .min => if old.slt v then old else v
  | .max => if old.slt v then v else old
  | .minu => if old.ult v then old else v
  | .maxu => if old.ult v then v else old

/-- A branch is taken. -/
def branchTaken (f3 : Nat) (a b : DWord) : Bool :=
  match f3 with
  | 0 => a = b
  | 1 => a != b
  | 4 => a.slt b
  | 5 => !a.slt b
  | 6 => a.ult b
  | _ => !a.ult b

/-- Extend a loaded value: byte, half, word, doubleword; bit 2 of f3 selects zero extension. -/
def loadExt (f3 v : Nat) : DWord :=
  match f3 with
  | 0 => (BitVec.ofNat 8 v).signExtend 64
  | 1 => (BitVec.ofNat 16 v).signExtend 64
  | 2 => (BitVec.ofNat 32 v).signExtend 64
  | _ => BitVec.ofNat 64 v

/-! ### Decoding -/

/-- A w-bit two's complement number, extended. -/
def sx (w v : Nat) : DWord := (BitVec.ofNat w v).signExtend 64

/-- The arithmetic operation of an OP or OP-IMM function code. -/
def aluKind (f3 : Nat) (alt : Bool) : Alu :=
  match f3 with
  | 0 => if alt then .sub else .add
  | 1 => .sll
  | 2 => .slt
  | 3 => .sltu
  | 4 => .xor
  | 5 => if alt then .sra else .srl
  | 6 => .or
  | _ => .and

/-- The operation of the M extension with function code f3. -/
def mKind (f3 : Nat) : Alu :=
  match f3 with
  | 0 => .mul
  | 1 => .mulh
  | 2 => .mulhsu
  | 3 => .mulhu
  | 4 => .div
  | 5 => .divu
  | 6 => .rem
  | _ => .remu

/-- The atomic operation of function code f5. -/
def amoKind (f5 : Nat) : Option AmoOp :=
  match f5 with
  | 0x01 => some .swap
  | 0x00 => some .add
  | 0x04 => some .xor
  | 0x0C => some .and
  | 0x08 => some .or
  | 0x10 => some .min
  | 0x14 => some .max
  | 0x18 => some .minu
  | 0x1C => some .maxu
  | _ => none

/-- Decode a 32-bit instruction word. -/
def decode32 (w : Nat) : Op :=
  let rd := nbits w 7 5
  let f3 := nbits w 12 3
  let rs1 := nbits w 15 5
  let rs2 := nbits w 20 5
  let f7 := nbits w 25 7
  let immI := sx 12 (nbits w 20 12)
  let immS := sx 12 (nbits w 7 5 + nbits w 25 7 * 32)
  let immB := sx 13 (nbits w 8 4 * 2 + nbits w 25 6 * 2 ^ 5 + nbits w 7 1 * 2 ^ 11 + nbits w 31 1 * 2 ^ 12)
  let immU := sx 32 (nbits w 12 20 * 2 ^ 12)
  let immJ := sx 21 (nbits w 21 10 * 2 + nbits w 20 1 * 2 ^ 11 + nbits w 12 8 * 2 ^ 12 + nbits w 31 1 * 2 ^ 20)
  match w % 128 with
  | 0x37 => .lui rd immU
  | 0x17 => .auipc rd immU
  | 0x6F => .jal rd immJ
  | 0x67 => if f3 = 0 then .jalr rd rs1 immI else .illegal
  | 0x63 => if f3 = 2 || f3 = 3 then .illegal else .branch f3 rs1 rs2 immB
  | 0x03 => if f3 = 7 then .illegal else .load f3 rd rs1 immI
  | 0x23 => if f3 < 4 then .store f3 rs1 rs2 immS else .illegal
  | 0x13 =>
    if f3 = 1 then (if nbits w 26 6 = 0 then .aluImm .sll false rd rs1 (BitVec.ofNat 64 (nbits w 20 6)) else .illegal)
    else if f3 = 5 then
      (if nbits w 26 6 = 0 then .aluImm .srl false rd rs1 (BitVec.ofNat 64 (nbits w 20 6))
       else if nbits w 26 6 = 16 then .aluImm .sra false rd rs1 (BitVec.ofNat 64 (nbits w 20 6)) else .illegal)
    else .aluImm (aluKind f3 false) false rd rs1 immI
  | 0x1B =>
    if f3 = 0 then .aluImm .add true rd rs1 immI
    else if f3 = 1 then (if f7 = 0 then .aluImm .sll true rd rs1 (BitVec.ofNat 64 rs2) else .illegal)
    else if f3 = 5 then
      (if f7 = 0 then .aluImm .srl true rd rs1 (BitVec.ofNat 64 rs2) else if f7 = 32 then .aluImm .sra true rd rs1 (BitVec.ofNat 64 rs2) else .illegal)
    else .illegal
  | 0x33 =>
    if f7 = 0 then .alu (aluKind f3 false) false rd rs1 rs2
    else if f7 = 32 then (if f3 = 0 || f3 = 5 then .alu (aluKind f3 true) false rd rs1 rs2 else .illegal)
    else if f7 = 1 then .alu (mKind f3) false rd rs1 rs2
    else .illegal
  | 0x3B =>
    if f7 = 0 then (if f3 = 0 || f3 = 1 || f3 = 5 then .alu (aluKind f3 false) true rd rs1 rs2 else .illegal)
    else if f7 = 32 then (if f3 = 0 || f3 = 5 then .alu (aluKind f3 true) true rd rs1 rs2 else .illegal)
    else if f7 = 1 then (if f3 = 0 || 4 ≤ f3 then .alu (mKind f3) true rd rs1 rs2 else .illegal)
    else .illegal
  | 0x2F =>
    let f5 := nbits w 27 5
    if f3 = 2 || f3 = 3 then
      if f5 = 2 then (if rs2 = 0 then .lr (f3 = 2) rd rs1 else .illegal)
      else if f5 = 3 then .sc (f3 = 2) rd rs1 rs2
      else match amoKind f5 with
        | some k => .amo k (f3 = 2) rd rs1 rs2
        | none => .illegal
    else .illegal
  | 0x0F => if f3 = 0 then .fence else if f3 = 1 then .fenceI else .illegal
  | 0x73 =>
    if w = 0x00000073 then .ecall
    else if w = 0x00100073 then .ebreak
    else if w = 0x30200073 then .mret
    else if w = 0x10500073 then .wfi
    else if f3 = 0 || f3 = 4 then .illegal
    else .csr f3 rd rs1 (nbits w 20 12)
  | _ => .illegal

/-- Decode a 16-bit instruction (C extension, without the floating-point forms). -/
def decode16 (w : Nat) : Op :=
  let b (i : Nat) : Nat := nbits w i 1
  let rd := nbits w 7 5
  let rs2 := nbits w 2 5
  let rp (i : Nat) : Nat := 8 + nbits w i 3
  let imm6 := sx 6 (nbits w 2 5 + b 12 * 32)
  let sh := BitVec.ofNat 64 (nbits w 2 5 + b 12 * 32)
  let lw := BitVec.ofNat 64 (nbits w 10 3 * 8 + b 6 * 4 + b 5 * 64)
  let ld := BitVec.ofNat 64 (nbits w 10 3 * 8 + nbits w 5 2 * 64)
  let bro := sx 9 (b 12 * 256 + nbits w 10 2 * 8 + nbits w 5 2 * 64 + nbits w 3 2 * 2 + b 2 * 32)
  match w % 4, nbits w 13 3 with
  | 0, 0 =>
    let imm := nbits w 11 2 * 16 + nbits w 7 4 * 64 + b 6 * 4 + b 5 * 8
    if imm = 0 then .illegal else .aluImm .add false (rp 2) 2 (BitVec.ofNat 64 imm)
  | 0, 2 => .load 2 (rp 2) (rp 7) lw
  | 0, 3 => .load 3 (rp 2) (rp 7) ld
  | 0, 6 => .store 2 (rp 7) (rp 2) lw
  | 0, 7 => .store 3 (rp 7) (rp 2) ld
  | 1, 0 => .aluImm .add false rd rd imm6
  | 1, 1 => if rd = 0 then .illegal else .aluImm .add true rd rd imm6
  | 1, 2 => .aluImm .add false rd 0 imm6
  | 1, 3 =>
    if nbits w 2 5 = 0 && b 12 = 0 then .illegal
    else if rd = 2 then .aluImm .add false 2 2 (sx 10 (b 12 * 512 + b 6 * 16 + b 5 * 64 + nbits w 3 2 * 128 + b 2 * 32))
    else .lui rd (sx 18 (b 12 * 2 ^ 17 + nbits w 2 5 * 2 ^ 12))
  | 1, 4 =>
    let r := rp 7
    match nbits w 10 2 with
    | 0 => .aluImm .srl false r r sh
    | 1 => .aluImm .sra false r r sh
    | 2 => .aluImm .and false r r imm6
    | _ =>
      if b 12 = 0 then
        (match nbits w 5 2 with
         | 0 => .alu .sub false r r (rp 2)
         | 1 => .alu .xor false r r (rp 2)
         | 2 => .alu .or false r r (rp 2)
         | _ => .alu .and false r r (rp 2))
      else
        (match nbits w 5 2 with
         | 0 => .alu .sub true r r (rp 2)
         | 1 => .alu .add true r r (rp 2)
         | _ => .illegal)
  | 1, 5 => .jal 0 (sx 12 (b 12 * 2048 + b 11 * 16 + nbits w 9 2 * 256 + b 8 * 1024 + b 7 * 64 + b 6 * 128 + nbits w 3 3 * 2 + b 2 * 32))
  | 1, 6 => .branch 0 (rp 7) 0 bro
  | 1, 7 => .branch 1 (rp 7) 0 bro
  | 2, 0 => .aluImm .sll false rd rd sh
  | 2, 2 => if rd = 0 then .illegal else .load 2 rd 2 (BitVec.ofNat 64 (b 12 * 32 + nbits w 4 3 * 4 + nbits w 2 2 * 64))
  | 2, 3 => if rd = 0 then .illegal else .load 3 rd 2 (BitVec.ofNat 64 (b 12 * 32 + nbits w 5 2 * 8 + nbits w 2 3 * 64))
  | 2, 4 =>
    if b 12 = 0 then
      if rs2 = 0 then (if rd = 0 then .illegal else .jalr 0 rd 0) else .alu .add false rd 0 rs2
    else if rs2 = 0 then (if rd = 0 then .ebreak else .jalr 1 rd 0)
    else .alu .add false rd rd rs2
  | 2, 6 => .store 2 2 rs2 (BitVec.ofNat 64 (nbits w 9 4 * 4 + nbits w 7 2 * 64))
  | 2, 7 => .store 3 2 rs2 (BitVec.ofNat 64 (nbits w 10 3 * 8 + nbits w 7 3 * 64))
  | _, _ => .illegal

end Sys2Proof.Machine
end

