-- ==== Sys2Proof/Machine/Cores.lean ====
section
/-! DEFINITION. Family: the logical cores (R375–R381, R424): fetching, executing and retiring an instruction, traps, breakpoints and watchpoints. -/

namespace Sys2Proof.Machine

/-- How an instruction ends: it retires with the next pc and, of a load or store, its address, its size, whether it loads and stores; it traps with a
cause and mtval, and mfaultinfo for an access fault; the core stays where it is (a stall, a halt); or the access enters an undefined case. -/
inductive ExecR where
  | retire (s : State) (pc : DWord) (acc : Option (Nat × Nat × Bool × Bool))
  | trap (s : State) (cause : Nat) (tval : Nat) (info : Option Nat)
  | stop (s : State)
  | undef (f : Fault)

/-! ### Traps (R376) -/

/-- Core n traps: interrupts have bit 63 of mcause.  An access fault leaves its source in mfaultinfo. -/
def trapTo (n : Nat) (irq : Bool) (cause tval : Nat) (info : Option Nat) (s : State) : State :=
  modCore n (fun c =>
    let base := c.mtvec.toNat / 4 * 4
    let off := if irq && c.mtvec.toNat % 4 = 1 then 4 * cause else 0
    { c with
      mepc := c.pc, mcause := BitVec.ofNat 64 (cause + if irq then 2 ^ 63 else 0)
      mtval := if irq then 0 else if Config.mtvalSet cause then BitVec.ofNat 64 tval else 0
      mfaultinfo := info.getD c.mfaultinfo
      mstatusMPIE := c.mstatusMIE, mstatusMIE := false, mstatusMPPU := c.user, user := false, wfi := false
      pc := BitVec.ofNat 64 (base + off) }) s

/-- The core halts after the instruction that a STEP asked for (R423). -/
def stepEnd (n : Nat) (s : State) : State := if (s.core n).stepping then jdpHalt n 2 0 s else s

/-- mcycle after an instruction: how many core cycles it takes is free. -/
def countCycles (n : Nat) (s : State) : State :=
  if nbit (s.core n).mcountinhibit.toNat 0 then s else
  let (v, s) := s.freshBits 64
  modCore n (fun c => { c with mcycle := c.mcycle + v }) s

/-- Counters of retired instructions (EVENT 0x408 + n): the cycle in which an instruction retires may be one in which, or after which, another does. -/
def pmuRetire (n : Nat) (s : State) : State :=
  if !s.pmuOn then s else
  s.pmuActive.foldl (fun s i =>
    if i < 192 && s.pmuOwn i && s.fld PMU_SEL_EVENT i = 0x408 + n then
      if s.fld PMU_SEL_MODE i = 3 then pmuAdd 256 i 1 s
      else
        let (s, k) := upTo 1 s
        pmuAdd 256 i k s
    else s) s

/-! ### Breakpoints and watchpoints (R424) -/

/-- The lowest breakpoint of core n that matches a fetch at its pc. -/
def State.bpMatch (s : State) (n : Nat) : Option Nat :=
  if (s.core n).skipBp then none else
  (List.range 8).find? fun i =>
    s.flag JDP_BP_LO_ENA n i && s.fld JDP_BP_LO_ADDR n i * 2 + 2 ^ 32 * s.fld JDP_BP_HI_ADDR n i = (s.core n).pc.toNat

/-- Watchpoint j of core n matches an access of k bytes at a. -/
def State.wpHit (s : State) (n a k : Nat) (ld st : Bool) (j : Nat) : Bool :=
  let size := 2 ^ s.fld JDP_WP_MASK_MASK n j
  let base := (s.fld JDP_WP_LO_ADDR n j + 2 ^ 32 * s.fld JDP_WP_HI_ADDR n j) / size * size
  (s.flag JDP_WP_CTL_R n j && ld || s.flag JDP_WP_CTL_W n j && st) && a < base + size && base < a + k

/-- The lowest watchpoint of core n that matches the access of an instruction. -/
def State.wpMatch (s : State) (n : Nat) (acc : Option (Nat × Nat × Bool × Bool)) : Option Nat :=
  match acc with
  | none => none
  | some (a, k, ld, st) => (List.range 4).find? (s.wpHit n a k ld st)

/-- The end of an instruction of core n; s0 is the state before it. -/
def endInstr (n : Nat) (s0 : State) (r : ExecR) : Out :=
  match r with
  | .undef f => .fault f
  | .stop s => .next s
  | .trap s cause tval info => .next (stepEnd n (trapTo n false cause tval info (modCore n (fun c => { c with skipBp := false }) (countCycles n s))))
  | .retire s pc acc =>
    let s := countCycles n s
    let s := modCore n (fun c => { c with
      pc := pc, skipBp := false
      minstret := if nbit c.mcountinhibit.toNat 2 then c.minstret else c.minstret + 1 }) s
    let s := pmuRetire n s
    match s0.wpMatch n acc with
    | some j => .next (jdpHalt n 4 j s)
    | none => .next (stepEnd n s)

/-! ### Loads, stores, atomics -/

/-- The privilege of a load or store of core n is user (mstatus.MPRV). -/
def Core.userAccess (c : Core) : Bool := if c.mstatusMPRV && !c.user then c.mstatusMPPU else c.user

/-- A misaligned access to memory that the core does not perform itself; register space answers by R10. -/
def misaligned (a n : Nat) : Bool := !inRegs a && a % n != 0 && !Config.misalignedOk

/-- Core n as a bus master. -/
def coreMaster (n : CoreId) : MasterId := ⟨n.val, Nat.lt_of_lt_of_le n.isLt (by decide)⟩

/-- A load of k bytes at a, for a register. -/
def doLoad (n : CoreId) (f3 rd a : Nat) (next : DWord) (s : State) : ExecR :=
  let k := 2 ^ (f3 % 4)
  if misaligned a k then .trap s 4 a none else
  match busRead (coreMaster n) (s.core n).userAccess .read a k s with
  | (s, .ok v) => .retire (setX n rd (loadExt f3 v).toNat s) next (some (a, k, true, false))
  | (s, .err info) => .trap s 5 a (some info)
  | (_, .wait) => .stop s

/-- The end of a store, given what is to follow it. -/
def storeEnd (s : State) (a : Nat) (x : Out × MemR) (done : State → ExecR) : ExecR :=
  match x with
  | (.fault f, _) => .undef f
  | (.refused _, _) => .stop s
  | (.next t, .ok _) => done t
  | (.next t, .err info) => .trap t 7 a (some info)
  | (.next _, .wait) => .stop s

/-- A store of k bytes of v at a. -/
def doStore (n : CoreId) (k a v : Nat) (next : DWord) (s : State) : ExecR :=
  if misaligned a k then .trap s 6 a none else
  storeEnd s a (busWrite (coreMaster n) (s.core n).userAccess .write a k (v % 2 ^ (8 * k)) s)
    (fun t => .retire t next (some (a, k, false, true)))

/-- LR: the load and the reservation of the 8 bytes that hold it. -/
def doLr (n : CoreId) (k rd a : Nat) (next : DWord) (s : State) : ExecR :=
  if !inRegs a && a % k != 0 then .trap s 4 a none else
  match busRead (coreMaster n) (s.core n).userAccess .read a k s with
  | (s, .ok v) =>
    let s := modCore n (fun c => { c with resv := some (a / 8 * 8) }) s
    .retire (setX n rd (loadExt (if k = 4 then 2 else 3) v).toNat s) next (some (a, k, true, false))
  | (s, .err info) => .trap s 5 a (some info)
  | (_, .wait) => .stop s

/-- SC: the store, where the reservation is held; rd is 0 for success. -/
def doSc (n : CoreId) (k rd a v : Nat) (next : DWord) (s : State) : ExecR :=
  if !inRegs a && a % k != 0 then .trap s 6 a none
  else if (s.core n).resv != some (a / 8 * 8) then
    .retire (setX n rd 1 (modCore n (fun c => { c with resv := none }) s)) next none
  else
    storeEnd s a (busWrite (coreMaster n) (s.core n).userAccess .write a k (v % 2 ^ (8 * k)) s)
      (fun t => .retire (setX n rd 0 (modCore n (fun c => { c with resv := none }) t)) next (some (a, k, false, true)))

/-- An atomic read and write of a word or doubleword: it needs read and write permission (R370). -/
def doAmo (n : CoreId) (op : AmoOp) (k rd a v : Nat) (next : DWord) (s : State) : ExecR :=
  if !inRegs a && a % k != 0 then .trap s 6 a none else
  let u := (s.core n).userAccess
  match busRead (coreMaster n) u .amo a k s with
  | (_, .wait) => .stop s
  | (t, .err info) => .trap t 7 a (some info)
  | (t, .ok old) =>
    let new := if k = 4 then (amoVal op (BitVec.ofNat 32 old) (BitVec.ofNat 32 v)).toNat else (amoVal op (BitVec.ofNat 64 old) (BitVec.ofNat 64 v)).toNat
    storeEnd s a (busWrite (coreMaster n) u .amo a k new t)
      (fun t => .retire (setX n rd (loadExt (if k = 4 then 2 else 3) old).toNat t) next (some (a, k, true, true)))

/-! ### System instructions -/

/-- A CSR instruction: illegal where the CSR does not exist, in user mode, or for a write of a read-only CSR. -/
def doCsr (n f3 rd rs1 num bits : Nat) (next : DWord) (s : State) : ExecR :=
  let c := s.core n
  let src := if 4 ≤ f3 then rs1 else c.gpr rs1
  let writes : Bool := f3 % 4 = 1 || rs1 != 0
  if !csrExists num || c.user || (writes && csrRo num) then .trap s 2 bits none else
  let reads : Bool := f3 % 4 != 1 || rd != 0
  let (s, old) := if reads then csrRead n num s else (s, 0)
  let new := if f3 % 4 = 1 then src else if f3 % 4 = 2 then old ||| src else old - (old &&& src)
  let s := if writes then csrWrite n num new s else s
  let s := if reads then setX n rd old s else s
  if writes && num = 0xB02 then .retire (modCore n (fun c => { c with minstret := BitVec.ofNat 64 new - (if nbit c.mcountinhibit.toNat 2 then 0 else 1) }) s) next none
  else .retire s next none

/-- MRET: the interrupt enable and the privilege that the trap saved. -/
def doMret (n bits : Nat) (s : State) : ExecR :=
  let c := s.core n
  if c.user then .trap s 2 bits none
  else .retire (modCore n (fun c => { c with mstatusMIE := c.mstatusMPIE, mstatusMPIE := true, user := c.mstatusMPPU, mstatusMPPU := true }) s) c.mepc none

/-- WFI: the core waits unless an enabled interrupt is pending. -/
def doWfi (n bits : Nat) (next : DWord) (s : State) : ExecR :=
  let c := s.core n
  if c.user && c.mstatusTW then .trap s 2 bits none
  else if s.mip n &&& c.mie.toNat != 0 then .retire s next none
  else .retire (modCore n (fun c => { c with wfi := true }) s) next none

/-- EBREAK (R424): with EBRK = 1 in machine mode the pair halts before it; else it traps. -/
def doEbreak (n : Nat) (s : State) : ExecR :=
  let c := s.core n
  if s.flag JDP_CCTL_EBRK n && !c.user then .stop (jdpHalt n 5 0 s) else .trap s 3 c.pc.toNat none

/-! ### One instruction -/

/-- Core n executes op, an instruction of len bytes with the given bits, at its pc. -/
def coreOp (n : CoreId) (op : Op) (len bits : Nat) (s : State) : ExecR :=
  let c := s.core n
  let next := c.pc + BitVec.ofNat 64 len
  let x (r : Nat) : DWord := BitVec.ofNat 64 (c.gpr r)
  let wr (rd : Nat) (v : DWord) : ExecR := .retire (setX n rd v.toNat s) next none
  match op with
  | .lui rd imm => wr rd imm
  | .auipc rd imm => wr rd (c.pc + imm)
  | .jal rd off => .retire (setX n rd next.toNat s) (c.pc + off) none
  | .jalr rd rs1 imm => .retire (setX n rd next.toNat s) ((x rs1 + imm) &&& ~~~1) none
  | .branch f3 rs1 rs2 off => .retire s (if branchTaken f3 (x rs1) (x rs2) then c.pc + off else next) none
  | .load f3 rd rs1 imm => doLoad n f3 rd (x rs1 + imm).toNat next s
  | .store f3 rs1 rs2 imm => doStore n (2 ^ f3) (x rs1 + imm).toNat (x rs2).toNat next s
  | .aluImm k w rd rs1 imm => wr rd (aluVal k w (x rs1) imm)
  | .alu k w rd rs1 rs2 => wr rd (aluVal k w (x rs1) (x rs2))
  | .lr w rd rs1 => doLr n (if w then 4 else 8) rd (x rs1).toNat next s
  | .sc w rd rs1 rs2 => doSc n (if w then 4 else 8) rd (x rs1).toNat (x rs2).toNat next s
  | .amo k w rd rs1 rs2 => doAmo n k (if w then 4 else 8) rd (x rs1).toNat (x rs2).toNat next s
  | .fence => .retire s next none
  | .fenceI => .retire (coreIinv n s) next none
  | .ecall => .trap s (if c.user then 8 else 11) 0 none
  | .ebreak => doEbreak n s
  | .mret => doMret n bits s
  | .wfi => doWfi n bits next s
  | .csr f3 rd rs1 num => doCsr n f3 rd rs1 num bits next s
  | .illegal => .trap s 2 bits none

/-- Execute op on core n to its end. -/
def runOp (n : CoreId) (op : Op) (len bits : Nat) (s : State) : Out := endInstr n s (coreOp n op len bits s)

/-! ### Fetch -/

/-- The instruction cache covers an address (R375). -/
def State.icacheable (s : State) (a : Nat) : Bool :=
  match s.region a with
  | .rom => true
  | .flash => true
  | .sram => true
  | _ => false

/-- Fetch the 16-bit parcel at a.  A parcel that the cache has taken in may be found there, or have been replaced since: which is free. -/
def fetchParcel (n : CoreId) (a : Nat) (s : State) : State × MemR :=
  let miss (s : State) : State × MemR :=
    match memRead s n.val .fetch a 2 with
    | (s, .ok v) =>
      (if s.icacheable a then modCore n (fun c => { c with icache := mins c.icache a (BitVec.ofNat 16 v) }) s else s, .ok v)
    | r => r
  match mfind (s.core n).icache a with
  | none => miss s
  | some p =>
    let (f, s) := s.fresh
    if f % 2 = 0 then (s, .ok p.toNat) else miss s

/-- An instruction is fetched: its bits and length; or the parcel address and source of an access fault; or not yet. -/
inductive FetchR where
  | ok (bits len : Nat)
  | err (at' info : Nat)
  | wait
  deriving DecidableEq, Repr

/-- Fetch the instruction at core n's pc. -/
def fetchInstr (n : CoreId) (s : State) : State × FetchR :=
  let a := (s.core n).pc.toNat
  match fetchParcel n a s with
  | (s, .err i) => (s, .err a i)
  | (s, .wait) => (s, .wait)
  | (s, .ok lo) =>
    if lo % 4 != 3 then (s, .ok lo 2) else
    let b := (a + 2) % 2 ^ 64
    match fetchParcel n b s with
    | (s, .err i) => (s, .err b i)
    | (s, .wait) => (s, .wait)
    | (s, .ok hi) => (s, .ok (lo + hi * 2 ^ 16) 4)

/-- Core n fetches and runs the instruction at its pc. -/
def fetchRun (n : CoreId) (s : State) : Out :=
  match fetchInstr n s with
  | (_, .wait) => .next s
  | (t, .err at' i) => endInstr n s (.trap t 1 at' (some i))
  | (t, .ok bits len) => endInstr n s (coreOp n (if len = 2 then decode16 bits else decode32 bits) len bits t)

/-- Core n's next instruction: a core that waits in WFI goes on once an interrupt that mie enables is pending; a breakpoint halts the pair first. -/
def coreRun (n : CoreId) (s : State) : Out :=
  if !s.coreRuns n then .next s else
  let c := s.core n
  if c.wfi && s.mip n &&& c.mie.toNat = 0 then .next s else
  let s := if c.wfi then modCore n (fun c => { c with wfi := false }) s else s
  match s.bpMatch n with
  | some i => .next (jdpHalt n 3 i s)
  | none => fetchRun n s

/-- A command that is one instruction of a core, whose fetch it stands for. -/
def coreDoes (n : CoreId) (op : Op) (len bits : Nat) (s : State) : Out :=
  if s.coreRuns n && !(s.core n).wfi then runOp n op len bits s else .next s

/-- CORE_INSTRUCTION (R375). -/
def execCoreInstruction (n : CoreId) (s : State) : Out := coreRun n s

/-- FENCE_I (R375). -/
def execFenceI (n : CoreId) (s : State) : Out := coreDoes n .fenceI 4 0x100F s

/-- EBREAK (R424), or C.EBREAK. -/
def execEbreak (n : CoreId) (compressed : Bool) (s : State) : Out :=
  coreDoes n .ebreak (if compressed then 2 else 4) (if compressed then 0x9002 else 0x100073) s

/-- MEVCLAIM (R381): a read of mevclaim into register rd. -/
def execMevclaim (n : CoreId) (rd : Fin 32) (s : State) : Out := coreDoes n (.csr 2 rd 0 0xFC0) 4 (0xFC002073 + rd.val * 128) s

/-- MEVCOMPLETE (R381): a write of register rs to mevcomplete. -/
def execMevcomplete (n : CoreId) (rs : Fin 32) (s : State) : Out := coreDoes n (.csr 1 0 rs 0x7C0) 4 (0x7C001073 + rs.val * 2 ^ 15) s

/-- MEVTHRESH (R381): a write of register rs to mevthresh. -/
def execMevthresh (n : CoreId) (rs : Fin 32) (s : State) : Out := coreDoes n (.csr 1 0 rs 0x7C1) 4 (0x7C101073 + rs.val * 2 ^ 15) s

/-- MWDKICK (R378): a write of mwdkick. -/
def execMwdkick (n : CoreId) (s : State) : Out := coreDoes n (.csr 1 0 0 0x7C2) 4 0x7C201073 s

/-- An interrupt of core n can be taken: asserted, enabled by mie, by mstatus.MIE or user mode; during a STEP only with STEPIE; of codes 11, 3 and 7 the first
that can be taken goes first. -/
def State.irqReady (s : State) (n code : Nat) : Bool :=
  let c := s.core n
  let p := s.mip n &&& c.mie.toNat
  s.coreRuns n && (c.user || c.mstatusMIE) && (!c.stepping || s.flag JDP_CCTL_STEPIE n) && nbit p code &&
  !(code = 3 && nbit p 11) && !(code = 7 && (nbit p 11 || nbit p 3))

/-- INTERRUPT_TAKE (R376): core n traps to an asserted interrupt. -/
def execInterruptTake (n : CoreId) (code : Fin 64) (s : State) : Out :=
  .next (if s.irqReady n code then trapTo n true code 0 none s else s)

/-! ### Debug rows that run an instruction -/

/-- STEP (R423): a halted pair executes one instruction and halts. -/
def execStep (m : MasterId) (n : CoreId) (s : State) : Out :=
  if s.mapAllows m .write (0x40000000 + JDP_CCTL.at n 0 0) && s.mayResume n then coreRun n (coreStep n s)
  else .next (regCmd m JDP_CCTL n (coreStep n) s)

/-- BREAKPOINT_HIT (R424): breakpoint i halts the pair before the instruction at its pc. -/
def execBreakpointHit (n : CoreId) (i : Fin 8) (s : State) : Out :=
  .next (if s.coreRuns n && !(s.core n).wfi && s.bpMatch n = some i.val then jdpHalt n 3 i s else s)

/-- WATCHPOINT_HIT (R424): the instruction at core n's pc retires and watchpoint j halts the pair. -/
def execWatchpointHit (n : CoreId) (j : Fin 4) (s : State) : Out :=
  if !s.coreRuns n then .next s else
  match coreRun n s with
  | .next t => .next (if t.fld JDP_CSTAT_CAUSE n = 4 && t.fld JDP_CSTAT_INDEX n = j.val then t else s)
  | o => o

end Sys2Proof.Machine
end

