-- ==== Sys2Proof/Machine/Debug.lean ====
section
/-! DEFINITION. Family: the Jemel Debug Port's wire protocol and its bus accesses (R421, R422, R427). -/

namespace Sys2Proof.Machine

/-! ### Checks (R421) -/

/-- One step of a CRC register of w bits with polynomial poly. -/
def crcStep (w poly crc : Nat) (bit : Bool) : Nat :=
  let top := nbit crc (w - 1) != bit
  let c := crc * 2 % 2 ^ w
  if top then c ^^^ poly else c

/-- CRC-4 over bits 11:4 of a request word: polynomial x⁴ + x + 1, initial value all ones. -/
def crc4 (req : Nat) : Nat := (List.range 8).foldl (fun c i => crcStep 4 3 c (nbit req (11 - i))) 15

/-- CRC-8 over 32 data bits: polynomial x⁸ + x² + x + 1, initial value all ones. -/
def crc8 (data : Nat) : Nat := (List.range 32).foldl (fun c i => crcStep 8 7 c (nbit data (31 - i))) 255

/-- A request word with its CRC-4: OP, REG, SEQ. -/
def requestWord (op reg : Nat) (seq : Bool) : Nat :=
  let w := op % 4 * 2 ^ 10 + reg % 16 * 2 ^ 6 + b2n seq * 2 ^ 5
  w + crc4 w

/-! ### Port registers (R422) -/

/-- JST as it reads. -/
def State.jst (s : State) : Nat :=
  b2n (s.flag JDP_STAT_ATTACHED) + b2n s.jdp.busy.isSome * 2 + b2n s.jdp.berr * 4 + b2n s.jdp.crcerr * 8 + b2n (s.flag BOT_STAT_SEALED) * 16 +
  s.mode * 32 + s.jdp.berrcnt * 256

/-- What the port answers: a status, and the data of an accepted read. -/
def jdpAnswer (status : Nat) (data : List Nat) (s : State) : State := s.emit (.frame "JDIO" "status" (status :: data))

def jAccept : Nat := 10
def jBusy : Nat := 12
def jError : Nat := 6

/-- An accepted read: its data with its CRC-8, kept for a repeat with the same SEQ. -/
def jdpReadOk (reg : Nat) (seq : Bool) (v : Nat) (s : State) : State :=
  jdpAnswer jAccept [v, crc8 v] { s with jdp.lastR := some (seq, reg, v) }

/-- A read request. -/
def jdpRead (reg : Nat) (seq : Bool) (s : State) : State :=
  match s.jdp.lastR with
  | some (q, r, v) => if q = seq && r = reg then jdpAnswer jAccept [v, crc8 v] s else fresh s
  | none => fresh s
where
  fresh (s : State) : State :=
    match reg with
    | 0 => jdpReadOk 0 seq 0x4A447232 s
    | 1 => jdpReadOk 1 seq s.jst s
    | 2 => jdpReadOk 2 seq (s.jdp.jba % 2 ^ 32) s
    | 3 => jdpReadOk 3 seq (s.jdp.jba / 2 ^ 32) s
    | 5 => jdpReadOk 5 seq (b2n s.jdp.autoinc) s
    | _ =>
      if s.jdp.busy.isSome then jdpAnswer jBusy [] s
      else match s.jdp.done with
        | some v => jdpReadOk 4 seq v { s with jdp.done := none }
        | none => jdpAnswer jBusy [] { s with jdp.busy := some (false, s.jdp.jba, 0) }

/-- The effect of an accepted write of a port register. -/
def jdpSet (reg v : Nat) (s : State) : State :=
  match reg with
  | 1 =>
    let s : State := if nbit v 0 then { s with jdp.berr := false, jdp.crcerr := false, jdp.berrcnt := 0 } else s
    if nbit v 1 then { s with jdp.busy := none, jdp.done := none } else s
  | 2 => { s with jdp.jba := s.jdp.jba / 2 ^ 32 * 2 ^ 32 + v % 2 ^ 32 / 4 * 4 }
  | 3 => { s with jdp.jba := v % 256 * 2 ^ 32 + s.jdp.jba % 2 ^ 32 }
  | 4 => { s with jdp.busy := some (true, s.jdp.jba, v), jdp.done := none }
  | 5 => { s with jdp.autoinc := nbit v 0 }
  | _ => s

/-- A write request with its data phase: not performed again for the SEQ and REG of the last accepted write; discarded where the data's CRC fails.  A write of
JBA or JMODE while a bus access is in progress is an undefined case. -/
def jdpWrite (reg : Nat) (seq : Bool) (data crc : Nat) (s : State) : Out :=
  if s.jdp.lastW = some (seq, reg) then .next (jdpAnswer jAccept [] s)
  else if reg = 4 && s.jdp.busy.isSome then .next (jdpAnswer jBusy [] s)
  else if crc != crc8 data then .next (jdpAnswer jAccept [] { s with jdp.crcerr := true })
  else if (reg = 2 || reg = 3 || reg = 5) && s.jdp.busy.isSome then .fault (.undefinedCase "JBA or JMODE changed while JST.BUSY is 1")
  else .next (jdpAnswer jAccept [] { jdpSet reg data s with jdp.lastW := some (seq, reg) })

/-- One transaction: the 12-bit request word, and the data phase of a write.  A word whose CRC-4 fails, or with bit 4 set, gets no status.  The first valid
request after a line reset attaches the probe. -/
def jdpTransact (word data crc : Nat) (s : State) : Out :=
  if word % 16 != crc4 word || nbit word 4 then .next (jdpAnswer 15 [] s) else
  let s := if s.flag JDP_STAT_ATTACHED then s else raise EV_JDP_ATTACH 0 (s.setFld JDP_STAT_ATTACHED 1)
  let op := nbits word 10 2
  let reg := nbits word 6 4
  let seq := nbit word 5
  if 2 ≤ op || 6 ≤ reg then .next (jdpAnswer jError [] s)
  else if op = 0 then .next (jdpRead reg seq s)
  else jdpWrite reg seq data crc s

/-- JDP_PORT_REQUEST (R421, R422): a transaction on the wire. -/
def execJdpPortRequest (word : BitVec 12) (data : Word) (crc : Byte) (s : State) : Out := jdpTransact word.toNat data.toNat crc.toNat s

/-- JST_WRITE (R422). -/
def execJstWrite (seq : Bool) (data : Word) (crc : Byte) (s : State) : Out := jdpTransact (requestWord 1 1 seq) data.toNat crc.toNat s

/-- JBD_READ (R422). -/
def execJbdRead (seq : Bool) (s : State) : Out := jdpTransact (requestWord 0 4 seq) 0 0 s

/-- JBD_WRITE (R422). -/
def execJbdWrite (seq : Bool) (data : Word) (crc : Byte) (s : State) : Out := jdpTransact (requestWord 1 4 seq) data.toNat crc.toNat s

/-- LINE_RESET (R421): the port is idle, no probe is attached, the last SEQs are forgotten. -/
def execLineReset (s : State) : Out := .next { s.setFld JDP_STAT_ATTACHED 0 with jdp.lastW := none, jdp.lastR := none, jdp.done := none }

/-! ### The bus access (R422, R427) -/

/-- Master 8. -/
def jdpMaster : MasterId := 8

/-- A JBD access has ended: its read data, or an error response; AUTOINC. -/
def jdpEnd (write : Bool) (r : MemR) (s : State) : State :=
  let bad : Bool := match r with | .err _ => true | _ => false
  let v := match r with | .ok v => v | _ => 0
  let s : State := if bad then { s with jdp.berr := true, jdp.berrcnt := min 255 (s.jdp.berrcnt + 1) } else s
  { s with jdp.busy := none, jdp.done := if write then s.jdp.done else some v
           jdp.jba := if s.jdp.autoinc then (s.jdp.jba + 4) % 2 ^ 40 else s.jdp.jba }

/-- JBD_ACCESS_DONE (R422): the bus access in progress is performed and ends.  In DORMANT no access ends. -/
def execJbdAccessDone (s : State) : Out :=
  match s.jdp.busy with
  | none => .next s
  | some (write, a, v) =>
    if s.mode = mDORMANT then .next s
    else if write then
      match busWrite jdpMaster false .write a 4 v s with
      | (.next _, .wait) => .next s
      | (.next t, r) => .next (jdpEnd true r t)
      | (o, _) => o
    else
      match busRead jdpMaster false .read a 4 s with
      | (_, .wait) => .next s
      | (t, r) => .next (jdpEnd false r t)

end Sys2Proof.Machine
end

