-- ==== Sys2Proof/Machine/Dispatch.lean ====
section
/-! DEFINITION. What each command does: one arm for each constructor of Instr, each one call of that command's meaning. -/

namespace Sys2Proof.Machine

def exec (i : Instr) (s : State) : Host.Outcome State Fault Refusal :=
  match i with
  | .powerOn testN refssc => Sys2Proof.Machine.execPowerOn testN refssc s
  | .resetNFall => Sys2Proof.Machine.execResetNFall s
  | .resetNRise testN refssc => Sys2Proof.Machine.execResetNRise testN refssc s
  | .brownOutAssert src => Sys2Proof.Machine.execBrownOutAssert src s
  | .channelQuiesce ch => Sys2Proof.Machine.execChannelQuiesce ch s
  | .brownOutSelfReset => Sys2Proof.Machine.execBrownOutSelfReset s
  | .referenceClockLoss => Sys2Proof.Machine.execReferenceClockLoss s
  | .temperatureUpdate tj => Sys2Proof.Machine.execTemperatureUpdate tj s
  | .tickCutoff => Sys2Proof.Machine.execTickCutoff s
  | .tickBoundary => Sys2Proof.Machine.execTickBoundary s
  | .commit m b => Sys2Proof.Machine.execCommit m b s
  | .globalCommit m => Sys2Proof.Machine.execGlobalCommit m s
  | .nop ch => Sys2Proof.Machine.execNop ch s
  | .startPageReadQlc ch => Sys2Proof.Machine.execStartPageReadQlc ch s
  | .startPageReadSlc ch => Sys2Proof.Machine.execStartPageReadSlc ch s
  | .startProgramQlc ch => Sys2Proof.Machine.execStartProgramQlc ch s
  | .startProgramSlc ch => Sys2Proof.Machine.execStartProgramSlc ch s
  | .startBlockErase ch => Sys2Proof.Machine.execStartBlockErase ch s
  | .startBlockEraseSlc ch => Sys2Proof.Machine.execStartBlockEraseSlc ch s
  | .startSoftRead ch => Sys2Proof.Machine.execStartSoftRead ch s
  | .armedStartIssue ch die => Sys2Proof.Machine.execArmedStartIssue ch die s
  | .suspend ch => Sys2Proof.Machine.execSuspend ch s
  | .suspendComplete ch die => Sys2Proof.Machine.execSuspendComplete ch die s
  | .resume ch => Sys2Proof.Machine.execResume ch s
  | .dataOut ch bursts => Sys2Proof.Machine.execDataOut ch bursts s
  | .dataIn ch n => Sys2Proof.Machine.execDataIn ch n s
  | .poll ch ended fail => Sys2Proof.Machine.execPoll ch ended fail s
  | .internalPoll ch die ended fail => Sys2Proof.Machine.execInternalPoll ch die ended fail s
  | .heldBurstStart ch data => Sys2Proof.Machine.execHeldBurstStart ch data s
  | .arrayOperationEnd ch die fail => Sys2Proof.Machine.execArrayOperationEnd ch die fail s
  | .dieTimeout ch die => Sys2Proof.Machine.execDieTimeout ch die s
  | .dieReset m ch die => Sys2Proof.Machine.execDieReset m ch die s
  | .targetResetDone ch target => Sys2Proof.Machine.execTargetResetDone ch target s
  | .dieRetire m ch die => Sys2Proof.Machine.execDieRetire m ch die s
  | .retrain ch => Sys2Proof.Machine.execRetrain ch s
  | .retrainLate ch => Sys2Proof.Machine.execRetrainLate ch s
  | .codewordHardDecode bid out ok iter => Sys2Proof.Machine.execCodewordHardDecode bid out ok iter s
  | .softReadPlace id => Sys2Proof.Machine.execSoftReadPlace id s
  | .codewordSoftDecode bid out ok iter => Sys2Proof.Machine.execCodewordSoftDecode bid out ok iter s
  | .stripeReconstructDone id => Sys2Proof.Machine.execStripeReconstructDone id s
  | .errorInjectArm m cnt ch => Sys2Proof.Machine.execErrorInjectArm m cnt ch s
  | .mapLookup id => Sys2Proof.Machine.execMapLookup id s
  | .placement => Sys2Proof.Machine.execPlacement s
  | .merge id => Sys2Proof.Machine.execMerge id s
  | .trimPlace id => Sys2Proof.Machine.execTrimPlace id s
  | .stripeAppend g k => Sys2Proof.Machine.execStripeAppend g k s
  | .creamTargetRecompute => Sys2Proof.Machine.execCreamTargetRecompute s
  | .fold => Sys2Proof.Machine.execFold s
  | .entryRead m slot hi => Sys2Proof.Machine.execEntryRead m slot hi s
  | .entrySetLost m slot hi => Sys2Proof.Machine.execEntrySetLost m slot hi s
  | .entrySetFirmware m slot hi => Sys2Proof.Machine.execEntrySetFirmware m slot hi s
  | .entryClear m slot hi => Sys2Proof.Machine.execEntryClear m slot hi s
  | .namespaceZeroDone => Sys2Proof.Machine.execNamespaceZeroDone s
  | .skimVictimSelect => Sys2Proof.Machine.execSkimVictimSelect s
  | .groupErase g => Sys2Proof.Machine.execGroupErase g s
  | .skmRetire m pos b => Sys2Proof.Machine.execSkmRetire m pos b s
  | .stripeClose g k => Sys2Proof.Machine.execStripeClose g k s
  | .groupOpen stream => Sys2Proof.Machine.execGroupOpen stream s
  | .ledgerWrite => Sys2Proof.Machine.execLedgerWrite s
  | .ledgerEntryDurable => Sys2Proof.Machine.execLedgerEntryDurable s
  | .widthChange => Sys2Proof.Machine.execWidthChange s
  | .patrolPassStart => Sys2Proof.Machine.execPatrolPassStart s
  | .patrolRead => Sys2Proof.Machine.execPatrolRead s
  | .patrolCheck => Sys2Proof.Machine.execPatrolCheck s
  | .patrolLate => Sys2Proof.Machine.execPatrolLate s
  | .rebuildStart => Sys2Proof.Machine.execRebuildStart s
  | .rebuildStripe => Sys2Proof.Machine.execRebuildStripe s
  | .rebuildDone => Sys2Proof.Machine.execRebuildDone s
  | .lostStripeClear m k => Sys2Proof.Machine.execLostStripeClear m k s
  | .checkpointBegin => Sys2Proof.Machine.execCheckpointBegin s
  | .checkpointComplete => Sys2Proof.Machine.execCheckpointComplete s
  | .checkpointLate => Sys2Proof.Machine.execCheckpointLate s
  | .checkpointNow m => Sys2Proof.Machine.execCheckpointNow m s
  | .shutdownRequest m => Sys2Proof.Machine.execShutdownRequest m s
  | .shutdownComplete => Sys2Proof.Machine.execShutdownComplete s
  | .ckpStartup f => Sys2Proof.Machine.execCkpStartup f s
  | .configRequest space write dword be data => Sys2Proof.Machine.execConfigRequest space write dword be data s
  | .perst => Sys2Proof.Machine.execPerst s
  | .hotReset => Sys2Proof.Machine.execHotReset s
  | .functionLevelReset => Sys2Proof.Machine.execFunctionLevelReset s
  | .pcieLinkUp width rate flit => Sys2Proof.Machine.execPcieLinkUp width rate flit s
  | .pcieLinkDown => Sys2Proof.Machine.execPcieLinkDown s
  | .linkRetrain m width rate flit => Sys2Proof.Machine.execLinkRetrain m width rate flit s
  | .controllerEnable cc aqa asq acq => Sys2Proof.Machine.execControllerEnable cc aqa asq acq s
  | .controllerDisable => Sys2Proof.Machine.execControllerDisable s
  | .shutdownNotification shn => Sys2Proof.Machine.execShutdownNotification shn s
  | .sqTailDoorbell qid v => Sys2Proof.Machine.execSqTailDoorbell qid v s
  | .cqHeadDoorbell qid v => Sys2Proof.Machine.execCqHeadDoorbell qid v s
  | .commandFetch qid sqe => Sys2Proof.Machine.execCommandFetch qid sqe s
  | .completionPost id => Sys2Proof.Machine.execCompletionPost id s
  | .deleteIoSq id => Sys2Proof.Machine.execDeleteIoSq id s
  | .createIoSq id => Sys2Proof.Machine.execCreateIoSq id s
  | .deleteIoCq id => Sys2Proof.Machine.execDeleteIoCq id s
  | .createIoCq id => Sys2Proof.Machine.execCreateIoCq id s
  | .getLogPage id => Sys2Proof.Machine.execGetLogPage id s
  | .identify id => Sys2Proof.Machine.execIdentify id s
  | .abort id => Sys2Proof.Machine.execAbort id s
  | .setFeatures id => Sys2Proof.Machine.execSetFeatures id s
  | .setFeaturesPowerManagement id => Sys2Proof.Machine.execSetFeaturesPowerManagement id s
  | .getFeatures id => Sys2Proof.Machine.execGetFeatures id s
  | .asynchronousEventRequest id => Sys2Proof.Machine.execAsynchronousEventRequest id s
  | .namespaceCreate id host => Sys2Proof.Machine.execNamespaceCreate id host s
  | .namespaceDelete id => Sys2Proof.Machine.execNamespaceDelete id s
  | .firmwareCommit id => Sys2Proof.Machine.execFirmwareCommit id s
  | .firmwareImageDownload id => Sys2Proof.Machine.execFirmwareImageDownload id s
  | .namespaceAttach id host => Sys2Proof.Machine.execNamespaceAttach id host s
  | .namespaceDetach id host => Sys2Proof.Machine.execNamespaceDetach id host s
  | .formatNvm id => Sys2Proof.Machine.execFormatNvm id s
  | .reserveSlot id => Sys2Proof.Machine.execReserveSlot id s
  | .vendorAdmin id => Sys2Proof.Machine.execVendorAdmin id s
  | .flush id => Sys2Proof.Machine.execFlush id s
  | .write id host ptrs => Sys2Proof.Machine.execWrite id host ptrs s
  | .read id ptrs => Sys2Proof.Machine.execRead id ptrs s
  | .writeZeroes id => Sys2Proof.Machine.execWriteZeroes id s
  | .datasetManagement id host ptrs => Sys2Proof.Machine.execDatasetManagement id host ptrs s
  | .verify id => Sys2Proof.Machine.execVerify id s
  | .store id host ptrs => Sys2Proof.Machine.execStore id host ptrs s
  | .retrieve id ptrs => Sys2Proof.Machine.execRetrieve id ptrs s
  | .deliverySend id => Sys2Proof.Machine.execDeliverySend id s
  | .firmwareTransfer m index dir => Sys2Proof.Machine.execFirmwareTransfer m index dir s
  | .firmwareTransferDone ptrs data => Sys2Proof.Machine.execFirmwareTransferDone ptrs data s
  | .firmwareCompletion m sc sct stx => Sys2Proof.Machine.execFirmwareCompletion m sc sct stx s
  | .firmwareTimeout index => Sys2Proof.Machine.execFirmwareTimeout index s
  | .aenPost m type info lid => Sys2Proof.Machine.execAenPost m type info lid s
  | .smbusStatusRead => Sys2Proof.Machine.execSmbusStatusRead s
  | .smbusVendorRead => Sys2Proof.Machine.execSmbusVendorRead s
  | .portLinkUp p => Sys2Proof.Machine.execPortLinkUp p s
  | .portLinkDown p => Sys2Proof.Machine.execPortLinkDown p s
  | .arpRequest p vid target smac sip => Sys2Proof.Machine.execArpRequest p vid target smac sip s
  | .neighbourSolicitation p vid target smac => Sys2Proof.Machine.execNeighbourSolicitation p vid target smac s
  | .echoRequest p vid v6 smac ident => Sys2Proof.Machine.execEchoRequest p vid v6 smac ident s
  | .pfcFrame p en pause => Sys2Proof.Machine.execPfcFrame p en pause s
  | .frameDrop p prio drained => Sys2Proof.Machine.execFrameDrop p prio drained s
  | .tcpSyn p vid v6 smac addr rport dport seq opts => Sys2Proof.Machine.execTcpSyn p vid v6 smac addr rport dport seq opts s
  | .tcpHandshakeAck a ack => Sys2Proof.Machine.execTcpHandshakeAck a ack s
  | .tcpSegment a seq len ack ce ece prio drained => Sys2Proof.Machine.execTcpSegment a seq len ack ce ece prio drained s
  | .tcpFin a => Sys2Proof.Machine.execTcpFin a s
  | .tcpRst a => Sys2Proof.Machine.execTcpRst a s
  | .tcpRetransmitTimeout a => Sys2Proof.Machine.execTcpRetransmitTimeout a s
  | .icreq a pfv hpda hd dd maxr2t => Sys2Proof.Machine.execIcreq a pfv hpda hd dd maxr2t s
  | .capsuleCommand a sqe n data hdOk ddOk => Sys2Proof.Machine.execCapsuleCommand a sqe n data hdOk ddOk s
  | .h2cData id ofs n data hdOk ddOk => Sys2Proof.Machine.execH2cData id ofs n data hdOk ddOk s
  | .fabricsConnect id => Sys2Proof.Machine.execFabricsConnect id s
  | .propertyGet id => Sys2Proof.Machine.execPropertyGet id s
  | .propertySet id => Sys2Proof.Machine.execPropertySet id s
  | .keepAlive id => Sys2Proof.Machine.execKeepAlive id s
  | .disconnect id => Sys2Proof.Machine.execDisconnect id s
  | .katoExpiry a => Sys2Proof.Machine.execKatoExpiry a s
  | .herdReq p smac h key buf => Sys2Proof.Machine.execHerdReq p smac h key buf s
  | .herdData p h ofs len payload => Sys2Proof.Machine.execHerdData p h ofs len payload s
  | .herdResp p h status size => Sys2Proof.Machine.execHerdResp p h status size s
  | .herdErr p h code => Sys2Proof.Machine.execHerdErr p h code s
  | .herdDeadlineExpiry txid => Sys2Proof.Machine.execHerdDeadlineExpiry txid s
  | .transitEntryExpiry origin txid => Sys2Proof.Machine.execTransitEntryExpiry origin txid s
  | .lexLookup m => Sys2Proof.Machine.execLexLookup m s
  | .lexInsert m => Sys2Proof.Machine.execLexInsert m s
  | .lexReplace m => Sys2Proof.Machine.execLexReplace m s
  | .lexInsertOrReplace m => Sys2Proof.Machine.execLexInsertOrReplace m s
  | .lexDelete m => Sys2Proof.Machine.execLexDelete m s
  | .lexReadWay m => Sys2Proof.Machine.execLexReadWay m s
  | .lexWriteHeapSlot m => Sys2Proof.Machine.execLexWriteHeapSlot m s
  | .lexReadHeapSlot m => Sys2Proof.Machine.execLexReadHeapSlot m s
  | .lexiconLoad id host => Sys2Proof.Machine.execLexiconLoad id host s
  | .lexiconRemove id host => Sys2Proof.Machine.execLexiconRemove id host s
  | .segmentTableWrite id host => Sys2Proof.Machine.execSegmentTableWrite id host s
  | .lexiconRead id => Sys2Proof.Machine.execLexiconRead id s
  | .lexiconGeometry id => Sys2Proof.Machine.execLexiconGeometry id s
  | .pairLinkUp lanes => Sys2Proof.Machine.execPairLinkUp lanes s
  | .laneLoss => Sys2Proof.Machine.execLaneLoss s
  | .nullFrame h => Sys2Proof.Machine.execNull h s
  | .hello h image acting base current sync mapValid serial herd slots => Sys2Proof.Machine.execHello h image acting base current sync mapValid serial herd slots s
  | .hb h spent current msn => Sys2Proof.Machine.execHb h spent current msn s
  | .mwr h slot kind lba blocks n data => Sys2Proof.Machine.execMwr h slot kind lba blocks n data s
  | .mord h => Sys2Proof.Machine.execMord h s
  | .mack h => Sys2Proof.Machine.execMack h s
  | .mnak h status => Sys2Proof.Machine.execMnak h status s
  | .ledg h page => Sys2Proof.Machine.execLedg h page s
  | .lack h seq => Sys2Proof.Machine.execLack h seq s
  | .lreq h => Sys2Proof.Machine.execLreq h s
  | .lrsp h page => Sys2Proof.Machine.execLrsp h page s
  | .lreqTimeout => Sys2Proof.Machine.execLreqTimeout s
  | .nsop h op slot lbas nsze => Sys2Proof.Machine.execNsop h op slot lbas nsze s
  | .nsack h status => Sys2Proof.Machine.execNsack h status s
  | .rsmap h words => Sys2Proof.Machine.execRsmap h words s
  | .rsd h slot lba blocks data => Sys2Proof.Machine.execRsd h slot lba blocks data s
  | .rsdone h => Sys2Proof.Machine.execRsdone h s
  | .resyncRegion slot region => Sys2Proof.Machine.execResyncRegion slot region s
  | .pairRetransmit => Sys2Proof.Machine.execPairRetransmit s
  | .nullSend => Sys2Proof.Machine.execNullSend s
  | .helloSend => Sys2Proof.Machine.execHelloSend s
  | .heartbeatSend => Sys2Proof.Machine.execHeartbeatSend s
  | .linkLoss => Sys2Proof.Machine.execLinkLoss s
  | .grant ok pairId epoch => Sys2Proof.Machine.execGrant ok pairId epoch s
  | .deny ok pairId => Sys2Proof.Machine.execDeny ok pairId s
  | .pong ok => Sys2Proof.Machine.execPong ok s
  | .witnessReplyTimeout => Sys2Proof.Machine.execWitnessReplyTimeout s
  | .claimResend => Sys2Proof.Machine.execClaimResend s
  | .pingSend => Sys2Proof.Machine.execPingSend s
  | .witnessConnectionLost => Sys2Proof.Machine.execWitnessConnectionLost s
  | .witnessReconnect => Sys2Proof.Machine.execWitnessReconnect s
  | .cipherTailWrite m ch index => Sys2Proof.Machine.execCipherTailWrite m ch index s
  | .cipherJobStart q => Sys2Proof.Machine.execCipherJobStart q s
  | .cipherSlicePoint q => Sys2Proof.Machine.execCipherSlicePoint q s
  | .cipherJobDone q => Sys2Proof.Machine.execCipherJobDone q s
  | .endProg q => Sys2Proof.Machine.execEnd q s
  | .ldin q => Sys2Proof.Machine.execLdin q s
  | .stout q => Sys2Proof.Machine.execStout q s
  | .ldp q => Sys2Proof.Machine.execLdp q s
  | .aese q => Sys2Proof.Machine.execAese q s
  | .aesd q => Sys2Proof.Machine.execAesd q s
  | .xor q => Sys2Proof.Machine.execXor q s
  | .gfmul q => Sys2Proof.Machine.execGfmul q s
  | .xtime q => Sys2Proof.Machine.execXtime q s
  | .inc64 q => Sys2Proof.Machine.execInc64 q s
  | .ctradd q => Sys2Proof.Machine.execCtradd q s
  | .glen q => Sys2Proof.Machine.execGlen q s
  | .mov q => Sys2Proof.Machine.execMov q s
  | .zero q => Sys2Proof.Machine.execZero q s
  | .bloop q => Sys2Proof.Machine.execBloop q s
  | .bunit q => Sys2Proof.Machine.execBunit q s
  | .baad q => Sys2Proof.Machine.execBaad q s
  | .chktag q => Sys2Proof.Machine.execChktag q s
  | .sttag q => Sys2Proof.Machine.execSttag q s
  | .illegalOpcode q => Sys2Proof.Machine.execIllegalOpcode q s
  | .authenticatedCopy q => Sys2Proof.Machine.execAuthenticatedCopy q s
  | .keyImport q => Sys2Proof.Machine.execKeyImport q s
  | .keyLoad q => Sys2Proof.Machine.execKeyLoad q s
  | .keyEvict q => Sys2Proof.Machine.execKeyEvict q s
  | .keyErase q => Sys2Proof.Machine.execKeyErase q s
  | .microcodeLoad => Sys2Proof.Machine.execMicrocodeLoad s
  | .fuseProgram m sel => Sys2Proof.Machine.execFuseProgram m sel s
  | .fuseProgramDone => Sys2Proof.Machine.execFuseProgramDone s
  | .sramRead m off n fetch flips => Sys2Proof.Machine.execSramRead m off n fetch flips s
  | .sramWrite m off n v flips => Sys2Proof.Machine.execSramWrite m off n v flips s
  | .sramScrubPass => Sys2Proof.Machine.execSramScrubPass s
  | .sramScrubLate => Sys2Proof.Machine.execSramScrubLate s
  | .bpmAlloc m group size => Sys2Proof.Machine.execBpmAlloc m group size s
  | .hwAllocServed => Sys2Proof.Machine.execHwAllocServed s
  | .free m group pool idx => Sys2Proof.Machine.execFree m group pool idx s
  | .share m group pool idx => Sys2Proof.Machine.execShare m group pool idx s
  | .unshare m group pool idx => Sys2Proof.Machine.execUnshare m group pool idx s
  | .pass m group pool idx target => Sys2Proof.Machine.execPass m group pool idx target s
  | .freeRingRefill pool => Sys2Proof.Machine.execFreeRingRefill pool s
  | .freeRingSpill pool => Sys2Proof.Machine.execFreeRingSpill pool s
  | .dmaLoad m n irq => Sys2Proof.Machine.execDmaLoad m n irq s
  | .dmaAbort m n => Sys2Proof.Machine.execDmaAbort m n s
  | .dmaBeat n => Sys2Proof.Machine.execDmaBeat n s
  | .dmaTransferDone n => Sys2Proof.Machine.execDmaTransferDone n s
  | .dmaResume m => Sys2Proof.Machine.execDmaResume m s
  | .dramRead m off n fetch flips queuedWrite => Sys2Proof.Machine.execDramRead m off n fetch flips queuedWrite s
  | .dramWrite m off n v flips => Sys2Proof.Machine.execDramWrite m off n v flips s
  | .dramInit m => Sys2Proof.Machine.execDramInit m s
  | .dramInitDone fail cause laneFail => Sys2Proof.Machine.execDramInitDone fail cause laneFail s
  | .refresh ch rank => Sys2Proof.Machine.execRefresh ch rank s
  | .mr4Poll hot => Sys2Proof.Machine.execMr4Poll hot s
  | .refreshWindow ch => Sys2Proof.Machine.execRefreshWindow ch s
  | .rowIdleClose ch rank bg bank => Sys2Proof.Machine.execRowIdleClose ch rank bg bank s
  | .channelHold m mask => Sys2Proof.Machine.execChannelHold m mask s
  | .dramScrubPass => Sys2Proof.Machine.execDramScrubPass s
  | .dramScrubLate => Sys2Proof.Machine.execDramScrubLate s
  | .codeFlashRead m off n fetch flips => Sys2Proof.Machine.execCodeFlashRead m off n fetch flips s
  | .illegalWrite m a n v => Sys2Proof.Machine.execIllegalWrite m a n v s
  | .unmappedAccess m a n write fetch => Sys2Proof.Machine.execUnmappedAccess m a n write fetch s
  | .registerWrite m off v => Sys2Proof.Machine.execRegisterWrite m off v s
  | .wordProgram m => Sys2Proof.Machine.execWordProgram m s
  | .eraseSector m => Sys2Proof.Machine.execEraseSector m s
  | .suspendErase m => Sys2Proof.Machine.execSuspendErase m s
  | .resumeErase m => Sys2Proof.Machine.execResumeErase m s
  | .flashProgramDone bank miss => Sys2Proof.Machine.execFlashProgramDone bank miss s
  | .flashEraseDone bank ok => Sys2Proof.Machine.execFlashEraseDone bank ok s
  | .bootBlockSwap m => Sys2Proof.Machine.execBootBlockSwap m s
  | .sealMap m => Sys2Proof.Machine.execSeal m s
  | .bootAuthenticate => Sys2Proof.Machine.execBootAuthenticate s
  | .sealTimeout => Sys2Proof.Machine.execSealTimeout s
  | .imageCheck => Sys2Proof.Machine.execImageCheck s
  | .dieDiscovery found => Sys2Proof.Machine.execDieDiscovery found s
  | .imageApplied => Sys2Proof.Machine.execImageApplied s
  | .recoveryRequest m => Sys2Proof.Machine.execRecoveryRequest m s
  | .recoveryEntry => Sys2Proof.Machine.execRecoveryEntry s
  | .coreInstruction n => Sys2Proof.Machine.execCoreInstruction n s
  | .fenceI n => Sys2Proof.Machine.execFenceI n s
  | .ebreak n compressed => Sys2Proof.Machine.execEbreak n compressed s
  | .mevclaim n rd => Sys2Proof.Machine.execMevclaim n rd s
  | .mevcomplete n rs => Sys2Proof.Machine.execMevcomplete n rs s
  | .mevthresh n rs => Sys2Proof.Machine.execMevthresh n rs s
  | .mwdkick n => Sys2Proof.Machine.execMwdkick n s
  | .interruptTake n code => Sys2Proof.Machine.execInterruptTake n code s
  | .lockstepMismatch n => Sys2Proof.Machine.execLockstepMismatch n s
  | .watchdogWarning n => Sys2Proof.Machine.execWatchdogWarning n s
  | .watchdogExpiry n => Sys2Proof.Machine.execWatchdogExpiry n s
  | .watchdogPeriodWrite m n period => Sys2Proof.Machine.execWatchdogPeriodWrite m n period s
  | .machineTimerMatch n => Sys2Proof.Machine.execMachineTimerMatch n s
  | .eventRaise src payload => Sys2Proof.Machine.execEventRaise src payload s
  | .softwareRaise m index => Sys2Proof.Machine.execSoftwareRaise m index s
  | .mbxSendlo m k ptr => Sys2Proof.Machine.execMbxSendlo m k ptr s
  | .mbxSendhi m k ptr tag => Sys2Proof.Machine.execMbxSendhi m k ptr tag s
  | .mbxRecv m k => Sys2Proof.Machine.execMbxRecv m k s
  | .faultOccurrence line addr master ty => Sys2Proof.Machine.execFaultOccurrence line addr master ty s
  | .faultReset => Sys2Proof.Machine.execFaultReset s
  | .railTest bad => Sys2Proof.Machine.execRailTest bad s
  | .railFault line => Sys2Proof.Machine.execRailFault line s
  | .collectorDisagreement => Sys2Proof.Machine.execCollectorDisagreement s
  | .faultLineClear m mask => Sys2Proof.Machine.execFaultLineClear m mask s
  | .firstErrorRearm m => Sys2Proof.Machine.execFirstErrorRearm m s
  | .historyClear m => Sys2Proof.Machine.execHistoryClear m s
  | .voteSet m d mask => Sys2Proof.Machine.execVoteSet m d mask s
  | .voteClear m d mask => Sys2Proof.Machine.execVoteClear m d mask s
  | .domainPowerUp d q => Sys2Proof.Machine.execDomainPowerUp d q s
  | .domainUpDone d q ok => Sys2Proof.Machine.execDomainUpDone d q ok s
  | .domainDrop d q => Sys2Proof.Machine.execDomainDrop d q s
  | .domainDropDone d q => Sys2Proof.Machine.execDomainDropDone d q s
  | .demandLapse q => Sys2Proof.Machine.execDemandLapse q s
  | .powerStateRequest m ps => Sys2Proof.Machine.execPowerStateRequest m ps s
  | .dvfsDone => Sys2Proof.Machine.execDvfsDone s
  | .dormantReady m mask => Sys2Proof.Machine.execDormantReady m mask s
  | .retentionPoint => Sys2Proof.Machine.execRetentionPoint s
  | .dormantEntryAbandon => Sys2Proof.Machine.execDormantEntryAbandon s
  | .wake cause => Sys2Proof.Machine.execWake cause s
  | .dormantExitDone ok => Sys2Proof.Machine.execDormantExitDone ok s
  | .counterOverflow k pc => Sys2Proof.Machine.execCounterOverflow k pc s
  | .freeze m => Sys2Proof.Machine.execFreeze m s
  | .unfreeze m => Sys2Proof.Machine.execUnfreeze m s
  | .snap m => Sys2Proof.Machine.execSnap m s
  | .clear m => Sys2Proof.Machine.execClear m s
  | .snapshotDone => Sys2Proof.Machine.execSnapshotDone s
  | .samplePcRead m => Sys2Proof.Machine.execSamplePcRead m s
  | .lineReset => Sys2Proof.Machine.execLineReset s
  | .jstWrite seq data crc => Sys2Proof.Machine.execJstWrite seq data crc s
  | .jbdRead seq => Sys2Proof.Machine.execJbdRead seq s
  | .jbdWrite seq data crc => Sys2Proof.Machine.execJbdWrite seq data crc s
  | .jbdAccessDone => Sys2Proof.Machine.execJbdAccessDone s
  | .halt m n => Sys2Proof.Machine.execHalt m n s
  | .resumeCore m n => Sys2Proof.Machine.execResumeCore m n s
  | .step m n => Sys2Proof.Machine.execStep m n s
  | .split m n => Sys2Proof.Machine.execSplit m n s
  | .iinv m n => Sys2Proof.Machine.execIinv m n s
  | .breakpointHit n k => Sys2Proof.Machine.execBreakpointHit n k s
  | .watchpointHit n j => Sys2Proof.Machine.execWatchpointHit n j s
  | .coreRegisterAccess m n num csr write differ => Sys2Proof.Machine.execCoreRegisterAccess m n num csr write differ s
  | .aggregationTimeExpiry q => Sys2Proof.Machine.execAggregationTimeExpiry q s
  | .partnerReachTimeout => Sys2Proof.Machine.execPartnerReachTimeout s
  | .witnessConnectionUp => Sys2Proof.Machine.execWitnessConnectionUp s
  | .pairLaneRestore => Sys2Proof.Machine.execPairLaneRestore s
  | .referenceClockStop => Sys2Proof.Machine.execReferenceClockStop s
  | .referenceClockReturn => Sys2Proof.Machine.execReferenceClockReturn s
  | .jdpPortRequest word data crc => Sys2Proof.Machine.execJdpPortRequest word data crc s

end Sys2Proof.Machine
end

