-- ==== Sys2Proof/WellFormed.lean ====
section
/-! DEFINITION. Which commands are well formed: what a sender can send.  exec gives every command a meaning; a statement that needs one of these checks says so. -/

namespace Sys2Proof

/-- Master IDs 0 to 26 are assigned (R16). -/
def busMaster (m : MasterId) : Bool := decide (m.val < 27)

/-- A value of n bytes. -/
def fits (v n : Nat) : Bool := decide (v < 256 ^ n)

/-- Keys strictly rising. -/
def rising {α : Type} : List (Nat × α) → Bool
  | [] => true
  | [_] => true
  | a :: b :: r => decide (a.1 < b.1) && rising (b :: r)

/-- A command that a sender can send: its master is assigned (R16), an access moves at least one byte and no more data than its size, positions
and slots are within the part's numbers (R13), lists of keyed items are in order. -/
def Instr.wf : Instr → Bool
  | .powerOn _ _ => true
  | .resetNFall => true
  | .resetNRise _ _ => true
  | .brownOutAssert _ => true
  | .channelQuiesce _ => true
  | .brownOutSelfReset => true
  | .referenceClockLoss => true
  | .temperatureUpdate _ => true
  | .tickCutoff => true
  | .tickBoundary => true
  | .commit m _ => busMaster m
  | .globalCommit m => busMaster m
  | .nop _ => true
  | .startPageReadQlc _ => true
  | .startPageReadSlc _ => true
  | .startProgramQlc _ => true
  | .startProgramSlc _ => true
  | .startBlockErase _ => true
  | .startBlockEraseSlc _ => true
  | .startSoftRead _ => true
  | .armedStartIssue _ _ => true
  | .suspend _ => true
  | .suspendComplete _ _ => true
  | .resume _ => true
  | .dataOut _ bursts => decide (1 ≤ bursts.length) && decide (bursts.length ≤ 16)
  | .dataIn _ n => decide (1 ≤ n.val)
  | .poll _ _ _ => true
  | .internalPoll _ _ _ _ => true
  | .heldBurstStart _ _ => true
  | .arrayOperationEnd _ _ _ => true
  | .dieTimeout _ _ => true
  | .dieReset m _ _ => busMaster m
  | .targetResetDone _ _ => true
  | .dieRetire m _ _ => busMaster m
  | .retrain _ => true
  | .retrainLate _ => true
  | .codewordHardDecode _ _ _ _ => true
  | .softReadPlace _ => true
  | .codewordSoftDecode _ _ _ _ => true
  | .stripeReconstructDone _ => true
  | .errorInjectArm m _ _ => busMaster m
  | .mapLookup _ => true
  | .placement => true
  | .merge _ => true
  | .trimPlace _ => true
  | .stripeAppend _ _ => true
  | .creamTargetRecompute => true
  | .fold => true
  | .entryRead m _ _ => busMaster m
  | .entrySetLost m _ _ => busMaster m
  | .entrySetFirmware m _ _ => busMaster m
  | .entryClear m _ _ => busMaster m
  | .namespaceZeroDone => true
  | .skimVictimSelect => true
  | .groupErase _ => true
  | .skmRetire m _ _ => busMaster m
  | .stripeClose _ _ => true
  | .groupOpen _ => true
  | .ledgerWrite => true
  | .ledgerEntryDurable => true
  | .widthChange => true
  | .patrolPassStart => true
  | .patrolRead => true
  | .patrolCheck => true
  | .patrolLate => true
  | .rebuildStart => true
  | .rebuildStripe => true
  | .rebuildDone => true
  | .lostStripeClear m _ => busMaster m
  | .checkpointBegin => true
  | .checkpointComplete => true
  | .checkpointLate => true
  | .checkpointNow m => busMaster m
  | .shutdownRequest m => busMaster m
  | .shutdownComplete => true
  | .ckpStartup f => rising f.markers && rising f.scan
  | .configRequest space _ dword _ _ => (match space with | .config => decide (dword.val < 1024) | .bar0 => decide (dword.val < 16384) | .bar2 => true)
  | .perst => true
  | .hotReset => true
  | .functionLevelReset => true
  | .pcieLinkUp _ _ _ => true
  | .pcieLinkDown => true
  | .linkRetrain m _ _ _ => busMaster m
  | .controllerEnable _ _ _ _ => true
  | .controllerDisable => true
  | .shutdownNotification _ => true
  | .sqTailDoorbell _ _ => true
  | .cqHeadDoorbell _ _ => true
  | .commandFetch _ _ => true
  | .completionPost _ => true
  | .deleteIoSq _ => true
  | .createIoSq _ => true
  | .deleteIoCq _ => true
  | .createIoCq _ => true
  | .getLogPage _ => true
  | .identify _ => true
  | .abort _ => true
  | .setFeatures _ => true
  | .setFeaturesPowerManagement _ => true
  | .getFeatures _ => true
  | .asynchronousEventRequest _ => true
  | .namespaceCreate _ _ => true
  | .namespaceDelete _ => true
  | .firmwareCommit _ => true
  | .firmwareImageDownload _ => true
  | .namespaceAttach _ _ => true
  | .namespaceDetach _ _ => true
  | .formatNvm _ => true
  | .reserveSlot _ => true
  | .vendorAdmin _ => true
  | .flush _ => true
  | .write _ _ ptrs => ptrs.all (fits · 16)
  | .read _ ptrs => ptrs.all (fits · 16)
  | .writeZeroes _ => true
  | .datasetManagement _ host ptrs => fits host 4096 && ptrs.all (fits · 16)
  | .verify _ => true
  | .store _ _ ptrs => ptrs.all (fits · 16)
  | .retrieve _ ptrs => ptrs.all (fits · 16)
  | .deliverySend _ => true
  | .firmwareTransfer m _ _ => busMaster m
  | .firmwareTransferDone ptrs _ => ptrs.all (fits · 16)
  | .firmwareCompletion m _ _ _ => busMaster m
  | .firmwareTimeout _ => true
  | .aenPost m _ _ _ => busMaster m
  | .smbusStatusRead => true
  | .smbusVendorRead => true
  | .portLinkUp _ => true
  | .portLinkDown _ => true
  | .arpRequest _ _ _ _ _ => true
  | .neighbourSolicitation _ _ _ _ => true
  | .echoRequest _ _ _ _ _ => true
  | .pfcFrame _ _ _ => true
  | .frameDrop _ _ _ => true
  | .tcpSyn _ _ v6 _ addr _ _ _ _ => v6 || decide (addr.toNat < 2 ^ 32)
  | .tcpHandshakeAck _ _ => true
  | .tcpSegment _ _ _ _ _ _ _ _ => true
  | .tcpFin _ => true
  | .tcpRst _ => true
  | .tcpRetransmitTimeout _ => true
  | .icreq _ _ _ _ _ _ => true
  | .capsuleCommand _ _ n data _ _ => fits data n
  | .h2cData _ _ n data _ _ => fits data n && decide (1 ≤ n)
  | .fabricsConnect _ => true
  | .propertyGet _ => true
  | .propertySet _ => true
  | .keepAlive _ => true
  | .disconnect _ => true
  | .katoExpiry _ => true
  | .herdReq _ _ _ _ buf => decide (buf.toNat ≤ 1048576)
  | .herdData _ _ _ len payload => fits payload len.toNat
  | .herdResp _ _ _ _ => true
  | .herdErr _ _ _ => true
  | .herdDeadlineExpiry _ => true
  | .transitEntryExpiry _ _ => true
  | .lexLookup m => busMaster m
  | .lexInsert m => busMaster m
  | .lexReplace m => busMaster m
  | .lexInsertOrReplace m => busMaster m
  | .lexDelete m => busMaster m
  | .lexReadWay m => busMaster m
  | .lexWriteHeapSlot m => busMaster m
  | .lexReadHeapSlot m => busMaster m
  | .lexiconLoad _ _ => true
  | .lexiconRemove _ _ => true
  | .segmentTableWrite _ _ => true
  | .lexiconRead _ => true
  | .lexiconGeometry _ => true
  | .pairLinkUp lanes => decide (1 ≤ lanes.val)
  | .laneLoss => true
  | .nullFrame _ => true
  | .hello _ _ _ _ _ _ _ _ _ slots => rising slots && slots.all fun e => decide (e.1 < 128)
  | .hb _ _ _ _ => true
  | .mwr _ slot _ _ _ n data => decide (slot.toNat < 128) && fits data n
  | .mord _ => true
  | .mack _ => true
  | .mnak _ _ => true
  | .ledg _ _ => true
  | .lack _ _ => true
  | .lreq _ => true
  | .lrsp _ _ => true
  | .lreqTimeout => true
  | .nsop _ _ slot _ _ => decide (slot.toNat < 128)
  | .nsack _ _ => true
  | .rsmap _ _ => true
  | .rsd _ slot _ _ _ => decide (slot.toNat < 128)
  | .rsdone _ => true
  | .resyncRegion _ _ => true
  | .pairRetransmit => true
  | .nullSend => true
  | .helloSend => true
  | .heartbeatSend => true
  | .linkLoss => true
  | .grant _ _ _ => true
  | .deny _ _ => true
  | .pong _ => true
  | .witnessReplyTimeout => true
  | .claimResend => true
  | .pingSend => true
  | .witnessConnectionLost => true
  | .witnessReconnect => true
  | .cipherTailWrite m _ _ => busMaster m
  | .cipherJobStart _ => true
  | .cipherSlicePoint _ => true
  | .cipherJobDone _ => true
  | .endProg _ => true
  | .ldin _ => true
  | .stout _ => true
  | .ldp _ => true
  | .aese _ => true
  | .aesd _ => true
  | .xor _ => true
  | .gfmul _ => true
  | .xtime _ => true
  | .inc64 _ => true
  | .ctradd _ => true
  | .glen _ => true
  | .mov _ => true
  | .zero _ => true
  | .bloop _ => true
  | .bunit _ => true
  | .baad _ => true
  | .chktag _ => true
  | .sttag _ => true
  | .illegalOpcode _ => true
  | .authenticatedCopy _ => true
  | .keyImport _ => true
  | .keyLoad _ => true
  | .keyEvict _ => true
  | .keyErase _ => true
  | .microcodeLoad => true
  | .fuseProgram m sel => busMaster m && decide (sel.val < 3)
  | .fuseProgramDone => true
  | .sramRead m _ n _ _ => busMaster m && decide (1 ≤ n.val)
  | .sramWrite m _ n v _ => busMaster m && decide (1 ≤ n.val) && fits v.toNat n.val
  | .sramScrubPass => true
  | .sramScrubLate => true
  | .bpmAlloc m _ _ => busMaster m
  | .hwAllocServed => true
  | .free m _ _ _ => busMaster m
  | .share m _ _ _ => busMaster m
  | .unshare m _ _ _ => busMaster m
  | .pass m _ _ _ target => busMaster m && busMaster target
  | .freeRingRefill _ => true
  | .freeRingSpill _ => true
  | .dmaLoad m _ _ => busMaster m
  | .dmaAbort m _ => busMaster m
  | .dmaBeat _ => true
  | .dmaTransferDone _ => true
  | .dmaResume m => busMaster m
  | .dramRead m _ n _ _ _ => busMaster m && decide (1 ≤ n.val)
  | .dramWrite m _ n v _ => busMaster m && decide (1 ≤ n.val) && fits v.toNat n.val
  | .dramInit m => busMaster m
  | .dramInitDone _ _ _ => true
  | .refresh _ _ => true
  | .mr4Poll _ => true
  | .refreshWindow _ => true
  | .rowIdleClose _ _ _ _ => true
  | .channelHold m _ => busMaster m
  | .dramScrubPass => true
  | .dramScrubLate => true
  | .codeFlashRead m _ n _ _ => busMaster m && decide (1 ≤ n.val)
  | .illegalWrite m _ n v => busMaster m && decide (1 ≤ n.val) && fits v.toNat n.val
  | .unmappedAccess m _ n write0 fetch => busMaster m && decide (1 ≤ n.val) && !(write0 && fetch)
  | .registerWrite m _ _ => busMaster m
  | .wordProgram m => busMaster m
  | .eraseSector m => busMaster m
  | .suspendErase m => busMaster m
  | .resumeErase m => busMaster m
  | .flashProgramDone _ _ => true
  | .flashEraseDone _ _ => true
  | .bootBlockSwap m => busMaster m
  | .sealMap m => busMaster m
  | .bootAuthenticate => true
  | .sealTimeout => true
  | .imageCheck => true
  | .dieDiscovery found => rising found && found.all fun e => decide (e.1 < 512)
  | .imageApplied => true
  | .recoveryRequest m => busMaster m
  | .recoveryEntry => true
  | .coreInstruction _ => true
  | .fenceI _ => true
  | .ebreak _ _ => true
  | .mevclaim _ _ => true
  | .mevcomplete _ _ => true
  | .mevthresh _ _ => true
  | .mwdkick _ => true
  | .interruptTake _ _ => true
  | .lockstepMismatch _ => true
  | .watchdogWarning _ => true
  | .watchdogExpiry _ => true
  | .watchdogPeriodWrite m _ _ => busMaster m
  | .machineTimerMatch _ => true
  | .eventRaise _ _ => true
  | .softwareRaise m _ => busMaster m
  | .mbxSendlo m _ _ => busMaster m
  | .mbxSendhi m _ _ _ => busMaster m
  | .mbxRecv m _ => busMaster m
  | .faultOccurrence _ _ master _ => decide (master.val < 27) || decide (master.val = 31)
  | .faultReset => true
  | .railTest _ => true
  | .railFault _ => true
  | .collectorDisagreement => true
  | .faultLineClear m _ => busMaster m
  | .firstErrorRearm m => busMaster m
  | .historyClear m => busMaster m
  | .voteSet m _ _ => busMaster m
  | .voteClear m _ _ => busMaster m
  | .domainPowerUp _ _ => true
  | .domainUpDone _ _ _ => true
  | .domainDrop _ _ => true
  | .domainDropDone _ _ => true
  | .demandLapse _ => true
  | .powerStateRequest m _ => busMaster m
  | .dvfsDone => true
  | .dormantReady m _ => busMaster m
  | .retentionPoint => true
  | .dormantEntryAbandon => true
  | .wake _ => true
  | .dormantExitDone _ => true
  | .counterOverflow _ _ => true
  | .freeze m => busMaster m
  | .unfreeze m => busMaster m
  | .snap m => busMaster m
  | .clear m => busMaster m
  | .snapshotDone => true
  | .samplePcRead m => busMaster m
  | .lineReset => true
  | .jstWrite _ _ _ => true
  | .jbdRead _ => true
  | .jbdWrite _ _ _ => true
  | .jbdAccessDone => true
  | .halt m _ => busMaster m
  | .resumeCore m _ => busMaster m
  | .step m _ => busMaster m
  | .split m _ => busMaster m
  | .iinv m _ => busMaster m
  | .breakpointHit _ _ => true
  | .watchpointHit _ _ => true
  | .coreRegisterAccess m _ num csr _ _ => busMaster m && (csr || decide (num.toNat ≤ 32))
  | .aggregationTimeExpiry _ => true
  | .partnerReachTimeout => true
  | .witnessConnectionUp => true
  | .pairLaneRestore => true
  | .referenceClockStop => true
  | .referenceClockReturn => true
  | .jdpPortRequest _ _ _ => true

end Sys2Proof
end

