-- ==== Sys2Proof/Safety.lean ====
section
/-! DEFINITION. What a safe state and a safe run are, in the terms that the statements use. -/

namespace Sys2Proof.Machine

/-- The sparse maps that commands read and write at any key are in canonical order: memory (Memory.wf), registers, the copies in
force, cores. -/
def State.ok (s : State) : Bool := Memory.wf s.mem && sortedFrom none s.regs && sortedFrom none s.force && sortedFrom none s.cores

/-- The register words that reports of events and faults touch (R371, R381, R391, R416): BOT_STAT and BOT_DENYCNT; EVR_STAT, EVR_RAW and the words of a
core's vectors and ring index; FLT but for its control and reactions; the PMU's overflow bits and counters. -/
def reportReg (off : Nat) : Bool :=
  off = 0x1300020 || off = 0x1300024 || off = 0x150000C || (0x1500100 ≤ off && off < 0x1500150)
    || (0x1500400 ≤ off && off < 0x1500600 && (off % 64 = 0 || off % 64 = 4 || off % 64 = 24))
    || (0x1700008 ≤ off && off < 0x1700018) || (0x1700020 ≤ off && off < 0x1700200)
    || (0x1900040 ≤ off && off < 0x1900060) || (0x1901000 ≤ off && off < 0x1902000 && off % 16 < 8)

/-- t is s but for what reporting events and faults touches: those registers, the event router, the fault collector, the performance monitor, ring
bytes in memory with their check bits and dirty pages, the reservations they break, and a recovery that is due.  Everything else is unchanged, and the
canonical order is kept. -/
def State.Reported (s t : State) : Prop :=
  t = { s with regs := t.regs, mem := t.mem, chk := t.chk, cores := t.cores, evr := t.evr, flt := t.flt, pmu := t.pmu, dirty := t.dirty,
               pwr := { s.pwr with recovDue := t.pwr.recovDue } }
    ∧ (∀ off, reportReg off = false → mfind t.regs off = mfind s.regs off) ∧ (s.ok = true → t.ok = true)

/-- A command answers a next state that has property Q. -/
def Gives (c : Instr) (s : State) (Q : State → Prop) : Prop := ∃ t, exec c s = .next t ∧ Q t

/-- From s to t, line has latched and its reaction was taken (R391, R394, R395). -/
def State.Latched (s t : State) (line : Nat) : Prop :=
  nbit (t.fld FLT_LINE_LINES) line = true ∧ t.flag FLT_STAT_FIRST = true
    ∧ (s.reaction line ≠ 0 → t.flag FLT_STAT_FAULT = true ∧ t.flt.faultN = true)
    ∧ (s.reaction line = 2 → s.mode ≠ mBOOT → s.mode ≠ mCONFIG → s.mode ≠ mRECOVERY → t.pwr.recovDue = some 6)
    ∧ (s.reaction line = 3 → t.flt.bodDrive = true)

/-- The map lets master m write register r (index i) (R370). -/
abbrev State.MayWrite (s : State) (m : Nat) (r : Reg) (i : Nat := 0) : Prop := s.mapAllows m .write (0x40000000 + r.at i 0 0) = true

/-- A write of n bytes at a by master m does not end with an error response. -/
def State.takes (s : State) (m a n : Nat) : Bool := match (memWrite s m .write a n 0).2 with | .err _ => false | _ => true

/-- An access of n bytes at a by master m meets DRAM: allowed, within the installed size, served, and free of bit errors. -/
def State.cleanDram (s : State) (m : Nat) (ty : Acc) (a n : Nat) : Bool :=
  s.mapAllowsAll m ty a n && s.region a == .dram && s.region (a + max n 1 - 1) == .dram
    && (linesOf a n).all fun l => s.dramReady l && (beatErrors s l).isEmpty

/-- The state once TXE has looked the units of a command up (R140). -/
abbrev State.looked (s : State) (c : Cmd) : State := (s.cmdUnits c).foldl (fun s lu => entryLook c.slot lu s) s

/-- t is a device that has entered BOOT with cause c (R27, R368): mode, cause, no seal, domains; L0 at the boot ROM's start in machine mode; the other
cores held. -/
def State.Booted (t : State) (c : Nat) : Prop :=
  t.mode = mBOOT ∧ t.fld BOT_CAUSE_RESET = c ∧ t.flag BOT_STAT_SEALED = false ∧ t.fld PWR_DOMSTAT_ON = 0x4B ∧ t.fld PWR_DOMSTAT_QUAD = 0
    ∧ (t.core 0).released = true ∧ (t.core 0).pc = 0 ∧ (t.core 0).user = false ∧ t.flag EVR_CORE_HALTED 0 = false
    ∧ ∀ n : Fin 8, 1 ≤ n.val → t.core n = {} ∧ t.flag EVR_CORE_HALTED n = true ∧ t.fld EVR_CORE_HALTCAUSE n = 4

/-- From s to t only the register words at the offsets of l may differ. -/
def State.RegsOnly (s t : State) (l : List Nat) : Prop :=
  t = { s with regs := t.regs } ∧ ∀ off, off ∉ l → mfind t.regs off = mfind s.regs off

/-- Channel ch runs and st is the step at the head of its program (R55, R103). -/
abbrev State.Head (s : State) (ch : Nat) (st : Step) : Prop :=
  s.quadOn ch = true ∧ s.fchBod ch = false ∧ (s.chan ch).prog.head? = some st

/-- A safe state whose maps of dies, channels and media work are in canonical order too. -/
def State.mediaOk (s : State) : Bool := s.ok && sortedFrom none s.dies && sortedFrom none s.chans && sortedFrom none s.tck.jobs

/-- The other sparse maps that statements read are in canonical order, and the key cache holds at most its 4,096 keys. -/
def State.mapsOk (s : State) : Bool :=
  s.mediaOk && s.cores.all (fun e => sortedFrom none e.2.x) && sortedFrom none s.chk && sortedFrom none s.drc.banks && sortedFrom none s.bpm.cache
    && sortedFrom none s.bpm.ring && sortedFrom none s.cfl.run && sortedFrom none s.cfl.susp && sortedFrom none s.cip.fuse && sortedFrom none s.cip.saved
    && sortedFrom none s.cip.seqs && sortedFrom none s.cip.taken && sortedFrom none s.keys && s.keys.length ≤ 4096 && sortedFrom none s.cmds
    && sortedFrom none s.ecc.bufs && sortedFrom none s.evr.prio && sortedFrom none s.fab.ctxs && sortedFrom none s.fab.h2c && sortedFrom none s.hpt.attach
    && sortedFrom none s.hpt.cfg && sortedFrom none s.hpt.cqs && sortedFrom none s.hpt.fw && sortedFrom none s.hpt.reserved
    && sortedFrom none s.hrd.origin && sortedFrom none s.hrd.transit && sortedFrom none s.lex.deliv && sortedFrom none s.mbx.msgs
    && sortedFrom none s.mbx.rlatch && sortedFrom none s.mbx.sendLatch && sortedFrom none s.plk.map && sortedFrom none s.plk.rx && sortedFrom none s.skm.spare

/-- Command id is fetched, an admin command with opcode opc that HPT may act on now (R34, R234, R235). -/
abbrev State.AdminReady (s : State) (id : Nat) (c : Cmd) (opc : Nat) : Prop :=
  s.cmd id = some c ∧ c.phase = 0 ∧ c.isAdmin = true ∧ c.port < 8192 ∧ c.opc = opc ∧ s.cmdsWait = false ∧ s.fabTakes id c = true ∧ c.fuse = 0
    ∧ (c.port = 0 → c.psdt = 0)

/-- Command id is fetched, an I/O command with opcode opc on a namespace that passes the checks of R235. -/
abbrev State.IoReady (s : State) (id : Nat) (c : Cmd) (opc slot slba nlb : Nat) (write mdts : Bool) : Prop :=
  s.cmd id = some c ∧ c.phase = 0 ∧ c.isAdmin = false ∧ c.port < 8192 ∧ c.opc = opc ∧ s.cmdsWait = false ∧ s.behind id c = false
    ∧ s.fabTakes id c = true ∧ c.fuse = 0 ∧ s.slotOf c.nsid = some slot ∧ s.ioStatus c slot slba nlb write mdts = none

/-- Command c says where n bytes of its data lie (R235): the reads rd fetch its PRP lists or SGL segments, of which e is the contents, and l are the pieces of
host memory.  The data of a fabric command goes by its connection. -/
abbrev State.Ptrs (s : State) (c : Cmd) (n : Nat) (e : List Nat) (rd l : List (Nat × Nat)) : Prop :=
  if c.port = 0 then s.dataPtrs c n e = .ok (rd, l) else rd = [] ∧ l = c.segs ∧ c.segErr = 0

/-- Command id is fetched, a Store or Retrieve on a namespace that passes steps 1 to 4 of R271. -/
abbrev State.KvReady (s : State) (id : Nat) (c : Cmd) (opc slot : Nat) : Prop :=
  s.cmd id = some c ∧ c.phase = 0 ∧ c.isAdmin = false ∧ c.port < 8192 ∧ c.opc = opc ∧ s.cmdsWait = false ∧ s.behind id c = false
    ∧ s.fabTakes id c = true ∧ s.flag LEX_CTL_ENA = true ∧ c.fuse = 0 ∧ s.domOn dLEX = true ∧ c.keyBad = none ∧ c.cdw 10 ≤ 2 ^ 20 ∧ s.slotOf c.nsid = some slot ∧ s.ioStatus c slot 0 0 (opc = 0x01) false = none

/-- A command as it stands once it is ready to complete with a status value (status code type × 256 + status code). -/
def Cmd.ended (c : Cmd) (st : Nat) : Cmd := { c with phase := 6, sct := st / 256, sc := st % 256 }

/-- A step is safe: it does not stop. -/
def Safe (s : State) : Prop := ∃ t, step s = .next t

end Sys2Proof.Machine
end

