-- ==== Sys2Proof/Certificates/Slice0/Obligations.lean ====
section
/-! DEFINITION. The statements for the provers. -/

open Sys2Proof Sys2Proof.Machine

/-! ### The queue, the step and the state after reset -/

/-- The step of a block: with command c at the front of the queue, step is exec of c on the state with the queue's rest. -/
def Obligations.StepRunsTheFrontCommand : Prop :=
  ∀ (s : State) (c : Instr) (q : List Instr), s.pending = c :: q → step s = exec c { s with pending := q }

/-- The model's choice of notes/assumptions/1.md over R21 and R52: with no command waiting, a step lets one 100 MHz reference cycle pass: outside DORMANT
EVR_MTIME and TCK_PHASE count it, and nothing but the performance monitor, free values and these counters changes. -/
def Obligations.AnEmptyQueueLetsOneCyclePass : Prop :=
  ∀ s : State, s.ok = true → s.pending = [] → ∃ t, step s = .next t ∧ t.mtime = (s.mtime + 1) % 2 ^ 64
    ∧ (s.mode ≠ mDORMANT → s.fld TCK_PHASE_CYCLES < s.tickCycles → t.fld TCK_PHASE_CYCLES = (s.fld TCK_PHASE_CYCLES + 1) % 2 ^ 12)
    ∧ t = { s with regs := t.regs, pmu := t.pmu, free := t.free } ∧ (∀ off, (off < 0x1900000 ∨ 0x1A00000 ≤ off) → off ≠ EVR_MTIME_LO.at 0 0 0 → off ≠ EVR_MTIME_HI.at 0 0 0 →
        off ≠ TCK_PHASE.at 0 0 0 → mfind t.regs off = mfind s.regs off)

/-- Commands run in the order of the queue and none is lost: a step takes away exactly the command at its front. -/
def Obligations.CommandsRunInOrder : Prop := ∀ s t : State, step s = .next t → t.pending = s.pending.tail

/-- A step keeps the canonical form of memory and the canonical order of the register words, of the copies in force and of the cores. -/
def Obligations.StepKeepsTheCanonicalForm : Prop := ∀ s t : State, s.ok = true → step s = .next t → t.ok = true

/-- A step keeps the order of every map that the other statements take to be in order. -/
def Obligations.StepKeepsTheMapsInOrder : Prop := ∀ s t : State, s.mapsOk = true → step s = .next t → t.mapsOk = true

/-- R26, R27, R30: the state after reset is in canonical form and is a device that has entered BOOT by power-on, with no command waiting. -/
def Obligations.ResetIsABootedDevice : Prop := State.reset.ok = true ∧ State.reset.mapsOk = true ∧ State.reset.Booted 1 ∧ State.reset.pending = [] ∧ State.reset.mem = []

/-- R371, R381, R391, R416: raising an event or recording a fault changes nothing but the registers and state of reporting. -/
def Obligations.ReportsChangeOnlyReports : Prop :=
  ∀ (s : State) (src p line addr m ty : Nat), State.Reported s (raise src p s) ∧ State.Reported s (occur line addr m ty s)

/-! ### The fault collector and the ways into BOOT -/

/-- R391, R392, R394, R395, R389, R388: an occurrence latches its line, records the first error and takes the line's reaction: FAULT_OCCURRENCE on a
line that is live, COLLECTOR_DISAGREEMENT (line 31), REFERENCE_CLOCK_LOSS (line 28), RAIL_FAULT and each failing line of RAIL_TEST (line 30, and the
line's bit in FLT_RAILSTAT).  Nothing but what reports touch changes. -/
def Obligations.FaultOccurrencesLatchRecordAndReact : Prop :=
  ∀ s : State, s.ok = true →
    (∀ (line : Fin 32) (addr : Addr) (master : MasterId) (ty : Fin 4), s.lineLive line = true →
      Gives (.faultOccurrence line addr master ty) s fun t => s.Reported t ∧ s.Latched t line
        ∧ (s.flag FLT_STAT_FIRST = false → t.fld FLT_FIRST0_ADDR = addr.toNat % 2 ^ 32 ∧ t.fld FLT_FIRST1_ADDR = addr.toNat / 2 ^ 32
            ∧ t.fld FLT_FIRST1_MASTER = master.val ∧ t.fld FLT_FIRST1_LINE = line.val)
        ∧ (s.flag FLT_STAT_FIRST = true → t.reg FLT_FIRST0 = s.reg FLT_FIRST0 ∧ t.reg FLT_FIRST1 = s.reg FLT_FIRST1))
    ∧ Gives .collectorDisagreement s (fun t => s.Reported t ∧ s.Latched t 31)
    ∧ (s.pwr.powered = true → (s.mode ≠ mDORMANT ∨ s.pwr.clkreq = true) →
        Gives .referenceClockLoss s fun t => State.Reported { s with pwr.refAbsent := true } t ∧ s.Latched t 28)
    ∧ (∀ line : Fin 32, s.flag FLT_CTL_RAILCHK = true →
        Gives (.railFault line) s fun t => s.Reported t ∧ s.Latched t 30 ∧ nbit (t.fld FLT_RAILSTAT_LINES) line = true)
    ∧ (∀ bad : Word, s.flag FLT_CTL_RAILCHK = true → s.mode ≠ mDORMANT →
        Gives (.railTest bad) s fun t => s.Reported t ∧ t.flt.lastFail = bad.toNat
          ∧ ∀ line : Fin 32, nbit bad.toNat line = true → nbit (t.fld FLT_RAILSTAT_LINES) line = true ∧ nbit (t.fld FLT_LINE_LINES) 30 = true)

/-- R395, R392, R393: FAULT_LINE_CLEAR clears the written bits whose cause is absent and keeps the others, setting CLRREF for one that stays;
FIRST_ERROR_REARM clears FIRST alone; HISTORY_CLEAR empties the ring.  (Line 22 is left out of the first: the event that says the last line cleared
can itself meet a ring write error, R451.) -/
def Obligations.FaultRecordsAreClearedAsWritten : Prop :=
  ∀ (s : State) (m : MasterId), s.ok = true →
    (∀ mask : Word, s.MayWrite m FLT_LINE →
      Gives (.faultLineClear m mask) s fun t => s.Reported t
        ∧ (∀ l : Fin 32, l.val ≠ 22 →
            nbit (t.fld FLT_LINE_LINES) l = (nbit (s.fld FLT_LINE_LINES) l && !(nbit mask.toNat l && !s.cause l)))
        ∧ ((∃ l : Fin 32, nbit mask.toNat l = true ∧ nbit (s.fld FLT_LINE_LINES) l = true ∧ s.cause l = true) → t.flag FLT_STAT_CLRREF = true))
    ∧ (s.MayWrite m FLT_STAT → exec (.firstErrorRearm m) s = .next (s.setFld FLT_STAT_FIRST 0))
    ∧ (s.MayWrite m FLT_CTL → Gives (.historyClear m) s fun t => s.Reported t ∧ t.fld FLT_HISTWR_INDEX = 0 ∧ t.flt.unread = []
        ∧ ∀ i : Fin 16, t.reg FLT_HIST0 i = 0 ∧ t.reg FLT_HIST1 i = 0 ∧ t.reg FLT_HIST2 i = 0 ∧ t.reg FLT_HIST3 i = 0)

/-- R27, R368, R442, R202, R394: POWER_ON, RESET_N_RISE, BROWN_OUT_SELF_RESET and FAULT_RESET enter BOOT with their cause; RESET_N_FALL resets every
domain but AON and holds the cores. -/
def Obligations.ResetsEnterBootWithTheirCause : Prop :=
  ∀ s : State, s.ok = true →
    (∀ r : Bool, Gives (.powerOn true r) s fun t => t.Booted 1 ∧ t.pending = s.pending)
    ∧ (∀ r : Bool, s.pwr.resetN = false → Gives (.resetNRise true r) s fun t => t.Booted 2 ∧ t.pending = s.pending)
    ∧ (s.flag CKP_STAT_BOD = true → s.flag CKP_STAT_QUIESCED = true → Gives .brownOutSelfReset s fun t => t.Booted 3 ∧ t.pending = s.pending)
    ∧ (s.flt.resetDue = true → s.flag CKP_STAT_QUIESCED = true →
        Gives .faultReset s fun t => t.Booted 2 ∧ t.flag FLT_STAT_FRESET = true ∧ t.fld FLT_LINE_LINES = s.fld FLT_LINE_LINES ∧ t.pending = s.pending)
    ∧ Gives .resetNFall s fun t => t.mode = s.mode ∧ t.fld PWR_DOMSTAT_ON = 1 ∧ t.pwr.resetN = false ∧ t.pending = s.pending
        ∧ ∀ n : Fin 8, t.core n = {} ∧ t.flag EVR_CORE_HALTED n = true

/-! ### Power -/

/-- R399, R403, R401: a vote write changes the writer's own clients' votes and no other's, and a bit that names another's sets VOTEREF; DEMAND_LAPSE ends
an idle quad's demand; DOMAIN_POWER_UP starts a wanted domain that is off; DOMAIN_DROP removes power from one that is not wanted, and DOMAIN_DROP_DONE
reports it. -/
def Obligations.VotesMoveDomains : Prop :=
  ∀ s : State, s.ok = true →
    (∀ (m : MasterId) (d : Fin 8) (mask : Word),
      let own := fun i : Fin 32 => (m.val < 8 ∧ s.clientOwner d i = m.val) ∨ (m.val = 8 ∧ s.clientOwner d i < 8)
      (s.MayWrite m PWR_VSET d →
        Gives (.voteSet m d mask) s fun t => s.RegsOnly t [PWR_VSET.at d 0 0, PWR_STAT.at 0 0 0]
          ∧ (∀ i : Fin 32, nbit (t.fld PWR_VSET_VOTE d) i = true ↔ nbit (s.fld PWR_VSET_VOTE d) i = true ∨ (nbit mask.toNat i = true ∧ own i))
          ∧ ((∃ i : Fin 32, nbit mask.toNat i = true ∧ ¬ own i) → t.flag PWR_STAT_VOTEREF = true))
      ∧ (s.MayWrite m PWR_VCLR d →
        Gives (.voteClear m d mask) s fun t => s.RegsOnly t [PWR_VSET.at d 0 0, PWR_STAT.at 0 0 0]
          ∧ (∀ i : Fin 32, nbit (t.fld PWR_VSET_VOTE d) i = true ↔ nbit (s.fld PWR_VSET_VOTE d) i = true ∧ ¬ (nbit mask.toNat i = true ∧ own i))
          ∧ ((∃ i : Fin 32, nbit mask.toNat i = true ∧ ¬ own i) → t.flag PWR_STAT_VOTEREF = true)))
    ∧ (∀ q : Fin 4, nbit (s.fld PWR_DOMSTAT_DEMAND) q = true → s.quadWork q = false → s.cur PWR_DEMAND_IDLE ≤ mget 0 s.pwr.idleTicks q →
        Gives (.demandLapse q) s fun t => (∀ p : Fin 4, nbit (t.fld PWR_DOMSTAT_DEMAND) p = (nbit (s.fld PWR_DOMSTAT_DEMAND) p && p != q))
          ∧ State.RegsOnly { s with pwr.idleTicks := mdel s.pwr.idleTicks q } t [PWR_DOMSTAT.at 0 0 0])
    ∧ (∀ (d : Fin 8) (q : Fin 4), d.val ≠ dMEDIA → s.mode ≠ mBOOT → s.mode ≠ mCONFIG → s.wanted d = true → s.domOn d = false → mfind s.pwr.moving d = none →
        Gives (.domainPowerUp d q) s fun t => mfind t.pwr.moving d = some true ∧ nbit (t.fld PWR_DOMSTAT_MOVING) d = true
          ∧ t.fld PWR_DOMSTAT_ON = s.fld PWR_DOMSTAT_ON ∧ State.RegsOnly { s with pwr.moving := t.pwr.moving } t [PWR_DOMSTAT.at 0 0 0])
    ∧ (∀ q : Fin 4, s.mode ≠ mBOOT → s.mode ≠ mCONFIG → (demandSettle s).quadWanted q = true → nbit (s.fld PWR_DOMSTAT_QUAD) q = false →
        mfind s.pwr.movingQuad q = none →
        Gives (.domainPowerUp 2 q) s fun t => mfind t.pwr.movingQuad q = some true ∧ nbit (t.fld PWR_DOMSTAT_MOVING) 2 = true)
    ∧ (∀ (d : Fin 8) (q : Fin 4), d.val ≠ dMEDIA → s.wanted d = false → s.domOn d = true → mfind s.pwr.moving d = none → s.mayDrop d q = true →
        (d.val ≠ dDRAM ∨ s.dramLive = false) → (d.val ≠ dFABRIC ∨ s.mode ≠ mSERVICE ∨ s.flag PLK_ROLE_IMAGE = false) → s.saveBad d q = false →
        Gives (.domainDrop d q) s fun t => t.domOn d = false ∧ mfind t.pwr.moving d = some false ∧ t.pending = s.pending)
    ∧ (∀ (d : Fin 8) (q : Fin 4), s.movingOf d q = some false →
        exec (.domainDropDone d q) s = .next (raise EV_PWR_DOMDOWN (domPayload d q) (setMoving d q none s)))

/-- R404: DOMAIN_UP_DONE with an image that reads back with its CRC reloads the domain's blocks, restores the save list, switches the domain on and
raises EV_PWR_DOMUP; R407: POWER_STATE_REQUEST is refused with PSREF alone while BUSY or above PS4, and an accepted one is BUSY and waits for the
boundary; DVFS_DONE ends BUSY. -/
def Obligations.PowerStatesChangeAtTheBoundary : Prop :=
  ∀ s : State, s.ok = true →
    (∀ (d : Fin 8) (q : Fin 4) (ok : Bool) (s1 : State) (i : Img), s.movingOf d q = some true → s.saveBad d q = false → imageAgain s = (s1, some (some i)) →
        (d.val ≠ dDRAM ∨ ok = true) →
        exec (.domainUpDone d q ok) s = .next (raise EV_PWR_DOMUP (domPayload d q) (domainReload d q ok i (setMoving d q none s1))))
    ∧ (∀ (m : MasterId) (ps : Fin 8), s.MayWrite m PWR_PSREQ →
        (s.flag PWR_MODE_BUSY = true ∨ 4 < ps.val →
          Gives (.powerStateRequest m ps) s fun t => t.flag PWR_STAT_PSREF = true ∧ t.pwr = s.pwr ∧ t.reg PWR_MODE = s.reg PWR_MODE ∧
            s.RegsOnly t [PWR_PSREQ.at 0 0 0, PWR_STAT.at 0 0 0])
        ∧ (s.flag PWR_MODE_BUSY = false → ps.val ≤ 3 → s.mode = mSERVICE →
          Gives (.powerStateRequest m ps) s fun t => t.flag PWR_MODE_BUSY = true ∧ t.pwr.psPend = some ps.val ∧ t.mode = mSERVICE ∧
            t.fld PWR_MODE_PS = s.fld PWR_MODE_PS))
    ∧ (s.flag PWR_MODE_BUSY = true → s.pwr.psPend = none → s.pwr.dormEntry = false → s.mode ≠ mDORMANT →
        Gives .dvfsDone s fun t => t.flag PWR_MODE_BUSY = false ∧ t.pwr.drainEntry = false ∧ t.fld PWR_MODE_PS = s.fld PWR_MODE_PS ∧ t.mode = s.mode
          ∧ State.Reported { s.setFld PWR_MODE_BUSY 0 with pwr.drainEntry := false, pwr.clk := s.fld PWR_MODE_PS } t)

/-- R410–R412, R440, R20: the entry into DORMANT and the exit: PWR_READY, the abandoned entry, the retention point (mode DORMANT at PS4, every domain but
AON off, self-refresh), the wake causes, the reference clock, and the exit with an image that reads back (the mode and the power state from before). -/
def Obligations.DormantIsEnteredAndLeft : Prop :=
  ∀ s : State, s.ok = true →
    (∀ (m : MasterId) (mask : Byte), s.MayWrite m PWR_READY →
        exec (.dormantReady m mask) s = .next (s.setFld PWR_READY_CORE (s.fld PWR_READY_CORE ||| mask.toNat)))
    ∧ (s.pwr.dormEntry = true → s.coresReady = false →
        Gives .dormantEntryAbandon s fun t => t.flag PWR_MODE_BUSY = false ∧ t.flag PWR_STAT_PSREF = true ∧ t.fld PWR_READY_CORE = 0 ∧ t.mode = s.mode
          ∧ State.RegsOnly { s with pwr.dormEntry := false, pwr.cmdHeld := false } t [PWR_MODE.at 0 0 0, PWR_STAT.at 0 0 0, PWR_READY.at 0 0 0])
    ∧ (s.pwr.dormEntry = true → s.coresReady = true → s.mediaAtRest = true → (∀ (d : Fin 8) (q : Fin 4), s.saveBad d q = false) →
        Gives .retentionPoint s fun t => t.mode = mDORMANT ∧ t.fld PWR_MODE_PS = 4 ∧ t.flag PWR_MODE_BUSY = false ∧ t.fld PWR_DOMSTAT_ON = 1
          ∧ t.drc.selfRef = true ∧ t.pwr.retention = true ∧ t.pwr.dormEntry = false ∧ t.pend = [])
    ∧ (∀ cause : Fin 3, s.mode = mDORMANT → (cause.val ≠ 2 ∨ s.pwr.cmdHeld = true) →
        Gives (.wake cause) s fun t => nbit (t.reg PWR_WAKE).toNat cause = true ∧ t.pwr.exiting = true ∧ t.mode = mDORMANT)
    ∧ (s.mode = mDORMANT → s.pwr.exiting = false → exec .referenceClockStop s = .next { s with pwr.clkreq := false, pwr.refAbsent := true })
    ∧ exec .referenceClockReturn s = .next { s with pwr.refAbsent := false }
    ∧ (∀ (s1 : State) (i : Img), s.mode = mDORMANT → s.pwr.exiting = true → (∀ (d : Fin 8) (q : Fin 4), s.saveBad d q = false) →
        imageAgain (setDom dCTRL true (banksZero s)) = (s1, some (some i)) →
        Gives (.dormantExitDone true) s fun t => t.mode = s.pwr.modeBefore % 8 ∧ t.pwr.exiting = false ∧ t.pwr.cmdHeld = false)

/-- R447, R244: TEMPERATURE_UPDATE records Tj and drives THERM_N against TRIP with 5 °C of hysteresis; outside DORMANT, SMBUS_STATUS_READ and
SMBUS_VENDOR_READ answer from always-on state and change nothing else. -/
def Obligations.SensorsAndSmbusReport : Prop :=
  ∀ s : State, s.ok = true →
    (∀ tj : BitVec 11,
      let trip : Int := 4 * (max 90 (min 125 s.trip) : Nat)
      Gives (.temperatureUpdate tj) s fun t => t.fld PWR_TEMP_TJ = tj.toNat
        ∧ (t.flag PWR_TEMP_HOT = true ↔ (if s.flag PWR_TEMP_HOT = true then trip - 20 < tj.toInt else trip ≤ tj.toInt))
        ∧ (t.out = if t.flag PWR_TEMP_HOT = s.flag PWR_TEMP_HOT then s.out else s.out ++ [.frame "board" "THERM_N" [b2n (!t.flag PWR_TEMP_HOT)]])
        ∧ State.RegsOnly { s with out := t.out } t [PWR_TEMP.at 0 0 0])
    ∧ (s.mode ≠ mDORMANT → Gives .smbusStatusRead s fun t =>
        t = { s with out := s.out ++ [.frame "smbus" "status" (smbusBlock 0 [s.sflgs, 255 - s.smartWarnings, ctempByte (BitVec.ofNat 11 (s.fld PWR_TEMP_TJ)), s.percentUsed, 0, 0])] }
        ∧ (nbit s.sflgs 6 = true ↔ s.mode = mSERVICE ∨ s.mode = mSOLO ∨ s.mode = mDRAIN ∨ s.mode = mSPENT))
    ∧ (s.mode ≠ mDORMANT → exec .smbusVendorRead s =
        .next { s with out := s.out ++ [.frame "smbus" "vendor" (smbusBlock 8
          ([s.fld HPT_PCIID_VENDOR / 256, s.fld HPT_PCIID_VENDOR % 256] ++ (List.range 20).map fun i => s.rawNat (0x8000EF00 + i) 1))] })

/-! ### Boot, the seal, the layout image, recovery -/

/-- R368, R369, R27, R374: the boot ROM's authentication with each of its results; the seal starts CONFIG; the seal's time limit, a requested recovery and
the recovery entry, from BOOT under the default map and from RECOVERY, with or without an image that passes. -/
def Obligations.BootSealsOrRecovers : Prop :=
  ∀ s : State, s.ok = true →
    (∀ (s1 : State) (h : Nat),
        let c0 := s.selCount 0
        let c1 := s.selCount 1
        let b := if c0 < c1 then 1 else 0
        s.mode = mBOOT → s.pwr.resetN = true → s.bot.bootRun = false → s.bot.recovWait = false →
        memRead (((s.setFld BOT_BOOT_COUNT0 c0).setFld BOT_BOOT_COUNT1 c1).setFld BOT_BOOT_BANK b) 0 .read (bankAddr b) 64 = (s1, .ok h) →
        (headerOk h 0x31425442 524288 = false →
          Gives .bootAuthenticate s fun t => t = { s1.setFld BOT_CAUSE_RECOV 1 with bot.recovWait := true, bot.bootRun := false })
        ∧ (∀ (s2 : State) (r : Nat),
            let n := imgAt h 8 4
            let load := imgAt h 16 4
            headerOk h 0x31425442 524288 = true → 0x20000000 ≤ load → load + n ≤ 0x20C00000 →
            authCopy (bankAddr b) load (n - 16) (bankAddr b + n - 16) s1 = (s2, some r) →
            Gives .bootAuthenticate s fun t =>
              (r = 0 → t.bot.bootRun = true ∧ t.bot.revision = imgAt h 24 8 ∧ (t.core 0).pc = BitVec.ofNat 64 (load + imgAt h 12 4))
              ∧ (r ≠ 0 → t.bot.bootRun = false ∧ t.bot.recovWait = true ∧ (s2.ok = true → t.fld BOT_CAUSE_RECOV = 2))))
    ∧ (∀ m : MasterId, s.MayWrite m BOT_SEAL → s.mode = mBOOT → s.flag BOT_STAT_SEALED = false →
        Gives (.sealMap m) s fun t => t.flag BOT_STAT_SEALED = true ∧ t.flag BOT_SEAL_SEAL = true ∧ t.mode = mCONFIG
          ∧ t.fld PWR_DOMSTAT_ON = 0x7F ∧ t.fld PWR_DOMSTAT_QUAD = 15 ∧ (t.core 0).pc = 0x100)
    ∧ (s.mode = mBOOT → s.bot.bootRun = true →
        exec .sealTimeout s = .next { s.setFld BOT_CAUSE_RECOV 3 with bot.recovWait := true, bot.bootRun := false })
    ∧ (∀ m : MasterId, s.MayWrite m PWR_CTL → (s.mode = mSERVICE ∨ s.mode = mSOLO ∨ s.mode = mDRAIN ∨ s.mode = mSPENT) →
        (∀ e ∈ s.cfl.run, e.2.who ≠ m.val) → (∀ o ∈ s.cfl.queue, o.who ≠ m.val) →
        exec (.recoveryRequest m) s = .next { s with pwr.recovDue := some 6 })
    ∧ (∀ (s1 : State) (src : Fin 3) (h : Nat), s.bot.recovWait = true → s.mode = mBOOT → recoveryImage 0 s = (s1, some (src.val, h)) → s1.ok = true →
        Gives .recoveryEntry s fun t => t.mode = mRECOVERY ∧ t.flag BOT_STAT_SEALED = true ∧ t.fld BOT_CAUSE_RCVSRC = src.val ∧ t.bot.recovWait = false
          ∧ (t.bot.recovRun = true ↔ src.val ≠ 2) ∧ t.fld BOT_RENA_LO_ENA = 3 ∧ (∀ n : Fin 7, t.flag EVR_CORE_HALTED n = true)
          ∧ (t.core 7).pc = (if src.val = 2 then 0x200 else BitVec.ofNat 64 (recovLoad + imgAt h 12 4)))
    ∧ (∀ (s1 : State) (src : Fin 3) (h : Nat), s.bot.recovWait = true → s.mode = mRECOVERY → recoveryImage 7 s = (s1, some (src.val, h)) → s1.ok = true →
        Gives .recoveryEntry s fun t => t.fld BOT_CAUSE_RCVSRC = src.val ∧ t.bot.recovWait = false ∧ (t.bot.recovRun = true ↔ src.val ≠ 2)
          ∧ (src.val ≠ 2 → (t.core 7).pc = BitVec.ofNat 64 (recovLoad + imgAt h 12 4)))

/-- R48, R87, R349, R200: CONFIG checks the image (a rejection ends in RECOVERY with cause 4), discovers the dies, and ends; DRAM's initialisation
reports; the assertion of the brown-out signal sets BOD, latches line 27 and drops the reads in flight. -/
def Obligations.ConfigAppliesTheImage : Prop :=
  ∀ s : State, s.ok = true →
    (s.layRuns = true → s.bot.layStep = 0 →
        Gives .imageCheck s fun t => t.fld LAY_STAT_SLOT = s.fld BOT_BOOT_BANK
          ∧ (t.fld LAY_STAT_STATE = 1 ∧ t.mode = mCONFIG ∨ t.fld LAY_STAT_STATE = 3 ∧ t.mode = mRECOVERY ∧ t.fld BOT_CAUSE_RECOV = 4)
          ∧ (t.bot.layStep = 0 ∨ t.bot.layStep = 1))
    ∧ (∀ (found : List (Nat × DieParam)) (s1 : State) (i : Img) (c : Nat), s.layRuns = true → s.bot.layStep = 1 → s.flag CKP_STAT_BOD = false →
        readSlot false s = (s1, .good i c) →
        Gives (.dieDiscovery found) s fun t =>
          t.bot.layStep = 2 ∧ (found = [] → t.pwr.spentDue = true)
          ∨ t.fld LAY_STAT_STATE = 3 ∧ t.mode = mRECOVERY ∧ t.fld BOT_CAUSE_RECOV = 4)
    ∧ (s.layRuns = true → s.bot.layStep = 3 → s.flag PLK_ROLE_IMAGE = false → s.pwr.spentDue = false → s.flag SKM_STAT_SPENT = false →
        s.spareEmpty = false → Gives .imageApplied s fun t => t.fld LAY_STAT_STATE = 2 ∧ t.mode = mSERVICE)
    ∧ (∀ (cause : Fin 4) (laneFail : BitVec 20), s.drc.initBusy = true → s.domOn dDRAM = true → s.dramOrgOk = true →
        exec (.dramInitDone false cause laneFail) s = .next { s.setFld DRC_INITSTAT_DONE 1 with drc.initBusy := false, drc.selfRef := false }
        ∧ Gives (.dramInitDone true cause laneFail) s fun t => t.flag DRC_INITSTAT_DONE = true ∧ t.flag DRC_INITSTAT_FAIL = true
            ∧ t.fld DRC_INITSTAT_CAUSE = cause.val ∧ t.fld DRC_INITSTAT_LANEFAIL = laneFail.toNat ∧ t.drc.selfRef = true
            ∧ (s.mode = mCONFIG → t.mode = mRECOVERY ∧ t.fld BOT_CAUSE_RECOV = 7))
    ∧ (∀ src : Fin 4, (src.val ≠ 1 ∨ s.pwr.retention = false) → (src.val ≠ 3 ∨ s.flt.bodDrive = true) → s.flag CKP_STAT_BOD = false →
        Gives (.brownOutAssert src) s fun t => t.flag CKP_STAT_BOD = true ∧ t.pwr.brownOut = true ∧ nbit (t.fld FLT_LINE_LINES) 27 = true)

/-! ### SRAM, DRAM and code flash as bus masters see them -/

/-- R324–R327, R329, R330: an access to SRAM words with valid check bits, outside test mode: SRAM_READ answers the stored bytes and changes nothing else;
SRAM_WRITE, at any size and alignment, leaves exactly its bytes written; a scrub pass counts; a late pass raises line 29.  Every single flipped bit of a
word's 72 is corrected on the read, and the read counts it; two flipped bits are an uncorrectable error: no data, line 16. -/
def Obligations.SramReadsWhatWasWrittenAndCorrectsIt : Prop :=
  ∀ s : State, s.ok = true →
    (∀ (m : MasterId) (off : BitVec 27) (n : Fin 65) (fetch : Bool), 1 ≤ n.val → off.toNat + n.val ≤ 0x6000000 → s.flag SRM_TEST_ENA = false →
        s.mapAllowsAll m (if fetch then .fetch else .read) (0x20000000 + off.toNat) n = true →
        (∀ w ∈ wordsOf (0x20000000 + off.toNat) n, mget 0 s.chk w = 0) →
        exec (.sramRead m off n fetch 0) s = .next (s.emit (.busData m (0x20000000 + off.toNat) (s.rawNat (0x20000000 + off.toNat) n))))
    ∧ (∀ (m : MasterId) (off : BitVec 27) (n : Fin 65) (v : BitVec 512), 1 ≤ n.val → off.toNat + n.val ≤ 0x6000000 → s.flag SRM_TEST_ENA = false →
        s.mapAllowsAll m .write (0x20000000 + off.toNat) n = true → (∀ w ∈ wordsOf (0x20000000 + off.toNat) n, mget 0 s.chk w = 0) →
        Gives (.sramWrite m off n v 0) s fun t =>
          (∀ i, i < n.val → t.byte (0x20000000 + off.toNat + i) = BitVec.ofNat 8 (v.toNat >>> (8 * i)))
          ∧ (∀ x, x < 0x20000000 + off.toNat ∨ 0x20000000 + off.toNat + n.val ≤ x → t.byte x = s.byte x)
          ∧ t = { s with mem := t.mem, chk := t.chk, dirty := t.dirty, cores := t.cores })
    ∧ (s.sramScrubOn = true → Gives .sramScrubPass s fun t => t.fld SRM_SCRUBPASS_COUNT = (s.fld SRM_SCRUBPASS_COUNT + 1) % 2 ^ 32 ∧ t.fld SRM_STAT_BANK = 95)
    ∧ (s.sramScrubOn = true → Gives .sramScrubLate s fun t => t.flag SRM_STAT_LATE = true ∧ nbit (t.fld FLT_LINE_LINES) 29 = true
        ∧ (s.setFld SRM_STAT_LATE 1).Reported t)
    ∧ (∀ (m : MasterId) (off : BitVec 27), off.toNat % 8 = 0 → off.toNat + 8 ≤ 0x6000000 → s.flag SRM_TEST_ENA = false →
        s.mapAllowsAll m .read (0x20000000 + off.toNat) 8 = true → mget 0 s.chk (0x20000000 + off.toNat) = 0 → sortedFrom none s.chk = true →
        (∀ j : Fin 72, Gives (.sramRead m off 8 false (BitVec.ofNat 72 (2 ^ j.val))) s fun t =>
            t.out = s.out ++ [.busData m (0x20000000 + off.toNat) (s.rawNat (0x20000000 + off.toNat) 8)]
            ∧ t.fld SRM_CECNT_COUNT = (s.fld SRM_CECNT_COUNT + 1) % 2 ^ 32)
        ∧ (∀ i j : Fin 72, i ≠ j → Gives (.sramRead m off 8 false (BitVec.ofNat 72 (2 ^ i.val + 2 ^ j.val))) s fun t =>
            t.out = s.out ++ [.busError m (0x20000000 + off.toNat)] ∧ t.flag SRM_STAT_UE = true ∧ nbit (t.fld FLT_LINE_LINES) 16 = true))

/-- R344–R346, R349, R350, R356: the same for DRAM that is initialised, out of self-refresh and not held; DRAM_INIT starts the sequence and clears its
result; CHANNEL_HOLD holds the channels it names; a scrub pass counts, and a late one raises line 29. -/
def Obligations.DramReadsWhatWasWritten : Prop :=
  ∀ s : State, s.ok = true →
    (∀ (m : MasterId) (off : BitVec 37) (n : Fin 65) (fetch : Bool), 1 ≤ n.val → off.toNat + n.val ≤ s.dramBytes →
        s.mapAllowsAll m (if fetch then .fetch else .read) (0x1000000000 + off.toNat) n = true →
        (∀ l ∈ linesOf (0x1000000000 + off.toNat) n, s.dramReady l = true ∧ beatErrors s l = []) →
        Gives (.dramRead m off n fetch 0 false) s fun t => t.out = s.out ++ [.busData m (0x1000000000 + off.toNat) (s.rawNat (0x1000000000 + off.toNat) n)]
          ∧ t = { s with out := t.out, regs := t.regs, drc.banks := t.drc.banks } ∧ ∀ o, o ≠ DRC_RHREF.at 0 0 0 → mfind t.regs o = mfind s.regs o)
    ∧ (∀ (m : MasterId) (off : BitVec 37) (n : Fin 65) (v : BitVec 512), 1 ≤ n.val → off.toNat + n.val ≤ s.dramBytes →
        s.mapAllowsAll m .write (0x1000000000 + off.toNat) n = true → s.storeUndef m (0x1000000000 + off.toNat) n = none →
        (∀ l ∈ linesOf (0x1000000000 + off.toNat) n, s.dramReady l = true ∧ beatErrors s l = []) →
        Gives (.dramWrite m off n v 0) s fun t =>
          (∀ i, i < n.val → t.byte (0x1000000000 + off.toNat + i) = BitVec.ofNat 8 (v.toNat >>> (8 * i)))
          ∧ (∀ x, x < 0x1000000000 + off.toNat ∨ 0x1000000000 + off.toNat + n.val ≤ x → t.byte x = s.byte x)
          ∧ t = { s with mem := t.mem, chk := t.chk, dirty := t.dirty, cores := t.cores, regs := t.regs, drc.banks := t.drc.banks }
          ∧ ∀ o, o ≠ DRC_RHREF.at 0 0 0 → mfind t.regs o = mfind s.regs o)
    ∧ (∀ m : MasterId, s.MayWrite m DRC_INIT → Gives (.dramInit m) s fun t => t.drc = { s.drc with initBusy := true } ∧ t.reg DRC_INITSTAT = 0
          ∧ t.fld DRC_CFG_X16 = s.dlyByte 0 216 % 2 ∧ State.RegsOnly { s with drc := t.drc } t [DRC_CFG.at 0 0 0, DRC_REF.at 0 0 0, DRC_INITSTAT.at 0 0 0])
    ∧ (∀ (m : MasterId) (mask : BitVec 4), s.MayWrite m DRC_CHCTL → Gives (.channelHold m mask) s fun t =>
        t.fld DRC_CHCTL_HOLD = mask.toNat ∧ t.fld DRC_CHCTL_HELD = mask.toNat ∧ s.RegsOnly t [DRC_CHCTL.at 0 0 0])
    ∧ (s.dramScrubOn = true → Gives .dramScrubPass s fun t => t.fld DRC_SCRUBPASS_COUNT = (s.fld DRC_SCRUBPASS_COUNT + 1) % 2 ^ 32)
    ∧ (s.dramScrubOn = true → Gives .dramScrubLate s fun t => t.flag DRC_STAT_SCRUBLATE = true ∧ nbit (t.fld FLT_LINE_LINES) 29 = true
        ∧ (s.setFld DRC_STAT_SCRUBLATE 1).Reported t)

/-- R352, R354, R355: REFRESH closes every row of its rank and of no other; MR4_POLL doubles the refresh of each hot channel and
of no other; REFRESH_WINDOW clears the channel's activate tables; ROW_IDLE_CLOSE closes its bank's row but in mode 1. -/
def Obligations.DramBanksFollowRefresh : Prop :=
  ∀ s : State, sortedFrom none s.drc.banks = true → s.ok = true →
    (∀ (ch : Fin 4) (rank : Fin 2), s.domOn dDRAM = true → s.flag DRC_INITSTAT_DONE = true → s.drc.selfRef = false →
        Gives (.refresh ch rank) s fun t => t = { s with drc.banks := t.drc.banks } ∧ ∀ l : DLoc, l.ch < 4 → l.rank < 2 → l.bg < 8 → l.bank < 4 →
          mget {} t.drc.banks l.key = if l.ch = ch.val ∧ l.rank = rank.val then { mget {} s.drc.banks l.key with openRow := none } else mget {} s.drc.banks l.key)
    ∧ (∀ hot : BitVec 4, s.domOn dDRAM = true → s.flag DRC_INITSTAT_DONE = true → s.drc.selfRef = false →
        Gives (.mr4Poll hot) s fun t => ∀ c : Fin 4, (nbit hot.toNat c = true → nbit (t.fld DRC_REF_DOUBLE) c = true)
          ∧ (nbit hot.toNat c = false → nbit (s.fld DRC_REF_DOUBLE) c = false → nbit (t.fld DRC_REF_DOUBLE) c = false))
    ∧ (∀ ch : Fin 4, Gives (.refreshWindow ch) s fun t => t = { s with drc.banks := t.drc.banks } ∧ ∀ l : DLoc, l.ch < 4 → l.rank < 2 → l.bg < 8 → l.bank < 4 →
          mget {} t.drc.banks l.key = if l.ch = ch.val then { mget {} s.drc.banks l.key with table := [] } else mget {} s.drc.banks l.key)
    ∧ (∀ (ch : Fin 4) (rank : Fin 2) (bg : Fin 8) (bank : Fin 4), s.cur DRC_PAGE_MODE ≠ 1 →
        Gives (.rowIdleClose ch rank bg bank) s fun t => t = { s with drc.banks := t.drc.banks }
          ∧ ∀ k, mget {} t.drc.banks k = if k = DLoc.key ⟨ch, rank, bg, bank, 0⟩ then { mget {} s.drc.banks k with openRow := none } else mget {} s.drc.banks k)

/-! ### Code flash, buffer pools, DMA -/

/-- R359–R364, R367: CODE_FLASH_READ answers the stored bytes of clean words; a program of an erased word, or an erase, that R363 does not refuse is
taken by its idle bank; an erase can be suspended and resumed; at their ends the word holds the data, the sector reads all ones; BOOT_BLOCK_SWAP programs
the lowest unused word of the inactive bank's selector, or sets SWAPERR. -/
def Obligations.CodeFlashOperations : Prop :=
  ∀ s : State, s.ok = true →
    (∀ (m : MasterId) (off : BitVec 24) (n : Fin 65) (fetch : Bool), 1 ≤ n.val → off.toNat + n.val ≤ 0x1000000 → s.cflBusy (0x10000000 + off.toNat) n = false →
        s.mapAllowsAll m (if fetch then .fetch else .read) (0x10000000 + off.toNat) n = true → s.cfl.susp = [] →
        (∀ w ∈ wordsOf (0x10000000 + off.toNat) n, s.cflTwice (w - 0x10000000) = false ∧ eccDecode 7 71 (chk72 (s.rawNat w 8) ^^^ s.flashChk w) = .clean) →
        exec (.codeFlashRead m off n fetch 0) s = .next (s.emit (.busData m (0x10000000 + off.toNat) (s.rawNat (0x10000000 + off.toNat) n))))
    ∧ (∀ m : MasterId, s.MayWrite m CFL_CMD → s.flag CFL_STAT_FWBUSY = false → m.val < 9 →
        let off := s.fld CFL_ADDR_OFFSET
        (s.cfl.queue = [] → s.cflRefuses m off false = false → mfind s.cfl.run (cflBank off) = none → s.wordUsed off = false → s.cflTwice off = false →
          Gives (.wordProgram m) s fun t => (∃ op, mfind t.cfl.run (cflBank off) = some op ∧ op.who = m.val ∧ op.erase = false ∧ op.offset = off
              ∧ op.data.toNat = s.fld CFL_DATA_LO_DATA + 2 ^ 32 * s.fld CFL_DATA_HI_DATA ∧ op.chkb.toNat = chk72 op.data.toNat) ∧ t.flag CFL_STAT_FWBUSY = true ∧ t.mem = s.mem)
        ∧ (s.cfl.queue = [] → s.cflRefuses m off true = false → mfind s.cfl.run (cflBank off) = none →
          Gives (.eraseSector m) s fun t => mfind t.cfl.run (cflBank off) = some { who := m.val, erase := true, offset := off } ∧ t.flag CFL_STAT_FWBUSY = true ∧ t.mem = s.mem)
        ∧ (∀ op, s.cfl.queue = [] → sortedFrom none s.cfl.run = true → mfind s.cfl.run (cflBank off) = some op → op.erase = true →
            s.mayHold (cflBank off) = true → Gives (.suspendErase m) s fun t => mfind t.cfl.susp (cflBank off) = some op ∧ mfind t.cfl.run (cflBank off) = none ∧ t.flag CFL_STAT_DONE = true)
        ∧ (∀ op, s.cfl.queue = [] → mfind s.cfl.susp (cflBank off) = some op → cflBank op.offset = cflBank off → op.erase = true →
            mfind s.cfl.run (cflBank off) = none → sortedFrom none s.cfl.susp = true →
          Gives (.resumeErase m) s fun t => mfind t.cfl.run (cflBank off) = some op ∧ mfind t.cfl.susp (cflBank off) = none))
    ∧ (∀ (bank : Fin 2) (op : FlashOp), s.ckp.recs = [] → s.plk.logOps = [] → s.plk.due = [] → mfind s.cfl.run bank = some op → op.erase = false → s.cflTwice op.offset = false → op.who < 9 →
        s.fld CFL_CTL_WARN = 0 → s.cfl.queue = [] → sortedFrom none s.cfl.run = true → op.offset < 0x1000000 →
        Gives (.flashProgramDone bank 0) s fun t => t.fld CFL_PGMCNT_COUNT = (s.fld CFL_PGMCNT_COUNT + 1) % 2 ^ 32 ∧ t.fld CFL_STAT_CBCNT = 0
          ∧ mfind t.cfl.run bank = none ∧ t.flag CFL_STAT_DONE = true ∧ (flashPut s op.offset op.data.toNat op.chkb.toNat).fchk = t.fchk)
    ∧ (∀ (bank : Fin 2) (op : FlashOp), s.ckp.recs = [] → s.plk.logOps = [] → s.plk.due = [] → mfind s.cfl.run bank = some op → op.erase = true → s.cfl.queue = [] → sortedFrom none s.cfl.run = true →
        Gives (.flashEraseDone bank true) s fun t => t.fld CFL_ERSCNT_COUNT = (s.fld CFL_ERSCNT_COUNT + 1) % 2 ^ 32 ∧ mfind t.cfl.run bank = none
          ∧ (∀ i, i < 512 → t.flashChk (0x10000000 + op.offset / 4096 * 4096 + 8 * i) = 0xFF)
          ∧ (op.who = 31 → ∀ i, i < 4096 → op.offset < 0x1000000 → t.byte (0x10000000 + op.offset / 4096 * 4096 + i) = 0xFF))
    ∧ (∀ m : MasterId, s.MayWrite m BOT_SWAP →
        let act := s.activeBank
        let base := (1 - act) * 0x800000 + 0xB0000
        ((if act = 0 then s.selCount 1 = s.selCount 0 else s.selCount 0 + 1 = s.selCount 1) → s.selCount (1 - act) < 2048 →
          s.cfl.queue = [] → mfind s.cfl.run (1 - act) = none →
          Gives (.bootBlockSwap m) s fun t => ∃ i, i < 2048 ∧ s.wordUsed (base + 8 * i) = false ∧ (∀ j, j < i → s.wordUsed (base + 8 * j) = true)
            ∧ mfind t.cfl.run (1 - act) = some { who := 31, erase := false, offset := base + 8 * i, data := 0, chkb := 0 })
        ∧ (¬ (if act = 0 then s.selCount 1 = s.selCount 0 else s.selCount 0 + 1 = s.selCount 1) →
          exec (.bootBlockSwap m) s = .next (s.setFld BOT_STAT_SWAPERR 1)))

/-- R333–R336: an allocation that a pool can serve hands out one of its free buffers to the requester; PASS, SHARE, UNSHARE and FREE of an allocated
buffer change its state entry as the table says, and a FREE without shares returns it; refill and spill move 32 handles; a waiting hardware allocation is
served.  Low-water reports are left out by PLOW = 0. -/
def Obligations.BufferPoolsHandOutAndTakeBack : Prop :=
  ∀ s : State, s.ok = true → (∀ k : Fin 4, s.cur BPM_PLOW_LOW k = 0) → sortedFrom none s.bpm.cache = true → sortedFrom none s.bpm.ring = true →
    (∀ (m : MasterId) (group : Fin 9) (size : BitVec 19) (f : Option Nat) (k : Fin 4), m.val = group.val → s.MayWrite m BPM_ALLOC group → size.toNat ≤ 262144 →
        s.poolFor size.toNat = (f, some k.val) → s.poolFree k ≠ 0 →
        (∀ h ∈ mget [] s.bpm.cache k ++ mget [] s.bpm.ring k, s.takes 22 (s.bufEntryAddr h) 4 = true) → Gives (.bpmAlloc m group size) s fun t => ∃ h, h ∈ mget [] s.bpm.cache k ++ mget [] s.bpm.ring k ∧ t.fld BPM_RES_HANDLE m = h % 2 ^ 32
          ∧ t.poolFree k = s.poolFree k - 1 ∧ t.bufEntry h = { owner := m.val, alloc := true, freeing := false, share := 0 })
    ∧ (∀ (m : MasterId) (group : Fin 9) (pool : Fin 4) (idx : BitVec 24),
        let h := handleOf pool idx.toNat
        let e := s.bufEntry h
        (m.val < 9 → m.val = group.val ∧ s.MayWrite m BPM_OP group) → s.bufNamed h = true → e.alloc = true → e.freeing = false →
        (e.owner = m.val → e.share = 0 → s.takes 22 (s.bufEntryAddr h) 4 = true → Gives (.free m group pool idx) s fun t =>
            t.bufEntry h = { e with alloc := false } ∧ t.poolFree pool = s.poolFree pool + 1 ∧ h ∈ mget [] t.bpm.cache pool)
        ∧ (e.owner = m.val → e.share ≠ 0 → exec (.free m group pool idx) s = .next (setBufEntry s h { e with freeing := true }))
        ∧ (e.share < 255 → exec (.share m group pool idx) s = .next (setBufEntry s h { e with share := e.share + 1 }))
        ∧ (0 < e.share → exec (.unshare m group pool idx) s = .next (setBufEntry s h { e with share := e.share - 1 }))
        ∧ (∀ target : MasterId, e.owner = m.val → exec (.pass m group pool idx target) s =
            .next (setBufEntry s h { e with owner := if m.val < 9 then s.fld BPM_TARGET_OWNER group else target.val })))
    ∧ (∀ pool : Fin 4, (mget [] s.bpm.cache pool).length < 16 → Gives (.freeRingRefill pool) s fun t =>
        mget [] t.bpm.cache pool = mget [] s.bpm.cache pool ++ (mget [] s.bpm.ring pool).take 32 ∧ mget [] t.bpm.ring pool = (mget [] s.bpm.ring pool).drop 32
          ∧ t = { s with bpm := t.bpm })
    ∧ (∀ pool : Fin 4, 48 < (mget [] s.bpm.cache pool).length → Gives (.freeRingSpill pool) s fun t =>
        mget [] t.bpm.ring pool = mget [] s.bpm.ring pool ++ (mget [] s.bpm.cache pool).take 32 ∧ mget [] t.bpm.cache pool = (mget [] s.bpm.cache pool).drop 32
          ∧ t = { s with bpm := t.bpm })
    ∧ (∀ (w : HwAlloc) (f : Option Nat) (k : Fin 4), s.bpm.wait = [w] → s.poolFor w.bytes = (f, some k.val) → s.poolFree k ≠ 0 →
        Gives .hwAllocServed s fun t => t.bpm.wait = [] ∧ (mfind t.bpm.served w.tag).isSome = true ∧ t.poolFree k = s.poolFree k - 1)

/-- R337–R341: a LOAD into an idle channel of a running engine makes the shadow set active; ABORT idles the channel; a beat of the channel whose
turn it is moves up to 64 bytes and advances; the last acknowledgement ends the transfer with DONE; clearing STOPPED resumes the stopped channels. -/
def Obligations.DmaChannelsRunTheirTransfers : Prop :=
  ∀ (s : State) (n : Fin 64), s.ok = true →
    (∀ (m : MasterId) (irq : Bool), s.MayWrite m DMA_NCTL n → s.flag DMA_CHSTAT_SHADOW n = false → s.fld DMA_CHSTAT_STATE n = 0 → s.flag DMA_GSTAT_STOPPED = false →
        let al := max (swapAlign (s.fld DMA_SRCCFG_SWAP n)) (swapAlign (s.fld DMA_DSTCFG_SWAP n))
        s.fld DMA_NCNT_BYTES n ≠ 0 → s.fld DMA_NCNT_BYTES n % al = 0 → s.pair DMA_NSRC_LO_ADDR DMA_NSRC_HI_ADDR n % al = 0 →
        s.pair DMA_NDST_LO_ADDR DMA_NDST_HI_ADDR n % al = 0 →
        Gives (.dmaLoad m n irq) s fun t => t.fld DMA_CHSTAT_STATE n = 1 ∧ t.flag DMA_CHSTAT_SHADOW n = false
          ∧ t.dmaSrc n = s.pair DMA_NSRC_LO_ADDR DMA_NSRC_HI_ADDR n ∧ t.dmaDst n = s.pair DMA_NDST_LO_ADDR DMA_NDST_HI_ADDR n
          ∧ t.dmaCnt n = s.fld DMA_NCNT_BYTES n ∧ t = { s with regs := t.regs, dma := t.dma })
    ∧ (∀ (m : MasterId) (irq : Bool), s.MayWrite m DMA_NCTL n → s.flag DMA_CHSTAT_SHADOW n = true →
        exec (.dmaLoad m n irq) s = .next (raise EV_DMA_SHADOWBUSY n s))
    ∧ (∀ m : MasterId, s.MayWrite m DMA_NCTL n → Gives (.dmaAbort m n) s fun t => t.fld DMA_CHSTAT_STATE n = 0 ∧ t.flag DMA_CHSTAT_SHADOW n = false
          ∧ s.RegsOnly t [DMA_CHSTAT.at n 0 0, DMA_ACTIVE_LO.at 0 0 0, DMA_ACTIVE_HI.at 0 0 0])
    ∧ (∀ (s1 s2 : State) (v w : Nat),
        let b := min 64 (s.dmaCnt n)
        s.dmaTurn = some n.val → ¬ (s.dmaSrc n < s.dmaDst n ∧ s.dmaDst n < s.dmaSrc n + s.dmaCnt n) →
        s.storeUndef 9 (s.dmaDst n) b = none → memRead { s with dma.last := n.val } 9 .read (s.dmaSrc n) b = (s1, .ok v) →
        memWrite s1 9 .write (s.dmaDst n) b (ofLe (swapBytes (s.fld DMA_DSTCFG_SWAP n) (swapBytes (s.fld DMA_SRCCFG_SWAP n) (leBytes b v)))) = (s2, .ok w) →
        exec (.dmaBeat n) s = .next (((s2.setPair DMA_SRC_LO_ADDR DMA_SRC_HI_ADDR (s.dmaSrc n + b) n).setPair DMA_DST_LO_ADDR DMA_DST_HI_ADDR (s.dmaDst n + b) n).setFld
          DMA_CNT_BYTES (s.dmaCnt n - b) n))
    ∧ (s.fld DMA_CHSTAT_STATE n = 1 → s.dmaCnt n = 0 → s.flag DMA_CHSTAT_SHADOW n = false →
        Gives (.dmaTransferDone n) s fun t => t.fld DMA_CHSTAT_STATE n = 0 ∧ t.flag DMA_CHSTAT_DONE n = true
          ∧ t.fld DMA_XFERS_COUNT = (s.fld DMA_XFERS_COUNT + 1) % 2 ^ 32)
    ∧ (∀ m : MasterId, s.MayWrite m DMA_GSTAT → s.flag DMA_GSTAT_STOPPED = true →
        Gives (.dmaResume m) s fun t => t.flag DMA_GSTAT_STOPPED = false ∧ ∀ k : Fin 64, s.fld DMA_CHSTAT_STATE k = 3 → t.fld DMA_CHSTAT_STATE k = 1 ∧ t.fld DMA_CHSTAT_ERR k = 0)

/-! ### Channel programs -/

/-- R55, R57, R89, R92, R96–R98: a START at the head of a program, before half the tick and before any transfer step, goes to an idle die that holds
nothing (a program only with its pages loaded): command and ROW at the NAND boundary, the die busy with that step; managed, on a busy die it is armed, and
ARMED_START_ISSUE issues it once the die is idle or holds its operation; SUSPEND, SUSPEND_COMPLETE and RESUME take the die through suspending and holding
back to busy; a NOP completes, a reserved OP is dropped. -/
def Obligations.StartsAreIssuedArmedAndSuspended : Prop :=
  ∀ (s : State) (ch : Fin 32) (st : Step), s.mediaOk = true → st.target < 16 → st.lun < 4 →
    let pos := ch.val * 64 + st.die
    (∀ c ∈ [(Instr.startPageReadQlc ch, 0), (.startPageReadSlc ch, 1), (.startProgramQlc ch, 2), (.startProgramSlc ch, 3), (.startBlockErase ch, 4),
        (.startBlockEraseSlc ch, 5), (.startSoftRead ch, 6)],
      s.Head ch st → st.op = 1 → st.subop = c.2 → s.badStart ch st = false → (s.chan ch).transfer = false → s.pastHalf = false →
      (s.dieState pos = 1 → (s.die pos).held = none → (isProgOp c.2 = true → s.loaded ch st = true) →
        Gives c.1 s fun t => t.dieState pos = 2 ∧ (t.die pos).run = some { step := st, start := s.mtime, born := s.mtime } ∧ (t.chan ch).prog = (s.chan ch).prog.tail
          ∧ .nand ch st.die (16 + c.2) st.w1 st.planes ∈ t.out ∧ (∀ p, p ≠ pos → t.die p = s.die p) ∧ t.pending = s.pending)
      ∧ (s.dieState pos = 2 → st.job ≠ none → (s.die pos).armed = none → (s.die pos).resetting = false →
        Gives c.1 s fun t => (t.die pos).armed = some st ∧ (t.die pos).run = (s.die pos).run ∧ t.flag TCK_CHSTAT_ARMED ch = true
          ∧ (t.chan ch).prog = (s.chan ch).prog.tail ∧ t.out = s.out))
    ∧ (s.quadOn ch = true → s.fchBod ch = false → (s.die pos).armed = some st → (s.die pos).held = none → s.dieState pos = 1 → isReadOp st.subop = true →
        Gives (.armedStartIssue ch ⟨st.die % 64, by omega⟩) s fun t => t.dieState pos = 2 ∧ (t.die pos).armed = none ∧ .nand ch st.die (16 + st.subop) st.w1 st.planes ∈ t.out)
    ∧ (∀ r, s.Head ch st → st.op = 2 → (s.chan ch).transfer = false → s.pastHalf = false → s.dieState pos = 2 → (s.die pos).run = some r →
        isReadOp r.step.subop = false → (s.cur FCH_SUSPLIM_LIMIT ch = 0 ∨ r.susp < s.cur FCH_SUSPLIM_LIMIT ch) →
        Gives (.suspend ch) s fun t => t.dieState pos = 3 ∧ (t.die pos).susp = some st ∧ (t.die pos).run = some { r with suspAt := s.mtime }
          ∧ t.out = s.out ++ [.nand ch st.die 32 (s.cur FCH_OPC_SUSP ch) 0])
    ∧ (∀ r, s.quadOn ch = true → s.dieState pos = 3 → (s.die pos).run = some r → r.bod = false →
        Gives (.suspendComplete ch ⟨st.die % 64, by omega⟩) s fun t => t.dieState pos = 4 ∧ (t.die pos).run = none ∧ (t.die pos).susp = none
          ∧ (t.die pos).held = some { r with susp := r.susp + 1, acc := r.acc + (s.mtime - r.start) } ∧ t.flag FCH_DIESTAT_SUSPENDED ch st.die = true)
    ∧ (∀ r, s.Head ch st → st.op = 3 → (s.chan ch).transfer = false → s.pastHalf = false → s.dieState pos = 4 → (s.die pos).held = some r →
        Gives (.resume ch) s fun t => t.dieState pos = 2 ∧ (∃ n, (t.die pos).run = some { r with start := n }) ∧ (t.die pos).held = none
          ∧ .nand ch st.die 48 (s.cur FCH_OPC_RES ch) 0 ∈ t.out)
    ∧ (s.Head ch st →
        (st.op = 0 → exec (.nop ch) s = .next (popStep ch 1 0 s))
        ∧ (7 ≤ st.op → Gives (.nop ch) s fun t => (t.chan ch).prog = (s.chan ch).prog.tail ∧ (t.chan ch).nDrop = (s.chan ch).nDrop + 1 ∧ t.dies = s.dies))

/-- R88–R90, R92, R112, R453: a DATA_OUT burst of managed work fills a codeword buffer of the ECC complex, and without a free one is held until
HELD_BURST_START; a DATA_IN burst of an idle die is emitted and recorded as loaded; a status read that finds an operation ended (POLL, INTERNAL_POLL,
ARRAY_OPERATION_END) frees the die; DIE_TIMEOUT fails it. -/
def Obligations.TransfersMoveBurstsAndStatusEndsOperations : Prop :=
  ∀ (s : State) (ch : Fin 32) (st : Step), s.mediaOk = true → st.target < 16 → st.lun < 4 →
    let pos := ch.val * 64 + st.die
    (∀ (d : Desc) (id : Nat) (j : Job) (data : BitVec 36864), s.Head ch st → st.op = 4 → st.wait = false → st.desc = some d → st.job = some id →
        mfind s.tck.jobs id = some j → j.op < 2 → (s.chan ch).moved = 0 → 1 < d.cw → s.badDesc ch d false = false → s.dieState pos = 1 → (s.die pos).cont = none →
        s.raw ch = false → (s.ecc.bufs.any fun e => decide (s.ecc.nextBuf ≤ e.1)) = false →
        ((s.chan ch).held = false → s.bufsUsed < 128 →
          Gives (.dataOut ch [data]) s fun t => (t.chan ch).moved = 1 ∧ (t.chan ch).prog = (s.chan ch).prog ∧ t.ecc.nextBuf = s.ecc.nextBuf + 1
            ∧ (mfind t.ecc.bufs s.ecc.nextBuf).map (fun b => (b.bits, b.job, b.plane, b.col, b.row)) = some (data, id, d.plane + d.col / 4, d.col % 4, d.row))
        ∧ ((s.chan ch).held = false → 128 ≤ s.bufsUsed →
          Gives (.dataOut ch [data]) s fun t => (t.chan ch).held = true ∧ (t.chan ch).moved = 0 ∧ t.ecc = s.ecc
            ∧ t.fld ECC_STALL_COUNT = (s.fld ECC_STALL_COUNT + 1) % 2 ^ 32)
        ∧ ((s.chan ch).held = true → s.bufsUsed < 128 →
          Gives (.heldBurstStart ch data) s fun t => (t.chan ch).held = false ∧ (t.chan ch).moved = 1 ∧ (mfind t.ecc.bufs s.ecc.nextBuf).map CwBuf.bits = some data))
    ∧ (∀ (d : Desc) (j : Job), s.Head ch st → st.op = 5 → st.job.bind (mfind s.tck.jobs) = some j → st.wait = false → st.desc = some d → (s.chan ch).moved = 0 → 1 < d.cw → s.badDesc ch d false = false →
        s.dieState pos = 1 → (s.die pos).held = none → (s.die pos).cont = none → s.raw ch = false →
        Gives (.dataIn ch 1) s fun t => (t.chan ch).moved = 1 ∧ (t.chan ch).prog = (s.chan ch).prog
          ∧ (∃ v, t.out.getLast? = some (.burst ch st.die (d.plane + d.col / 4) (d.col % 4) (s.rowWithPlane ch d.row (d.plane + d.col / 4)) v))
          ∧ (∃ l, mfind (t.die pos).load ((d.plane + d.col / 4) * 4 + if d.slc then 0 else s.rowPage ch d.row % 4) = some l ∧ nbit l.mask (d.col % 4) = true
              ∧ l.slc = d.slc ∧ l.row = s.rowWithPlane ch d.row 0))
    ∧ (∀ r fail, s.quadOn ch = true → s.dieState pos = 2 → (s.die pos).run = some r → (s.die pos).held = none → (s.die pos).susp = none → r.step.job = none →
        (fail = false ∨ isReadOp r.step.subop = true) →
        let ended : State → Prop := fun t => t.dieState pos = 1 ∧ (t.die pos).run = none ∧ (t.die pos).held = none ∧ (t.die pos).armed = (s.die pos).armed
        Gives (.arrayOperationEnd ch ⟨st.die % 64, by omega⟩ fail) s ended
        ∧ ((s.chan ch).prog = [] → (s.die pos).stepRead = false → Gives (.internalPoll ch ⟨st.die % 64, by omega⟩ true fail) s ended)
        ∧ (s.Head ch st → st.op = 6 → Gives (.poll ch true fail) s fun t => ended t ∧ (t.chan ch).prog = (s.chan ch).prog.tail))
    ∧ (∀ r, s.quadOn ch = true → s.dieState pos = 2 → (s.die pos).run = some r → (s.die pos).resetting = false →
        exec (.dieTimeout ch ⟨st.die % 64, by omega⟩) s = .next (retireDieSkm pos (occur 25 0 16 3 (dieFail pos (timeoutPass pos s)))))

/-- R84, R85, R95, R103: die control, training and quiescence: DIE_RESET is due at the next boundary and at once changes nothing else; TARGET_RESET_DONE
idles the LUNs of a target under reset; DIE_RETIRE makes a die's state 6; RETRAIN trains one target and RETRAIN_LATE reports; CHANNEL_QUIESCE sets
QUIESCED once no die is busy. -/
def Obligations.DiesAreControlledAndChannelsQuiesce : Prop :=
  ∀ (s : State) (ch : Fin 32) (die : Fin 64), s.mediaOk = true → s.quadOn ch = true →
    let pos := ch.val * 64 + die.val
    (∀ m : MasterId, s.MayWrite m FCH_DIECTL ch →
        (Gives (.dieReset m ch die) s fun t => (t.die pos).resetDue = true ∧ (∀ p, p ≠ pos → t.die p = s.die p) ∧ t = { s with dies := t.dies })
        ∧ (s.dieState pos = 0 ∨ s.dieState pos = 6 → exec (.dieRetire m ch die) s = .next s)
        ∧ (s.dieState pos = 1 → (s.die pos).run = none → (s.die pos).held = none → (s.die pos).armed = none → (∀ st ∈ (s.chan ch).prog, st.pos ch ≠ pos) → s.tck.jobs = [] →
          mget false s.skm.out pos = false → Gives (.dieRetire m ch die) s fun t => t.dieState pos = 6 ∧ mget false t.skm.out pos = true ∧ t.ste.retired = s.ste.retired ++ [pos]))
    ∧ (∀ target : Fin 16, Gives (.targetResetDone ch target) s fun t => (∀ l : Fin 4, (s.die (ch.val * 64 + 4 * target.val + l)).resetting = true →
          s.dieState (ch.val * 64 + 4 * target.val + l) = 2 → t.dieState (ch.val * 64 + 4 * target.val + l) = 1 ∧ (t.die (ch.val * 64 + 4 * target.val + l)).resetting = false)
        ∧ t = { s with regs := t.regs, dies := t.dies })
    ∧ (s.on FCH_TRAIN_INTERVAL ch = true →
        (∀ k, s.fchBod ch = false → (s.chan ch).prog = [] → s.fld TCK_PHASE_CYCLES + 400 ≤ s.tickCycles → s.nextTarget ch (s.chan ch).trainTarget = some k →
          s.retrainDue ch 1 ≤ s.mtime →
          Gives (.retrain ch) s fun t => t.out = s.out ++ [.nand ch (4 * k) 258 (s.fld FCH_CFG_RATE ch) (s.trainKinds ch)] ∧ (t.chan ch).trainTarget = (k + 1) % 16
            ∧ (t.chan ch).trainAt = s.mtime ∧ s.RegsOnly { t with chans := s.chans, out := s.out, free := s.free } [FCH_STAT.at ch 0 0])
        ∧ Gives (.retrainLate ch) s fun t => t.flag FCH_STAT_TRAINLATE ch = true ∧ t.chans = s.chans ∧ t.dies = s.dies)
    ∧ (s.fchBod ch = true → s.flag FCH_BOD_QUIESCED ch = false → (∀ p : Fin 64, s.dieBusy (ch.val * 64 + p.val) = false) →
        Gives (.channelQuiesce ch) s fun t => t.flag FCH_BOD_QUIESCED ch = true ∧ t.dies = s.dies ∧ t.chans = s.chans)

/-! ### The Churn -/

/-- R53, R54, R69, R70, R103: TICK_CUTOFF copies the shadow row of each direct channel that is ready, slips the others, and builds at most 16 steps for
each managed channel, none for a channel whose quad is off or that had a brown-out. -/
def Obligations.CutoffMakesThePrograms : Prop :=
  ∀ s : State, s.mediaOk = true → s.churnRuns = true → s.tck.cut = false →
    Gives .tickCutoff s fun t => t.tck.cut = true ∧ t.pending = s.pending ∧ t.dies = s.dies ∧ ∀ ch : Fin 32,
      (t.chan ch).prog = (s.chan ch).prog
      ∧ (nbit (s.cur TCK_MODE_DIRECT) ch = true → nbit (s.fld TCK_DREADY_READY) ch = true →
          (t.chan ch).next = s.shadowRow ch ∧ (t.chan ch).nextDirect = true ∧ (t.chan ch).nextCarry = false)
      ∧ (nbit (s.cur TCK_MODE_DIRECT) ch = true → nbit (s.fld TCK_DREADY_READY) ch = false →
          (t.chan ch).next = [] ∧ (t.chan ch).nextCarry = true ∧ nbit (t.fld TCK_SLIPSTAT_SLIP) ch = true)
      ∧ (nbit (s.cur TCK_MODE_DIRECT) ch = false → (t.chan ch).next.length ≤ 16 ∧ (s.quadOn ch = false ∨ s.fchBod ch = true → (t.chan ch).next = []))

/-- R53: where no commit and no change of mode or power state is due and every program has ended, TICK_BOUNDARY installs the program of every powered
channel, counts the tick and begins the next one at phase 0. -/
def Obligations.BoundaryInstallsThePrograms : Prop :=
  ∀ s : State, s.mediaOk = true → s.churnRuns = true → s.tck.cut = true → s.pend = [] → s.pwr.recovDue = none → s.pwr.spentDue = false → s.pwr.soloDue = false →
    s.pwr.serviceDue = false → s.pwr.psPend = none → (∀ ch : Fin 32, (s.chan ch).prog = []) →
    Gives .tickBoundary s fun t => t.pair TCK_COUNT_LO_COUNT TCK_COUNT_HI_COUNT = (s.pair TCK_COUNT_LO_COUNT TCK_COUNT_HI_COUNT + 1) % 2 ^ 64
      ∧ t.fld TCK_PHASE_CYCLES = 0 ∧ t.tck.cut = false ∧ t.mode = s.mode ∧ t.pending = s.pending
      ∧ ∀ ch : Fin 32, (t.chan ch).next = [] ∧ (t.chan ch).moved = 0
        ∧ (t.chan ch).prog = if s.fchBod ch = true ∨ s.quadOn ch = false then [] else (s.chan ch).next.filter s.live

/-- R72–R75: COMMIT copies the staged registers of a powered block that has them into its pending set and sets PENDING, GLOBAL_COMMIT those of every such
block; what is in force stays.  At a boundary a pending set comes into force whole or not at all: in the block's window what is in force becomes the set,
outside it nothing changes; a set out of range leaves what is in force, and REFUSED says so. -/
def Obligations.CommitsStagePendAndApplyWhole : Prop :=
  ∀ s : State, s.ok = true →
    (∀ (m : MasterId) (b : Fin 57), s.mapAllows m .write (0x40000000 + (blk b).base + 0xFF0) = true →
        (hasRws b = true → s.blkOn b = true → Gives (.commit m b) s fun t => mfind t.pend b = some (s.stagedOf b) ∧ t.flag (cstatPENDING b) = true
          ∧ (∀ k, k ≠ b.val → mfind t.pend k = mfind s.pend k) ∧ State.RegsOnly { s with pend := t.pend } t [(cstat b).at 0 0 0])
        ∧ (hasRws b = false ∨ s.blkOn b = false → exec (.commit m b) s = .next s))
    ∧ (∀ m : MasterId, s.MayWrite m TCK_GCOMMIT → Gives (.globalCommit m) s fun t =>
        (∀ b : Fin 57, hasRws b = true → s.blkOn b = true → mfind t.pend b = some (s.stagedOf b) ∧ t.flag (cstatPENDING b) = true)
        ∧ t = { s with pend := t.pend, regs := t.regs })
    ∧ (∀ (b : Fin 57) (p : SMap Word), sortedFrom none p = true → (∀ off v, mfind p off = some v → (blk b).holds off = true) →
        let t := (applyBlk b p s).1
        t.flag (cstatPENDING b) = false
        ∧ (setOk b s (applySet b p s) = true → ∀ off, mfind t.force off = if (blk b).holds off = true then mfind p off else mfind s.force off)
        ∧ (setOk b s (applySet b p s) = false → t.force = s.force ∧ t.flag (cstatREFUSED b) = true))

/-! ### Media error correction and translation -/

/-- R113–R115, R119–R121, R127: while other codewords of the read are in decoding, a hard decode of a codeword that is not erased records the word that
satisfies every check, its corrected bits and its unscrambled data, and frees the buffer; a word that violates a check is discarded, takes the decoder out
of service and latches line 19; a hard decode that gives up after its last iteration leaves its codeword failed; a soft decode answers what min-sum decoding of its LLRs holds, counts it
and records it, and an erased codeword is not decoded; SOFT_READ_PLACE reserves the soft
queue and places the soft read; arming the injection writes ECC_INJ alone. -/
def Obligations.CodewordsAreDecodedAndEscalated : Prop :=
  ∀ s : State, s.mediaOk = true → sortedFrom none s.ecc.bufs = true →
    (∀ (bid bid' : Nat) (b b' : CwBuf) (j : Job) (c : Cw) (out : BitVec 36864), mfind s.ecc.bufs bid = some b → mfind s.tck.jobs b.job = some j → b.taken = true →
        j.client ≠ .direct → j.cws[b.idx]? = some c → bid' ≠ bid → mfind s.ecc.bufs bid' = some b' → b'.job = b.job →
        (∀ iter : Fin 64, b.soft = false → s.ecc.hardOff < 64 → iter.val = s.cur ECC_HARD_ITER →
          let zeros := 36864 - popCount 36864 b.bits.toNat
          let info := (out.setWidth 32896 ^^^ s.scramble b.ch b.die b.row b.plane b.col (match j.descs with | d :: _ => d.mix | [] => 0)).toNat
          (zeros ≤ s.cur ECC_ERASED_THRESH → ∀ ok, Gives (.codewordHardDecode bid out ok iter) s fun t => ∃ k, mfind t.tck.jobs b.job = some k
            ∧ (k.cws[b.idx]?).map Cw.st = some 2 ∧ mfind k.got b.idx = some (2 ^ 32896 - 1) ∧ mfind t.ecc.bufs bid = none
            ∧ t.fld ECC_ERASEDCNT_COUNT = (s.fld ECC_ERASEDCNT_COUNT + 1) % 2 ^ 32)
          ∧ (s.cur ECC_ERASED_THRESH < zeros → ldpcOk out = true → Gives (.codewordHardDecode bid out true iter) s fun t => ∃ k, mfind t.tck.jobs b.job = some k
            ∧ k.cws[b.idx]? = some { c with st := 1, cb := popCount 36864 (b.bits ^^^ out).toNat } ∧ mfind k.got b.idx = some info ∧ mfind t.ecc.bufs bid = none
            ∧ (∀ i, i ≠ b.idx → k.cws[i]? = j.cws[i]?))
          ∧ (s.cur ECC_ERASED_THRESH < zeros → ldpcOk out = false → s.lineLive 19 = true → Gives (.codewordHardDecode bid out true iter) s fun t =>
            t.ecc.hardOff = s.ecc.hardOff + 1 ∧ (mfind t.ecc.bufs bid).map CwBuf.bits = some b.bits ∧ t.tck = s.tck ∧ nbit (t.fld FLT_LINE_LINES) 19 = true)
          ∧ (s.cur ECC_ERASED_THRESH < zeros → Gives (.codewordHardDecode bid out false iter) s fun t => ∃ k, mfind t.tck.jobs b.job = some k
            ∧ (k.cws[b.idx]?).map Cw.st = some 3 ∧ mfind t.ecc.bufs bid = none ∧ t.regs = s.regs))
        ∧ (∀ iter : Byte, b.soft = true → s.erasedCw b.bits = false → iter.toNat = s.cur ECC_SOFT_ITER →
          let w := Config.minSum (s.llrs b) iter.toNat
          Gives (.codewordSoftDecode bid w (ldpcOk w) iter) s fun t => ∃ k, mfind t.tck.jobs b.job = some k
            ∧ (k.cws[b.idx]?).map Cw.st = some (if ldpcOk w then 1 else 3) ∧ mfind t.ecc.bufs bid = none
            ∧ t.fld ECC_SOFTCNT_COUNT = (s.fld ECC_SOFTCNT_COUNT + 1) % 2 ^ 32
            ∧ (ldpcOk w = true → k.soft = true ∧ k.near = true ∧ t.fld ECC_SOFTOK_COUNT = (s.fld ECC_SOFTOK_COUNT + 1) % 2 ^ 32))
        ∧ (∀ (ok : Bool) (iter : Byte), b.soft = true → s.erasedCw b.bits = true →
          Gives (.codewordSoftDecode bid out ok iter) s fun t => ∃ k, mfind t.tck.jobs b.job = some k ∧ (k.cws[b.idx]?).map Cw.st = some 2
            ∧ mfind k.got b.idx = some (2 ^ 32896 - 1) ∧ mfind t.ecc.bufs bid = none))
    ∧ (∀ (id : Nat) (j : Job),
        let n := j.undecoded
        mfind s.tck.jobs id = some j → j.phase = 7 → id ∈ s.ecc.softWait → softQ s + n ≤ 256 → s.pageBusy id j = false → mfind s.ecc.softRes id = none →
        Gives (.softReadPlace id) s fun t => id ∉ t.ecc.softWait ∧ mfind t.ecc.softRes id = some n ∧ t.fld ECC_STAT_SOFTQ = softQ s + n
          ∧ ∃ k, mfind t.tck.jobs id = some k ∧ k.op = 6 ∧ k.phase = 0 ∧ k.oldest = true ∧ k.q = 0 ∧ k.planes = undecodedPlanes j ∧ k.cws = j.cws)
    ∧ (∀ (id sid : Nat) (sc : Scan) (j : Job) (g : Group), s.ste.scans.find? (fun c => c.2.kind = 2 && c.2.job = id && s.scanDone c.1) = some (sid, sc) →
        mfind s.tck.jobs id = some j → s.grp sc.group = some g → (∀ x ∈ reconWords s j g sc, x.2.isSome = true) →
        exec (.stripeReconstructDone id) s = .next (reconEnd id j sid g sc s))
    ∧ (∀ (m : MasterId) (cnt : Fin 1024) (ch : Fin 32), s.MayWrite m ECC_INJ →
        Gives (.errorInjectArm m cnt ch) s fun t => t.fld ECC_INJ_CNT = cnt ∧ t.fld ECC_INJ_CH = ch ∧ t.fld ECC_INJ_ARM = 1 ∧ s.RegsOnly t [ECC_INJ.at 0 0 0])

/-- R140, R143, R144, R147–R149, R152: a read of lost units ends with Unrecovered Read Error, one of unmapped units alone is ready to complete; a merge into
an unmapped unit overlays its bytes on zeros and waits to be placed whole; placement, trim placement, append and fold go forward when their conditions
hold; the cream target is the clamped fraction of the free capacity. -/
def Obligations.UnitsAreLookedUpMergedAndPlaced : Prop :=
  ∀ s : State, s.ok = true →
    (∀ (id : Nat) (c : Cmd), s.cmd id = some c → c.phase = 1 →
        let r := s.looked c
        ((∃ lu ∈ s.cmdUnits c, entSt (r.mapEntry c.slot lu) = 4) → (∀ lu ∈ s.cmdUnits c, entSt (r.mapEntry c.slot lu) ≤ 2 ∨ entSt (r.mapEntry c.slot lu) = 4) →
          Gives (.mapLookup id) s fun t => t.cmd id = some { c with phase := 6, sct := 2, sc := 0x81 } ∧ State.Reported { r with cmds := t.cmds } t)
        ∧ ((∀ lu ∈ s.cmdUnits c, entSt (r.mapEntry c.slot lu) = 0) → c.kv = false → (∀ e ∈ s.tck.jobs, ∀ f, e.2.client ≠ .host id f) →
          Gives (.mapLookup id) s fun t => t.cmd id = some { c with phase := 6, passed := true } ∧ t = { r with cmds := t.cmds })
        ∧ ((∃ lu ∈ s.cmdUnits c, entSt (r.mapEntry c.slot lu) = 5) → (∀ lu ∈ s.cmdUnits c, entSt (r.mapEntry c.slot lu) ≤ 2 ∨ entSt (r.mapEntry c.slot lu) = 5) →
          exec (.mapLookup id) s = .next (toFirmware id 3 (raise EV_TXE_FWENT c.slot r))))
    ∧ (∀ (id mid : Nat) (m : Merge), s.txe.merges = [(mid, m)] → m.cmd = id → m.buf = none → m.job = none → entSt (s.mapEntry m.slot m.lu) = 0 →
        s.trimmed m.slot m.lu = false → s.restRuns = true → s.restBad m.slot = none → s.txe.waiting.find? (fun w => w.1 = id + 2 ^ 64) = none →
        let v := overlay 0 m.ofs m.len m.bytes
        Gives (.merge id) s fun t => t.txe = { s.txe with
          merges := [(mid, { m with buf := some v })]
          waiting := s.txe.waiting ++ [(id, [{ slot := m.slot, lu := m.lu, n := m.n, data := s.xtsData true m.slot m.lu m.n v }])] }
          ∧ t.cmds = s.cmds ∧ t.ste = s.ste ∧ t.tck = s.tck)
    ∧ (∀ (id : Nat) (us : List UnitRec), s.txe.waiting.find? (fun w => w.1 < 2 ^ 64 && s.classRuns (s.cur CIP_CTL_XCLASS) && s.mayPlace w.1 && !s.placeBehind w.1) = some (id, us) →
        (∀ u ∈ us, ∀ t ∈ s.txe.trims, ∀ r ∈ t.2, inRange u.slot u.lu r = false) →
        (131072 < s.txe.place.length + newEntries s.txe.place us → s.flag TXE_PLACE_FULL = false →
          Gives .placement s fun t => t.flag TXE_PLACE_FULL = true ∧ t.flag TXE_STAT_PLACEFULL = true ∧ t.txe = s.txe)
        ∧ (s.txe.place.length + newEntries s.txe.place us ≤ 131072 → (s.filling [0, 1]).isSome = true →
          exec .placement s = .next (placeAll id us (ckpUnclean { s with txe.waiting := s.txe.waiting.filter fun w => w.1 != id }))))
    ∧ (∀ (id : Nat) (rs : List (Nat × Nat × Nat)), s.txe.trimQ.find? (fun t => t.1 = id) = some (id, rs) → s.mayPlace id = true →
        (∀ p ∈ s.txe.place, ∀ r ∈ rs, inRange p.slot p.lu r = false) → (s.filling [0, 1]).isSome = true →
        rs ≠ [] → rs.length ≤ 255 → Gives (.trimPlace id) s fun t => id ∉ t.txe.trimQ.map Prod.fst ∧ (s.pair TXE_SEQ_LO_SEQ TXE_SEQ_HI_SEQ, rs) ∈ t.txe.trims)
    ∧ (∀ (g : BitVec 24) (i : Fin 1024) (x : Stripe), s.stripe g.toNat i = some x → x.st = 3 → exec (.stripeAppend g i) s = .next (stripeAppend x s))
    ∧ (s.domOn dCTRL = true → s.fld TCK_COUNT_LO_COUNT % 4096 = 0 →
        let used := (List.range 128).foldl (fun n k => n + s.pair TXE_NSVALID_LO_VALID TXE_NSVALID_HI_VALID k * s.slotCw k * 4096) 0
        let free := s.txe.usable - used
        let tgt := min (max (s.cur TXE_CREAM_FRAC_FRAC * free / 1024) (s.fld TXE_CREAM_MIN_GIB * 2 ^ 30)) (s.cur TXE_CREAM_MAX_GIB * 2 ^ 30)
        Gives .creamTargetRecompute s fun t => t.fld TXE_FREE_GIB = free / 2 ^ 30 % 2 ^ TXE_FREE_GIB.width
          ∧ t.fld TXE_CREAM_TGT_MIB = tgt / 2 ^ 20 % 2 ^ TXE_CREAM_TGT_MIB.width ∧ s.RegsOnly t [TXE_FREE.at 0 0 0, TXE_CREAM_TGT.at 0 0 0])
    ∧ (∀ g i, s.on TXE_CTL_FOLD = true → s.ckp.shut = false → s.domOn dMEDIA = true → s.foldNext = some (g, i) → s.gtState g = 2 →
        exec .fold s = .next (moveAll (fun s c => s.groupOfCwa c = g && s.stripeOfCwa c = i) 2 false (setGtState s g 3)))

/-- R153, R156: an entry operation on a unit outside the placement table acts at once: a read gives the entry in TXE_ENTVAL; setting lost or firmware state
on an unmapped entry keeps its CWA and writes those five bytes alone; a clear writes 0; on a unit in the table it waits with BUSY; on no namespace it sets
ENTERR; the end of zeroing leaves every entry 0, the namespace existing and its create complete. -/
def Obligations.EntriesAreReadSetAndCleared : Prop :=
  ∀ s : State, s.ok = true →
    (∀ (m : MasterId) (slot : Fin 128) (hi : Byte), s.MayWrite m TXE_ENTSEL_HI →
        let lu := s.fld TXE_ENTSEL_LO_LU + 2 ^ 32 * hi.toNat
        let a := s.mapAddr slot lu
        let r := fun op : Nat => entryLook slot lu ((entrySel op slot hi.toNat s).setFld TXE_ENTSEL_HI_BUSY 0)
        let cmds := [Instr.entryRead m slot hi, .entrySetLost m slot hi, .entrySetFirmware m slot hi, .entryClear m slot hi]
        (s.placed slot lu = true → ∀ k : Fin 4, ∃ c, cmds[k.val]? = some c ∧ Gives c s fun t => t.flag TXE_ENTSEL_HI_BUSY = true ∧ t.fld TXE_ENTSEL_HI_OP = k
            ∧ State.RegsOnly { s with txe.entWait := some (k.val, slot.val, lu) } t [TXE_ENTSEL_HI.at 0 0 0])
        ∧ (s.placed slot lu = false → (s.nsExists slot = false ∨ s.nsUnits slot ≤ lu) → ∀ c ∈ cmds, Gives c s fun t => t.flag TXE_STAT_ENTERR = true
            ∧ t.flag TXE_ENTSEL_HI_BUSY = false ∧ s.RegsOnly t [TXE_ENTSEL_HI.at 0 0 0, TXE_STAT.at 0 0 0])
        ∧ (s.placed slot lu = false → s.nsExists slot = true → lu < s.nsUnits slot → s.cleanDram 14 .read a 5 = true →
            let e := s.mapEntry slot lu
            (Gives (.entryRead m slot hi) s fun t => t.fld TXE_ENTVAL_LO_ENTRY = e % 2 ^ 32 ∧ t.fld TXE_ENTVAL_HI_ENTRY = e / 2 ^ 32 % 2 ^ 8
              ∧ (r 0).RegsOnly t [TXE_ENTVAL_LO.at 0 0 0, TXE_ENTVAL_HI.at 0 0 0])
            ∧ (mapped e = false → s.cleanDram 14 .write a 5 = true → ∀ c v, (c, v) ∈ [(Instr.entrySetLost m slot hi, entOf (entCwa e) 4), (.entrySetFirmware m slot hi, entOf (entCwa e) 5), (.entryClear m slot hi, 0)] →
              Gives c s fun t => t.mapEntry slot lu = v ∧ (∀ x, (x < a ∨ a + 5 ≤ x) → t.byte x = s.byte x) ∧ t.txe = s.txe)
            ∧ (mapped e = true → s.cleanDram 14 .write a 5 = true → ∀ c v, (c, v) ∈ [(Instr.entrySetLost m slot hi, entOf (entCwa e) 4), (.entrySetFirmware m slot hi, entOf (entCwa e) 5), (.entryClear m slot hi, 0)] →
              Gives c s fun t => mfind t.txe.rev (entCwa e) = mfind (mdel s.txe.rev (entCwa e)) (entCwa e) ∧ t.cmds = s.cmds)))
    ∧ (∀ (slot id : Nat) (r : List (Nat × Nat)), s.txe.zeroing = (slot, id) :: r → slot < 128 →
        0x1000000000 ≤ s.fld TXE_MAPBASE_LO_ADDR + 2 ^ 32 * s.fld TXE_MAPBASE_HI_ADDR →
        ∃ t, exec .namespaceZeroDone s = .next (raise EV_TXE_NSREADY slot t) ∧ (∀ lu, lu < s.nsUnits slot → t.mapEntry slot lu = 0)
          ∧ t.nsExists slot = true ∧ t.flag TXE_NSCFG_ZEROING slot = false ∧ t.pair TXE_NSVALID_LO_VALID TXE_NSVALID_HI_VALID slot = 0
          ∧ t.cmd id = (s.cmd id).map (fun c => { c with phase := 6, sct := 0, sc := 0 }) ∧ t.txe.zeroing = r)

/-! ### Skim, stripes, checkpoints -/

/-- R180, R181: P and Q over the data members' codewords restore every member of a stripe, with any two members missing. -/
def Obligations.ReconstructionRestoresAnyTwoMembers : Prop :=
  ∀ (d : List InfoBits) (a b : Nat), 4 ≤ d.length + 2 → d.length + 2 ≤ 32 →
    let w := d.length + 2
    let all := d ++ [synP d, synQ d]
    ∀ x v, all[x]? = some v → reconstruct w (fun i => if i = a ∨ i = b then none else all[i]?) x = some v

/-- R160–R165, R168, R170, R212: Skim takes the victim of its foreground, background or static choice within the number in flight, and none after the
shutdown has begun; a fenced group whose fence has lifted erases its die
blocks; an old ledger block behind its fence is queued for erasure; retiring a die block of a die that is out of service is refused, that of a free die
block takes a spare. -/
def Obligations.SkimTakesVictimsErasesAndRetires : Prop :=
  ∀ s : State, s.ok = true →
    (s.domOn dMEDIA = true → s.skm.reloc = [] → s.skm.prio = [] → s.ckp.shut = false →
        let k := (s.skm.victims.filter fun v => !v.2.2).length
        (s.flag SKM_STAT_FG = true → (∀ g, s.fgChoice = some g → k < s.cur SKM_CTL_FGPAR → exec .skimVictimSelect s = .next (takeVictim g true false s))
          ∧ (s.fgChoice = none ∨ s.cur SKM_CTL_FGPAR ≤ k → exec .skimVictimSelect s = .next s))
        ∧ (s.flag SKM_STAT_FG = false → s.on SKM_CTL_BGEN = true → s.mode ≠ mSPENT → s.staticDue = false →
          (∀ g, s.bgChoice = some g → k < s.cur SKM_CTL_BGPAR → exec .skimVictimSelect s = .next (takeVictim g false false s)))
        ∧ (∀ g, s.staticDue = true → s.staticChoice = some g → exec .skimVictimSelect s = .next (takeVictim g false true s)))
    ∧ (s.domOn dMEDIA = true → s.ckp.shut = true → s.skm.reloc = [] → exec .skimVictimSelect s = .next s)
    ∧ (∀ (g : BitVec 24) (gr : Group), g.toNat ≠ 0xFFFFFF → s.gtState g.toNat = 4 → ckAtLeast (s.fld CKP_LAST_NUM) (s.gtFence g.toNat) = true → s.readsEnded g.toNat = true →
        s.grp g.toNat = some gr → exec (.groupErase g) s = .next (eraseSettle g.toNat (gr.mem.foldl (fun s m =>
          if (s.bt m.1 m.2.1).state = 1 && s.inService m.1 then queueErase g.toNat m.1 m.2.1 s else s) (setGtState s g.toNat 5))))
    ∧ (∀ pos b f r, s.skm.oldBlocks = (pos, b, f) :: r → ckAtLeast (s.fld CKP_LAST_NUM) f = true →
        Gives (.groupErase 0xFFFFFF) s fun t => t.skm.oldBlocks = r ∧ t.tck.nextJob = s.tck.nextJob + 1
          ∧ ∃ j, mfind t.tck.jobs s.tck.nextJob = some j ∧ j.client = .erase 0xFFFFFF b ∧ j.ch = posCh pos ∧ j.die = posDie pos ∧ isEraseOp j.op = true)
    ∧ (∀ (m : MasterId) (pos : Fin 2048) (b : BitVec 16), s.MayWrite m SKM_RETIRE →
        (s.inService pos = false ∨ s.blkpp ≤ b.toNat ∨ 2 ≤ (s.bt pos b.toNat).state →
          exec (.skmRetire m pos b) s = .next (raise EV_SKM_RETREF (skmPayload pos b.toNat 4) s))
        ∧ (s.inService pos = true → b.toNat < s.blkpp → (s.bt pos b.toNat).state = 0 → 0 < mget 0 s.skm.spare pos → sortedFrom none s.skm.spare = true →
          Gives (.skmRetire m pos b) s fun t => mget 0 t.skm.spare pos = mget 0 s.skm.spare pos - 1 ∧ t.fld SKM_RETCNT_BLOCKS = (s.fld SKM_RETCNT_BLOCKS + 1) % 2 ^ 24
            ∧ (pos.val, b.toNat) ∈ t.skm.reloc))

/-- R182, R183, R185, R192–R196: a filling stripe that is due closes and queues one member program for each of its dies; a full ledger refuses a new group;
a ledger write counts the sequence number and awaits its programs, and the entry is durable with both dies and the partner; patrol passes start, read,
check and end; a retired die is rebuilt stripe by stripe; a lost-stripe slot clears. -/
def Obligations.StripesCloseLedgersWriteAndDiesAreRebuilt : Prop :=
  ∀ s : State, s.ok = true →
    (∀ (g : BitVec 24) (i : Fin 1024) (x : Stripe) (gr : Group), s.stripe g.toNat i = some x → s.grp g.toNat = some gr → x.st = 0 → (s.closeDue x = true ∨ s.ckp.shut = true) →
        Gives (.stripeClose g i) s fun t => (t.stripe g.toNat i).map (fun y => (y.st, y.full, y.pieces)) = some (1, true, x.pieces)
          ∧ t.tck.nextJob = s.tck.nextJob + gr.width i
          ∧ (∀ k, k < gr.width i → ∃ j, mfind t.tck.jobs (s.tck.nextJob + k) = some j ∧ j.client = .member g.toNat i k ∧ j.phase = 10
              ∧ j.q = (if x.stream = 6 then 2 else 1)
              ∧ j.op = if gr.cream then 3 else 2))
    ∧ (∀ stream : Fin 7, stream.val ≠ 6 → s.domOn dMEDIA = true → (s.fillingGroups stream).length < s.streamCount stream → (1 < stream.val ∨ s.cur SKM_LWM_RESV < s.freeGroups) →
        (s.fld STE_LEDENT_ENTRIES < 64 → exec (.groupOpen stream) s = .next (placeBacklog (openGroup stream s)))
        ∧ (64 ≤ s.fld STE_LEDENT_ENTRIES → s.ste.backlog = [] →
          Gives (.groupOpen stream) s fun t => t.flag STE_STAT_LEDGERFULL = true ∧ t.ckp.want = true ∧ t.ste = s.ste))
    ∧ (∀ u x, s.domOn dMEDIA = true → u ∈ s.ste.backlog → mfind s.ste.units u = some x → x.stream = 6 → exec (.groupOpen 6) s = .next (placeBacklog (ckpGroup s)))
    ∧ (s.domOn dMEDIA = true → s.ste.ledDirty = true → s.ste.ledWait = false →
        Gives .ledgerWrite s fun t => t.ste.ledWait = true ∧ t.ste.ledDirty = false ∧ t.ste.ledDone = 0 ∧ t.ste.ledAck = !s.pairUp
          ∧ t.pair STE_LEDSEQ_LO_SEQ STE_LEDSEQ_HI_SEQ = (s.pair STE_LEDSEQ_LO_SEQ STE_LEDSEQ_HI_SEQ + 1) % 2 ^ 64)
    ∧ (s.ste.ledWait = true → s.ste.ledDone = 3 → s.ste.ledAck = true →
        Gives .ledgerEntryDurable s fun t => t.ste.ledWait = false ∧ (∀ gi, mfind t.ste.groups gi =
            (mfind s.ste.groups gi).map fun g => if s.ste.ledIn.contains gi = true then { g with durable := true } else g) ∧ t = { s with ste := t.ste })
    ∧ (∀ pos : Fin 2048, s.ste.retired = [pos.val] → exec .widthChange s = .next (widthsSettle false (widthChangeDie pos { s with ste.retired := [] })))
    ∧ (s.domOn dMEDIA = true → s.on STE_PATROL_ENA = true → s.ste.patOn = false →
        Gives .patrolPassStart s fun t => t.ste.patOn = true ∧ t.ste.patDone = [] ∧ 1 ≤ t.ste.patPace ∧ t = { s with ste := t.ste })
    ∧ (s.ste.patOn = true →
        (∀ gi i g, s.patNext = some (gi, i) → s.grp gi = some g →
          exec .patrolRead s = .next (startScan 0 gi i 0 3 (List.range (g.width i)) { s.setFld STE_PATCUR_GROUP gi with ste.patDone := (gi, i) :: s.ste.patDone }))
        ∧ (s.patNext = none → (∀ c ∈ s.ste.scans, c.2.kind ≠ 0) →
          Gives .patrolRead s fun t => t.ste.patOn = false ∧ t.fld STE_PATPASS_COUNT = (s.fld STE_PATPASS_COUNT + 1) % 2 ^ 32)
        ∧ (s.lineLive 29 = true → Gives .patrolLate s fun t => t.flag STE_STAT_PATLATE = true ∧ s.Latched t 29 ∧ t.ste = s.ste))
    ∧ (∀ id sc g, s.ste.scans.find? (fun c => c.2.kind = 0 && s.scanDone c.1) = some (id, sc) → s.grp sc.group = some g →
        (∀ o ∈ s.slotList g, patJudge sc (g.width sc.stripe) o = .fine) → exec .patrolCheck s = .next (patEnd { s with ste.scans := mdel s.ste.scans id }))
    ∧ (∀ pos r, s.ste.rebPend = pos :: r →
        Gives .rebuildStart s fun t => t.ste.rebPend = r ∧ t.ste.rebuildQ = s.ste.rebuildQ ++ [pos] ∧ t.flag STE_REBUILD_ACTIVE = true)
    ∧ (∀ pos r, s.ste.rebuildQ = pos :: r →
        (∀ id sc, s.ste.scans.find? (fun c => c.2.kind = 1 && s.scanDone c.1) = some (id, sc) → exec .rebuildStripe s = .next (rebSettle (rebFinish id sc s)))
        ∧ (∀ gi i g, s.ste.scans = [] → s.ckp.shut = false → (s.rebLeft pos).head? = some (gi, i) → s.grp gi = some g →
          exec .rebuildStripe s = .next (startScan 1 gi i 0 2 ((List.range (g.width i)).filter fun j => s.inService (nth (0, 0) (g.at i) j).1) s))
        ∧ (s.rebLeft pos = [] → (∀ c ∈ s.ste.scans, c.2.kind ≠ 1) → Gives .rebuildDone s fun t => t.ste.rebuildQ = r ∧ t.pending = s.pending))
    ∧ (∀ (m : MasterId) (k : Fin 8192), s.MayWrite m STE_LSCLR →
        (s.lsUsed k = true → s.cleanDram 15 .write (s.lsAddr k) 16 = true → Gives (.lostStripeClear m k) s fun t => t.rawNat (s.lsAddr k) 16 = 0 ∧ t.fld STE_LOST_COUNT = s.fld STE_LOST_COUNT - 1
          ∧ (∀ x, (x < s.lsAddr k ∨ s.lsAddr k + 16 ≤ x) → t.byte x = s.byte x))
        ∧ (s.lsUsed k = false → exec (.lostStripeClear m k) s = .next s))

/-- R205, R206, R211–R214: a due checkpoint begins where none runs; the trailer's append completes it: CKP_LAST takes its number; a late one is reported; NOW
and SHUT are requests; a clean shutdown ends when its root record is written; start-up on a blank medium, with a root record, a trailer and a layout image that pass their checks,
and its failures without one of them. -/
def Obligations.CheckpointsBeginCompleteAndShutDown : Prop :=
  ∀ s : State, s.ok = true →
    (s.ckpDue = true → s.ckp.phase = 0 → s.flag CKP_STAT_BOD = false → s.domOn dMEDIA = true →
        ((s.ckp.shut = true → (∀ x ∈ s.ste.stripes, 6 ≤ x.stream) ∧ s.ste.backlog = [] ∧ s.writesWait = false) → exec .checkpointBegin s = .next (ckpBegin s))
        ∧ (s.ckp.shut = true → (∃ x ∈ s.ste.stripes, x.stream ≤ 5) ∨ s.ste.backlog ≠ [] ∨ s.writesWait = true → exec .checkpointBegin s = .next s))
    ∧ (s.ckp.phase = 3 → s.typeLeft 7 = false → s.flag CKP_STAT_BOD = false →
        Gives .checkpointComplete s fun t => t.fld CKP_LAST_NUM = s.fld CKP_CUR_NUM ∧ t.fld CKP_CUR_NUM = (s.fld CKP_CUR_NUM + 1) % 2 ^ 32
          ∧ t.flag CKP_STAT_ACTIVE = false ∧ t.ckp.phase = 0
          ∧ t.fld CKP_ROOTNO_NUM = (s.fld CKP_ROOTNO_NUM + if s.ckp.closing.isSome || s.ckp.cleanRun then 1 else 0) % 2 ^ 32)
    ∧ (s.flag CKP_STAT_ACTIVE = true → s.ckp.began + 100000 * s.cur CKP_PERIOD_MS ≤ s.mtime →
        Gives .checkpointLate s fun t => t.flag CKP_STAT_LATE = true ∧ State.Reported (s.setFld CKP_STAT_LATE 1) t)
    ∧ (∀ m : MasterId, s.MayWrite m CKP_CTL → exec (.checkpointNow m) s = .next { s with ckp.want := true }
        ∧ Gives (.shutdownRequest m) s fun t => t.ckp.shut = true ∧ t.ckp.want = true ∧ t = { s with ckp := t.ckp })
    ∧ (s.ckp.shut = true → s.ckp.cleanDone = true → s.ckp.phase = 0 →
        (s.rootWaits 1 = false → Gives .shutdownComplete s fun t => t.ckp.clean = true ∧ t.ckp.shut = false
          ∧ (s.ckp.shn = true → t.fld HPT_STAT_SHST = 2) ∧ (s.ckp.shn = false → t.regs = s.regs) ∧ t = { s with ckp := t.ckp, regs := t.regs })
        ∧ (s.rootWaits 1 = true → exec .shutdownComplete s = .next s))
    ∧ (∀ f : CkpFound, s.layRuns = true → s.bot.layStep = 2 → s.ckp.closing = none → s.flag CKP_STAT_BOD = false →
        ((s.rootSlots.all fun r => r.2 = 2 ^ 512 - 1) = true → exec (.ckpStartup f) s = .next (startBlank f s))
        ∧ ((s.rootSlots.all fun r => r.2 = 2 ^ 512 - 1) = false → (rootBest s.rootSlots = none → exec (.ckpStartup f) s = .next (startFails 1 s))
          ∧ (∀ k r, rootBest s.rootSlots = some (k, r) → (foundTrailer f = none → exec (.ckpStartup f) s = .next (startFails 2 s))
            ∧ (∀ t, foundTrailer f = some t → (s.layDigest.toNat ≠ nbits t 224 32 → exec (.ckpStartup f) s = .next (startFails 4 s))
              ∧ (s.layDigest.toNat = nbits t 224 32 → s.flag PLK_ROLE_IMAGE = false → s.ckp.asked = false →
                (pagesLoad t f s = none → exec (.ckpStartup f) s = .next (startFails 3 s))
                ∧ (∀ s1 s2 i fi, pagesLoad t f s = some s1 →
                  readSlot false { s1.setFld CKP_ROOTNO_NUM (nbits r 32 32) with ckp.rootSlot := (k + 1) % 1024 } = (s2, .good i fi) →
                  (∀ x ∈ i.slots, ∀ d ∈ s2.recSlots, d.1 = x.inst → d.2.1 = i.nsIu x) →
                  exec (.ckpStartup f) s = .next (startLoaded (nbit r 96 && nbit t 368) t f s2)))))))

/-! ### The host port -/

/-- R220–R223, R225, R226, R230, R454: configuration requests get retry status until CFGREADY, then reads answer and writes change the writable bits that their
byte enables name; in D0 the BARs answer and BAR0's doorbells act (that CONFIG_REQUEST carries requests to the BARs is the model's choice, log 95); the link trains to what both sides support; PERST#, hot reset, link loss and function level reset stop the controller and forget its queues
and its commands that have no unit placed, the first three with the link down. -/
def Obligations.TheLinkTrainsConfiguresAndResets : Prop :=
  ∀ s : State, s.ok = true → sortedFrom none s.hpt.cfg = true → sortedFrom none s.cmds = true →
    (∀ (dword : Fin 32768) (be : Fin 16) (data : Word), s.hptUp = true →
        let off := 4 * dword.val
        let d0 := nbits (s.cfgRead 0x044) 0 2 = 0
        let k := (dword.val - 1024) / 2
        let v := data.toNat % 2 ^ 16
        (dword.val < 1024 → (s.flag HPT_CTL_CFGREADY = false → ∀ w, exec (.configRequest .config w dword be data) s = .next (s.emit (.frame "PCIe" "CRS" [off])))
          ∧ (s.flag HPT_CTL_CFGREADY = true →
            exec (.configRequest .config false dword be data) s = .next (s.emit (.frame "PCIe" "config" [off, s.cfgRead off]))
            ∧ Gives (.configRequest .config true dword be data) s fun t =>
              (off ≠ 0x044 → off ≠ 0x068 → ∀ k, k < 32 → nbit (t.cfgRead off) k = if nbit (cfgMask off &&& beMask be) k then nbit data.toNat k else nbit (s.cfgRead off) k)
              ∧ t.cfgRead off = cfgLegal off (s.cfgRead off) (beWrite (cfgMask off) be (s.cfgRead off) data.toNat)
              ∧ (∀ o, o ≠ off → t.cfgRead o = s.cfgRead o) ∧ ∀ o, o ≠ HPT_LINK.at 0 0 0 → mfind t.regs o = mfind s.regs o))
        ∧ (d0 → exec (.configRequest .bar2 false dword be data) s = .next (s.emit (.frame "PCIe" "BAR2" [off, s.bar2Read dword]))
          ∧ (dword.val < 16384 → exec (.configRequest .bar0 false dword be data) s = .next (s.emit (.frame "PCIe" "BAR0" [off, s.bar0Read off])))
          ∧ (1024 ≤ dword.val → dword.val < 16384 →
            exec (.configRequest .bar0 true dword be data) s = .next (if dword.val % 2 = 0 then sqTail k v s else cqHead k v s)))
        ∧ (¬ d0 → ∀ w, exec (.configRequest .bar2 w dword be data) s = .next (s.emit (.frame "PCIe" "unsupported request" [off]))))
    ∧ (∀ (width : Fin 4) (rate : Fin 7) (flit : Bool),
        let top := if s.fld HPT_CTL_MAXRATE = 0 ∨ s.fld HPT_CTL_MAXRATE = 7 then 6 else s.fld HPT_CTL_MAXRATE
        let r := max 1 (min rate.val top)
        let trained : State → Prop := fun t => t.flag HPT_LINK_UP = true ∧ t.fld HPT_LINK_WIDTH = min width.val (s.fld HPT_CTL_MAXW) ∧ t.fld HPT_LINK_RATE = r
          ∧ (t.flag HPT_LINK_FLIT = true ↔ r = 6 ∨ flit = true) ∧ (nbits (s.cfgRead 0x044) 0 2 ≠ 3 → t.fld HPT_LINK_PM = 0) ∧ t.hpt = s.hpt
        (s.domOn dHOST = true → s.flag HPT_CTL_LINKEN = true → s.flag HPT_LINK_UP = false → Gives (.pcieLinkUp width rate flit) s trained)
        ∧ (∀ m : MasterId, s.hptUp = true → s.MayWrite m HPT_CTL → Gives (.linkRetrain m width rate flit) s fun t => trained t ∧ s.RegsOnly t [HPT_LINK.at 0 0 0]))
    ∧ (s.hptUp = true → ∀ e ∈ [(Instr.perst, false), (.hotReset, false), (.pcieLinkDown, false), (.functionLevelReset, true)],
        Gives e.1 s fun t => t.flag HPT_LINK_UP = e.2 ∧ t.flag HPT_STAT_EN = false ∧ t.flag HPT_STAT_RDY = false ∧ t.fld HPT_STAT_SHST = 0
          ∧ t.hpt.cfg = [] ∧ t.hpt.cc = 0 ∧ t.hpt.sqs = [] ∧ t.hpt.cqs = [] ∧ t.mode = s.mode ∧ t.pending = s.pending
          ∧ ∀ id c, s.cmd id = some c → (c.port ≠ 0 → t.cmd id = some c) ∧ (c.port = 0 → c.phase ≠ 4 → c.phase ≠ 9 → (c.phase = 10 → c.appended = false ∧ c.msn = none) → t.cmd id = none))

/-- R32, R212, R225, R226, R228–R232, R234, R243: enabling gives the admin queues of AQA, ASQ and ACQ and RDY in the modes that serve; disabling takes the
queues away; a shutdown notification starts the shutdown; doorbells that keep the rules move tails and heads, others are counted and ignored; a fetch takes
the entry at the head into flight; an asynchronous event completes the oldest request or waits. -/
def Obligations.ControllersEnableFetchAndPost : Prop :=
  ∀ s : State, s.ok = true → sortedFrom none s.cmds = true →
    (∀ (cc aqa : Word) (asq acq : DWord), s.hptUp = true → s.flag HPT_STAT_EN = false →
        Gives (.controllerEnable cc aqa asq acq) s fun t => t.flag HPT_STAT_EN = true ∧ (t.flag HPT_STAT_RDY = true ↔ s.rdyMode = true)
          ∧ t.hpt.sqs = [(0, { base := asq.toNat / 4096 * 4096, size := aqa.toNat % 4096 + 1 })]
          ∧ t.hpt.cqs = [(0, { base := acq.toNat / 4096 * 4096, size := aqa.toNat / 65536 % 4096 + 1, ien := true })] ∧ t.cmds = s.cmds)
    ∧ (s.hptUp = true → s.flag HPT_STAT_EN = true →
        Gives .controllerDisable s (fun t => t.flag HPT_STAT_EN = false ∧ t.flag HPT_STAT_RDY = false ∧ t.flag HPT_LINK_UP = true ∧ t.hpt.sqs = [] ∧ t.hpt.cqs = []
          ∧ t.hpt.cfg = s.hpt.cfg ∧ ∀ id c, s.cmd id = some c → (c.port ≠ 0 → t.cmd id = some c) ∧ (c.port = 0 → c.phase ≠ 4 → c.phase ≠ 9 → (c.phase = 10 → c.appended = false ∧ c.msn = none) → t.cmd id = none))
        ∧ ∀ shn : Fin 4, shn = 1 ∨ shn = 2 → Gives (.shutdownNotification shn) s fun t => t.fld HPT_STAT_SHST = 1 ∧ t.ckp.shut = true ∧ t.ckp.shn = true ∧ t.ckp.want = true
          ∧ t.hpt.sqs = s.hpt.sqs ∧ t.cmds = s.cmds)
    ∧ (∀ (m : MasterId) (type : Fin 8) (info lid : Byte), s.MayWrite m HPT_AEN →
        let v := type.val + info.toNat * 2 ^ 8 + lid.toNat * 2 ^ 16
        (∀ id r c, s.hpt.aers = id :: r → s.cmd id = some c → s.aenOn c.ctl v = true →
          Gives (.aenPost m type info lid) s fun t => t.cmd id = some { c.ended 0 with dw0 := v } ∧ t.hpt.aers = r ∧ (∀ k, k ≠ id → t.cmd k = s.cmd k))
        ∧ (∀ id r c, s.hpt.aers = id :: r → s.cmd id = some c → s.aenOn c.ctl v = false → Gives (.aenPost m type info lid) s fun t => t.hpt = s.hpt ∧ t.cmds = s.cmds)
        ∧ (s.hpt.aers = [] → s.aenOn 1 v = true → s.hpt.aenQ.length < 8 → Gives (.aenPost m type info lid) s fun t => t.hpt.aenQ = s.hpt.aenQ ++ [v] ∧ t.cmds = s.cmds)
        ∧ (s.hpt.aers = [] → s.aenOn 1 v = true → 8 ≤ s.hpt.aenQ.length → Gives (.aenPost m type info lid) s fun t => t.flag HPT_STAT_AENLOST = true ∧ t.hpt = s.hpt))
    ∧ (∀ (qid v : BitVec 16) (q : Sq), s.hptUp = true → s.pwr.dormEntry = false → qid.toNat ≤ s.fld HPT_QCFG_IOQ → mfind s.hpt.sqs qid.toNat = some q →
        let old := (q.tail + q.size - q.head) % q.size
        let new := (v.toNat + q.size - q.head) % q.size
        (v.toNat < q.size → old < new → exec (.sqTailDoorbell qid v) s = .next { s with hpt.sqs := mins s.hpt.sqs qid.toNat { q with tail := v.toNat } })
        ∧ (q.size ≤ v.toNat ∨ new ≤ old → Gives (.sqTailDoorbell qid v) s fun t => t.hpt.sqs = s.hpt.sqs ∧ t.flag HPT_STAT_DBERR = true
            ∧ t.fld HPT_DBERRCNT_COUNT = (s.fld HPT_DBERRCNT_COUNT + 1) % 2 ^ 32))
    ∧ (∀ (qid v : BitVec 16), s.hptUp = true → s.fld HPT_QCFG_IOQ < qid.toNat → exec (.sqTailDoorbell qid v) s = .next s ∧ exec (.cqHeadDoorbell qid v) s = .next s)
    ∧ (∀ (qid v : BitVec 16) (q : Cq), s.hptUp = true → qid.toNat ≤ s.fld HPT_QCFG_IOQ → mfind s.hpt.cqs qid.toNat = some q →
        let new := (v.toNat + q.size - q.head) % q.size
        (v.toNat < q.size → new ≠ 0 → new ≤ q.used → exec (.cqHeadDoorbell qid v) s = .next { s with hpt.cqs := mins s.hpt.cqs qid.toNat { q with head := v.toNat } })
        ∧ (q.size ≤ v.toNat ∨ new = 0 ∨ q.used < new → Gives (.cqHeadDoorbell qid v) s fun t => t.hpt.cqs = s.hpt.cqs ∧ t.flag HPT_STAT_DBERR = true))
    ∧ (∀ (qid : BitVec 16) (sqe : BitVec 512) (q : Sq), s.hptUp = true → s.flag HPT_STAT_RDY = true → s.flag CKP_STAT_BOD = false → s.pwr.dormEntry = false →
        s.hpt.stopped = false → s.mayFetch qid.toNat = true → mfind s.hpt.sqs qid.toNat = some q →
        let c : Cmd := { port := 0, sq := qid.toNat, cid := sqe.toNat / 2 ^ 16 % 2 ^ 16, sqe := sqe.toNat, tick := s.fld TCK_COUNT_LO_COUNT }
        let known := if qid = 0 then adminKnown (sqe.toNat % 256) else ioKnown (sqe.toNat % 256)
        Gives (.commandFetch qid sqe) s fun t => t.cmd s.hpt.nextCmd = some (if known then c else c.ended stInvalidOpcode)
          ∧ mfind t.hpt.sqs qid.toNat = some { q with head := (q.head + 1) % q.size } ∧ t.hpt.nextCmd = s.hpt.nextCmd + 1 ∧ t.regs = s.regs
            ∧ t.out = (hostReads [(q.base + 64 * q.head, 64)] s).out)

/-! ### NVMe commands -/

/-- R234, R239, R242, R30: the commands that HPT hands to firmware: with HOST up and room in the firmware ring, each takes the next entry and is in flight
with firmware; FIRMWARE_COMMIT with action 3, and the power states that R30 refuses, end with Invalid Field in Command. -/
def Obligations.FirmwareTakesTheCommandsOfItsOwn : Prop :=
  ∀ (s : State) (id : Nat) (c : Cmd), s.ok = true →
    let size := 2 ^ s.fld HPT_FWRING_HI_SIZE
    let wr := s.fld HPT_FWWR_INDEX % size
    let taken : State → Prop := fun t => t.cmd id = some { c with phase := 7, passed := true, fw := some wr } ∧ t.fld HPT_FWWR_INDEX = (wr + 1) % size
      ∧ mfind t.hpt.fw wr = some { cmd := id, at' := s.mtime } ∧ t.hpt.fwWait = [] ∧ (∀ k, k ≠ id → t.cmd k = s.cmd k)
    (s.domOn dHOST = true → s.hpt.fwWait = [] → s.fld HPT_FWRING_HI_SIZE ≤ 12 → (wr + 1) % size ≠ s.fld HPT_FWRD_INDEX % size → mfind s.hpt.fw wr = none →
      (∀ e ∈ [(Instr.getLogPage id, 0x02), (.identify id, 0x06), (.firmwareImageDownload id, 0x11)], s.AdminReady id c e.2 → Gives e.1 s taken)
      ∧ (s.AdminReady id c 0x10 → nbits (c.cdw 10) 3 3 ≠ 3 → Gives (.firmwareCommit id) s taken)
      ∧ (0xC0 ≤ c.opc → c.opc ≠ 0xC4 → s.AdminReady id c c.opc → Gives (.vendorAdmin id) s taken)
      ∧ (s.AdminReady id c 0x09 → nbits (c.cdw 10) 0 8 = 2 → nbits (c.cdw 11) 0 5 < 3 → Gives (.setFeaturesPowerManagement id) s taken))
    ∧ (s.AdminReady id c 0x10 → nbits (c.cdw 10) 3 3 = 3 → Gives (.firmwareCommit id) s fun t => t.cmd id = some (c.ended stInvalidField) ∧ t = { fabTaken c s with cmds := t.cmds })
    ∧ (s.AdminReady id c 0x09 → nbits (c.cdw 10) 0 8 = 2 →
        (((nbits (c.cdw 11) 0 5 = 3 ∨ nbits (c.cdw 11) 0 5 = 4) ∧ (s.mode = mSOLO ∨ s.mode = mSPENT)) ∨ (nbits (c.cdw 11) 0 5 = 4 ∧ s.holdsMirrored = true)) →
        Gives (.setFeaturesPowerManagement id) s fun t => t.cmd id = some (c.ended stInvalidField) ∧ t = { fabTaken c s with cmds := t.cmds })

/-- R227, R233, R237, R243: queue creation and deletion by HPT, with the status that R227 gives for a bad identifier, size, vector or queue; abort of a
command not yet passed on, or of none; features set and read back by the queried selection; asynchronous event requests held or answered. -/
def Obligations.QueuesFeaturesAndAbortsAreCarriedOut : Prop :=
  ∀ (s : State) (id : Nat) (c : Cmd), s.ok = true →
    let qid := nbits (c.cdw 10) 0 16
    let size := nbits (c.cdw 10) 16 16
    let base := c.cdw 6 + 2 ^ 32 * c.cdw 7
    (s.AdminReady id c 0x05 → c.port = 0 →
        (qid ≠ 0 → qid ≤ s.fld HPT_QCFG_IOQ → mfind s.hpt.cqs qid = none → 1 ≤ size → size ≤ 16383 → nbits (c.cdw 11) 16 16 < s.fld HPT_QCFG_VEC →
          nbit (c.cdw 11) 0 = true → base % 4096 = 0 →
          Gives (.createIoCq id) s fun t => t.cmd id = some (c.ended 0) ∧ t = { s with cmds := t.cmds, hpt.cqs := t.hpt.cqs }
            ∧ mfind t.hpt.cqs qid = some { base := base, size := size + 1, vec := nbits (c.cdw 11) 16 16, ien := nbit (c.cdw 11) 1 })
        ∧ (qid = 0 ∨ s.fld HPT_QCFG_IOQ < qid ∨ (mfind s.hpt.cqs qid).isSome = true →
          Gives (.createIoCq id) s fun t => t.cmd id = some (c.ended stInvalidQid) ∧ t = { s with cmds := t.cmds }))
    ∧ (s.AdminReady id c 0x01 → c.port = 0 → qid ≠ 0 → qid ≤ s.fld HPT_QCFG_IOQ → mfind s.hpt.sqs qid = none → 1 ≤ size → size ≤ 16383 → nbit (c.cdw 11) 0 = true →
        nbits (c.cdw 11) 16 16 ≠ 0 →
        ((mfind s.hpt.cqs (nbits (c.cdw 11) 16 16)).isSome = true → base % 4096 = 0 →
          Gives (.createIoSq id) s fun t => t.cmd id = some (c.ended 0) ∧ t = { s with cmds := t.cmds, hpt.sqs := t.hpt.sqs }
            ∧ mfind t.hpt.sqs qid = some { base := base, size := size + 1, cq := nbits (c.cdw 11) 16 16, prio := nbits (c.cdw 11) 1 2 })
        ∧ (mfind s.hpt.cqs (nbits (c.cdw 11) 16 16) = none →
          Gives (.createIoSq id) s fun t => t.cmd id = some (c.ended stCqInvalid) ∧ t = { s with cmds := t.cmds }))
    ∧ (s.AdminReady id c 0x04 → c.port = 0 → qid ≠ 0 → (mfind s.hpt.cqs qid).isSome = true → sortedFrom none s.hpt.cqs = true →
        ((∀ q ∈ s.hpt.sqs, q.2.cq ≠ qid) → Gives (.deleteIoCq id) s fun t => t.cmd id = some (c.ended 0) ∧ mfind t.hpt.cqs qid = none
            ∧ (∀ k, k ≠ qid → mfind t.hpt.cqs k = mfind s.hpt.cqs k) ∧ t = { s with cmds := t.cmds, hpt.cqs := t.hpt.cqs })
        ∧ ((∃ q ∈ s.hpt.sqs, q.2.cq = qid) → Gives (.deleteIoCq id) s fun t => t.cmd id = some (c.ended stQDeletion) ∧ t = { s with cmds := t.cmds }))
    ∧ (∀ q, s.AdminReady id c 0x00 → c.port = 0 → qid ≠ 0 → s.hpt.sqs = [(qid, q)] → q.del = none → (∀ e ∈ s.cmds, e.2.port ≠ 0 ∨ e.2.sq ≠ qid) →
        Gives (.deleteIoSq id) s fun t => t.cmd id = some (c.ended 0) ∧ t.hpt.sqs = [] ∧ t.regs = s.regs)
    ∧ (s.AdminReady id c 0x08 → (s.cmds.filter fun e => e.2.port = c.port && e.2.isAdmin && e.2.opc = 0x08).length ≤ 4 →
        (∀ k d, k ≠ id → s.cmds.find? (fun e => e.2.port = c.port && e.1 != id && e.2.sq = qid && e.2.cid = size && !e.2.passed
          && (e.2.phase = 0 || e.2.phase = 8 || s.hpt.fwWait.any fun w => w.1 = e.1)) = some (k, d) →
          s.cmd k = some d → Gives (.abort id) s fun t => t.cmd id = some (c.ended 0 |> fun x => { x with dw0 := 0 }) ∧ t.cmd k = some (d.ended stAbortRequested) ∧ t.regs = s.regs)
        ∧ (s.cmds.find? (fun e => e.2.port = c.port && e.1 != id && e.2.sq = qid && e.2.cid = size && !e.2.passed
          && (e.2.phase = 0 || e.2.phase = 8 || s.hpt.fwWait.any fun w => w.1 = e.1)) = none →
          Gives (.abort id) s fun t => t.cmd id = some { c.ended 0 with dw0 := 1 } ∧ t = { fabTaken c s with cmds := t.cmds }))
    ∧ (let f := nbits (c.cdw 10) 0 8
       (s.AdminReady id c 0x09 → nbit (c.cdw 10) 31 = false →
          (f = 0x0B → Gives (.setFeatures id) s fun t => t.cmd id = some (c.ended 0) ∧ mfind t.hpt.feats (featKey c f) = some (c.cdw 11) ∧ t = { fabTaken c s with cmds := t.cmds, hpt.feats := t.hpt.feats })
          ∧ (f = 0x07 → c.port = 0 → (∀ q ∈ s.hpt.sqs, q.1 = 0) → (∀ q ∈ s.hpt.cqs, q.1 = 0) →
            Gives (.setFeatures id) s fun t => t.cmd id = some { c.ended 0 with dw0 := (s.fld HPT_QCFG_IOQ - 1) + (s.fld HPT_QCFG_IOQ - 1) * 2 ^ 16 } ∧ t = { fabTaken c s with cmds := t.cmds }))
       ∧ (s.AdminReady id c 0x0A → hwFeature f = true → f ≠ 0x09 →
          (nbits (c.cdw 10) 8 3 = 0 → Gives (.getFeatures id) s fun t => t.cmd id = some { c.ended 0 with dw0 := mget (s.featDefault c f) s.hpt.feats (featKey c f) } ∧ t = { fabTaken c s with cmds := t.cmds })
          ∧ (nbits (c.cdw 10) 8 3 = 1 → Gives (.getFeatures id) s fun t => t.cmd id = some { c.ended 0 with dw0 := s.featDefault c f } ∧ t = { fabTaken c s with cmds := t.cmds })))
    ∧ (s.AdminReady id c 0x0C → (∀ a ∈ s.hpt.aers, s.cmd a = none ∨ ∃ x, s.cmd a = some x ∧ x.port ≠ c.port) →
        (s.hpt.aenQ = [] → Gives (.asynchronousEventRequest id) s fun t => t.cmd id = some { c with phase := 8 } ∧ t.hpt.aers = s.hpt.aers ++ [id] ∧ t.regs = s.regs)
        ∧ (∀ v r, s.hpt.aenQ = v :: r → Gives (.asynchronousEventRequest id) s fun t => t.cmd id = some { c.ended 0 with dw0 := v } ∧ t.hpt.aenQ = r ∧ t.hpt.aers = s.hpt.aers))

/-- R153, R154, R238: creating a namespace in the reserved slot that holds it starts the zeroing of its entries; deletion and format of unmirrored
namespaces begin; attachment and detachment change the slot's controllers; a slot is reserved or released. -/
def Obligations.NamespacesAreCreatedAttachedAndReserved : Prop :=
  ∀ (s : State) (id : Nat) (c : Cmd), s.ok = true →
    (∀ (host slot : Nat) (rd l : List (Nat × Nat)), s.AdminReady id c 0x0D → s.Ptrs c 4096 [] rd l → slot < 128 →
        let d := c.input host
        let n := nbits d 0 64
        let lbas := nbits d 208 8
        nbits (c.cdw 10) 0 4 = 0 → n = nbits d 64 64 → n ≠ 0 → lbas ≤ 1 → nbits d 232 8 = 0 → mfind s.hpt.reserved c.ctl = some slot →
        s.unitsFor slot n lbas ≤ mget 0 s.txe.maxUnits slot → s.nsExists slot = false → s.flag TXE_NSCFG_ZEROING slot = false → s.mirrored slot = false →
        Gives (.namespaceCreate id host) s fun t => t.flag TXE_NSCFG_ZEROING slot = true ∧ t.fld TXE_NSCFG_LBAS slot = lbas
          ∧ t.nsUnits slot = s.unitsFor slot n lbas % 2 ^ 40 ∧ t.txe.zeroing = s.txe.zeroing ++ [(slot, id)] ∧ (t.cmd id).map Cmd.phase = some 9 ∧ t.nsExists slot = false)
    ∧ (s.AdminReady id c 0x0D → nbits (c.cdw 10) 0 4 = 1 →
        let slots := (s.namedSlots c).filter fun k => !(s.txe.deleting.any fun d => d.1 = k)
        (slots ≠ [] → (∀ k ∈ slots, s.mirrored k = false) → exec (.namespaceDelete id) s = .next (nsDeleteBegin id slots (fabTaken c s)))
        ∧ (slots = [] → c.nsid ≠ 0xFFFFFFFF → Gives (.namespaceDelete id) s fun t => t.cmd id = some (c.ended stInvalidNs) ∧ t = { fabTaken c s with cmds := t.cmds }))
    ∧ (∀ host slot rd segs, s.AdminReady id c 0x15 → s.Ptrs c 4096 [] rd segs → s.slotOf c.nsid = some slot → s.nsExists slot = true → slot < 128 →
        let d := c.input host
        let l := (List.range (min (nbits d 0 16) 2047)).map fun i => nbits d (16 + 16 * i) 16
        let now := mget [] s.hpt.attach slot
        l ≠ [] → (∀ x ∈ l, s.ctlExists x = true ∧ s.visible x slot = true) → sortedFrom none s.hpt.attach = true →
        (nbits (c.cdw 10) 0 4 = 0 → (∀ x ∈ l, x ∉ now) → Gives (.namespaceAttach id host) s fun t => t.cmd id = some (Cmd.ended { c with segs := segs, segErr := 0 } 0) ∧ t.flag HPT_STAT_NSCHG = true
            ∧ ∀ x, x ∈ mget [] t.hpt.attach slot ↔ x ∈ now ∨ x ∈ l)
        ∧ (nbits (c.cdw 10) 0 4 = 1 → (∀ x ∈ l, x ∈ now) → Gives (.namespaceDetach id host) s fun t => t.cmd id = some (Cmd.ended { c with segs := segs, segErr := 0 } 0) ∧ t.flag HPT_STAT_NSCHG = true
            ∧ ∀ x, x ∈ mget [] t.hpt.attach slot ↔ x ∈ now ∧ x ∉ l))
    ∧ (s.AdminReady id c 0x80 → nbits (c.cdw 10) 0 4 ≤ 1 → nbits (c.cdw 10) 9 3 ≤ 1 → nbits (c.cdw 10) 4 5 = 0 → nbits (c.cdw 10) 12 2 = 0 → s.namedSlots c ≠ [] →
        (∀ k ∈ s.namedSlots c, s.mirrored k = false ∧ (∀ d ∈ s.hpt.format, d.1 ≠ k) ∧ ∀ d ∈ s.txe.deleting, d.1 ≠ k) →
        exec (.formatNvm id) s = .next (fmtBegin id (nbits (c.cdw 10) 0 4) (s.namedSlots c) (fabTaken c s)))
    ∧ (s.AdminReady id c 0xC4 →
        let slot := nbits (c.cdw 10) 0 7
        (nbit (c.cdw 10) 31 = true → sortedFrom none s.hpt.reserved = true →
          Gives (.reserveSlot id) s fun t => t.cmd id = some (c.ended 0) ∧ mfind t.hpt.reserved c.ctl = none ∧ t = { fabTaken c s with cmds := t.cmds, hpt.reserved := t.hpt.reserved })
        ∧ (nbit (c.cdw 10) 31 = false → s.flag TXE_NSCFG_DECL slot = true → s.nsExists slot = false → s.flag TXE_NSCFG_ZEROING slot = false → s.visible 1 slot = true →
            (∀ r ∈ s.hpt.reserved, r.2 = slot → r.1 = c.ctl) →
          Gives (.reserveSlot id) s fun t => t.cmd id = some (c.ended 0) ∧ mfind t.hpt.reserved c.ctl = some slot ∧ t = { fabTaken c s with cmds := t.cmds, hpt.reserved := t.hpt.reserved })
        ∧ (nbit (c.cdw 10) 31 = false → (s.flag TXE_NSCFG_DECL slot = false ∨ s.nsExists slot = true) →
          Gives (.reserveSlot id) s fun t => t.cmd id = some (c.ended stInvalidField) ∧ t = { fabTaken c s with cmds := t.cmds }))

/-- R235, R240, R241: an I/O command that passes the checks in turn is handed on (a flush completes at once), one that fails a check ends with its status;
firmware's transfers start, move bytes both ways and end; an entry outstanding too long ends with Internal Error and keeps its slot. -/
def Obligations.IoCommandsPassTheirChecksAndFirmwareTransfers : Prop :=
  ∀ s : State, s.ok = true →
    (∀ (id slot : Nat) (c : Cmd) (host : Nat) (ptrs : List Nat) (rd l : List (Nat × Nat)),
        let c' : Cmd := { c with slot := slot, slba := c.slbaOf, nlb := c.nlbOf }
        let n := c.nlbOf * s.lbaBytes slot
        let here := (s.mirrored slot && s.follows && s.pairState = 2) = false
        let s0 := fabTaken c s
        (s.IoReady id c 0x00 slot 0 0 false false → Gives (.flush id) s fun t => (t.cmd id).map (fun x => (x.phase, x.sct, x.sc)) = some (6, 0, 0)
            ∧ t = { s with cmds := t.cmds, fab.turn := t.fab.turn })
        ∧ (s.IoReady id c 0x02 slot c.slbaOf c.nlbOf false true → s.Ptrs c n ptrs rd l →
            Gives (.read id ptrs) s fun t => t.cmd id = some { c' with phase := 1, passed := true, segs := l, segErr := 0 } ∧ t = { hostReads rd s0 with cmds := t.cmds })
        ∧ (∀ st, s.IoReady id c 0x02 slot c.slbaOf c.nlbOf false true → c.port = 0 → s.dataPtrs c n ptrs = .error st → st ≠ 0 →
            Gives (.read id ptrs) s fun t => t.cmd id = some (Cmd.ended { c' with segs := [], segErr := st } st) ∧ t = { s with cmds := t.cmds })
        ∧ (s.IoReady id c 0x0C slot c.slbaOf c.nlbOf false false → Gives (.verify id) s fun t => t.cmd id = some { c' with phase := 1, passed := true } ∧ t = { s0 with cmds := t.cmds })
        ∧ (s.IoReady id c 0x01 slot c.slbaOf c.nlbOf true true → s.Ptrs c n ptrs rd l → here →
            let c2 : Cmd := { c' with segs := l, segErr := 0, data := c.input host % 2 ^ (8 * n), kind := 1, passed := true }
            let s2 : State := { hostReads l (hostReads rd s0) with cmds := mins s.cmds id c2 }
            exec (.write id host ptrs) s = .next (writeUnits id c2 (if c.port = 0 then s2.inc HPT_FROMHOST_COUNT (ceilDiv n 4096) else s2)))
        ∧ (s.IoReady id c 0x08 slot c.slbaOf c.nlbOf true false → here →
            exec (.writeZeroes id) s = .next (trimRanges id [(slot, c.slbaOf, c.nlbOf)] { s0 with cmds := mins s.cmds id { c' with kind := 2, passed := true } }))
        ∧ (nbit (c.cdw 11) 2 = true → s.IoReady id c 0x09 slot 0 0 true false → here →
            let rs := (List.range (nbits (c.cdw 10) 0 8 + 1)).map fun i => (slot, nbits (c.input host) (128 * i + 64) 64, nbits (c.input host) (128 * i + 32) 32)
            s.Ptrs c (16 * rs.length) ptrs rd l → (∀ r ∈ rs, r.2.1 + r.2.2 ≤ mget 0 s.txe.nsze slot) →
            let c2 : Cmd := { c with slot := slot, slba := 0, nlb := 0, segs := l, segErr := 0, kind := 3, ranges := rs, passed := true }
            exec (.datasetManagement id host ptrs) s = .next (trimRanges id rs { hostReads l (hostReads rd s0) with cmds := mins s.cmds id c2 }))
        ∧ (nbit (c.cdw 11) 2 = false → s.IoReady id c 0x09 slot 0 0 false false →
            Gives (.datasetManagement id host ptrs) s fun t => (t.cmd id).map (fun x => (x.phase, x.sct, x.sc)) = some (6, 0, 0) ∧ t = { s0 with cmds := t.cmds })
        ∧ (∀ st, s.cmd id = some c → c.phase = 0 → c.isAdmin = false → c.port < 8192 → c.opc = 0x02 → s.cmdsWait = false → s.fabTakes id c = true → c.fuse = 0 →
            s.slotOf c.nsid = some slot → s.ioStatus c slot c.slbaOf c.nlbOf false true = some st →
            Gives (.read id ptrs) s fun t => t.cmd id = some (c'.ended st)
              ∧ (st ≠ stNsNotReady → t = { s0 with cmds := t.cmds }) ∧ (st = stNsNotReady → t.fld CIP_NOKEY_COUNT = (s.fld CIP_NOKEY_COUNT + 1) % 2 ^ 32)))
    ∧ (∀ (m : MasterId) (i : BitVec 12) (dir : Bool) (e : FwEnt), s.MayWrite m HPT_XCTL → s.flag HPT_XSTAT_BUSY = false → mfind s.hpt.fw i.toNat = some e →
        (s.fld HPT_XLEN_BYTES = 0 → Gives (.firmwareTransfer m i dir) s fun t => t.flag HPT_XSTAT_DONE = true ∧ t.hpt = s.hpt)
        ∧ (s.fld HPT_XLEN_BYTES ≠ 0 → e.dead = false → Gives (.firmwareTransfer m i dir) s fun t => t.flag HPT_XSTAT_BUSY = true
            ∧ t.hpt.xfer = some (i.toNat, b2n dir, s.fld HPT_XFER_LO_ADDR + 2 ^ 32 * s.fld HPT_XFER_HI_ADDR, s.fld HPT_XOFS_BYTES, s.fld HPT_XLEN_BYTES)
            ∧ t = { s with regs := t.regs, hpt.xfer := t.hpt.xfer })
        ∧ (s.fld HPT_XLEN_BYTES ≠ 0 → e.dead = true → Gives (.firmwareTransfer m i dir) s fun t => t.flag HPT_XSTAT_ERR = true ∧ t.hpt = s.hpt))
    ∧ (∀ i dir a ofs n e (ptrs : List Nat) (data v w : Nat) (s1 : State), s.hpt.xfer = some (i, dir, a, ofs, n) → mfind s.hpt.fw i = some e →
        (∀ c rd segs, e.dead = false → s.cmd e.cmd = some c → s.xferSegs c ofs n ptrs = some (rd, segs) →
          (dir = 0 → memRead s 10 .read a n = (s1, .ok v) → s1.ok = true →
            Gives (.firmwareTransferDone ptrs data) s fun t => t.flag HPT_XSTAT_BUSY = false ∧ t.flag HPT_XSTAT_DONE = true ∧ t.hpt.xfer = none
              ∧ t.out = if c.port = 0 then (hostData segs v (hostReads rd s1)).out else s1.out ++ [.frame "fabric" "data" [c.port, ofs, n, v]])
          ∧ (dir ≠ 0 → memWrite s 10 .write a n (data % 2 ^ (8 * n)) = (s1, .ok w) → s1.ok = true →
            Gives (.firmwareTransferDone ptrs data) s fun t => t.mem = s1.mem ∧ t.flag HPT_XSTAT_BUSY = false ∧ t.flag HPT_XSTAT_DONE = true ∧ t.hpt.xfer = none))
        ∧ (e.dead = true ∨ s.cmd e.cmd = none ∨ (∃ c, s.cmd e.cmd = some c ∧ s.xferSegs c ofs n ptrs = none) →
          Gives (.firmwareTransferDone ptrs data) s fun t => t.flag HPT_XSTAT_BUSY = false ∧ t.flag HPT_XSTAT_ERR = true ∧ t.hpt.xfer = none ∧ t.cmds = s.cmds))
    ∧ (∀ (i : BitVec 12) (e : FwEnt) (c : Cmd), s.cur HPT_FWTO_MS ≠ 0 → mfind s.hpt.fw i.toNat = some e → e.dead = false → e.at' + 100000 * s.cur HPT_FWTO_MS ≤ s.mtime →
        s.cmd e.cmd = some c → Gives (.firmwareTimeout i) s fun t => t.cmd e.cmd = some (c.ended stInternalError) ∧ mfind t.hpt.fw i.toNat = some { e with dead := true }
          ∧ t.fld HPT_FWTOCNT_COUNT = (s.fld HPT_FWTOCNT_COUNT + 1) % 2 ^ 32)

/-! ### The fabric port and herd forwarding -/

/-- R246–R248, R258: a link comes up on an enabled port; when it goes down, the port's connections and the transit entries that use it are gone; address
requests, solicitations and echo requests for the port are answered; every other frame is dropped and counted; a pause frame sets the pauses of the
priorities that it names and PFCEN enables. -/
def Obligations.PortsAnswerFramesAndFollowTheirLinks : Prop :=
  ∀ s : State, s.ok = true → sortedFrom none s.fab.ctxs = true →
    (∀ p : Fin 4, s.domOn dFABRIC = true →
        (s.on FAB_PORTCTL_ENA p = true → s.flag FAB_PORTSTAT_UP p = false →
          Gives (.portLinkUp p) s fun t => t.flag FAB_PORTSTAT_UP p = true ∧ t.fab = s.fab ∧ t.hrd = s.hrd ∧ t.cmds = s.cmds)
        ∧ (s.flag FAB_PORTSTAT_UP p = true → Gives (.portLinkDown p) s fun t => t.reg FAB_PORTSTAT p = 0
            ∧ (∀ a x, mfind t.fab.ctxs a = some x → x.port ≠ p.val)
            ∧ (∀ a x, mfind s.fab.ctxs a = some x → x.port ≠ p.val → x.io = false → mfind t.fab.ctxs a = some x)
            ∧ t.hrd.transit = s.hrd.transit.filter (fun e => e.2.port != p.val && e.2.out != p.val) ∧ t.fld HRD_TRANSIT_INUSE = (t.hrd.transit.length + t.hrd.origin.length) % 2 ^ 13))
    ∧ (∀ (p : Fin 4) (vid : Option (BitVec 12)) (smac : BitVec 48) (sip target ident : Word) (t6 : BitVec 128) (v6 : Bool), s.portUp p = true →
        let mac := s.cur FAB_MAC_LO_MAC p + s.cur FAB_MAC_HI_MAC p * 2 ^ 32
        let dropped : Instr → Prop := fun i => Gives i s fun t => t.fld FAB_RXDROP_COUNT = (s.fld FAB_RXDROP_COUNT + 1) % 2 ^ 32 ∧ s.RegsOnly t [FAB_RXDROP.at 0 0 0]
        (s.vidOk p vid = true →
          (target.toNat ≠ 0 → s.cur FAB_IPV4_ADDR p = target.toNat →
            exec (.arpRequest p vid target smac sip) s = .next (s.emit (.frame "fabric" "ARP reply" [p, smac.toNat, sip.toNat, target.toNat, mac])))
          ∧ (s.cur FAB_IPV4_ADDR p ≠ target.toNat → dropped (.arpRequest p vid target smac sip))
          ∧ (t6.toNat ≠ 0 → s.portV6 p = t6.toNat →
            exec (.neighbourSolicitation p vid t6 smac) s = .next (s.emit (.frame "fabric" "neighbour advertisement" [p, smac.toNat, t6.toNat, mac])))
          ∧ (s.portV6 p ≠ t6.toNat → dropped (.neighbourSolicitation p vid t6 smac))
          ∧ (s.familyOn p v6 = true → exec (.echoRequest p vid v6 smac ident) s = .next (s.emit (.frame "fabric" "echo reply" [p, smac.toNat, b2n v6, ident.toNat])))
          ∧ (s.familyOn p v6 = false → dropped (.echoRequest p vid v6 smac ident)))
        ∧ (s.vidOk p vid = false → dropped (.arpRequest p vid target smac sip) ∧ dropped (.neighbourSolicitation p vid t6 smac) ∧ dropped (.echoRequest p vid v6 smac ident))
        ∧ (∀ (prio : Fin 8) (drained : Nat), sortedFrom none s.fab.fill = true → Gives (.frameDrop p prio drained) s fun t =>
            t.fld FAB_RXDROP_COUNT = (s.fld FAB_RXDROP_COUNT + 1) % 2 ^ 32 ∧ mget 0 t.fab.fill (8 * p + prio) = mget 0 s.fab.fill (8 * p + prio) - drained
            ∧ t = { s with regs := t.regs, fab.fill := t.fab.fill, out := t.out }))
    ∧ (∀ (p : Fin 4) (en pause : Byte), s.portUp p = true → Gives (.pfcFrame p en pause) s fun t =>
        (∀ k, k < 8 → nbit (t.fld FAB_PORTSTAT_RXPAUSE p) k =
          if nbit en.toNat k && nbit (s.cur FAB_PORTCTL_PFCEN p) k then nbit pause.toNat k else nbit (s.fld FAB_PORTSTAT_RXPAUSE p) k)
        ∧ s.RegsOnly t [FAB_PORTSTAT.at p 0 0])

/-- R249–R251: a SYN for the port opens a context or is reset; the handshake, data and acknowledgements advance it; FIN, RST and exhausted retries close it
with its association and its commands; an initialisation request is granted the digests that are allowed, or refused. -/
def Obligations.ConnectionsOpenAdvanceAndClose : Prop :=
  ∀ s : State, s.ok = true → sortedFrom none s.fab.ctxs = true → sortedFrom none s.cmds = true →
    (∀ (p : Fin 4) (vid : Option (BitVec 12)) (v6 : Bool) (smac : BitVec 48) (addr : BitVec 128) (rport dport : BitVec 16) (seq : Word) (o : TcpOpts), s.portUp p = true → s.vidOk p vid = true →
        let go := exec (.tcpSyn p vid v6 smac addr rport dport seq o) s
        let mss := 4 * s.cur FAB_PORTCTL_MTU p - (if v6 then 60 else 40)
        let ecn := o.ecn && s.on FAB_TCP_ECN
        let rst := s.out ++ [Output.frame "fabric" "RST" [p, smac.toNat, addr.toNat, rport.toNat, dport.toNat, seq.toNat]]
        let slot := (List.range s.fab.maxCtx).find? fun a => (mfind s.fab.ctxs a).isNone
        (s.familyOn p v6 = false → ∃ t, go = .next t ∧ t.fld FAB_RXDROP_COUNT = (s.fld FAB_RXDROP_COUNT + 1) % 2 ^ 32 ∧ s.RegsOnly t [FAB_RXDROP.at 0 0 0])
        ∧ (s.familyOn p v6 = true → dport.toNat ≠ s.cur FAB_TCP_LPORT → ∃ t, go = .next t ∧ t.out = rst ∧ t.fld FAB_RSTSENT_COUNT = (s.fld FAB_RSTSENT_COUNT + 1) % 2 ^ 32 ∧ t.fab = s.fab)
        ∧ (s.familyOn p v6 = true → dport.toNat = s.cur FAB_TCP_LPORT → (∀ e ∈ s.fab.ctxs, e.2.port ≠ p ∨ e.2.addr ≠ addr.toNat ∨ e.2.rport ≠ rport.toNat ∨ e.2.v6 ≠ v6) →
            (slot = none → ∃ t, go = .next t ∧ t.out = rst ∧ t.flag FAB_STAT_CTXFULL = true ∧ t.fab = s.fab)
            ∧ (∀ a, slot = some a → ∃ t x, go = .next t ∧ mfind t.fab.ctxs a = some x ∧ (∀ b, b ≠ a → mfind t.fab.ctxs b = mfind s.fab.ctxs b)
                ∧ (x.state, x.port, x.mac, x.addr, x.rport, x.v6) = (1, p.val, smac.toNat, addr.toNat, rport.toNat, v6)
                ∧ x.rcv = (seq.toNat + 1) % 2 ^ 32 ∧ x.snd = (x.una + 1) % 2 ^ 32
                ∧ (x.wscale, x.ts, x.ecn) = (o.wscale.map BitVec.toNat, o.ts, ecn) ∧ x.mss ≤ mss ∧ (∀ m, o.mss = some m → x.mss = min mss m.toNat)
                ∧ t.out = s.out ++ [.frame "fabric" "SYN-ACK"
                    [a, p, s.vlanTag p (s.cur FAB_PORTCTL_PCP p), smac.toNat, x.una, x.rcv, mss, b2n ecn, b2n o.wscale.isSome, b2n o.ts]])))
    ∧ (∀ (a : Fin 4096) (x : Ctx), mfind s.fab.ctxs a = some x → s.portUp x.port = true →
        let others : State → Prop := fun t => ∀ b, b ≠ a.val → mfind t.fab.ctxs b = mfind s.fab.ctxs b
        let kept : State → Prop := fun t => t = { s with regs := t.regs, fab := t.fab, out := t.out } ∧ others t
        let admin := x.state = 4 ∧ x.io = false
        let ended : State → Prop := fun t =>
          (∀ id c, s.cmd id = some c → (c.port = 0 → t.cmd id = some c)
            ∧ (c.phase ≠ 4 → c.phase ≠ 9 → (c.phase = 10 → c.appended = false ∧ c.msn = none) → (admin → c.port = 1 + a.val → t.cmd id = none)
                ∧ (¬ admin → c.port ≠ 0 → c.port < 8192 → c.sq = 32768 + a.val → t.cmd id = none)))
        (∀ ack : Word, x.state = 1 → ack.toNat = x.snd →
            Gives (.tcpHandshakeAck a ack) s fun t => mfind t.fab.ctxs a = some { x with state := 2, una := x.snd, retries := 0 } ∧ kept t ∧ t.out = s.out)
        ∧ (∀ (seq : Word) (len : BitVec 16) (ack : Word) (ce ece : Bool) (prio : Fin 8) (drained : Nat),
            let go := Instr.tcpSegment a seq len ack ce ece prio drained
            let s1 := rxDrain x.port prio drained s
            let s2 := rxFill x.port prio len.toNat s1
            let pfc := nbit (s.cur FAB_PORTCTL_PFCEN x.port) prio
            let fwd := (ack.toNat + 2 ^ 32 - x.una) % 2 ^ 32
            let rcv := if seq.toNat = x.rcv ∧ x.state ≠ 5 then (x.rcv + len.toNat) % 2 ^ 32 else x.rcv
            let y := if 0 < fwd ∧ fwd ≤ (x.snd + 2 ^ 32 - x.una) % 2 ^ 32 then ccAck fwd ece { x with rcv := rcv, una := ack.toNat, retries := 0, sentAt := s.mtime }
              else { x with rcv := rcv }
            (s1.rxFull x.port len.toNat = true → pfc = false → Gives go s fun t => t.fld FAB_RXDROP_COUNT = (s.fld FAB_RXDROP_COUNT + 1) % 2 ^ 32
                ∧ mfind t.fab.ctxs a = some x ∧ kept t)
            ∧ (s1.rxFull x.port len.toNat = false ∨ pfc = true → 2 ≤ x.state →
              (x.state = 5 → y.una = x.snd → Gives go s fun t => mfind t.fab.ctxs a = none ∧ kept t)
              ∧ (x.state ≠ 5 ∨ y.una ≠ x.snd → Gives go s fun t => mfind t.fab.ctxs a = some y ∧ kept t
                ∧ t.fld FAB_ECNCE_COUNT = (s.fld FAB_ECNCE_COUNT + b2n (ce && x.ecn)) % 2 ^ 32
                ∧ t.out = s2.out ++ if len = 0 then [] else
                    [.frame "fabric" "ACK" [a.val, x.port, s.vlanTag x.port (s.cur FAB_PORTCTL_PCP x.port), x.mac, x.snd, rcv, b2n (ce && x.ecn)]])))
        ∧ (x.state ≠ 5 → Gives (.tcpFin a) s fun t =>
            mfind t.fab.ctxs a = some { x with state := 5, snd := (x.snd + 1) % 2 ^ 32, rcv := (x.rcv + 1) % 2 ^ 32, sentAt := s.mtime } ∧ ended t
            ∧ (¬ admin → others t) ∧ (admin → ∀ b y, mfind s.fab.ctxs b = some y → y.state = 4 → y.io = true → y.assoc = a.val → mfind t.fab.ctxs b = none))
        ∧ (x.state = 5 → Gives (.tcpFin a) s fun t => mfind t.fab.ctxs a = none ∧ others t ∧ t.cmds = s.cmds)
        ∧ Gives (.tcpRst a) s (fun t => mfind t.fab.ctxs a = none ∧ ended t ∧ (¬ admin → others t)
            ∧ (admin → ∀ b y, mfind s.fab.ctxs b = some y → y.state = 4 → y.io = true → y.assoc = a.val → mfind t.fab.ctxs b = none))
        ∧ (x.una = x.snd ∨ s.mtime < x.sentAt + s.rto x → exec (.tcpRetransmitTimeout a) s = .next s)
        ∧ (x.una ≠ x.snd → x.sentAt + s.rto x ≤ s.mtime →
            (x.state ≠ 0 → x.retries < s.cur FAB_TCP_RETRIES → Gives (.tcpRetransmitTimeout a) s fun t =>
                mfind t.fab.ctxs a = some (ccLoss { x with retries := x.retries + 1, sentAt := s.mtime }) ∧ kept t ∧ t.out = s.out ++ [.frame "fabric" "retransmit" [a.val, x.una]]
                ∧ t.fld FAB_RETRANS_COUNT = (s.fld FAB_RETRANS_COUNT + 1) % 2 ^ 32)
            ∧ (s.cur FAB_TCP_RETRIES ≤ x.retries → Gives (.tcpRetransmitTimeout a) s fun t => mfind t.fab.ctxs a = none ∧ ended t))
        ∧ (∀ (pfv : BitVec 16) (hpda : Byte) (hd dd : Bool) (maxr2t : Word), x.state = 2 →
            let h := hd && s.on FAB_NVT_HDOK
            let d := dd && s.on FAB_NVT_DDOK
            (pfv = 0 → hpda.toNat ≤ 31 → Gives (.icreq a pfv hpda hd dd maxr2t) s fun t =>
                mfind t.fab.ctxs a = some { x with
                  hpda := hpda.toNat, maxr2t := maxr2t.toNat, state := 3, hdgst := h, ddgst := d, snd := (x.snd + 128 + (if x.hdgst then 4 else 0)) % 2 ^ 32
                  sentAt := if x.una = x.snd then s.mtime else x.sentAt }
                ∧ kept t ∧ t.out = s.out ++ [.frame "fabric" "ICResp" [a.val, s.vlanTag x.port (s.cur FAB_PORTCTL_PCP x.port), x.snd, 0, 0, b2n h, b2n d, 65536]])
            ∧ (pfv ≠ 0 ∨ 31 < hpda.toNat → Gives (.icreq a pfv hpda hd dd maxr2t) s fun t => (mfind t.fab.ctxs a).map Ctx.state = some 5 ∧ others t)))

/-- R251–R253, R212: a capsule on an open connection takes a command into flight, with grants for the data that it lacks; a failed header digest closes the
connection, a failed data digest ends the command; a Connect goes to firmware; properties are read and set; Keep Alive and Disconnect are answered; an
association that is not kept alive ends. -/
def Obligations.CapsulesBringCommandsAndFabricsCommandsAreCarriedOut : Prop :=
  ∀ s : State, s.ok = true → sortedFrom none s.fab.ctxs = true → sortedFrom none s.cmds = true → sortedFrom none s.fab.h2c = true →
    (∀ (a : Fin 4096) (x : Ctx) (sqe : BitVec 512) (n data : Nat) (hdOk ddOk : Bool), mfind s.fab.ctxs a = some x → s.portUp x.port = true → x.state = 3 ∨ x.state = 4 →
        let id := s.hpt.nextCmd
        let opc := nbits sqe.toNat 0 8
        let c : Cmd := { port := 1 + (if x.state = 4 then x.assoc else a.val), sq := 32768 + a.val, cid := nbits sqe.toNat 16 16, sqe := sqe.toNat, tick := s.fld TCK_COUNT_LO_COUNT }
        let go := Instr.capsuleCommand a sqe n data hdOk ddOk
        let limit := min (x.maxr2t + 1) (max 1 (s.cur FAB_NVT_GRANTS))
        (x.hdgst = true → hdOk = false → Gives go s fun t => (mfind t.fab.ctxs a).map Ctx.state = some 5 ∧ t.flag FAB_STAT_DGSTERR = true ∧ t.hpt.nextCmd = s.hpt.nextCmd)
        ∧ ((x.hdgst = true → hdOk = true) → (x.state = 4 → x.io = true → s.ckp.shut = false) → s.cmd id = none →
            (n ≠ 0 → x.ddgst = true → ddOk = false → Gives go s fun t => t.cmd id = some (c.ended stTransientTransport) ∧ t.flag FAB_STAT_DGSTERR = true)
            ∧ ((n = 0 ∨ x.ddgst = false ∨ ddOk = true) →
                (8192 < n → Gives go s fun t => t.cmd id = some (c.ended stInvalidField))
                ∧ (n ≤ 8192 → opc ≠ 0x7F → x.state = 3 → Gives go s fun t => t.cmd id = some (c.ended stSequence))
                ∧ (n ≤ 8192 → opc = 0x7F ∨ (x.state = 4 ∧ (if c.isAdmin then adminKnown opc || opc = 0x18 else ioKnown opc) = true
                      ∧ ∃ y, mfind s.fab.ctxs x.assoc = some y ∧ nbit (s.fabCsts y.cc 0) 0 = true) →
                    (s.wantBytes c ≤ n → Gives go s fun t => t.cmd id = some { c with data := data % 2 ^ (8 * n) } ∧ t.hpt.nextCmd = id + 1 ∧ t.fab.h2c = s.fab.h2c ∧ t.out = s.out)
                    ∧ (n < s.wantBytes c → Gives go s fun t => t.cmd id = some { c with data := data % 2 ^ (8 * n), phase := 13 } ∧ t.hpt.nextCmd = id + 1
                        ∧ mfind t.fab.h2c id = some (n, s.wantBytes c, min (s.wantBytes c) (n + 65536 * limit)))))))
    ∧ (∀ (id ofs n data : Nat) (hdOk ddOk : Bool) (c : Cmd) (got want granted : Nat) (x : Ctx), s.cmd id = some c → mfind s.fab.h2c id = some (got, want, granted) →
        mfind s.fab.ctxs (c.sq % 32768) = some x → s.portUp x.port = true → (x.hdgst = true → hdOk = true) →
        let c' := { c with data := c.data + data % 2 ^ (8 * n) * 2 ^ (8 * ofs) }
        (ofs = got → got + n ≤ granted → 0 < n → n ≤ 65536 → (x.ddgst = true → ddOk = true) →
          (want ≤ got + n → Gives (.h2cData id ofs n data hdOk ddOk) s fun t => t.cmd id = some { c' with phase := 0 } ∧ mfind t.fab.h2c id = none ∧ t.regs = s.regs)
          ∧ (got + n < want → Gives (.h2cData id ofs n data hdOk ddOk) s fun t => t.cmd id = some c' ∧ ∃ g, granted ≤ g ∧ mfind t.fab.h2c id = some (got + n, want, g)))
        ∧ (ofs = got → got + n ≤ granted → 0 < n → n ≤ 65536 → x.ddgst = true → ddOk = false →
          Gives (.h2cData id ofs n data hdOk ddOk) s fun t => t.cmd id = some (c.ended stTransientTransport) ∧ t.flag FAB_STAT_DGSTERR = true))
    ∧ (∀ (id : Nat) (c : Cmd) (x : Ctx), s.cmd id = some c → c.phase = 0 → c.port ≠ 0 → c.port < 8192 → s.fabTakes id c = true → mfind s.fab.ctxs (c.sq % 32768) = some x →
        let a := c.sq % 32768
        let fabrics (type : Nat) : Prop := c.opc = 0x7F ∧ nbits (c.cdw 1) 0 8 = type
        let size := 2 ^ s.fld HPT_FWRING_HI_SIZE
        let wr := s.fld HPT_FWWR_INDEX % size
        (fabrics 1 → x.state = 3 → s.domOn dHOST = true → s.hpt.fwWait = [] → (wr + 1) % size ≠ s.fld HPT_FWRD_INDEX % size → mfind s.hpt.fw wr = none →
            Gives (.fabricsConnect id) s fun t => t.cmd id = some { c with phase := 7, passed := true, fw := some wr } ∧ mfind t.hpt.fw wr = some { cmd := id, at' := s.mtime }
                ∧ t.fab = (fabTaken c s).fab)
        ∧ (fabrics 1 → x.state = 3 → s.domOn dHOST = false → Gives (.fabricsConnect id) s fun t => t.cmd id = some (c.ended stInternalError) ∧ t = { fabTaken c s with cmds := t.cmds })
        ∧ (fabrics 1 → x.state = 4 → Gives (.fabricsConnect id) s fun t => t.cmd id = some (c.ended stSequence) ∧ t = { fabTaken c s with cmds := t.cmds })
        ∧ (fabrics 4 → x.state = 4 → x.io = false → ∀ e ∈ [(0x00, capValue), (0x08, 0x20000), (0x14, x.cc), (0x1C, s.fabCsts x.cc (x.csts / 4))], c.cdw 11 = e.1 →
            Gives (.propertyGet id) s fun t => t.cmd id = some { c.ended 0 with dw0 := e.2 % 2 ^ 32, dw1 := e.2 / 2 ^ 32 } ∧ t = { fabTaken c s with cmds := t.cmds })
        ∧ (fabrics 0 → x.state = 4 → x.io = false → c.cdw 11 = 0x14 →
            let shn := nbits (c.cdw 12) 14 2
            Gives (.propertySet id) s fun t => t.cmd id = some (c.ended 0)
              ∧ mfind t.fab.ctxs a = some { x with cc := c.cdw 12, csts := s.fabCsts (c.cdw 12) (if shn = 1 ∨ shn = 2 then 2 else 0) }
              ∧ (nbit x.cc 0 = true → nbit (c.cdw 12) 0 = false → ∀ k d, s.cmd k = some d → d.port = c.port → d.cid ≠ c.cid → d.phase ≠ 4 → d.phase ≠ 9 → (d.phase = 10 → d.appended = false ∧ d.msn = none) → t.cmd k = none))
        ∧ (c.isAdmin = true → c.opc = 0x18 → x.state ≠ 0 → Gives (.keepAlive id) s fun t => t.cmd id = some (c.ended 0) ∧ mfind t.fab.ctxs a = some { x with last := s.mtime }
            ∧ t = { s with regs := t.regs, fab := t.fab, cmds := t.cmds })
        ∧ (fabrics 8 → Gives (.disconnect id) s fun t => t.cmd id = some (c.ended 0) ∧ t = { fabTaken c s with cmds := t.cmds }))
    ∧ (∀ (a : Fin 4096) (x : Ctx), mfind s.fab.ctxs a = some x → x.state = 4 → x.io = false → x.kato ≠ 0 → x.last + 100000 * (x.kato + 100) ≤ s.mtime →
        Gives (.katoExpiry a) s fun t => (mfind t.fab.ctxs a).map Ctx.state = some 5
          ∧ (∀ b y, mfind s.fab.ctxs b = some y → y.state = 4 → y.io = true → y.assoc = a.val → (mfind t.fab.ctxs b).map Ctx.state = some 5)
          ∧ ∀ id c, s.cmd id = some c → c.port = 1 + a.val → c.phase ≠ 4 → c.phase ≠ 9 → (c.phase = 10 → c.appended = false ∧ c.msn = none) → t.cmd id = none)

/-- R229, R241, R251, R252, R260: firmware's completion ends its command with the status given and frees its entry, and binds a Connect; a completion that is
posted takes the next entry of its queue, with the phase tag, or waits while the queue is full; fabric commands are answered with a response capsule; commands
of other origins end; coalesced entries are signalled when their time has passed. -/
def Obligations.CompletionsAreWrittenAndPosted : Prop :=
  ∀ s : State, s.ok = true → sortedFrom none s.cmds = true → sortedFrom none s.hpt.fw = true →
    (∀ (m : MasterId) (sc : Byte) (sct : Fin 8) (stx : Fin 16), s.MayWrite m HPT_FWCPL3 → s.hpt.fwWait = [] →
        let i := s.fld HPT_FWCPL2_INDEX
        (mfind s.hpt.fw i = none → Gives (.firmwareCompletion m sc sct stx) s fun t => t.cmds = s.cmds ∧ t.hpt = s.hpt)
        ∧ (∀ e, mfind s.hpt.fw i = some e → e.dead = true → Gives (.firmwareCompletion m sc sct stx) s fun t => t.cmds = s.cmds ∧ mfind t.hpt.fw i = none)
        ∧ (∀ e c, mfind s.hpt.fw i = some e → e.dead = false → s.cmd e.cmd = some c →
            let c' := { c with dw0 := s.fld HPT_FWCPL0_DW, dw1 := s.fld HPT_FWCPL1_DW, stx := stx.val, phase := 6, sct := sct.val, sc := sc.toNat }
            (c.port = 0 ∨ 8192 ≤ c.port ∨ c.opc ≠ 0x7F ∨ sct ≠ 0 ∨ sc ≠ 0 → Gives (.firmwareCompletion m sc sct stx) s fun t =>
                t.cmd e.cmd = some c' ∧ mfind t.hpt.fw i = none ∧ (∀ k, k ≠ e.cmd → t.cmd k = s.cmd k) ∧ t.fab = s.fab)
            ∧ (∀ x, c.port ≠ 0 → c.port < 8192 → c.opc = 0x7F → nbits (c.cdw 10) 16 16 = 0 → mfind s.fab.ctxs (c.sq % 32768) = some x →
                Gives (.firmwareCompletion m 0 0 stx) s fun t => (t.cmd e.cmd).map (fun y => (y.phase, y.sct, y.sc)) = some (6, 0, 0)
                  ∧ ∃ y, mfind t.fab.ctxs (c.sq % 32768) = some y ∧ (y.state, y.io, y.assoc, y.kato, y.cc) = (4, false, c.sq % 32768, c.cdw 12, 0))))
    ∧ (∀ (id : Nat) (c : Cmd), s.cmd id = some c → (∀ e ∈ s.hpt.sqs, e.2.del = none) →
        (c.phase ≠ 6 → exec (.completionPost id) s = .next s)
        ∧ (c.phase = 6 → 8192 ≤ c.port → c.port ≤ 8195 → Gives (.completionPost id) s fun t => t.cmd id = none ∧ ∀ k, k ≠ id → t.cmd k = s.cmd k)
        ∧ (c.phase = 6 → c.port < 8192 → (∀ n ∈ s.plk.nsops, n.1 ≠ id) →
            let st := c.sc + c.sct * 2 ^ 8 + c.stx * 2 ^ 11
            let rest := c.sendsRead = true ∧ c.got ≠ []
            (c.dropped = true → Gives (.completionPost id) s fun t => t.cmd id = none ∧ t.out = s.out ∧ t.regs = s.regs)
            ∧ (∀ e, c.dropped = false → rest → s.restRuns = true → s.restBad c.slot = some e →
                Gives (.completionPost id) s fun t => (t.cmd id).map (fun y => (y.phase, y.sct, y.sc)) = some (6, 2, 0x81))
            ∧ (∀ sq q, c.dropped = false → (rest → s.restRuns = true ∧ s.restBad c.slot = none) → c.port = 0 → s.hptUp = true → mfind s.hpt.sqs c.sq = some sq → mfind s.hpt.cqs sq.cq = some q →
                (q.full = false → Gives (.completionPost id) s fun t => t.cmd id = none ∧ (∀ k, k ≠ id → t.cmd k = s.cmd k)
                    ∧ .frame "PCIe" "completion" [sq.cq, q.base + 16 * q.tail, c.dw0, c.dw1, sq.head, c.sq, c.cid, b2n q.phase, st] ∈ t.out
                    ∧ ∃ u, mfind t.hpt.cqs sq.cq = some { q with tail := (q.tail + 1) % q.size, phase := (if (q.tail + 1) % q.size = 0 then !q.phase else q.phase), unsig := u })
                ∧ (q.full = true → id ∉ s.hpt.held → Gives (.completionPost id) s fun t => t.cmds = s.cmds ∧ t.hpt.held = s.hpt.held ++ [id] ∧ t.hpt.cqs = s.hpt.cqs
                    ∧ t.flag HPT_STAT_CQFULL = true ∧ t.fld HPT_CQSTALL_COUNT = (s.fld HPT_CQSTALL_COUNT + 1) % 2 ^ 32))
            ∧ (∀ x, c.dropped = false → (rest → s.restRuns = true ∧ s.restBad c.slot = none) → c.port ≠ 0 → mfind s.fab.ctxs (c.sq % 32768) = some x → 2 ≤ x.state → x.state ≠ 5 →
                Gives (.completionPost id) s fun t => t.cmd id = none
                  ∧ ∃ n, .frame "fabric" "CapsuleResp" [c.sq % 32768, s.vlanTag x.port (s.cur FAB_PORTCTL_PCP x.port), n, c.dw0, c.dw1, (if x.qsize = 0 then 0 else (x.sqhd + 1) % x.qsize), c.cid, st] ∈ t.out)))
    ∧ (∀ (q : BitVec 16) (c : Cq), mfind s.hpt.cqs q.toNat = some c → c.unsig ≠ 0 → c.ien = true → s.hptUp = true →
        let s1 : State := { s with hpt.cqs := mins s.hpt.cqs q.toNat { c with unsig := 0 } }
        (s.msixOn = false → exec (.aggregationTimeExpiry q) s = .next s1)
        ∧ (s.msixOn = true → s.msixMasked c.vec = true → exec (.aggregationTimeExpiry q) s = .next { s1 with hpt.pba := mins s.hpt.pba c.vec true })
        ∧ (s.msixOn = true → s.msixMasked c.vec = false → exec (.aggregationTimeExpiry q) s = .next (s1.emit (.frame "PCIe" "MSI-X"
            [c.vec, s.msixDw (4 * c.vec) + 2 ^ 32 * s.msixDw (4 * c.vec + 1), s.msixDw (4 * c.vec + 2)]))))

/-- R255–R261: a request for this member is served or refused with an error frame; another is forwarded with its transit entry and lowered deadline, or
answered with the error that its hop count, route or the full table gives; data, responses and errors follow the transit entry back; at the origin they reach
the command in order, complete it or make it fall back, and are counted as late otherwise. -/
def Obligations.HerdFramesAreServedForwardedAndReturned : Prop :=
  ∀ s : State, s.ok = true → sortedFrom none s.hrd.transit = true → sortedFrom none s.hrd.origin = true →
    (∀ (p : Fin 4) (smac : BitVec 48) (h : HerdHdr) (key : BitVec 128) (buf : Word), s.portUp p = true → s.on FAB_PORTCTL_HERD p = true →
        let go := exec (.herdReq p smac h key buf) s
        let tag (k : Nat) : Nat := s.vlanTag k (s.cur HRD_CTL_PCP)
        let used := s.hrd.transit.length + s.hrd.origin.length
        let err (code : Nat) : Output := .frame "herd" "frame" [p, tag p, smac.toNat, 4, 0, h.origin.toNat, h.origin.toNat, h.txid.toNat, h.deadline.toNat, 0, 0, code, 0]
        let id := s.hpt.nextCmd
        let c : Cmd := { port := 8192, tick := s.fld TCK_COUNT_LO_COUNT }
        let r : Served := { origin := h.origin.toNat % 2 ^ 14, txid := h.txid.toNat, port := p, mac := smac.toNat, key := key.toNat, buf := buf.toNat, deadline := h.deadline.toNat }
        let s1 := { s with hpt.nextCmd := id + 1, cmds := mins s.cmds id c, hrd.serve := mins s.hrd.serve id r }.inc HRD_OWNED_COUNT
        let left := h.deadline.toNat - max 1 h.residence.toNat
        (h.ok = false ∨ 16383 < h.dest.toNat → ∃ t, go = .next t ∧ t.fld HRD_DROP_COUNT = (s.fld HRD_DROP_COUNT + 1) % 2 ^ 32 ∧ s.RegsOnly t [HRD_DROP.at 0 0 0])
        ∧ (h.ok = true → h.dest.toNat ≤ 16383 →
            (h.dest.toNat = s.fld HRD_ID_MEMBER →
              (s.domOn dLEX = true → s.flag LEX_CTL_ENA = true → go = .next (retrieveGo id key.toNat buf.toNat s1))
              ∧ (s.domOn dLEX = false ∨ s.flag LEX_CTL_ENA = false → ∃ t, go = .next t ∧ t.cmd id = some { c with phase := 6, sct := 8, sc := 5 } ∧ mfind t.hrd.serve id = some r))
            ∧ (h.dest.toNat ≠ s.fld HRD_ID_MEMBER →
              (s.cur HRD_HOPLIM_LIMIT < h.hops.toNat + 1 → go = .next (s.emit (err 1)))
              ∧ (h.hops.toNat + 1 ≤ s.cur HRD_HOPLIM_LIMIT →
                (s.route h.dest.toNat = none → go = .next ((raise EV_HRD_NOROUTE 0 s).emit (err 2)))
                ∧ (∀ out mac k, s.route h.dest.toNat = some (out, mac, k) →
                  (4096 ≤ used → ∃ t, go = .next t ∧ t.flag HRD_TRANSIT_FULL = true ∧ t.hrd = s.hrd ∧ t.out = s.out ++ [err 3])
                  ∧ (used < 4096 → left = 0 → ∃ t, go = .next t ∧ t.fld HRD_DROP_COUNT = (s.fld HRD_DROP_COUNT + 1) % 2 ^ 32 ∧ s.RegsOnly t [HRD_DROP.at 0 0 0])
                  ∧ (used < 4096 → left ≠ 0 → ∃ t, go = .next t
                      ∧ mfind t.hrd.transit (hdrKey h) = some { port := p, mac := smac.toNat, out := out, deadline := s.mtime + 100 * left }
                      ∧ t.fld HRD_TRANSIT_INUSE = (t.hrd.transit.length + t.hrd.origin.length) % 2 ^ 13 ∧ t.fld HRD_TRANSITCNT_COUNT = (s.fld HRD_TRANSITCNT_COUNT + 1) % 2 ^ 32
                      ∧ t.out = s.out ++ (if s.flag FAB_PORTSTAT_UP out && s.on FAB_PORTCTL_HERD out then
                          [.frame "herd" "frame" [out, tag out, mac, 1, h.hops.toNat + 1, h.dest.toNat, h.origin.toNat, h.txid.toNat, left, 0, 32, 0, key.toNat + buf.toNat * 2 ^ 128]] else [])))))))
    ∧ (∀ (p : Fin 4) (h : HerdHdr) (ofs : Word) (len : BitVec 16) (payload : Nat) (status : BitVec 11) (size : Word) (code : BitVec 16), s.portUp p = true →
        s.on FAB_PORTCTL_HERD p = true → h.ok = true → h.dest.toNat ≤ 16383 →
        let left := h.deadline.toNat - max 1 h.residence.toNat
        let tag (k : Nat) : Nat := s.vlanTag k (s.cur HRD_CTL_PCP)
        let late : Instr → Prop := fun i => Gives i s fun t => t.fld HRD_LATE_COUNT = (s.fld HRD_LATE_COUNT + 1) % 2 ^ 32 ∧ s.RegsOnly t [HRD_LATE.at 0 0 0]
        (h.dest.toNat ≠ s.fld HRD_ID_MEMBER → ∀ e ∈ [(Instr.herdData p h ofs len payload, 2, ofs.toNat, len.toNat, 0, payload % 2 ^ (8 * len.toNat)),
              (.herdResp p h status size, 3, 0, 8, 0, status.toNat + size.toNat * 2 ^ 32), (.herdErr p h code, 4, 0, 0, code.toNat, 0)],
            let f := [e.2.1, h.hops.toNat + 1, h.dest.toNat, h.origin.toNat, h.txid.toNat, left, e.2.2.1, e.2.2.2.1, e.2.2.2.2.1, e.2.2.2.2.2]
            (left = 0 → Gives e.1 s fun t => t.fld HRD_DROP_COUNT = (s.fld HRD_DROP_COUNT + 1) % 2 ^ 32 ∧ s.RegsOnly t [HRD_DROP.at 0 0 0])
            ∧ (∀ w, left ≠ 0 → mfind s.hrd.transit (hdrKey h) = some w → s.flag FAB_PORTSTAT_UP w.port = true → s.on FAB_PORTCTL_HERD w.port = true →
                Gives e.1 s fun t => t.out = s.out ++ [.frame "herd" "frame" (w.port :: tag w.port :: w.mac :: f)]
                  ∧ mfind t.hrd.transit (hdrKey h) = (if e.2.1 = 2 then some w else none) ∧ (∀ k, k ≠ hdrKey h → mfind t.hrd.transit k = mfind s.hrd.transit k))
            ∧ (∀ out mac k, left ≠ 0 → mfind s.hrd.transit (hdrKey h) = none → s.route h.dest.toNat = some (out, mac, k) →
                s.flag FAB_PORTSTAT_UP out = true → s.on FAB_PORTCTL_HERD out = true → exec e.1 s = .next (s.emit (.frame "herd" "frame" (out :: tag out :: mac :: f))))
            ∧ (left ≠ 0 → mfind s.hrd.transit (hdrKey h) = none → s.route h.dest.toNat = none →
                Gives e.1 s fun t => t.fld HRD_DROP_COUNT = (s.fld HRD_DROP_COUNT + 1) % 2 ^ 32 ∧ s.RegsOnly t [HRD_DROP.at 0 0 0]))
        ∧ (h.dest.toNat = s.fld HRD_ID_MEMBER →
            (mfind s.hrd.origin h.txid.toNat = none → late (.herdData p h ofs len payload) ∧ late (.herdResp p h status size) ∧ late (.herdErr p h code))
            ∧ (∀ id got at' c, mfind s.hrd.origin h.txid.toNat = some (id, got, at') → s.cmd id = some c → c.phase = 11 →
                (ofs.toNat = got → exec (.herdData p h ofs len payload) s = .next (dataOut id got len.toNat (payload % 2 ^ (8 * len.toNat)) false
                  { s with hrd.origin := mins s.hrd.origin h.txid.toNat (id, got + len.toNat, at') }))
                ∧ (ofs.toNat ≠ got → Gives (.herdData p h ofs len payload) s fun t => t.fld HRD_DROP_COUNT = (s.fld HRD_DROP_COUNT + 1) % 2 ^ 32 ∧ s.RegsOnly t [HRD_DROP.at 0 0 0])
                ∧ Gives (.herdResp p h status size) s (fun t => t.cmd id = some { c.ended status.toNat with dw0 := size.toNat } ∧ mfind t.hrd.origin h.txid.toNat = none
                    ∧ t.fld HRD_TRANSIT_INUSE = (t.hrd.transit.length + t.hrd.origin.length) % 2 ^ 13
                    ∧ t = { s with regs := t.regs, cmds := t.cmds, hrd.origin := t.hrd.origin })
                ∧ exec (.herdErr p h code) s = .next (fallbackGo id 6 got (some c.data) (originDone h.txid.toNat (raise EV_HRD_ERR code.toNat s))))))
    ∧ (∀ (txid : Word) (id got at' : Nat) (c : Cmd), mfind s.hrd.origin txid.toNat = some (id, got, at') → s.cmd id = some c → c.phase = 11 →
        (s.mtime < at' + 100 * s.cur HRD_DEADLINE_US → exec (.herdDeadlineExpiry txid) s = .next s)
        ∧ (at' + 100 * s.cur HRD_DEADLINE_US ≤ s.mtime → exec (.herdDeadlineExpiry txid) s = .next (fallbackGo id 6 got (some c.data)
            (originDone txid.toNat (raise EV_HRD_TIMEOUT 0 (s.inc HRD_TIMEOUT_COUNT))))))
    ∧ (∀ (origin : BitVec 14) (txid : Word) (w : Transit), mfind s.hrd.transit (origin.toNat * 2 ^ 32 + txid.toNat) = some w →
        (s.mtime < w.deadline → exec (.transitEntryExpiry origin txid) s = .next s)
        ∧ (w.deadline ≤ s.mtime → Gives (.transitEntryExpiry origin txid) s fun t => mfind t.hrd.transit (origin.toNat * 2 ^ 32 + txid.toNat) = none
            ∧ t.fld HRD_TRANSIT_INUSE = (t.hrd.transit.length + t.hrd.origin.length) % 2 ^ 13 ∧ t.cmds = s.cmds ∧ t.out = s.out))

/-! ### The Lexicon -/

/-- R268, R277, R279: a key is sought in its two buckets; the operations look up, insert, replace, delete, and read and write ways and heap slots, end with
DONE and their RESULT, raise EV_LEX_OPDONE, and change no line of the area but the one named. -/
def Obligations.LexiconOperationsWorkOnTheTable : Prop :=
  ∀ (s : State) (m : MasterId), s.ok = true → s.MayWrite m LEX_OPCTL →
    let at' (p : Nat × Nat) : Nat := s.lexLine (s.wayAddr p.1 p.2)
    let find (key : Nat) : Option (Nat × Nat) := (lexFind key s).2
    let ends (i : Instr) (r : Nat) (q : State → Prop) : Prop := ∃ u, exec i s = .next (raise EV_LEX_OPDONE 0 u)
      ∧ u.flag LEX_OPSTAT_BUSY = false ∧ u.flag LEX_OPSTAT_DONE = true ∧ u.fld LEX_OPSTAT_RESULT = r ∧ q u
    let clean (a : Nat) : Prop := s.cleanDram 13 .read a 64 = true ∧ s.cleanDram 13 .write a 64 = true
    let reach (key : Nat) : Prop := ∀ a ∈ s.bucketLines (s.buckets key).1 ++ s.bucketLines (s.buckets key).2, clean a
    let put (u : State) (a e : Nat) : Prop := u.lexLine a = e ∧ ∀ x, x < a ∨ a + 64 ≤ x → u.byte x = s.byte x
    let same : State → Prop := fun u => u.mem = s.mem ∧ u.fld LEX_COUNT_ENTRIES = s.fld LEX_COUNT_ENTRIES
    (∀ key p, find key = some p → (p.1 = (s.buckets key).1 ∨ p.1 = (s.buckets key).2) ∧ p.2 < 4 ∧ entFlag (at' p) eVALID = true ∧ entKey (at' p) = key)
    ∧ (∀ key, find key = none → ∀ b w, b = (s.buckets key).1 ∨ b = (s.buckets key).2 → w < 4 → entFlag (at' (b, w)) eVALID = false ∨ entKey (at' (b, w)) ≠ key)
    ∧ (∀ e ∈ [(Instr.lexLookup m, 0), (.lexInsert m, 1), (.lexReplace m, 2), (.lexInsertOrReplace m, 3), (.lexDelete m, 4), (.lexReadWay m, 5), (.lexWriteHeapSlot m, 6),
          (.lexReadHeapSlot m, 7)], s.flag LEX_OPSTAT_BUSY = true ∨ s.domOn dLEX = false ∨ s.flag LEX_CTL_ENA = false →
        exec e.1 s = .next (s.setFld LEX_OPCTL_OP e.2))
    ∧ (s.flag LEX_OPSTAT_BUSY = false → s.domOn dLEX = true → s.flag LEX_CTL_ENA = true →
        (∀ p, reach s.opKey → find s.opKey = some p → ends (.lexLookup m) 0 fun u => u.opData = at' p ∧ same u
          ∧ u.fld LEX_OPLOC_BUCKET = p.1 % 2 ^ 22 ∧ u.fld LEX_OPLOC_WAY = p.2)
        ∧ (reach s.opKey → find s.opKey = none → ends (.lexLookup m) 1 same)
        ∧ (let e := if entFlag s.opData eVALID then s.opData else s.opData + 2 ^ 72
           (s.entryOk e = false → ∀ i ∈ [Instr.lexInsert m, .lexReplace m, .lexInsertOrReplace m], ends i 4 same)
           ∧ (s.entryOk e = true → reach (entKey e) →
              (∀ p, find (entKey e) = some p → ends (.lexInsert m) 2 same
                ∧ ∀ i ∈ [Instr.lexReplace m, .lexInsertOrReplace m], ends i 0 fun u => put u (s.wayAddr p.1 p.2) e
                  ∧ u.fld LEX_COUNT_ENTRIES = s.fld LEX_COUNT_ENTRIES)
              ∧ (find (entKey e) = none → ends (.lexReplace m) 1 same
                ∧ ∀ i ∈ [Instr.lexInsert m, .lexInsertOrReplace m],
                  (∀ p, s.emptyWay (entKey e) = some p → ends i 0 fun u => put u (s.wayAddr p.1 p.2) e
                    ∧ u.fld LEX_COUNT_ENTRIES = (s.fld LEX_COUNT_ENTRIES + 1) % 2 ^ 25 ∧ u.fld LEX_OPLOC_BUCKET = p.1 % 2 ^ 22 ∧ u.fld LEX_OPLOC_WAY = p.2)
                  ∧ (s.emptyWay (entKey e) = none → ends i 3 fun u => u.flag LEX_STAT_FULL = true ∧ u.fld LEX_COUNT_ENTRIES = s.fld LEX_COUNT_ENTRIES))))
        ∧ (∀ p, reach s.opKey → find s.opKey = some p → ends (.lexDelete m) 0 fun u => put u (s.wayAddr p.1 p.2) 0
            ∧ u.fld LEX_COUNT_ENTRIES = s.fld LEX_COUNT_ENTRIES - 1)
        ∧ (reach s.opKey → find s.opKey = none → ends (.lexDelete m) 1 same)
        ∧ (let b := s.fld LEX_OPLOC_BUCKET
           let e := at' (b, s.fld LEX_OPLOC_WAY)
           (s.lexB ≤ b → ends (.lexReadWay m) 5 same) ∧ (b < s.lexB → entFlag e eVALID = false → ends (.lexReadWay m) 6 same)
           ∧ (b < s.lexB → entFlag e eVALID = true → clean (s.wayAddr b (s.fld LEX_OPLOC_WAY)) → ends (.lexReadWay m) 0 fun u => u.opData = e ∧ same u))
        ∧ (let i := s.fld LEX_OPKEY_KEY 0
           (s.lexSlots ≤ i → ends (.lexWriteHeapSlot m) 5 same ∧ ends (.lexReadHeapSlot m) 5 same)
           ∧ (i < s.lexSlots → clean (s.heapAddr i) → ends (.lexWriteHeapSlot m) 0 (fun u => put u (s.heapAddr i) s.opData)
              ∧ ends (.lexReadHeapSlot m) 0 fun u => u.opData = s.lexLine (s.heapAddr i) ∧ same u)))

/-- R270–R273, R275–R277, R280: a Store or Retrieve ends with the status its key, size and flags give, is forwarded to the owner, falls back to firmware, or
is written or delivered, encrypted for the delivery, in offset order; a vendor Lexicon command goes to firmware, is carried out record by record, and
completes once its checkpoint or commit has come. -/
def Obligations.SegmentsAreStoredRetrievedAndLoaded : Prop :=
  ∀ (s : State) (id : Nat) (c : Cmd), s.ok = true → sortedFrom none s.cmds = true →
    (∀ (slot e : Nat) (ptrs : List Nat) (s2 : State) (c1 : Cmd), s.KvReady id c 0x02 slot →
        let go := exec (.retrieve id ptrs) s
        let key := c.kvKey
        let buf := c.cdw 10
        let seg := nbits key 80 48
        let s0 := takePtrs id buf ptrs (fabTaken c s)
        let s1 := s0.incPair LEX_RETR_LO_COUNT LEX_RETR_HI_COUNT
        let s3 := if entFlag e eVARLEN && seg < entSegs e then lexTouch false [s2.heapAddr (entTable e + seg / 8)] s2 else s2
        let snap := (e, s3.segment e seg)
        let start := (s3.segment e seg).1
        let len := (s3.segment e seg).2
        let missing := ∃ t, go = .next t ∧ t.cmd id = some (c1.ended stKeyNotExist) ∧ t.fld LEX_KDNE_COUNT = (s.fld LEX_KDNE_COUNT + 1) % 2 ^ 32
        s0.cmd id = some c1 →
        (∀ rd l, s.Ptrs c buf ptrs rd l → c1 = { c with segs := l, segErr := 0 } ∧ s0.out = (hostReads rd s).out)
        ∧ (lexEntry key s1 = (s2, none) → missing)
        ∧ (lexEntry key s1 = (s2, some (e, true)) → go = .next (fallback id 8 0 (some (e, 0, 0)) s3))
        ∧ (lexEntry key s1 = (s2, some (e, false)) →
            (entNsid e ≠ c.nsid ∨ entSegs e ≤ seg → missing)
            ∧ (entNsid e = c.nsid → seg < entSegs e →
              (entFlag e eFIRMWARE = true ∨ s3.on LEX_CTL_FWALL = true → go = .next (fallback id 1 0 (some snap) s3))
              ∧ (entFlag e eFIRMWARE = false → s3.on LEX_CTL_FWALL = false →
                (entOwner e ≠ s3.fld HRD_ID_MEMBER → (c1.segErr = 0 → go = .next (herdForward id (entOwner e) key buf snap s3))
                  ∧ (c1.segErr ≠ 0 → ∃ t, go = .next t ∧ t.cmd id = some (c1.ended c1.segErr) ∧ t = { s3 with cmds := t.cmds }))
                ∧ (entOwner e = s3.fld HRD_ID_MEMBER → (len = 0 → missing)
                  ∧ (len ≠ 0 → buf = 0 → ∃ t, go = .next t ∧ t.cmd id = some { c1.ended 0 with dw0 := len } ∧ t = { s3 with cmds := t.cmds })
                  ∧ (∀ k a n, len ≠ 0 → buf ≠ 0 → s3.slotOf (entNsid e) = some k → s3.nsExists k = true → s3.extent k e start len = some (a, n) →
                      (entFlag e eNODELIV = true ∨ (s3.deliveryKey (entDkey e)).isSome = true) → c1.segErr = 0 →
                      let c' : Cmd := { c1 with slot := k, slba := a / s3.lbaBytes k, nlb := n / s3.lbaBytes k, kv := true, dw0 := len }
                      let s4 : State := { s3 with cmds := mins s3.cmds id c' }
                      let d : Deliv := { slot := k, cw := a / 4096, n := n / 4096, len := len, limit := min len buf, dkey := (if entFlag e eNODELIV then none else some (entDkey e)), key := key }
                      (∀ lu ∈ s4.cmdUnits c', entSt (s4.mapEntry k lu) ≠ 5) →
                      go = .next (mapLookup id c' { s4 with lex.deliv := mins s4.lex.deliv id d })))))))
    ∧ (∀ (slot e host : Nat) (ptrs : List Nat) (s2 : State), s.KvReady id c 0x01 slot →
        let go := exec (.store id host ptrs) s
        let key := c.kvKey
        let seg := nbits key 80 48
        let start := (s2.segment e seg).1
        let len := (s2.segment e seg).2
        let s1 := (fabTaken c s).inc LEX_STORES_COUNT
        let ends (st : Nat) : Prop := ∃ t, go = .next t ∧ t.cmd id = some (c.ended st)
        (lexEntry key s1 = (s2, none) → ends stKeyNotExist)
        ∧ (lexEntry key s1 = (s2, some (e, false)) →
            (entNsid e ≠ c.nsid ∨ entSegs e ≤ seg → ends stKeyNotExist)
            ∧ (entNsid e = c.nsid → seg < entSegs e → entFlag e eFIRMWARE = false → s2.on LEX_CTL_FWALL = false →
              (entFlag e eNOSTORE = true → ends stInvalidField)
              ∧ (entFlag e eNOSTORE = false → entOwner e ≠ s2.fld HRD_ID_MEMBER → go = .next (fallback id 7 0 (some (e, s2.segment e seg)) s2))
              ∧ (entFlag e eNOSTORE = false → entOwner e = s2.fld HRD_ID_MEMBER →
                (len = 0 → ends stKeyNotExist) ∧ (len ≠ 0 → c.cdw 10 ≠ len → ends stInvalidValueSize)
                ∧ (len ≠ 0 → c.cdw 10 = len → nbits (c.cdw 11) 8 8 ≠ 0 → ends stInvalidField)
                ∧ (∀ a n rd l, len ≠ 0 → c.cdw 10 = len → nbits (c.cdw 11) 8 8 = 0 → s2.extent slot e start len = some (a, n) → s2.Ptrs c len ptrs rd l →
                    let c2 : Cmd := { c with slot := slot, slba := a / s2.lbaBytes slot, nlb := n / s2.lbaBytes slot, segs := l, segErr := 0,
                                             data := c.input host % 2 ^ (8 * len), kind := 4 }
                    let s3 : State := { hostReads l (hostReads rd s2) with cmds := mins s2.cmds id c2 }
                    go = .next (hostWrite id (if c.port = 0 then s3.inc HPT_FROMHOST_COUNT (ceilDiv len 4096) else s3))))))
        ∧ (lexEntry key s1 = (s2, some (e, true)) → go = .next (fallback id 8 0 (some (e, 0, 0)) s2)))
    ∧ (∀ d, s.cmd id = some c → mfind s.lex.deliv id = some d → sortedFrom none s.lex.deliv = true →
        let gone : State → Prop := fun t => t.cmd id = some (c.ended stUnrecoveredRead) ∧ mfind t.lex.deliv id = none
        (c.sct = 2 → Gives (.deliverySend id) s fun t => gone t ∧ t.out = s.out)
        ∧ (c.sct ≠ 2 → c.phase = 2 ∨ c.phase = 12 → s.lexClass = true →
            (∀ e, s.delivBad d = some e → Gives (.deliverySend id) s gone)
            ∧ (∀ key, s.delivBad d = none → (d.dkey = none ∨ d.dkey.bind s.deliveryKey = some key) →
              let u := s.slotCw d.slot
              let k0 := d.sent / 4096
              let k1 := min d.n (((d.cw + k0) / u + 1) * u - d.cw)
              let ks := rangeFrom k0 (k1 - k0)
              let plain := ks.foldl (fun v k => v + s.cwPlain c d.cw k * 2 ^ (32768 * (k - k0))) 0
              let n := min (4096 * k1) d.limit - 4096 * k0
              let v := if d.dkey = none then plain % 2 ^ (8 * n) else ofLe (ctrApply key (aesEnc key (leBytes 16 d.key)) (256 * k0) (leBytes n plain))
              (ks.all fun k => s.cwReady id c k) = true → Gives (.deliverySend id) s fun t =>
                (c.port = 0 → t.out = (hostData (sliceSegs c.segs (4096 * k0) n) v s).out)
                ∧ (4096 * k1 < d.limit → t.cmd id = some c ∧ mfind t.lex.deliv id = some { d with sent := 4096 * k1 })
                ∧ (d.limit ≤ 4096 * k1 → t.cmd id = some (c.ended 0) ∧ mfind t.lex.deliv id = none))))
    ∧ (∀ host : Nat,
        let size := 2 ^ s.fld HPT_FWRING_HI_SIZE
        let wr := s.fld HPT_FWWR_INDEX % size
        let rows := [(Instr.lexiconLoad id host, 0xC5), (.lexiconRemove id host, 0xC9), (.segmentTableWrite id host, 0xCD), (.lexiconRead id, 0xCA), (.lexiconGeometry id, 0xCC)]
        (s.domOn dHOST = true → s.hpt.fwWait = [] → (wr + 1) % size ≠ s.fld HPT_FWRD_INDEX % size → mfind s.hpt.fw wr = none →
          ∀ e ∈ rows, s.AdminReady id c e.2 → Gives e.1 s fun t => t.cmd id = some { c with phase := 7, passed := true, fw := some wr } ∧ mfind t.hpt.fw wr = some { cmd := id, at' := s.mtime })
        ∧ (∀ i x, s.cmd id = some c → c.phase = 7 → c.isAdmin = true → c.port < 8192 → c.fw = some i → i < 4096 → mfind s.hpt.fw i = some x → x.cmd = id → x.dead = false →
            c.opc ≠ 0x7F → s.hpt.fwWait = [] → sortedFrom none s.hpt.fw = true →
            let done (st dw0 : Nat) : State → Prop := fun t => t.cmd id = some { c.ended st with dw0 := dw0 % 2 ^ 32, dw1 := 0, stx := 0 } ∧ mfind t.hpt.fw i = none
            (mfind s.lex.vend id = none → s.flag LEX_CTL_ENA = false → ∀ e ∈ rows, c.opc = e.2 → Gives e.1 s (done stInvalidOpcode 0))
            ∧ (∀ st dw0 wait, mfind s.lex.vend id = some (st, dw0, wait) → wait ≠ 1 → st < 2 ^ 11 → ∀ e ∈ rows, c.opc = e.2 →
                (s.vendReady wait = true → Gives e.1 s (done st dw0)) ∧ (s.vendReady wait = false → exec e.1 s = .next s))
            ∧ (∀ dw0, mfind s.lex.vend id = some (0, dw0, 1) → c.opc = 0xCC → s.flag LEX_CSTAT_PENDING = false →
                Gives (.lexiconGeometry id) s (done (if s.flag LEX_CSTAT_REFUSED then stSequence else 0) s.lexSlots))
            ∧ (mfind s.lex.vend id = none → s.flag LEX_CTL_ENA = true → s.domOn dLEX = true →
                let input := c.input host
                let load (k : Nat) (s : State) : State × Nat :=
                  let s := lexOp (if nbit (c.cdw 11) 0 then 3 else 1) (putOpData (nbits input (512 * k) 512) s)
                  (s, resultStatus (s.fld LEX_OPSTAT_RESULT))
                let remove (k : Nat) (s : State) : State × Nat :=
                  let s := lexOp 4 (putOpKey (nbits input (128 * k) 72) s)
                  (s, resultStatus (s.fld LEX_OPSTAT_RESULT))
                let table (k : Nat) (s : State) : State × Nat :=
                  if 2 ^ 32 ≤ c.cdw 10 + k then (s, stInvalidField) else
                  let s := lexOp 6 (putOpData (nbits input (512 * k) 512) (s.setFld LEX_OPKEY_KEY (c.cdw 10 + k) 0))
                  (s, resultStatus (s.fld LEX_OPSTAT_RESULT))
                (∀ e ∈ [(Instr.lexiconLoad id host, 0xC5, c.cdw 10, 64, load), (.lexiconRemove id host, 0xC9, c.cdw 10, 16, remove),
                    (.segmentTableWrite id host, 0xCD, c.cdw 11, 64, table)], c.opc = e.2.1 →
                  (e.2.2.1 = 0 ∨ 2 ^ 20 < e.2.2.1 * e.2.2.2.1 → Gives e.1 s (done stInvalidField 0))
                  ∧ (∀ s2 k st, e.2.2.1 ≠ 0 → e.2.2.1 * e.2.2.2.1 ≤ 2 ^ 20 → records e.2.2.2.2 e.2.2.1 0 s = (s2, k, st) → k ≠ 0 →
                      Gives e.1 s fun t => t.lex.vend = mins s2.lex.vend id (st, k, s2.nextCkp + 2) ∧ t.ckp.want = true ∧ t.mem = s2.mem ∧ t.cmd id = s2.cmd id))
                ∧ (c.opc = 0xCA → c.cdw 11 ≠ 0 → c.cdw 11 ≤ 4096 → s.lexB ≤ c.cdw 10 → Gives (.lexiconRead id) s (done stInvalidField 0))
                ∧ (∀ s2, c.opc = 0xCA → c.cdw 11 = 1 → c.cdw 10 < s.lexB → readBucket id (c.cdw 10) 0 s = (s2, 0) →
                    exec (.lexiconRead id) s = .next (fwFinish i 0 1 s2))
                ∧ (c.opc = 0xCC → let v := nbits (c.cdw 10) 0 5
                    (s.flag LEX_COUNT_ENTRIES = true → Gives (.lexiconGeometry id) s (done stSequence 0))
                    ∧ (s.flag LEX_COUNT_ENTRIES = false → v < 16 ∨ 22 < v → Gives (.lexiconGeometry id) s (done stInvalidField 0))
                    ∧ (s.flag LEX_COUNT_ENTRIES = false → 16 ≤ v → v ≤ 22 → Gives (.lexiconGeometry id) s fun t => t.fld LEX_GEOM_BUCKETLOG = v
                        ∧ t.flag LEX_CSTAT_PENDING = true ∧ t.flag LEX_CSTAT_REFUSED = false ∧ mfind t.lex.vend id = some (0, 0, 1))))))

/-! ### The pair -/

/-- R294–R300, R304, R27, R287, R390: when the link is lost, line 26 latches and a half survives or fences as its role, the witness and CURRENT decide, with the
epoch, the log's flags and the mode change that follow, and the state that waits for the log's record; a grant makes it survive as acting senior, a denial or no reply makes it fence; claims, pings and the witness connection. -/
def Obligations.ThePartnersDecideWhenTheLinkIsLost : Prop :=
  ∀ s : State, s.ok = true →
    let e := s.fld PLK_EPOCH_EPOCH
    let goes (x act : Nat) : State → Prop := fun t => if s.logWaits = true then t.plk.due = s.plk.due ++ [(x, act)] else t.pairState = x
    let survives : State → Prop := fun t => t.fld PLK_EPOCH_EPOCH = (e + 1) % 2 ^ 32 ∧ t.flag PLK_STAT_CURRENT = true ∧ t.flag PLK_STAT_SYNC = false ∧ t.plk.claiming = false
    let fenced : State → Prop := fun t => t.flag PLK_STAT_CURRENT = false ∧ t.flag PLK_STAT_SYNC = false
    let claim := Output.frame "witness" "CLAIM" [s.fld PLK_ROLE_IMAGE, s.plk.pairId, e + 1, s.fld HRD_ID_MEMBER]
    let logged (epoch : Nat) : State → Prop := fun t => ∃ v, nbits v 64 32 = epoch % 2 ^ 32 ∧ t.plk.logOps = s.plk.logOps ++ pairOps s.pairNext v
    let decision (x : Nat) : State → Prop := fun t =>
      let d0 := if s.logWaits = true then s.plk.due ++ [(x, 0)] else s.plk.due
      (s.on PLK_WITNESS_ENA = false → s.fld PLK_ROLE_ACTING = 1 → survives t ∧ t.plk.due = d0 ++ [(4, 1)] ∧ logged (e + 1) t)
      ∧ (s.on PLK_WITNESS_ENA = false → s.fld PLK_ROLE_ACTING ≠ 1 → fenced t ∧ t.plk.due = d0 ++ [(5, 2)] ∧ logged e t)
      ∧ (s.on PLK_WITNESS_ENA = true → s.flag PLK_STAT_CURRENT = true → t.plk.claiming = true ∧ goes x 0 t ∧ t.out = s.out ++ (if s.flag PLK_STAT_WITUP then [claim] else []))
      ∧ (s.on PLK_WITNESS_ENA = true → s.flag PLK_STAT_CURRENT = false → if s.logWaits = true then t.plk.due = d0 ++ [(5, 2)] else t.pairState = 5)
    let gone : State → Prop := fun t => t.flag PLK_STAT_REACH = false ∧ t.plk.lost = true ∧ t.plk.alive = false ∧ (∀ n ∈ t.plk.nsops, n.2.2.isSome = true)
    (s.flag PLK_ROLE_IMAGE = true → s.plk.alive = true → s.plk.lost = false → s.domOn dFABRIC = true →
        (s.mtime < s.plk.hbAt + 3000000 → exec .linkLoss s = .next s)
        ∧ (s.plk.hbAt + 3000000 ≤ s.mtime →
          Gives .linkLoss s fun t => gone t ∧ t.fld PLK_SPLITS_COUNT = (s.fld PLK_SPLITS_COUNT + 1) % 2 ^ 32 ∧ (s.lineLive 26 = true → s.Latched t 26)
            ∧ (s.mode = mSERVICE ∨ s.mode = mDRAIN → t.pwr.soloDue = true)
            ∧ (s.mode = mRECOVERY → t.fld PLK_ANA_STATE = 3 ∧ t.pairState = s.pairState)
            ∧ (s.mode ≠ mRECOVERY → (s.pairTarget = 6 → goes 4 0 t) ∧ (s.pairTarget = 7 → goes 5 0 t)
                ∧ (s.pairTarget = 2 → decision (if s.mode = mCONFIG then 5 else 3) t))))
    ∧ (s.flag PLK_ROLE_IMAGE = true → s.mode = mCONFIG → s.flag PLK_STAT_REACH = false → s.plk.lost = false →
        Gives .partnerReachTimeout s fun t => gone t ∧ decision 5 t)
    ∧ (∀ (pairId : DWord) (epoch : Word), s.flag PLK_STAT_WITUP = true → s.plk.claiming = true →
        (pairId.toNat = s.plk.pairId →
          (epoch.toNat = e + 1 → s.mode ≠ mRECOVERY → exec (.grant true pairId epoch) s = .next (survive epoch.toNat (s.setFld PLK_ROLE_ACTING 1))
            ∧ Gives (.grant true pairId epoch) s fun t => survives t ∧ t.plk.due = s.plk.due ++ [(4, 1)] ∧ logged (e + 1) t ∧ t.fld PLK_ROLE_ACTING = 1)
          ∧ (epoch.toNat ≠ e + 1 ∨ s.mode = mRECOVERY → exec (.grant true pairId epoch) s = .next s)
          ∧ (s.mode ≠ mRECOVERY → Gives (.deny true pairId) s fun t => fenced t ∧ t.plk.due = s.plk.due ++ [(5, 2)] ∧ logged e t ∧ t.plk.claiming = false)
          ∧ (s.mode = mRECOVERY → exec (.deny true pairId) s = .next s))
        ∧ (pairId.toNat ≠ s.plk.pairId → exec (.grant true pairId epoch) s = .next s ∧ exec (.deny true pairId) s = .next s)
        ∧ exec (.grant false pairId epoch) s = .next s ∧ exec (.deny false pairId) s = .next s)
    ∧ (∀ ok, exec (.pong ok) s = .next s)
    ∧ (s.plk.claiming = true → s.pairTarget = 3 → s.mode ≠ mRECOVERY → s.plk.lossAt + 20000000 ≤ s.mtime →
        Gives .witnessReplyTimeout s fun t => goes 5 2 t ∧ t.flag PLK_STAT_CURRENT = s.flag PLK_STAT_CURRENT ∧ t.plk.claiming = true)
    ∧ (s.flag PLK_STAT_WITUP = true →
        (s.plk.claiming = true → s.pairTarget = 5 → s.mode ≠ mRECOVERY → exec .claimResend s = .next (s.emit claim))
        ∧ exec .pingSend s = .next (s.emit (.frame "witness" "PING" [s.fld PLK_ROLE_IMAGE, s.plk.pairId, s.fld HRD_ID_MEMBER])))
    ∧ (s.plk.wit = 0 → s.flag PLK_ROLE_IMAGE = true → s.on PLK_WITNESS_ENA = true → s.portUp (s.cur PLK_WITNESS_FPORT) = true →
        exec .witnessReconnect s = .next ({ s with plk.wit := 1 }.emit (.frame "witness" "SYN" [s.cur PLK_WITNESS_FPORT, s.cur PLK_WITNESS_TCPPORT,
          s.cur PLK_WITADDR_ADDR 0, s.cur PLK_WITADDR_ADDR 1, s.cur PLK_WITADDR_ADDR 2, s.cur PLK_WITADDR_ADDR 3])))
    ∧ (s.plk.wit = 1 → s.portUp (s.cur PLK_WITNESS_FPORT) = true → Gives .witnessConnectionUp s fun t => t.flag PLK_STAT_WITUP = true ∧ t.plk = { s.plk with wit := 2 } ∧ t.out = s.out)
    ∧ (s.plk.wit ≠ 0 → Gives .witnessConnectionLost s fun t => t.flag PLK_STAT_WITUP = false ∧ t.plk = { s.plk with wit := 0 } ∧ t.out = s.out)

/-- R283–R286, R293, R298, R302: frames leave with TXSEQ in order and stay unacknowledged, are sent again from the oldest, and are taken in order, with what
they acknowledge; lanes train, are lost and come back; heartbeats and HELLOs tell the partner's state; once HELLOs have passed both ways the halves settle
in conflict, in sync, stale, or source and target of a resync. -/
def Obligations.ThePairLinkTrainsSendsAndSettles : Prop :=
  ∀ s : State, s.ok = true →
    let e := s.fld PLK_EPOCH_EPOCH
    let frame (type flags n payload : Nat) : Output := .frame "pair" "frame" [type, flags, n, s.plk.txseq, s.plk.rxseq, 0, 0, e, payload]
    let sent (o : Output) (q : State → Prop) : State → Prop := fun t => t.out = s.out ++ [o] ∧ t.plk.txseq = (s.plk.txseq + 1) % 2 ^ 32
      ∧ t.plk.unacked.length = s.plk.unacked.length + 1 ∧ q t
    (s.pairRuns = true →
        (s.plk.helloIn = false → ∃ payload, Gives .helloSend s (sent (frame 1 0 (32 + 16 * s.mirrorSlots.length) payload) fun t => t.plk.helloSent = true ∧ t.regs = s.regs))
        ∧ Gives .nullSend s (sent (frame 0 0 0 0) fun t => t.regs = s.regs)
        ∧ Gives .heartbeatSend s (sent (frame 2 0 16 (s.mode + b2n (s.mode = mSPENT) * 2 ^ 8 + s.fld PLK_STAT_CURRENT * 2 ^ 9 + e * 2 ^ 32 + s.pair PLK_MSN_LO_MSN PLK_MSN_HI_MSN * 2 ^ 64))
            fun t => t.plk.hbSeen = false ∧ t.fld PLK_HBMISS_COUNT = (s.fld PLK_HBMISS_COUNT + b2n (s.plk.alive && !s.plk.hbSeen)) % 2 ^ 32)
        ∧ Gives .pairRetransmit s (fun t =>
            t.out = s.out ++ s.plk.unacked.map (fun f => .frame "pair" "frame" [f.type, f.flags, f.n, f.seq, s.plk.rxseq, f.msn, f.tag, e, f.payload])
            ∧ t.fld PLK_RETX_COUNT = (s.fld PLK_RETX_COUNT + s.plk.unacked.length) % 2 ^ 32 ∧ t.plk = s.plk))
    ∧ (∀ lanes : Fin 3, s.flag PLK_ROLE_IMAGE = true → s.domOn dFABRIC = true → s.plk.lanes = 0 → lanes ≠ 0 → s.mode ≠ mBOOT → s.mode ≠ mDORMANT →
        Gives (.pairLinkUp lanes) s fun t => t.plk.lanes = lanes ∧ t.flag PLK_STAT_LINK = true ∧ t.fld PLK_STAT_LANES = lanes ∧ t.plk.txseq = 1 ∧ t.plk.rxseq = 0
          ∧ t.plk.helloSent = true ∧ (s.logWaits = false → t.pairState = (if s.pairState = 0 then 1 else s.pairState)))
    ∧ (s.domOn dFABRIC = true →
        (s.plk.lanes = 1 ∨ s.plk.lanes = 2 → Gives .laneLoss s fun t => t.plk = { s.plk with lanes := s.plk.lanes - 1 } ∧ t.fld PLK_STAT_LANES = s.plk.lanes - 1
          ∧ t.flag PLK_STAT_LINK = (s.plk.lanes = 2))
        ∧ (s.plk.lanes = 1 → Gives .pairLaneRestore s fun t => t.plk = { s.plk with lanes := 2 } ∧ t.fld PLK_STAT_LANES = 2 ∧ t.flag PLK_STAT_LINK = true ∧ t.out = s.out))
    ∧ (∀ h : PairHdr,
        let s0 := { s with
          plk.rxseq := (s.plk.rxseq + 1) % 2 ^ 32
          plk.unacked := s.plk.unacked.filter fun x => (x.seq + 2 ^ 32 - h.ackseq.toNat) % 2 ^ 32 < 2 ^ 31 }
        let taken := s.pairRuns = true ∧ s.flag CKP_STAT_BOD = false ∧ h.ok = true ∧ h.txseq.toNat = s.plk.rxseq
        (s.pairRuns = false ∨ s.flag CKP_STAT_BOD = true ∨ h.ok = false ∨ h.txseq.toNat ≠ s.plk.rxseq → exec (.nullFrame h) s = .next s)
        ∧ (taken → s.flag PLK_STAT_REACH = true →
            exec (.nullFrame h) s = .next { s0 with plk.helloOut := s0.helloAcked }
            ∧ (∀ spent current msn, Gives (.hb h spent current msn) s fun t => t.plk.hbAt = s.mtime ∧ t.plk.hbSeen = true ∧ t.plk.pSpent = spent ∧ t.plk.pCurrent = current
                ∧ t = { s with plk := t.plk })
            ∧ (∀ (image acting : Fin 4) (base : Word) (current sync mapValid : Bool) (serial : DWord) (herd : BitVec 14) (slots : List (Nat × Nat × Nat)),
                Gives (.hello h image acting base current sync mapValid serial herd slots) s fun t => t.plk.helloIn = true ∧ t.plk.pImage = image ∧ t.plk.pActing = acting
                  ∧ t.plk.pEpoch = h.epoch.toNat ∧ t.plk.pBase = base.toNat ∧ t.plk.pCurrent = current ∧ t.plk.pSync = sync ∧ t.plk.pMapValid = mapValid
                  ∧ t.plk.pSerial = serial.toNat ∧ t.plk.pHerd = herd.toNat ∧ t.plk.pSlots = slots ∧ t.plk.helloSent = true ∧ (s.plk.helloSent = true → t.out = s.out)))
        ∧ (taken → s.flag PLK_STAT_REACH = false → s.plk.helloIn = true → s0.helloAcked = true → s.mode ≠ mRECOVERY →
            let acting := if s.plk.pActing = 1 ∧ s.fld PLK_ROLE_ACTING = 1 ∧ e < s.plk.pEpoch then 2 else s.fld PLK_ROLE_ACTING
            let mine := s.plk.pEpoch < e ∨ (e = s.plk.pEpoch ∧ acting = 1)
            let sync := e = s.plk.pEpoch ∧ s.flag PLK_STAT_SYNC = true ∧ s.plk.pSync = true
            let current := if mine then s.flag PLK_STAT_CURRENT else s.plk.pCurrent
            let byMap := s.flag PLK_STAT_MAPVALID && s.plk.pMapValid && (if mine then s.plk.pEpoch = s.fld PLK_BASE_EPOCH else e = s.plk.pBase)
            let goes (x act : Nat) : State → Prop := fun t =>
              if s.logWaits = true ∨ acting ≠ s.fld PLK_ROLE_ACTING then t.plk.due = s.plk.due ++ [(x, act)] else t.pairState = x
            Gives (.nullFrame h) s fun t => t.flag PLK_STAT_REACH = true ∧ t.plk.lost = false ∧ t.plk.alive = true ∧ t.plk.hbAt = s.mtime ∧ t.plk.claiming = false
              ∧ (s.plk.pImage = s.fld PLK_ROLE_IMAGE → t.plk.due = s.plk.due ++ [(8, 3)] ∧ t.flag PLK_STAT_CURRENT = false ∧ t.flag PLK_STAT_SYNC = false ∧ (s.mode = mSERVICE ∨ s.mode = mDRAIN → t.pwr.soloDue = true))
              ∧ (s.plk.pImage ≠ s.fld PLK_ROLE_IMAGE → t.fld PLK_ROLE_ACTING = acting
                  ∧ (sync → goes 2 4 t ∧ t.flag PLK_STAT_MAPVALID = true ∧ (s.mode = mSOLO → s.logWaits = false → t.pwr.serviceDue = true))
                  ∧ (¬ sync → current = false → goes 5 3 t)
                  ∧ (¬ sync → current = true → ¬ mine → goes 7 5 t ∧ t.flag PLK_RESYNC_FULL = !byMap)
                  ∧ (¬ sync → current = true → mine → byMap = true → goes 6 0 t ∧ t.flag PLK_RESYNC_FULL = false))))

/-- R187, R288–R293, R301–R303: mirrored writes arrive, are placed or refused; orders, acknowledgements and refusals reach the writes that wait for them; the
ledger page is kept, acknowledged and returned; namespace operations are carried out and answered; a resync marks, copies and replaces regions, and ends in
sync with the source's epoch. -/
def Obligations.MirroredWritesLedgersAndResyncsRunOverTheLink : Prop :=
  ∀ (s : State) (h : PairHdr), s.ok = true → sortedFrom none s.cmds = true → sortedFrom none s.plk.rx = true → sortedFrom none s.plk.map = true →
    s.pairRuns = true → s.flag CKP_STAT_BOD = false → s.flag PLK_STAT_REACH = true → h.ok = true → h.txseq.toNat = s.plk.rxseq →
    let s0 := { s with
      plk.rxseq := (s.plk.rxseq + 1) % 2 ^ 32
      plk.unacked := s.plk.unacked.filter fun x => (x.seq + 2 ^ 32 - h.ackseq.toNat) % 2 ^ 32 < 2 ^ 31 }
    let id := s.hpt.nextCmd
    let tag := h.tag.toNat
    let frame (type msn tag n payload : Nat) : Output := .frame "pair" "frame" [type, 0, n, s.plk.txseq, s0.plk.rxseq, msn, tag, s.fld PLK_EPOCH_EPOCH, payload]
    (∀ (slot kind : Byte) (lba : DWord) (blocks : Word) (n data : Nat),
        let d := data % 2 ^ (8 * n)
        let w : RxWrite := match mfind s.plk.rx tag with
          | some w => { w with nlb := w.nlb + blocks.toNat, data := w.data + d * 2 ^ (8 * w.bytes), bytes := w.bytes + n }
          | none => { slot := slot.toNat, kind := kind.toNat, lba := lba.toNat, nlb := blocks.toNat, data := d, bytes := n }
        let c : Cmd := { port := 8193, slot := w.slot, slba := w.lba, nlb := w.nlb, data := w.data, kind := w.kind, tag := tag, msn := some h.msn.toNat, passed := true }
        (h.last = false → Gives (.mwr h slot kind lba blocks n data) s fun t => mfind t.plk.rx tag = some w ∧ t = { s with plk := t.plk })
        ∧ (h.last = true → w.kind ≠ 3 → h.msn ≠ 0 →
            (s.mirrorBad c = none → exec (.mwr h slot kind lba blocks n data) s = .next (reachSettle (placeWrite id
              { s0 with plk.rx := mdel s.plk.rx tag, hpt.nextCmd := id + 1, cmds := mins s.cmds id c })))
            ∧ (∀ st, s.mirrorBad c = some st → Gives (.mwr h slot kind lba blocks n data) s fun t => t.cmds = s.cmds ∧ mfind t.plk.rx tag = none ∧ t.out = s.out ++ [frame 6 h.msn.toNat tag 4 st])))
    ∧ (∀ k c, s.cmds.find? (fun e => e.2.port < 8192 && e.2.phase = 10 && e.2.msn.isNone && e.2.tag = tag) = some (k, c) →
        exec (.mord h) s = .next (reachSettle (placeWrite k (modCmd s0 k fun c => { c with msn := some h.msn.toNat }))))
    ∧ (s.cmds.find? (fun e => e.2.port < 8192 && e.2.phase = 10 && e.2.msn.isNone && e.2.tag = tag) = none →
        Gives (.mord h) s fun t => t.out = s.out ++ [frame 6 h.msn.toNat tag 4 stAbortRequested] ∧ t.cmds = s.cmds)
    ∧ (∀ k c, s.cmds.find? (fun e => e.2.port != 8193 && e.2.msn = some h.msn.toNat) = some (k, c) →
        Gives (.mack h) s fun t => t.cmd k = some (if c.appended then c.ended 0 else { c with acked := true }) ∧ (∀ j, j ≠ k → t.cmd j = s.cmd j)
          ∧ (∀ o ∈ t.plk.outst, o.1 ≠ h.msn.toNat) ∧ t.pair PLK_PEERMSN_LO_MSN PLK_PEERMSN_HI_MSN = max (s.pair PLK_PEERMSN_LO_MSN PLK_PEERMSN_HI_MSN) h.msn.toNat)
    ∧ (∀ k c (status : BitVec 11), s.cmds.find? (fun e => e.2.port < 8192 && e.2.mirror && e.2.tag = tag) = some (k, c) →
        Gives (.mnak h status) s fun t => t.cmd k = some (if c.phase = 4 ∧ c.appended = false then { c with nak := status.toNat, mirror := false } else c.ended status.toNat)
          ∧ (∀ j, j ≠ k → t.cmd j = s.cmd j) ∧ t.regs = s.regs)
    ∧ (∀ page : BitVec 131072, Gives (.ledg h page) s fun t => t.plk.ledger = some (nbits page.toNat 64 64, page.toNat) ∧ t.out = s.out ++ [frame 8 0 0 8 (nbits page.toNat 64 64)] ∧ t.regs = s.regs)
    ∧ (∀ seq : DWord, (seq.toNat = s.pair STE_LEDSEQ_LO_SEQ STE_LEDSEQ_HI_SEQ → Gives (.lack h seq) s fun t => t.flag STE_LEDGER_PARTNER = true ∧ t.ste = { s.ste with ledAck := true })
        ∧ (seq.toNat ≠ s.pair STE_LEDSEQ_LO_SEQ STE_LEDSEQ_HI_SEQ → Gives (.lack h seq) s fun t => t = { s with plk := t.plk }))
    ∧ (∀ sq v, s.plk.ledger = some (sq, v) → Gives (.lreq h) s fun t => t.out = s.out ++ [frame 15 0 0 16384 v] ∧ t.plk.ledger = s.plk.ledger)
    ∧ (s.plk.ledger = none → Gives (.lreq h) s fun t => t.out = s.out ++ [frame 15 0 0 0 0])
    ∧ (∀ page : Option (BitVec 131072), s.plk.lreq = true → Gives (.lrsp h page) s fun t => t.plk.lreq = false ∧ t.plk.lrsp = page.map BitVec.toNat ∧ t = { s with plk := t.plk })
    ∧ exec .lreqTimeout s = .next { s with plk.lreq := false }
    ∧ (∀ (op slot lbas : Byte) (nsze : DWord),
        let k := slot.toNat
        let c : Cmd := { port := 8194, tag := tag, slot := k }
        let s1 := { s0 with hpt.nextCmd := id + 1, cmds := mins s.cmds id c }
        let go := Instr.nsop h op slot lbas nsze
        (s.mode ≠ mSERVICE → Gives go s fun t => t.cmd id = some (c.ended stSequence) ∧ t.regs = s.regs)
        ∧ (s.mode = mSERVICE → op = 1 → s.flag TXE_NSCFG_DECL k = true → s.nsExists k = false → s.flag TXE_NSCFG_ZEROING k = false →
            s.unitsFor k nsze.toNat lbas.toNat ≤ mget 0 s.txe.maxUnits k → exec go s = .next (reachSettle (nsCreateIn id k nsze.toNat lbas.toNat s1)))
        ∧ (s.mode = mSERVICE → op ≠ 1 → s.nsExists k = false → Gives go s fun t => t.cmd id = some (c.ended stInvalidNs) ∧ t.regs = s.regs)
        ∧ (s.mode = mSERVICE → s.nsExists k = true → (∀ d ∈ s.txe.deleting, d.1 ≠ k) →
            (op = 2 → exec go s = .next (reachSettle (nsDeleteBegin id [k] s1)))
            ∧ (op = 3 → (∀ d ∈ s.hpt.format, d.1 ≠ k) → exec go s = .next (reachSettle (fmtBegin id lbas.toNat [k] s1)))))
    ∧ (∀ status : BitVec 11, Gives (.nsack h status) s fun t => t = { s with plk := t.plk }
        ∧ t.plk.nsops = s.plk.nsops.map (fun n => if n.2.1 = tag ∧ n.2.2 = none then (n.1, n.2.1, some status.toNat) else n))
    ∧ (∀ words : List DWord, s.pairTarget = 6 → s.plk.rsReady = false → h.last = false → Gives (.rsmap h words) s fun t =>
        t.plk.rsWords = s.plk.rsWords + words.length ∧ t.fld PLK_RESYNC_REGIONS = t.plk.map.length % 2 ^ 24
        ∧ (∀ key, mget false s.plk.map key = true → mget false t.plk.map key = true)
        ∧ (∀ i w key, words[i / 64]? = some w → s.mapKeys[64 * s.plk.rsWords + i]? = some key → w.getLsbD (i % 64) = true → mget false t.plk.map key = true))
    ∧ (∀ (slot : Fin 128) (region : BitVec 32), s.pairState = 6 → s.plk.rsReady = true → s.domOn dMEDIA = true →
        let key := slot.val * 2 ^ 32 + region.toNat
        (s.plk.region = none → mget false s.plk.map key = true → exec (.resyncRegion slot region) s = .next (regionStart key s))
        ∧ (s.plk.region = none → mget false s.plk.map key = false → exec (.resyncRegion slot region) s = .next s)
        ∧ (∀ k c, s.plk.region = some key → s.cmds.find? (fun e => e.2.port = 8195 && e.2.kv && e.2.tag = key) = some (k, c) → c.phase = 12 → s.restRuns = true →
            Gives (.resyncRegion slot region) s fun t => t.cmd k = none ∧ t.plk.region = none ∧ mget false t.plk.map key = false
              ∧ t.fld PLK_RSMIB_COUNT = (s.fld PLK_RSMIB_COUNT + 1) % 2 ^ 32))
    ∧ (∀ (slot : Byte) (lba : DWord) (blocks : Word) (data : Nat), s.pairTarget = 7 → s.nsExists slot.toNat = true →
        let v := data % 2 ^ (8 * blocks.toNat * s.lbaBytes slot.toNat)
        let c : Cmd := { port := 8195, slot := slot.toNat, slba := lba.toNat, nlb := blocks.toNat, data := v, kind := (if v = 0 then 2 else 1), passed := true }
        exec (.rsd h slot lba blocks data) s = .next (reachSettle (placeWrite id { s0 with hpt.nextCmd := id + 1, cmds := mins s.cmds id c })))
    ∧ (s.pairTarget = 7 → s.mode ≠ mRECOVERY → Gives (.rsdone h) s fun t => t.plk.due = s.plk.due ++ [(2, 4)] ∧ t.fld PLK_EPOCH_EPOCH = h.epoch.toNat ∧ t.fld PLK_BASE_EPOCH = h.epoch.toNat
        ∧ t.flag PLK_STAT_CURRENT = true ∧ t.flag PLK_STAT_SYNC = true ∧ t.plk.map = [] ∧ t.cmds = s.cmds)

/-! ### The cipher complex -/

/-- R307–R310, R320, R321: descriptors are submitted by TAIL; a free sequencer takes the next job, those of the privileged channels first, refuses it when its
program or ranges are bad, gives it its keys; an ordinary job is set aside at a slice point for a privileged one; a job that has ended moves HEAD, counts,
records its result and frees the sequencer. -/
def Obligations.CipherChannelsTakeAndEndJobs : Prop :=
  ∀ s : State, s.ok = true → sortedFrom none s.cip.seqs = true → sortedFrom none s.cip.saved = true → sortedFrom none s.cip.taken = true →
    (∀ (m : MasterId) (ch : Fin 64) (index : BitVec 12), s.domOn dCIPHER = true →
        (if ch.val < 62 then s.MayWrite m CIP_TAIL ch else s.MayWrite m CIP_TAILP (ch.val - 62)) →
        let hw := ch.val < 62 ∧ s.flag CIP_CHSTAT_HW ch = true
        let new := (index.toNat % s.cipSize ch + s.cipSize ch - s.cipHead ch) % s.cipSize ch
        (hw → exec (.cipherTailWrite m ch index) s = .fault (.undefinedCase "descriptors submitted to a hardware channel"))
        ∧ (¬ hw → new < s.cipJobs ch → exec (.cipherTailWrite m ch index) s = .fault (.undefinedCase "CIP_TAIL moved backwards"))
        ∧ (¬ hw → s.cipJobs ch ≤ new → Gives (.cipherTailWrite m ch index) s fun t => t.cipTail ch = index.toNat % s.cipSize ch ∧ t.cipJobs ch = new
            ∧ s.RegsOnly t [if ch.val < 62 then CIP_TAIL.at ch 0 0 else CIP_TAILP.at (ch.val - 62) 0 0]))
    ∧ (∀ (q : Fin 4) (n : Nat) (s1 s2 : State) (d : Nat),
        let ix := (s.cipHead n + mget 0 s.cip.taken n) % s.cipSize n
        let started (t : State) : Prop := ∃ j, mfind t.cip.seqs q = some j ∧ j.ch = n ∧ j.index = ix ∧ j.desc = d ∧ j.ended = s2.jobRefused j ∧ j.inp = 0 ∧ j.outp = 0 ∧ j.steps = 0
          ∧ j.pc = mget 0 s2.cip.entry j.prog ∧ j.k = (if n < 62 then s2.jobKeys j else []) ∧ mget 0 t.cip.taken n = mget 0 s2.cip.taken n + 1
        let clear (j : CipJob) : Prop := j.overlaps = false ∧ (n < 62 ∨ (s2.keyNamed j.keyA = false ∧ s2.keyNamed j.keyB = false))
        s.domOn dCIPHER = true → s1.ok = true → sortedFrom none s2.cip.taken = true → memRead s1 18 .read (s.cipRing n + 64 * ix) 64 = (s2, .ok d) →
        (cipPick false s = some (n, s1) → mfind s.cip.seqs q = none → mfind s.cip.saved q = none →
          (clear { ch := n, index := ix, desc := d } → Gives (.cipherJobStart q) s started)
          ∧ ((CipJob.overlaps { ch := n, index := ix, desc := d }) = true → s2.jobRefused { ch := n, index := ix, desc := d } = none → n < 62 →
              exec (.cipherJobStart q) s = .fault (.undefinedCase "cipher SRC and DST overlap"))))
    ∧ (∀ q : Fin 4, cipPick false s = none → exec (.cipherJobStart q) s = .next s)
    ∧ (0 < s.cipQueued 63 → cipPick false s = some (63, s)) ∧ (s.cipQueued 63 = 0 → 0 < s.cipQueued 62 → cipPick false s = some (62, s))
    ∧ (∀ (q : Fin 4) (j : CipJob), mfind s.cip.seqs q = some j → j.ch < 62 → j.ended = none → s.cip.seqs.length = 4 →
        (0 < j.inp ∧ j.inp % 4096 = 0) ∨ (0 < j.steps ∧ j.steps % 4096 = 0) →
        (s.cipQueued 62 = 0 → s.cipQueued 63 = 0 → exec (.cipherSlicePoint q) s = .next s)
        ∧ (0 < s.cipQueued 62 ∨ 0 < s.cipQueued 63 →
            exec (.cipherSlicePoint q) s = cipStart q true { s with cip.seqs := mdel s.cip.seqs q, cip.saved := mins s.cip.saved q j })
        ∧ (∀ d s2, 0 < s.cipQueued 63 →
            let s1 := { s with cip.seqs := mdel s.cip.seqs q, cip.saved := mins s.cip.saved q j }
            let ix := (s.cipHead 63 + mget 0 s.cip.taken 63) % s.cipSize 63
            memRead s1 18 .read (s.cipRing 63 + 64 * ix) 64 = (s2, .ok d) → nbits d 0 8 = 2 →
            Gives (.cipherSlicePoint q) s fun t => mfind t.cip.saved q = some j ∧ (mfind t.cip.seqs q).map CipJob.ch = some 63))
    ∧ (∀ (q : Fin 4) (j : CipJob) (st : Nat), mfind s.cip.seqs q = some j → j.ended = some st → s.cipSize j.ch ≤ 4096 → j.ch < 64 →
        (j.index ≠ s.cipHead j.ch → exec (.cipherJobDone q) s = .next s)
        ∧ (j.index = s.cipHead j.ch → Gives (.cipherJobDone q) s fun t =>
            t.cipHead j.ch = (j.index + 1) % s.cipSize j.ch ∧ t.fld CIP_JOBS_COUNT = (s.fld CIP_JOBS_COUNT + 1) % 2 ^ 32
            ∧ mfind t.cip.seqs q = mfind s.cip.saved q ∧ mfind t.cip.saved q = none ∧ mget 0 t.cip.taken j.ch = mget 0 s.cip.taken j.ch - 1
            ∧ t.fld CIP_UNTRUSTED_COUNT = (s.fld CIP_UNTRUSTED_COUNT + (if j.ch < 62 ∧ st = 0 ∧ j.failed = true then 1 else 0)) % 2 ^ 32
            ∧ t.fld CIP_NOKEY_COUNT = (s.fld CIP_NOKEY_COUNT + (if st = 1 then 1 else 0)) % 2 ^ 32
            ∧ t.fld CIP_AUTHFAIL_COUNT = (s.fld CIP_AUTHFAIL_COUNT + (if st = 6 then 1 else 0)) % 2 ^ 32
            ∧ (st = 6 → nbit (t.fld FLT_LINE_LINES) 20 = true)
            ∧ (st = 0 → j.failed = false → j.event = false → t.mem = (ringWrite (ringWrite s 18 (s.cipRing j.ch + 64 * j.index + 7) 1 0) 18 (s.cipRing j.ch + 64 * j.index + 13) 1 0).mem)))

/-- R310, R313, R305, R320: each instruction of the chaining microcode does what its row of the table says to the registers and the position of its job; loads,
stores and tags go through memory; the step limit, a missing key, a failed access and a reserved opcode end the job with their status. -/
def Obligations.MicrocodeInstructionsRun : Prop :=
  ∀ (s : State) (q : Fin 4) (j : CipJob) (w : Nat), s.ok = true → sortedFrom none s.cip.seqs = true → s.ucode q = some (j, w) →
    let D := nbits w 8 4
    let A := mget 0 j.v (nbits w 12 4)
    let B := mget 0 j.v (nbits w 16 4)
    let imm := nbits w 20 12
    let j1 := { j with pc := j.pc + 1, steps := j.steps + 1 }
    let set (b : Block) : CipJob := { j1 with v := mput 0 j.v D b }
    let jump (c : Prop) [Decidable c] : CipJob := if c then { j1 with pc := j.start + imm } else j1
    let runs (i : Instr) (s2 : State) (j2 : CipJob) : Prop := exec i s = .next { s2 with cip.seqs := mins s2.cip.seqs q j2 }
    let rows := [(Instr.endProg q, 0x00), (.ldin q, 0x01), (.stout q, 0x02), (.ldp q, 0x03), (.aese q, 0x04), (.aesd q, 0x05), (.xor q, 0x06), (.gfmul q, 0x07), (.xtime q, 0x08),
      (.inc64 q, 0x09), (.ctradd q, 0x0A), (.glen q, 0x0B), (.mov q, 0x0C), (.zero q, 0x0D), (.bloop q, 0x0E), (.bunit q, 0x0F), (.baad q, 0x10), (.chktag q, 0x11), (.sttag q, 0x12)]
    (∀ e ∈ rows, (w % 256 ≠ e.2 → exec e.1 s = .next s) ∧ (w % 256 = e.2 → s.cipLimit j ≤ j.steps → runs e.1 s { j with ended := some 4 }))
    ∧ (j.steps < s.cipLimit j →
        (∀ e ∈ [(0x00, Instr.endProg q, { j1 with ended := some 0 }), (0x06, .xor q, set (A ^^^ B)), (0x08, .xtime q, set ((A <<< 1) ^^^ (if A.getLsbD 127 then 0x87#128 else 0))),
              (0x09, .inc64 q, set (ctrAddBlock A imm)), (0x0A, .ctradd q, set (ctrAddBlock A (B.toNat % 2 ^ 64))), (0x0B, .glen q, set (gcmLength j.aad j.len)), (0x0C, .mov q, set A),
              (0x0D, .zero q, set 0), (0x0E, .bloop q, jump (j.inp < j.len)), (0x0F, .bunit q, jump (j.inp < j.len ∧ j.inp % 4096 = 0)), (0x10, .baad q, jump (j.inp < j.aad))],
            w % 256 = e.1 → runs e.2.1 s e.2.2)
        ∧ (0x13 ≤ w % 256 → runs (.illegalOpcode q) s { j1 with ended := some 3 })
        ∧ (w % 256 = 0x07 → runs (.gfmul q) (s.incPair CIP_BLK_LO_COUNT CIP_BLK_HI_COUNT) (set (ghashMul A B)))
        ∧ (∀ e ∈ [(0x04, Instr.aese q, aesEnc), (0x05, .aesd q, aesDec)], w % 256 = e.1 → 1 ≤ imm → imm ≤ 3 →
            (mfind j.k imm = none → runs e.2.1 s { j1 with ended := some 1 })
            ∧ (∀ n key, mfind j.k imm = some (n, key) → runs e.2.1 (s.incPair CIP_BLK_LO_COUNT CIP_BLK_HI_COUNT) (set (ofBlock (e.2.2 (leBytes n key) (blockBytes A))))))
        ∧ (w % 256 = 0x01 → j.len ≤ j.inp → runs (.ldin q) s { set 0 with last := 0 })
        ∧ (∀ s2 r, w % 256 = 0x01 → j.inp < j.len → memRead s 18 .read (j.src + j.inp) (min 16 (j.len - j.inp)) = (s2, r) →
            (∀ v, r = .ok v → runs (.ldin q) s2 { set (BitVec.ofNat 128 v) with inp := j.inp + min 16 (j.len - j.inp), last := min 16 (j.len - j.inp) })
            ∧ (∀ i, r = .err i → runs (.ldin q) s2 { j1 with ended := some 5 }) ∧ (r = .wait → exec (.ldin q) s = .next s))
        ∧ (∀ s2 r, w % 256 = 0x02 → j.last ≠ 0 → memWrite s 18 .write (j.dst + j.outp) j.last ((mget 0 j.v D).toNat % 2 ^ (8 * j.last)) = (s2, r) →
            (∀ v, r = .ok v → runs (.stout q) s2 { j1 with outp := j.outp + j.last }) ∧ (∀ i, r = .err i → runs (.stout q) s2 { j1 with ended := some 5 }))
        ∧ (w % 256 = 0x03 → (imm = 0 → runs (.ldp q) s (set (BitVec.ofNat 128 j.iv))) ∧ (imm = 2 → runs (.ldp q) s (set (BitVec.ofNat 128 j.aux2)))
            ∧ (imm = 1 → runs (.ldp q) s (set (BitVec.ofNat 128 (j.aux + ceilDiv j.inp 16 / 256))))
            ∧ (imm = 3 → j.tagLen = 0 → runs (.ldp q) s (set 0))
            ∧ (3 < imm → runs (.ldp q) { s with free := s.free + 1 } (set (Config.freeValue 128 s.free))))
        ∧ (∀ s2 v, j.tagLen ≠ 0 → memRead s 18 .read j.tagAddr j.tagLen = (s2, .ok v) →
            (w % 256 = 0x03 → imm = 3 → runs (.ldp q) s2 (set (BitVec.ofNat 128 v)))
            ∧ (w % 256 = 0x11 → runs (.chktag q) s2 { j1 with failed := j.failed || A.toNat % 2 ^ (8 * j.tagLen) != v }))
        ∧ (w % 256 = 0x11 → j.tagLen = 0 → runs (.chktag q) s j1)
        ∧ (w % 256 = 0x12 → j.tagLen = 0 → runs (.sttag q) s j1)
        ∧ (∀ s2 v, w % 256 = 0x12 → j.tagLen ≠ 0 → memWrite s 18 .write j.tagAddr j.tagLen (A.toNat % 2 ^ (8 * j.tagLen)) = (s2, .ok v) → runs (.sttag q) s2 j1))

/-- R311, R312, R316–R319: authenticated copy writes what its CMAC under the image key vouches for, else zeros; key import, load, evict and erase act on the key
store and the resident keys with their status; the microcode is installed when its tag and header are right, else refused; a fuse key that is blank is
programmed in BOOT. -/
def Obligations.PrivilegedProgramsMicrocodeAndFuses : Prop :=
  ∀ s : State, s.ok = true → sortedFrom none s.cip.seqs = true → sortedFrom none s.keys = true → s.keys.length ≤ 4096 → sortedFrom none s.cip.fuse = true →
    (∀ (q : Fin 4) (j : CipJob), mfind s.cip.seqs q = some j → s.domOn dCIPHER = true → 62 ≤ j.ch → j.ended = none →
        let ends (i : Instr) (s2 : State) (st : Nat) : Prop := exec i s = .next { s2 with cip.seqs := mins s2.cip.seqs q { j with ended := some st } }
        (j.prog = 0 → ∀ v s1 tag s2, cipIn j.src j.len s = (s1, .ok v) → memRead s1 18 .read j.tagAddr 16 = (s2, .ok tag) →
          let good := ofLe (cmac (s2.fuseKey 1) (leBytes j.len v)) = tag
          let s2' := cipCount 0 (max 1 (ceilDiv j.len 16) + 1) s2
          (j.len = 0 → ends (.authenticatedCopy q) s2' (if good then 0 else 6))
          ∧ (∀ s3 w, j.len ≠ 0 → memWrite s2' 18 .write j.dst j.len (if good then v else 0) = (s3, .ok w) → ends (.authenticatedCopy q) s3 (if good then 0 else 6))
          ∧ (∀ s3 k, j.len ≠ 0 → memWrite s2' 18 .write j.dst j.len (if good then v else 0) = (s3, .err k) → ends (.authenticatedCopy q) s3 5))
        ∧ (j.prog = 1 → ∀ key type, type = j.iv % 256 → 1 ≤ type → type ≤ 4 → keyBytes type + 8 = j.len →
            (j.keyA = 0xFFFF ∧ key = s.fuseKey 2 ∨ j.keyA ≠ 0xFFFF ∧ ∃ k, mfind s.keys j.keyA = some k ∧ k.type = 4 ∧ nbit k.use 2 = true ∧ key = leBytes 32 k.key) →
            ∀ v s1, cipIn j.src j.len s = (s1, .ok v) →
            let gen := nbits (s1.ksEntry j.keyB) 32 32
            let count : State → State := cipCount 0 (6 * (j.len / 8 - 1))
            (keyUnwrap key (leBytes j.len v) = none → ends (.keyImport q) (ksWrite j.keyB 0 0 gen 0 (count s1)) 6)
            ∧ (∀ k, keyUnwrap key (leBytes j.len v) = some k →
                ends (.keyImport q) (ksWrite j.keyB type (nbits j.iv 8 5) (gen + 1) (ofLe (keyWrap (s1.fuseKey 0) k)) (count (count s1))) 0))
        ∧ (j.prog = 1 → j.keyA ≠ 0xFFFF → mfind s.keys j.keyA = none → ends (.keyImport q) s 1)
        ∧ (j.prog = 2 →
            let s' := blkRead 18 (s.ksAddr j.keyA) 128 s
            (s'.ksKey j.keyA = none → ends (.keyLoad q) s' 1) ∧ (s'.ksKey j.keyA = some none → ends (.keyLoad q) s' 6)
            ∧ (∀ k, s'.ksKey j.keyA = some (some k) →
                (s.keys.length = 4096 → mfind s.keys j.keyA = none → ends (.keyLoad q) (cipCount 0 (6 * (keyBytes k.type / 8)) s') 8)
                ∧ (s.keys.length < 4096 ∨ (mfind s.keys j.keyA).isSome = true → Gives (.keyLoad q) s fun t => mfind t.keys j.keyA = some k
                    ∧ (∀ i, i ≠ j.keyA → mfind t.keys i = mfind s.keys i) ∧ t.fld CIP_KRES_RESIDENT = t.keys.length ∧ t.mem = s'.mem
                    ∧ (mfind t.cip.seqs q).map CipJob.ended = some (some 0))))
        ∧ (j.prog = 3 → Gives (.keyEvict q) s fun t => mfind t.keys j.keyA = none ∧ (∀ i, i ≠ j.keyA → mfind t.keys i = mfind s.keys i) ∧ t.mem = s.mem
            ∧ (mfind t.cip.seqs q).map CipJob.ended = some (some 0))
        ∧ (j.prog = 4 → Gives (.keyErase q) s fun t => mfind t.keys j.keyA = none ∧ (∀ i, i ≠ j.keyA → mfind t.keys i = mfind s.keys i)
            ∧ t.mem = (ksWrite j.keyA 0 0 (nbits (s.ksEntry j.keyA) 32 32) 0 s).mem ∧ (mfind t.cip.seqs q).map CipJob.ended = some (some 0)))
    ∧ (∀ v s1, s.mode = mCONFIG → s.domOn dCIPHER = true → s.flag CIP_STAT_UCVALID = false → s.flag CIP_STAT_UCFAIL = false →
        let n := s.fld CIP_UCLEN_VALUE
        16 ≤ n → cipIn (s.fld CIP_UCADDR_VALUE) n s = (s1, .ok v) → s1.ok = true →
        let good := ofLe (cmac (s1.fuseKey 1) (leBytes (n - 16) v)) = v >>> (8 * (n - 16)) ∧ ucHeader v n = true
        (good → Gives .microcodeLoad s fun t => t.flag CIP_STAT_UCVALID = true ∧ t.flag CIP_STAT_UCFAIL = false
            ∧ (∀ i, i < (n - 160) / 4 → mget 0 t.cip.imem i = nbits v (8 * (144 + 4 * i)) 32)
            ∧ (∀ p, p < nbits v 48 16 → mget 0xFFFFFFFF t.cip.entry p = nbits v (8 * (16 + 4 * p)) 32) ∧ t.mem = s1.mem)
        ∧ (¬ good → Gives .microcodeLoad s fun t => t.flag CIP_STAT_UCVALID = false ∧ t.flag CIP_STAT_UCFAIL = true ∧ t.cip.imem = [] ∧ t.cip.entry = []))
    ∧ (∀ (m : MasterId) (sel : Fin 4), s.MayWrite m CIP_FUSECTL → s.domOn dCIPHER = true →
        (s.mode ≠ mBOOT → exec (.fuseProgram m sel) s = .next (accessError m .write (0x40000000 + CIP_FUSECTL.at 0 0 0) s))
        ∧ (s.mode = mBOOT → sel = 3 → exec (.fuseProgram m sel) s = .fault (.undefinedCase "CIP_FUSECTL.SEL = 3 is reserved"))
        ∧ (s.mode = mBOOT → sel ≠ 3 → s.cip.fuseRun = none → nbit s.fused sel = false →
            Gives (.fuseProgram m sel) s fun t => t.cip = { s.cip with fuseRun := some sel } ∧ t.fld CIP_FUSECTL_SEL = sel ∧ t.flag CIP_FUSECTL_GO = true ∧ s.RegsOnly { t with cip := s.cip } [CIP_FUSECTL.at 0 0 0])
        ∧ (s.mode = mBOOT → sel ≠ 3 → nbit s.fused sel = true → Gives (.fuseProgram m sel) s fun t => t.cip = s.cip))
    ∧ (∀ k, k < 3 → s.cip.fuseRun = some k → Gives .fuseProgramDone s fun t => t.cip.fuseRun = none ∧ nbit t.fused k = true ∧ t.flag CIP_FUSECTL_GO = false
        ∧ mfind t.cip.fuse k = some ((List.range 8).foldl (fun n w => n + (mget 0 s.cip.fuseData w).toNat * 2 ^ (32 * w)) 0) ∧ (∀ i, i ≠ k → t.fuseKey i = s.fuseKey i))

/-! ### Cores, events, mailboxes -/

/-- R375, R376, R378, R381, R424: a core that runs executes the instruction at its pc: arithmetic, jumps, branches, loads, stores, reservations and atomics,
CSRs, traps and the return from them; the rows for single instructions and for taking an interrupt do the same. -/
def Obligations.CoresExecuteTrapAndReturn : Prop :=
  ∀ (n : CoreId) (s : State), s.ok = true → s.coreRuns n = true → (s.core n).wfi = false → (s.core n).stepping = false → sortedFrom none (s.core n).x = true →
    let kept (a b : State) : Prop := ∀ k : CoreId, k ≠ n → b.core k = a.core k
    let trapped (c : Core) (cause : Nat) (irq : Bool) (u : State) : Prop :=
      let d := u.core n
      d.mepc = c.pc ∧ d.mcause = BitVec.ofNat 64 (cause + if irq then 2 ^ 63 else 0) ∧ d.mstatusMPIE = c.mstatusMIE ∧ d.mstatusMIE = false ∧ d.mstatusMPPU = c.user ∧ d.user = false
        ∧ d.pc = BitVec.ofNat 64 (c.mtvec.toNat / 4 * 4 + if irq ∧ c.mtvec.toNat % 4 = 1 then 4 * cause else 0) ∧ d.x = c.x
    (∀ (t : State) (bits len : Nat), s.bpMatch n = none → fetchInstr n s = (t, .ok bits len) → t.ok = true → (t.core n).stepping = false → sortedFrom none (t.core n).x = true →
        let op := if len = 2 then decode16 bits else decode32 bits
        let c := t.core n
        let next := c.pc + BitVec.ofNat 64 len
        let x (r : Nat) : DWord := BitVec.ofNat 64 (c.gpr r)
        let go := Instr.coreInstruction n
        let moved (rd : Nat) (v pc : DWord) (m : List Host.Cell) (u : State) : Prop :=
          (∀ r, (u.core n).gpr r = if r = rd ∧ r ≠ 0 then v.toNat else c.gpr r) ∧ (u.core n).pc = pc ∧ u.mem = m ∧ (u.core n).user = c.user ∧ (u.core n).mepc = c.mepc
        let plain (rd : Nat) (v pc : DWord) : Prop := Gives go s fun u => moved rd v pc t.mem u ∧ kept t u
          ∧ (u.core n).minstret = (if nbit c.mcountinhibit.toNat 2 then c.minstret else c.minstret + 1)
        (∀ k w rd r1 r2, op = .alu k w rd r1 r2 → plain rd (aluVal k w (x r1) (x r2)) next)
        ∧ (∀ k w rd r1 imm, op = .aluImm k w rd r1 imm → plain rd (aluVal k w (x r1) imm) next)
        ∧ (∀ rd imm, (op = .lui rd imm → plain rd imm next) ∧ (op = .auipc rd imm → plain rd (c.pc + imm) next) ∧ (op = .jal rd imm → plain rd next (c.pc + imm)))
        ∧ (∀ rd r1 imm, op = .jalr rd r1 imm → plain rd next ((x r1 + imm) &&& ~~~1))
        ∧ (∀ f3 r1 r2 off, op = .branch f3 r1 r2 off → plain 0 0 (if branchTaken f3 (x r1) (x r2) then c.pc + off else next))
        ∧ (op = .fence → plain 0 0 next)
        ∧ (∀ f3 rd r1 imm v t2, op = .load f3 rd r1 imm →
            let a := (x r1 + imm).toNat
            let k := 2 ^ (f3 % 4)
            misaligned a k = false → busRead (coreMaster n) c.userAccess .read a k t = (t2, .ok v) → t2.cores = t.cores → s.wpMatch n (some (a, k, true, false)) = none →
              Gives go s (moved rd (loadExt f3 v) next t2.mem))
        ∧ (∀ f3 rd r1 imm info t2, op = .load f3 rd r1 imm → misaligned (x r1 + imm).toNat (2 ^ (f3 % 4)) = false →
            busRead (coreMaster n) c.userAccess .read (x r1 + imm).toNat (2 ^ (f3 % 4)) t = (t2, .err info) → t2.cores = t.cores →
              Gives go s fun u => trapped c 5 false u ∧ (u.core n).mfaultinfo = info)
        ∧ (∀ f3 r1 r2 imm w t2, op = .store f3 r1 r2 imm →
            let a := (x r1 + imm).toNat
            let k := 2 ^ f3
            misaligned a k = false → busWrite (coreMaster n) c.userAccess .write a k ((x r2).toNat % 2 ^ (8 * k)) t = (.next t2, .ok w) → t2.cores = t.cores →
              s.wpMatch n (some (a, k, false, true)) = none → Gives go s (moved 0 0 next t2.mem))
        ∧ (∀ w rd r1 r2, op = .sc w rd r1 r2 →
            let a := (x r1).toNat
            let k := if w then 4 else 8
            a % k = 0 → (c.resv ≠ some (a / 8 * 8) → Gives go s fun u => moved rd 1 next t.mem u ∧ (u.core n).resv = none)
            ∧ (∀ t2 v, c.resv = some (a / 8 * 8) → busWrite (coreMaster n) c.userAccess .write a k ((x r2).toNat % 2 ^ (8 * k)) t = (.next t2, .ok v) → t2.ok = true →
                (t2.core n).x = c.x → (t2.core n).pc = c.pc → (t2.core n).user = c.user → (t2.core n).mepc = c.mepc → (t2.core n).stepping = false →
                s.wpMatch n (some (a, k, false, true)) = none → Gives go s fun u => moved rd 0 next t2.mem u ∧ (u.core n).resv = none))
        ∧ (op = .ecall → Gives go s (trapped c (if c.user then 8 else 11) false)) ∧ (op = .illegal → Gives go s (trapped c 2 false))
        ∧ (op = .mret → c.user = false → Gives go s fun u => (u.core n).pc = c.mepc ∧ (u.core n).user = c.mstatusMPPU ∧ (u.core n).mstatusMIE = c.mstatusMPIE
            ∧ (u.core n).mstatusMPIE = true ∧ (u.core n).mstatusMPPU = true ∧ (u.core n).x = c.x)
        ∧ (op = .mret → c.user = true → Gives go s (trapped c 2 false))
        ∧ (op = .wfi → c.user = false → t.mip n &&& c.mie.toNat = 0 → Gives go s fun u => (u.core n).wfi = true ∧ (u.core n).pc = next)
        ∧ (∀ rd r1, op = .csr 1 rd r1 0x340 → c.user = false → Gives go s fun u => (u.core n).mscratch = x r1
            ∧ (∀ r, (u.core n).gpr r = if r = rd ∧ r ≠ 0 then c.mscratch.toNat else c.gpr r) ∧ (u.core n).pc = next))
    ∧ (∀ i, s.bpMatch n = some i → exec (.coreInstruction n) s = .next (jdpHalt n 3 i s))
    ∧ (let c := s.core n
       Gives (.fenceI n) s (fun u => (u.core n).icache = [] ∧ (u.core n).pc = c.pc + 4 ∧ (u.core n).x = c.x ∧ u.mem = s.mem ∧ kept s u)
       ∧ (∀ z, (s.flag JDP_CCTL_EBRK n = true → c.user = false → Gives (.ebreak n z) s fun u => u.flag EVR_CORE_HALTED n = true ∧ u.fld JDP_CSTAT_CAUSE n = 5 ∧ (u.core n).pc = c.pc)
            ∧ (s.flag JDP_CCTL_EBRK n = false ∨ c.user = true → Gives (.ebreak n z) s fun u => trapped c 3 false u ∧ kept s u))
       ∧ (c.user = false →
            (∀ rd : Fin 32, (∀ v, s.claimNext n = some v → Gives (.mevclaim n rd) s fun u => (∀ r, (u.core n).gpr r = if r = rd.val ∧ r ≠ 0 then 64 + v else c.gpr r)
                ∧ u.pendingVec n v = false ∧ u.inServiceVec n v = true ∧ (u.core n).pc = c.pc + 4)
              ∧ (s.claimNext n = none → Gives (.mevclaim n rd) s fun u => (∀ r, (u.core n).gpr r = if r = rd.val ∧ r ≠ 0 then 0 else c.gpr r)
                ∧ ∀ w, u.pendingVec n w = s.pendingVec n w ∧ u.inServiceVec n w = s.inServiceVec n w))
            ∧ (∀ rs : Fin 32, let v := c.gpr rs % 64
                Gives (.mevcomplete n rs) s (fun u => u.inServiceVec n v = false ∧ (u.core n).pc = c.pc + 4 ∧ (u.core n).x = c.x ∧ ∀ w, w < 64 → w ≠ v → u.inServiceVec n w = s.inServiceVec n w)
                ∧ Gives (.mevthresh n rs) s fun u => (u.core n).mevthresh = c.gpr rs % 16 ∧ (u.core n).pc = c.pc + 4 ∧ (u.core n).x = c.x ∧ u.mem = s.mem)
            ∧ Gives (.mwdkick n) s fun u => u.flag EVR_WDOG_WARNED n = false ∧ u.flag EVR_WDOG_EXPIRED n = false ∧ (u.core n).pc = c.pc + 4 ∧ (u.core n).x = c.x ∧ u.mem = s.mem)
       ∧ (∀ code : Fin 64, (s.irqReady n code = true → Gives (.interruptTake n code) s fun u => trapped c code true u ∧ kept s u ∧ u.mem = s.mem)
            ∧ (s.irqReady n code = false → exec (.interruptTake n code) s = .next s)))

/-- R376–R378, R380–R386: a raise sets RAW, and where its route is enabled the vector pending with its priority and a record in the ring, unless the ring is
full; software raises likewise; the timer asserts its interrupt; lockstep and the watchdog warn, halt and report; mailboxes take a message, refuse a second
one and hand it out. -/
def Obligations.EventsWatchdogsAndMailboxesReachTheCores : Prop :=
  ∀ s : State, s.ok = true →
    (∀ (src : Fin 640) (payload : DWord),
        let go := Instr.eventRaise src payload
        let n := s.fld EVR_ROUTE0_CORE src
        let vec := s.fld EVR_ROUTE0_VEC src
        let prio := s.fld EVR_ROUTE1_PRIO src
        let size := 2 ^ s.fld EVR_RING_HI_SIZE n
        let wr := s.fld EVR_RWR_INDEX n
        let a := s.fld EVR_RING_LO_ADDR n + 2 ^ 32 * s.fld EVR_RING_HI_ADDR n + 16 * wr
        (evAssigned src = false ∨ s.domOn (evDomain src) = false → exec go s = .next s)
        ∧ (evAssigned src = true → s.domOn (evDomain src) = true →
            Gives go s (fun t => s.Reported t ∧ nbit (t.fld EVR_RAW_RAISED (src.val / 32)) (src.val % 32) = true)
            ∧ (s.flag EVR_ROUTE0_ENA src = false → Gives go s fun t => t.mem = s.mem ∧ t.evr = s.evr)
            ∧ (s.flag EVR_ROUTE0_ENA src = true → sortedFrom none s.evr.prio = true → s.flag EVR_ROUTE0_REC src = false →
                Gives go s fun t => t.pendingVec n vec = true ∧ t.vecPrio n vec = max prio (s.vecPrio n vec) ∧ t.mem = s.mem)
            ∧ (s.flag EVR_ROUTE0_ENA src = true → s.flag EVR_ROUTE0_REC src = true →
                ((wr + 1) % size ≠ s.fld EVR_RRD_INDEX n % size → s.ringWritable n a 16 = true → size ≤ 4096 → Gives go s fun t =>
                    t.pendingVec n vec = true ∧ t.rawNat a 16 = evRecord src vec prio (s.fld EVR_RWR_PHASE n) (s.fld TCK_COUNT_LO_COUNT) payload.toNat
                    ∧ t.fld EVR_RWR_INDEX n = (wr + 1) % size ∧ t.fld EVR_RWR_PHASE n = (if (wr + 1) % size = 0 then 1 - s.fld EVR_RWR_PHASE n else s.fld EVR_RWR_PHASE n)
                    ∧ ∀ b, b < a ∨ a + 16 ≤ b → t.byte b = s.byte b)
                ∧ ((wr + 1) % size = s.fld EVR_RRD_INDEX n % size → Gives go s fun t => t.pendingVec n vec = true ∧ nbit (t.fld EVR_STAT_RECOVF) n = true))))
    ∧ (∀ (m : MasterId) (index : Fin 64) (src : Fin 640), s.MayWrite m EVR_SWRAISE → src.val = 544 + index.val → exec (.softwareRaise m index) s = exec (.eventRaise src 0) s)
    ∧ (∀ n : CoreId,
        (s.mode ≠ mDORMANT → Gives (.machineTimerMatch n) s fun t => t.mtime = max s.mtime (s.pair EVR_MTIMECMP_LO_CMP EVR_MTIMECMP_HI_CMP n) ∧ nbit (t.mip n) 7 = true ∧ t.mem = s.mem)
        ∧ (s.coreRuns n = true → nbit (s.fld JDP_STAT_SPLIT) n = false → Gives (.lockstepMismatch n) s fun t => t.flag EVR_CORE_HALTED n = true ∧ t.fld EVR_CORE_HALTCAUSE n = 1
            ∧ t.flag JDP_CSTAT_HALTED n = true ∧ t.fld JDP_CSTAT_CAUSE n = 6 ∧ s.Latched t n)
        ∧ (s.wdogRuns n = true → s.flag EVR_WDOG_WARNED n = false → Gives (.watchdogWarning n) s fun t => t.flag EVR_WDOG_WARNED n = true ∧ nbit (t.mip n) 16 = true
            ∧ t.flag EVR_CORE_HALTED n = false)
        ∧ (s.wdogRuns n = true → s.flag EVR_WDOG_WARNED n = true → Gives (.watchdogExpiry n) s fun t => t.flag EVR_WDOG_EXPIRED n = true ∧ t.flag EVR_CORE_HALTED n = true
            ∧ t.fld EVR_CORE_HALTCAUSE n = 2 ∧ s.Latched t (8 + n))
        ∧ (∀ (m : MasterId) (period : BitVec 16), s.MayWrite m EVR_WDOG n → Gives (.watchdogPeriodWrite m n period) s fun t => t.fld EVR_WDOG_PERIOD n = period.toNat
            ∧ t.flag EVR_WDOG_WARNED n = false ∧ t.flag EVR_WDOG_EXPIRED n = false ∧ s.RegsOnly t [EVR_WDOG.at n 0 0]))
    ∧ (∀ (m : MasterId) (k : Fin 64), s.domOn (s.fld MBX_CFG_DOMAIN k) = true → m ≤ 9 → sortedFrom none s.mbx.msgs = true → sortedFrom none s.mbx.sendLatch = true → sortedFrom none s.mbx.rlatch = true →
        (∀ ptr : Word, s.mapAllows m .write (0x41601000 + 16 * k) = true →
            Gives (.mbxSendlo m k ptr) s fun t => mget 0 t.mbx.sendLatch m = ptr ∧ t = { s with mbx.sendLatch := t.mbx.sendLatch })
        ∧ (∀ (ptr : Byte) (tag : BitVec 16), s.mapAllows m .write (0x41601004 + 16 * k) = true →
            (mfind s.mbx.msgs k = none → Gives (.mbxSendhi m k ptr tag) s fun t => mfind t.mbx.msgs k = some ((mget 0 s.mbx.sendLatch m).toNat + ptr.toNat * 2 ^ 32 + tag.toNat * 2 ^ 40)
                ∧ (if k.val < 32 then nbit (t.fld MBX_FULL_LO_FULL) k else nbit (t.fld MBX_FULL_HI_FULL) (k.val - 32)) = true ∧ ∀ j, j ≠ k.val → mfind t.mbx.msgs j = mfind s.mbx.msgs j)
            ∧ ((mfind s.mbx.msgs k).isSome = true → Gives (.mbxSendhi m k ptr tag) s fun t => t.mbx = s.mbx ∧ t.fld MBX_REJCNT_COUNT = (s.fld MBX_REJCNT_COUNT + 1) % 2 ^ 32
                ∧ t.out = s.out ++ [.busError m (0x41601004 + 16 * k)]))
        ∧ (∀ msg, s.mapAllows m .read (0x41601008 + 16 * k) = true → mfind s.mbx.msgs k = some msg → Gives (.mbxRecv m k) s fun t => mfind t.mbx.msgs k = none
            ∧ mget 0 t.mbx.rlatch m = BitVec.ofNat 32 msg ∧ t.out = s.out ++ [.busData m (0x41601008 + 16 * k) (nbits msg 32 8 + 2 ^ 8 + nbits msg 40 16 * 2 ^ 16)])
        ∧ (s.mapAllows m .read (0x41601008 + 16 * k) = true → mfind s.mbx.msgs k = none → exec (.mbxRecv m k) s = .next (s.emit (.busData m (0x41601008 + 16 * k) 0))))

/-! ### Performance monitor, debug port, control bus -/

/-- R416–R420: the counters freeze, unfreeze, clear and are captured; a snapshot is written or stays incomplete; a reported overflow samples the pc,
raises its event and freezes as its counter's selection says; a read of the sampled pc takes it.  A core's user mode reads the counter groups and PMU_OVF where PMU_USER lets it and 0
elsewhere in the window, its stores there are ignored, and no other block checks the privilege. -/
def Obligations.CountersFreezeSnapshotAndReport : Prop :=
  ∀ s : State, s.ok = true →
    (∀ m : MasterId, s.MayWrite m PMU_GCMD →
        Gives (.freeze m) s (fun t => t.flag PMU_GCTL_FROZEN = true ∧ s.RegsOnly t [PMU_GCTL.at 0 0 0])
        ∧ Gives (.unfreeze m) s (fun t => t.flag PMU_GCTL_FROZEN = false ∧ s.RegsOnly t [PMU_GCTL.at 0 0 0])
        ∧ (s.flag PMU_STAT_SNAPBUSY = false → Gives (.snap m) s fun t => t.flag PMU_STAT_SNAPBUSY = true ∧ t.pmu = { s.pmu with snap := s.snapshot, snapNo := s.pmu.snapNo + 1 }
            ∧ s.RegsOnly { t with pmu := s.pmu } [PMU_STAT.at 0 0 0])
        ∧ (s.flag PMU_STAT_SNAPBUSY = true → Gives (.snap m) s fun t => t.flag PMU_STAT_SNAPREF = true ∧ t.pmu = s.pmu ∧ s.RegsOnly t [PMU_STAT.at 0 0 0])
        ∧ Gives (.clear m) s fun t => (∀ i, i < 256 → t.pair PMU_CNT_LO_COUNT PMU_CNT_HI_COUNT i = 0) ∧ (∀ w, w < 8 → t.fld PMU_OVF_OVF w = 0) ∧ t.pmu = s.pmu ∧ t.mem = s.mem)
    ∧ (∀ s1, s.flag PMU_STAT_SNAPBUSY = true →
        (∀ v, s1.ok = true → snapWrite s = (s1, .ok v) → ∃ u, exec .snapshotDone s = .next (raise EV_PMU_SNAP 0 u) ∧ u.flag PMU_STAT_SNAPBUSY = false ∧ u.mem = s1.mem)
        ∧ (∀ i, s1.ok = true → snapWrite s = (s1, .err i) → Gives .snapshotDone s fun t => t.flag PMU_STAT_SNAPBUSY = false ∧ t.flag PMU_STAT_SNAPREF = true ∧ t.mem = s1.mem)
        ∧ (snapWrite s = (s1, .wait) → exec .snapshotDone s = .next s))
    ∧ (s.flag PMU_STAT_SNAPBUSY = false → exec .snapshotDone s = .next s)
    ∧ (∀ (i : Fin 256) (pc : Addr), i.val ∈ s.pmu.due →
        let n := s.fld PMU_SAMPLE_CORE
        let at' := if s.coreRuns n && !(s.core n).wfi then pc.toNat else (s.core n).pc.toNat % 2 ^ 40
        (s.flag PMU_SEL_SAMPLE i = false → s.flag PMU_SEL_OVFEV i = false → exec (.counterOverflow i pc) s = .next { s with pmu.due := s.pmu.due.erase i.val })
        ∧ (s.flag PMU_SEL_SAMPLE i = true → Gives (.counterOverflow i pc) s fun t => t.fld PMU_SPC_LO_PC = at' % 2 ^ 32 ∧ t.fld PMU_SPC_HI_PC = at' / 2 ^ 32 ∧ t.flag PMU_SPC_HI_VALID = true
            ∧ (s.flag PMU_SPC_HI_VALID = true → t.flag PMU_STAT_SAMPLEOVF = true))
        ∧ (s.flag PMU_SEL_OVFEV i = true → s.flag PMU_GCTL_FRZOVF = true → Gives (.counterOverflow i pc) s fun t => t.flag PMU_GCTL_FROZEN = true))
    ∧ (∀ (i : Fin 256) (pc : Addr), i.val ∉ s.pmu.due → exec (.counterOverflow i pc) s = .next s)
    ∧ (∀ m : MasterId, s.mapAllows m .read (0x40000000 + PMU_SPC_HI.off) = true → Gives (.samplePcRead m) s fun t => t.flag PMU_SPC_HI_VALID = false
        ∧ t.out = s.out ++ [.busData m (0x40000000 + PMU_SPC_HI.off) (s.reg PMU_SPC_HI).toNat] ∧ t.mem = s.mem)
    ∧ (∀ (m : MasterId) (off v : Nat), inPmu off = true → off % 4 = 0 →
        let a := 0x40000000 + off
        (s.mapAllowsAll m .read a 4 = true →
          (nbit (s.fld PMU_USER_READ) m = true → (0x1901000 ≤ off ∧ off < 0x1902000) ∨ (PMU_OVF.off ≤ off ∧ off < PMU_OVF.off + 32) →
            busRead m true .read a 4 s = busRead m false .read a 4 s)
          ∧ (nbit (s.fld PMU_USER_READ) m = false ∨ ¬ ((0x1901000 ≤ off ∧ off < 0x1902000) ∨ (PMU_OVF.off ≤ off ∧ off < PMU_OVF.off + 32)) →
            busRead m true .read a 4 s = (s, .ok 0)))
        ∧ (s.mapAllowsAll m .write a 4 = true → busWrite m true .write a 4 v s = (.next s, .ok 0)))
    ∧ (∀ (m : MasterId) (ty : Acc) (a n v : Nat), a < 0x41900000 ∨ 0x41A00000 ≤ a →
        busRead m true ty a n s = busRead m false ty a n s ∧ busWrite m true ty a n v s = busWrite m false ty a n v s)

/-- R423–R426: a running pair halts, a halted one resumes or runs one instruction, unless lockstep or the watchdog halted it and it is not split; a command that
does not fit sets RERR; breakpoints and watchpoints halt with their number; registers of a halted pair are read and written. -/
def Obligations.DebugHaltsStepsAndReadsCores : Prop :=
  ∀ (s : State) (m : MasterId) (n : CoreId), s.ok = true → sortedFrom none (s.core n).x = true →
    (s.MayWrite m JDP_CCTL n →
        (s.coreRuns n = true → Gives (.halt m n) s fun t => t.flag EVR_CORE_HALTED n = true ∧ t.fld EVR_CORE_HALTCAUSE n = 3 ∧ t.flag JDP_CSTAT_HALTED n = true ∧ t.fld JDP_CSTAT_CAUSE n = 1
            ∧ (t.core n).pc = (s.core n).pc ∧ (t.core n).x = (s.core n).x)
        ∧ (s.coreRuns n = false → Gives (.halt m n) s fun t => t.flag JDP_CSTAT_RERR n = true ∧ s.RegsOnly t [JDP_CSTAT.at n 0 0])
        ∧ (s.mayResume n = true → Gives (.resumeCore m n) s fun t => t.flag EVR_CORE_HALTED n = false ∧ t.fld EVR_CORE_HALTCAUSE n = 0 ∧ t.flag JDP_CSTAT_HALTED n = false
            ∧ (t.core n).pc = (s.core n).pc ∧ (t.core n).x = (s.core n).x)
        ∧ (s.mayResume n = false → Gives (.resumeCore m n) s (fun t => t.flag JDP_CSTAT_RERR n = true ∧ s.RegsOnly t [JDP_CSTAT.at n 0 0])
            ∧ Gives (.step m n) s fun t => t.flag JDP_CSTAT_RERR n = true ∧ s.RegsOnly t [JDP_CSTAT.at n 0 0])
        ∧ (s.mayResume n = true →
            let s1 := modCore n (fun k => { k with stepping := true, wfi := false }) (coreGo n s)
            exec (.step m n) s = coreRun n s1
            ∧ (∀ t bits len, (s.core n).released = true → s.domOn dCTRL = true → s.mode ≠ mDORMANT → s1.bpMatch n = none → fetchInstr n s1 = (t, .ok bits len) → t.ok = true →
                (t.core n).stepping = true → (if len = 2 then decode16 bits else decode32 bits) = .fence →
                Gives (.step m n) s fun u => u.flag JDP_CSTAT_HALTED n = true ∧ u.fld JDP_CSTAT_CAUSE n = 2 ∧ (u.core n).pc = (t.core n).pc + BitVec.ofNat 64 len))
        ∧ (s.flag JDP_CSTAT_HALTED n = true → Gives (.split m n) s fun t => nbit (t.fld JDP_STAT_SPLIT) n = true ∧ s.RegsOnly t [JDP_STAT.at 0 0 0])
        ∧ (s.flag JDP_CSTAT_HALTED n = false → exec (.split m n) s = .next s)
        ∧ Gives (.iinv m n) s fun t => (t.core n).icache = [] ∧ (t.core n).pc = (s.core n).pc ∧ (t.core n).x = (s.core n).x ∧ t = { s with cores := t.cores })
    ∧ (∀ i : Fin 8, s.coreRuns n = true → (s.core n).wfi = false → s.bpMatch n = some i.val →
        Gives (.breakpointHit n i) s fun t => t.flag EVR_CORE_HALTED n = true ∧ t.fld JDP_CSTAT_CAUSE n = 3 ∧ t.fld JDP_CSTAT_INDEX n = i ∧ (t.core n).pc = (s.core n).pc)
    ∧ (∀ (j : Fin 4) (t : State), s.coreRuns n = true → exec (.coreInstruction n) s = .next t → t.fld JDP_CSTAT_CAUSE n = 4 → t.fld JDP_CSTAT_INDEX n = j → exec (.watchpointHit n j) s = .next t)
    ∧ (∀ (j : Fin 4) (t t2 : State) (bits len f3 r1 r2 w : Nat) (imm : DWord), s.coreRuns n = true → (s.core n).wfi = false → s.bpMatch n = none → fetchInstr n s = (t, .ok bits len) →
        (if len = 2 then decode16 bits else decode32 bits) = .store f3 r1 r2 imm →
        let a := (BitVec.ofNat 64 ((t.core n).gpr r1) + imm).toNat
        let k := 2 ^ f3
        misaligned a k = false → busWrite (coreMaster n) (t.core n).userAccess .write a k ((BitVec.ofNat 64 ((t.core n).gpr r2)).toNat % 2 ^ (8 * k)) t = (.next t2, .ok w) →
        t2.ok = true → s.wpMatch n (some (a, k, false, true)) = some j.val →
        Gives (.watchpointHit n j) s fun u => u.flag EVR_CORE_HALTED n = true ∧ u.fld JDP_CSTAT_CAUSE n = 4 ∧ u.fld JDP_CSTAT_INDEX n = j
          ∧ (u.core n).pc = (t.core n).pc + BitVec.ofNat 64 len)
    ∧ (∀ (num : BitVec 12) (csr write differ : Bool), s.MayWrite m JDP_RSEL n →
        let go := Instr.coreRegisterAccess m n num csr write differ
        let i := num.toNat
        (s.flag JDP_CSTAT_HALTED n = false → Gives go s fun t => t.flag JDP_CSTAT_RERR n = true ∧ t.cores = s.cores)
        ∧ (s.flag JDP_CSTAT_HALTED n = true →
            (csr = false → 32 < i → Gives go s fun t => t.flag JDP_CSTAT_RERR n = true ∧ t.cores = s.cores)
            ∧ (csr = true → csrExists i = false → Gives go s fun t => t.flag JDP_CSTAT_RERR n = true ∧ t.cores = s.cores)
            ∧ (write = false → (differ = false ∨ nbit (s.fld JDP_STAT_SPLIT) n = true) →
                (csr = false → i < 32 → Gives go s fun t => t.rdata n = (s.core n).gpr i ∧ t.cores = s.cores)
                ∧ (csr = false → i = 32 → Gives go s fun t => t.rdata n = (s.core n).pc.toNat ∧ t.cores = s.cores)
                ∧ (csr = true → i = 0x340 → Gives go s fun t => t.rdata n = (s.core n).mscratch.toNat ∧ t.cores = s.cores))
            ∧ (write = false → differ = true → nbit (s.fld JDP_STAT_SPLIT) n = false → csr = false → i ≤ 32 → Gives go s fun t => t.fld EVR_CORE_HALTCAUSE n = 1 ∧ s.Latched t n)
            ∧ (write = true → (csr = false → i < 32 → Gives go s fun t => (∀ r, (t.core n).gpr r = if r = i ∧ r ≠ 0 then s.rdata n else (s.core n).gpr r) ∧ (t.core n).pc = (s.core n).pc)
                ∧ (csr = false → i = 32 → Gives go s fun t => (t.core n).pc = BitVec.ofNat 64 (s.rdata n / 2 * 2) ∧ (t.core n).x = (s.core n).x)
                ∧ (csr = true → i = 0x340 → Gives go s fun t => (t.core n).mscratch = BitVec.ofNat 64 (s.rdata n) ∧ (t.core n).x = (s.core n).x))))

/-- R421, R422, R427: a port transaction with a bad check gets no status; a good one attaches the probe; reads answer the port registers, writes set them; a
repeated request is answered again and not performed again; bus accesses run one at a time, by master 8, and end with data or an error. -/
def Obligations.TheDebugPortAnswersAndAccessesTheBus : Prop :=
  ∀ s : State, s.ok = true →
    let att (t : State) : State := if s.flag JDP_STAT_ATTACHED then t else raise EV_JDP_ATTACH 0 (t.setFld JDP_STAT_ATTACHED 1)
    let s1 := att s
    let ans (status : Nat) (data : List Nat) : Output := .frame "JDIO" "status" (status :: data)
    (∀ (word : BitVec 12) (data : Word) (crc : Byte),
        (word.toNat % 16 ≠ crc4 word.toNat ∨ nbit word.toNat 4 = true → exec (.jdpPortRequest word data crc) s = .next (s.emit (ans 15 [])))
        ∧ (∀ (reg : Nat) (seq : Bool), word.toNat = requestWord 0 reg seq → reg < 4 ∨ reg = 5 → (∀ v, s.jdp.lastR ≠ some (seq, reg, v)) →
            let v := nth 0 [0x4A447232, s1.jst, s.jdp.jba % 2 ^ 32, s.jdp.jba / 2 ^ 32, 0, b2n s.jdp.autoinc] reg
            Gives (.jdpPortRequest word data crc) s fun t => t.out = s.out ++ [ans 10 [v, crc8 v]] ∧ t.jdp = { s.jdp with lastR := some (seq, reg, v) } ∧ t.flag JDP_STAT_ATTACHED = true)
        ∧ (∀ (reg v : Nat) (seq : Bool), word.toNat = requestWord 0 reg seq → reg < 6 → s.jdp.lastR = some (seq, reg, v) →
            Gives (.jdpPortRequest word data crc) s fun t => t.out = s.out ++ [ans 10 [v, crc8 v]] ∧ t.jdp = s.jdp)
        ∧ (∀ (reg : Nat) (seq : Bool), word.toNat = requestWord 1 reg seq → reg < 6 → s.jdp.lastW = some (seq, reg) →
            Gives (.jdpPortRequest word data crc) s fun t => t.out = s.out ++ [ans 10 []] ∧ t.jdp = s.jdp)
        ∧ (∀ seq : Bool, word.toNat = requestWord 1 2 seq → s.jdp.lastW ≠ some (seq, 2) → crc.toNat = crc8 data.toNat →
            (s.jdp.busy = none → Gives (.jdpPortRequest word data crc) s fun t => t.out = s.out ++ [ans 10 []]
                ∧ t.jdp = { s.jdp with jba := s.jdp.jba / 2 ^ 32 * 2 ^ 32 + data.toNat / 4 * 4, lastW := some (seq, 2) })
            ∧ (s.jdp.busy ≠ none → exec (.jdpPortRequest word data crc) s = .fault (.undefinedCase "JBA or JMODE changed while JST.BUSY is 1")))
        ∧ (∀ (reg : Nat) (seq : Bool), word.toNat = requestWord 1 reg seq → reg < 6 → s.jdp.lastW ≠ some (seq, reg) → reg = 4 → s.jdp.busy = none → crc.toNat ≠ crc8 data.toNat →
            Gives (.jdpPortRequest word data crc) s fun t => t.jdp = { s.jdp with crcerr := true })
        ∧ (∀ (op reg : Nat) (seq : Bool), word.toNat = requestWord op reg seq → op < 4 → reg < 16 → 2 ≤ op ∨ 6 ≤ reg → Gives (.jdpPortRequest word data crc) s fun t =>
            t.out = s.out ++ [ans 6 []] ∧ t.jdp = s.jdp))
    ∧ (∀ (seq : Bool) (data : Word) (crc : Byte), crc.toNat = crc8 data.toNat →
        (s.jdp.lastW ≠ some (seq, 1) → Gives (.jstWrite seq data crc) s fun t => t.out = s.out ++ [ans 10 []] ∧ t.jdp.lastW = some (seq, 1)
            ∧ (nbit data.toNat 0 = true → t.jdp.berr = false ∧ t.jdp.crcerr = false ∧ t.jdp.berrcnt = 0) ∧ (nbit data.toNat 1 = true → t.jdp.busy = none) ∧ t.jdp.jba = s.jdp.jba)
        ∧ (s.jdp.lastW ≠ some (seq, 4) → s.jdp.busy = none → Gives (.jbdWrite seq data crc) s fun t => t.out = s.out ++ [ans 10 []]
            ∧ t.jdp = { s.jdp with busy := some (true, s.jdp.jba, data.toNat), done := none, lastW := some (seq, 4) })
        ∧ (s.jdp.lastW ≠ some (seq, 4) → s.jdp.busy ≠ none → Gives (.jbdWrite seq data crc) s fun t => t.out = s.out ++ [ans 12 []] ∧ t.jdp = s.jdp))
    ∧ (∀ seq : Bool, (∀ v, s.jdp.lastR ≠ some (seq, 4, v)) →
        (s.jdp.busy ≠ none → Gives (.jbdRead seq) s fun t => t.out = s.out ++ [ans 12 []] ∧ t.jdp = s.jdp)
        ∧ (s.jdp.busy = none → s.jdp.done = none → Gives (.jbdRead seq) s fun t => t.out = s.out ++ [ans 12 []] ∧ t.jdp = { s.jdp with busy := some (false, s.jdp.jba, 0) })
        ∧ (∀ v, s.jdp.busy = none → s.jdp.done = some v → Gives (.jbdRead seq) s fun t => t.out = s.out ++ [ans 10 [v, crc8 v]]
            ∧ t.jdp = { s.jdp with done := none, lastR := some (seq, 4, v) }))
    ∧ Gives .lineReset s (fun t => t.flag JDP_STAT_ATTACHED = false ∧ t.jdp = { s.jdp with lastW := none, lastR := none, done := none } ∧ t.mem = s.mem ∧ t.out = s.out)
    ∧ (∀ (write : Bool) (a v : Nat), s.jdp.busy = some (write, a, v) → s.mode ≠ mDORMANT →
        let jba := if s.jdp.autoinc then (s.jdp.jba + 4) % 2 ^ 40 else s.jdp.jba
        (∀ t r, write = false → busRead 8 false .read a 4 s = (t, .ok r) → t.jdp = s.jdp → exec .jbdAccessDone s = .next { t with jdp := { s.jdp with busy := none, done := some r, jba := jba } })
        ∧ (∀ t i, write = false → busRead 8 false .read a 4 s = (t, .err i) → t.jdp = s.jdp → exec .jbdAccessDone s = .next
            { t with jdp := { s.jdp with busy := none, done := some 0, jba := jba, berr := true, berrcnt := min 255 (s.jdp.berrcnt + 1) } })
        ∧ (∀ t r, write = true → busWrite 8 false .write a 4 v s = (.next t, .ok r) → t.jdp = s.jdp → exec .jbdAccessDone s = .next { t with jdp := { s.jdp with busy := none, jba := jba } })
        ∧ (∀ t i, write = true → busWrite 8 false .write a 4 v s = (.next t, .err i) → t.jdp = s.jdp → exec .jbdAccessDone s = .next
            { t with jdp := { s.jdp with busy := none, jba := jba, berr := true, berrcnt := min 255 (s.jdp.berrcnt + 1) } }))

/-- R9–R12, R18, R19, R72, R75, R370, R449: a register access of another size or alignment ends with an error response and has no effect; a register write by a master that the map allows changes the bits that the access types let it change, in that
register alone; a commit copies the staged values; other register space and plain stores to ROM and code flash and accesses outside the map are errors that
line 22 records. -/
def Obligations.RegistersAreWrittenByTheirAccessTypes : Prop :=
  ∀ (s : State) (m : MasterId), s.ok = true →
    (∀ (off : BitVec 26) (v : Word), s.mapAllowsAll m .write (0x40000000 + off.toNat) 4 = true → off.toNat % 4 = 0 →
        let o := off.toNat
        let go := Instr.registerWrite m off v
        (∀ b r i j k, blkOf o = some b → s.blkOn b = true → viewOf b o = none → ¬ (hasRws b = true ∧ o = (blk b).base + 0xFF0) → regAt o = some (r, i, j, k) → r.at i j k = o →
            o < 0x1B00000 → badWrite r i v s = none → specialWrite m r i j v s = none →
            let old := s.reg r i j k
            let w := clampSize r v
            let set := r.rw ||| r.rws ||| (if s.mode = mBOOT then r.rwb else 0)
            let new := (old &&& ~~~(set ||| r.w1c)) ||| (w &&& set) ||| (old &&& r.w1c &&& ~~~w) ||| (w &&& r.w1s)
            (s.mode = mBOOT ∨ (old ^^^ w) &&& r.rwb = 0 → Gives go s fun t => t.reg r i j k = new &&& r.mask ∧ s.RegsOnly t [o])
            ∧ (s.mode ≠ mBOOT → (old ^^^ w) &&& r.rwb ≠ 0 → exec go s = .next (accessError m .write (0x40000000 + o) (s.setReg r new i j k))))
        ∧ (∀ b, blkOf o = some b → s.blkOn b = true → viewOf b o = none → inPmu o = false → hasRws b = true → o = (blk b).base + 0xFF0 → o < 0x1B00000 → v.toNat % 2 = 1 →
            Gives go s fun t => t.pend = mins s.pend b (s.stagedOf b) ∧ t.flag (cstatPENDING b) = true ∧ s.RegsOnly { t with pend := s.pend } [(cstat b).at 0 0 0])
        ∧ (∀ b, blkOf o = some b → s.blkOn b = false → o < 0x1B00000 → exec go s = .next s)
        ∧ (0x1B00000 ≤ o → exec go s = .next (accessError m .write (0x40000000 + o) s)))
    ∧ (∀ (off : BitVec 26) (v : Word), s.mapAllowsAll m .write (0x40000000 + off.toNat) 4 = false →
        exec (.registerWrite m off v) s = .next (accessDenied m .write (0x40000000 + off.toNat) s))
    ∧ (∀ (a : Addr) (n : Fin 65) (v : BitVec 512), s.region a.toNat = .rom ∨ s.region a.toNat = .flash →
        (s.mapAllowsAll m .write a.toNat n = true → exec (.illegalWrite m a n v) s = .next (accessError m .write a.toNat s)
          ∧ Gives (.illegalWrite m a n v) s fun t => s.Latched t 22 ∧ ∃ u, s.Reported u ∧ t = u.emit (.busError m a.toNat))
        ∧ (s.mapAllowsAll m .write a.toNat n = false → exec (.illegalWrite m a n v) s = .next (accessDenied m .write a.toNat s)))
    ∧ (∀ (a : Addr) (n : Fin 65) (write fetch : Bool), s.region a.toNat = .none →
        let ty : Acc := if write then .write else if fetch then .fetch else .read
        (s.mapAllowsAll m ty a.toNat n = true → exec (.unmappedAccess m a n write fetch) s = .next (accessError m ty a.toNat s)
          ∧ Gives (.unmappedAccess m a n write fetch) s fun t => s.Latched t 22 ∧ ∃ u, s.Reported u ∧ t = u.emit (.busError m a.toNat))
        ∧ (s.mapAllowsAll m ty a.toNat n = false → exec (.unmappedAccess m a n write fetch) s = .next (accessDenied m ty a.toNat s)))
    ∧ (∀ (user : Bool) (ty : Acc) (a n v : Nat), inRegs a = true → a < 0x41B00000 → s.mapAllowsAll m ty a n = true → n ≠ 4 ∨ a % 4 ≠ 0 →
        busRead m user ty a n s = (s.emit (.busError m a), .err 7) ∧ busWrite m user ty a n v s = (.next (s.emit (.busError m a)), .err 7))
end

