-- ==== Sys2Proof/Laws/Maps.lean ====
section
/-! SUPPORT. Laws of the sparse maps: what is found after an entry is put or removed, and the canonical order that both keep. -/

namespace Sys2Proof.Machine

variable {α : Type}

theorem mfind_mdel_ne (m : SMap α) (k k' : Nat) (h : k' ≠ k) : mfind (mdel m k) k' = mfind m k' := by
  induction m with
  | nil => rfl
  | cons e r ih =>
    obtain ⟨a, v⟩ := e
    by_cases ha : a = k
    · subst ha; simp [mdel, mfind, Ne.symm h]
    · simp only [mdel, ha, if_false, mfind, ih]

theorem mfind_mins_ne (m : SMap α) (k k' : Nat) (v : α) (h : k' ≠ k) : mfind (mins m k v) k' = mfind m k' := by
  induction m with
  | nil => simp [mins, mfind, Ne.symm h]
  | cons e r ih =>
    obtain ⟨a, w⟩ := e
    rw [mins]; split
    · simp [mfind, Ne.symm h]
    · split
      · rename_i hk; subst hk; simp [mfind, Ne.symm h]
      · by_cases hb : a = k' <;> simp [mfind, hb, ih]

theorem mfind_mins_same (m : SMap α) (k : Nat) (v : α) : mfind (mins m k v) k = some v := by
  induction m with
  | nil => simp [mins, mfind]
  | cons e r ih =>
    obtain ⟨a, w⟩ := e
    rw [mins]; split
    · simp [mfind]
    · split
      · simp [mfind]
      · rename_i h; simp [mfind, Ne.symm h, ih]

/-- Order from a lower bound gives order from any bound below it. -/
theorem sortedFrom_weaken (m : SMap α) (a b : Option Nat) (hab : ∀ x, a = some x → ∃ y, b = some y ∧ x ≤ y)
    (h : sortedFrom b m = true) : sortedFrom a m = true := by
  cases m with
  | nil => rfl
  | cons e r =>
    obtain ⟨k, v⟩ := e
    cases a with
    | none => simp_all [sortedFrom]
    | some x =>
      obtain ⟨y, rfl, hy⟩ := hab x rfl
      simp only [sortedFrom, Bool.and_eq_true, decide_eq_true_eq] at h ⊢
      exact ⟨by omega, h.2⟩

theorem sortedFrom_tail (lo : Option Nat) (e : Nat × α) (r : SMap α) (h : sortedFrom lo (e :: r) = true) :
    sortedFrom lo r = true := by
  obtain ⟨k, v⟩ := e
  simp only [sortedFrom, Bool.and_eq_true] at h
  refine sortedFrom_weaken r lo (some k) ?_ h.2
  rintro x rfl
  exact ⟨k, rfl, by have := h.1; simp at this; omega⟩

/-- Every key of a map in order lies above the bound. -/
theorem sortedFrom_above (m : SMap α) (lo : Nat) (h : sortedFrom (some lo) m = true) (e : Nat × α) (he : e ∈ m) : lo < e.1 := by
  induction m generalizing lo with
  | nil => cases he
  | cons f r ih =>
    obtain ⟨k, v⟩ := f
    simp only [sortedFrom, Bool.and_eq_true, decide_eq_true_eq] at h
    rcases List.mem_cons.mp he with rfl | h'
    · exact h.1
    · exact lt_trans h.1 (ih k h.2 h')

theorem mfind_none_of_below (m : SMap α) (k : Nat) (h : sortedFrom (some k) m = true) : mfind m k = none := by
  induction m with
  | nil => rfl
  | cons e r ih =>
    have := sortedFrom_above _ _ h e (List.mem_cons_self ..)
    obtain ⟨a, v⟩ := e
    simp only [mfind]
    rw [if_neg (by simp at this; omega)]
    exact ih (sortedFrom_tail _ _ _ h)

theorem sortedFrom_mins (m : SMap α) (lo : Option Nat) (k : Nat) (v : α) (h : sortedFrom lo m = true)
    (hk : ∀ l, lo = some l → l < k) : sortedFrom lo (mins m k v) = true := by
  induction m generalizing lo with
  | nil => cases lo with
    | none => simp [mins, sortedFrom]
    | some l => simp [mins, sortedFrom, hk l rfl]
  | cons e r ih =>
    obtain ⟨a, w⟩ := e
    have h1 : sortedFrom lo [(k, v)] = true := by
      cases lo with
      | none => rfl
      | some l => simp [sortedFrom, hk l rfl]
    simp only [sortedFrom, Bool.and_eq_true, and_true] at h h1
    rw [mins]; split
    · rename_i hlt; simp only [sortedFrom, Bool.and_eq_true, decide_eq_true_eq]; exact ⟨h1, hlt, h.2⟩
    · split
      · rename_i _ he; subst he; simp only [sortedFrom, Bool.and_eq_true]; exact ⟨h1, h.2⟩
      · rename_i hlt hne
        simp only [sortedFrom, Bool.and_eq_true]
        refine ⟨h.1, ih (some a) h.2 ?_⟩
        intro l hl; injection hl with hl; omega

theorem sortedFrom_mdel (m : SMap α) (lo : Option Nat) (k : Nat) (h : sortedFrom lo m = true) : sortedFrom lo (mdel m k) = true := by
  induction m generalizing lo with
  | nil => exact h
  | cons e r ih =>
    obtain ⟨a, w⟩ := e
    by_cases ha : a = k
    · simp only [mdel, ha, if_true]; exact sortedFrom_tail _ _ _ h
    · simp only [mdel, ha, if_false, sortedFrom, Bool.and_eq_true] at h ⊢
      exact ⟨h.1, ih _ h.2⟩

theorem mfind_mdel_same (m : SMap α) (k : Nat) (h : sortedFrom none m = true) : mfind (mdel m k) k = none := by
  induction m with
  | nil => rfl
  | cons e r ih =>
    obtain ⟨a, w⟩ := e
    by_cases ha : a = k
    · subst ha
      simp only [mdel, if_true]
      simp only [sortedFrom, Bool.and_eq_true] at h
      exact mfind_none_of_below _ _ h.2
    · simp only [mdel, ha, if_false, mfind]
      exact ih (sortedFrom_tail _ _ _ h)

/-- Changing values alone keeps the order. -/
theorem sortedFrom_map (f : Nat × α → α) (m : SMap α) (lo : Option Nat) (h : sortedFrom lo m = true) :
    sortedFrom lo (m.map fun e => (e.1, f e)) = true := by
  induction m generalizing lo with
  | nil => exact h
  | cons e r ih =>
    obtain ⟨k, v⟩ := e
    simp only [List.map_cons, sortedFrom, Bool.and_eq_true] at h ⊢
    exact ⟨h.1, ih _ h.2⟩

variable [DecidableEq α]

theorem sortedFrom_mput (d : α) (m : SMap α) (k : Nat) (v : α) (h : sortedFrom none m = true) : sortedFrom none (mput d m k v) = true := by
  unfold mput; split
  · exact sortedFrom_mdel _ _ _ h
  · exact sortedFrom_mins _ _ _ _ h (by simp)

theorem mfind_mput_ne (d : α) (m : SMap α) (k k' : Nat) (v : α) (h : k' ≠ k) : mfind (mput d m k v) k' = mfind m k' := by
  unfold mput; split
  · exact mfind_mdel_ne _ _ _ h
  · exact mfind_mins_ne _ _ _ _ h

theorem mget_mput_ne (d d' : α) (m : SMap α) (k k' : Nat) (v : α) (h : k' ≠ k) : mget d' (mput d m k v) k' = mget d' m k' := by
  simp only [mget, mfind_mput_ne _ _ _ _ _ h]

theorem mget_mput_same (d : α) (m : SMap α) (k : Nat) (v : α) (h : sortedFrom none m = true) : mget d (mput d m k v) k = v := by
  unfold mput; split
  · rename_i hv; subst hv; simp [mget, mfind_mdel_same _ _ h]
  · simp [mget, mfind_mins_same]

omit [DecidableEq α] in
theorem sortedFrom_filter (p : Nat × α → Bool) (m : SMap α) (lo : Option Nat) (h : sortedFrom lo m = true) :
    sortedFrom lo (m.filter p) = true := by
  induction m generalizing lo with
  | nil => exact h
  | cons e r ih =>
    by_cases hp : p e
    · rw [List.filter_cons_of_pos hp]
      obtain ⟨k, v⟩ := e
      simp only [sortedFrom, Bool.and_eq_true] at h ⊢
      exact ⟨h.1, ih _ h.2⟩
    · rw [List.filter_cons_of_neg hp]; exact ih _ (sortedFrom_tail _ _ _ h)

end Sys2Proof.Machine
end

