-- ==== Sys2Proof/Laws/State.lean ====
section
/-! SUPPORT. What the plainest updates of the state leave unchanged: one lemma per field per update. -/

namespace Sys2Proof.Machine

variable (s : State)

@[simp] theorem State.setReg_force (r : Reg) (v : Word) (i j k : Nat) : (s.setReg r v i j k).force = s.force := rfl
@[simp] theorem State.setReg_pend (r : Reg) (v : Word) (i j k : Nat) : (s.setReg r v i j k).pend = s.pend := rfl
@[simp] theorem State.setReg_latch (r : Reg) (v : Word) (i j k : Nat) : (s.setReg r v i j k).latch = s.latch := rfl
@[simp] theorem State.setReg_mem (r : Reg) (v : Word) (i j k : Nat) : (s.setReg r v i j k).mem = s.mem := rfl
@[simp] theorem State.setReg_chk (r : Reg) (v : Word) (i j k : Nat) : (s.setReg r v i j k).chk = s.chk := rfl
@[simp] theorem State.setReg_fchk (r : Reg) (v : Word) (i j k : Nat) : (s.setReg r v i j k).fchk = s.fchk := rfl
@[simp] theorem State.setReg_out (r : Reg) (v : Word) (i j k : Nat) : (s.setReg r v i j k).out = s.out := rfl
@[simp] theorem State.setReg_free (r : Reg) (v : Word) (i j k : Nat) : (s.setReg r v i j k).free = s.free := rfl
@[simp] theorem State.setReg_cores (r : Reg) (v : Word) (i j k : Nat) : (s.setReg r v i j k).cores = s.cores := rfl
@[simp] theorem State.setReg_evr (r : Reg) (v : Word) (i j k : Nat) : (s.setReg r v i j k).evr = s.evr := rfl
@[simp] theorem State.setReg_mbx (r : Reg) (v : Word) (i j k : Nat) : (s.setReg r v i j k).mbx = s.mbx := rfl
@[simp] theorem State.setReg_flt (r : Reg) (v : Word) (i j k : Nat) : (s.setReg r v i j k).flt = s.flt := rfl
@[simp] theorem State.setReg_srm (r : Reg) (v : Word) (i j k : Nat) : (s.setReg r v i j k).srm = s.srm := rfl
@[simp] theorem State.setReg_bpm (r : Reg) (v : Word) (i j k : Nat) : (s.setReg r v i j k).bpm = s.bpm := rfl
@[simp] theorem State.setReg_dma (r : Reg) (v : Word) (i j k : Nat) : (s.setReg r v i j k).dma = s.dma := rfl
@[simp] theorem State.setReg_drc (r : Reg) (v : Word) (i j k : Nat) : (s.setReg r v i j k).drc = s.drc := rfl
@[simp] theorem State.setReg_cfl (r : Reg) (v : Word) (i j k : Nat) : (s.setReg r v i j k).cfl = s.cfl := rfl
@[simp] theorem State.setReg_bot (r : Reg) (v : Word) (i j k : Nat) : (s.setReg r v i j k).bot = s.bot := rfl
@[simp] theorem State.setReg_pwr (r : Reg) (v : Word) (i j k : Nat) : (s.setReg r v i j k).pwr = s.pwr := rfl
@[simp] theorem State.setReg_tck (r : Reg) (v : Word) (i j k : Nat) : (s.setReg r v i j k).tck = s.tck := rfl
@[simp] theorem State.setReg_chans (r : Reg) (v : Word) (i j k : Nat) : (s.setReg r v i j k).chans = s.chans := rfl
@[simp] theorem State.setReg_dies (r : Reg) (v : Word) (i j k : Nat) : (s.setReg r v i j k).dies = s.dies := rfl
@[simp] theorem State.setReg_ecc (r : Reg) (v : Word) (i j k : Nat) : (s.setReg r v i j k).ecc = s.ecc := rfl
@[simp] theorem State.setReg_txe (r : Reg) (v : Word) (i j k : Nat) : (s.setReg r v i j k).txe = s.txe := rfl
@[simp] theorem State.setReg_skm (r : Reg) (v : Word) (i j k : Nat) : (s.setReg r v i j k).skm = s.skm := rfl
@[simp] theorem State.setReg_ste (r : Reg) (v : Word) (i j k : Nat) : (s.setReg r v i j k).ste = s.ste := rfl
@[simp] theorem State.setReg_ckp (r : Reg) (v : Word) (i j k : Nat) : (s.setReg r v i j k).ckp = s.ckp := rfl
@[simp] theorem State.setReg_cmds (r : Reg) (v : Word) (i j k : Nat) : (s.setReg r v i j k).cmds = s.cmds := rfl
@[simp] theorem State.setReg_hpt (r : Reg) (v : Word) (i j k : Nat) : (s.setReg r v i j k).hpt = s.hpt := rfl
@[simp] theorem State.setReg_keys (r : Reg) (v : Word) (i j k : Nat) : (s.setReg r v i j k).keys = s.keys := rfl
@[simp] theorem State.setReg_plk (r : Reg) (v : Word) (i j k : Nat) : (s.setReg r v i j k).plk = s.plk := rfl
@[simp] theorem State.setReg_lex (r : Reg) (v : Word) (i j k : Nat) : (s.setReg r v i j k).lex = s.lex := rfl
@[simp] theorem State.setReg_fab (r : Reg) (v : Word) (i j k : Nat) : (s.setReg r v i j k).fab = s.fab := rfl
@[simp] theorem State.setReg_hrd (r : Reg) (v : Word) (i j k : Nat) : (s.setReg r v i j k).hrd = s.hrd := rfl
@[simp] theorem State.setReg_cip (r : Reg) (v : Word) (i j k : Nat) : (s.setReg r v i j k).cip = s.cip := rfl
@[simp] theorem State.setReg_pmu (r : Reg) (v : Word) (i j k : Nat) : (s.setReg r v i j k).pmu = s.pmu := rfl
@[simp] theorem State.setReg_jdp (r : Reg) (v : Word) (i j k : Nat) : (s.setReg r v i j k).jdp = s.jdp := rfl
@[simp] theorem State.setReg_dirty (r : Reg) (v : Word) (i j k : Nat) : (s.setReg r v i j k).dirty = s.dirty := rfl
@[simp] theorem State.setReg_pending (r : Reg) (v : Word) (i j k : Nat) : (s.setReg r v i j k).pending = s.pending := rfl

@[simp] theorem State.setFld_force (f : Fld) (v i j k : Nat) : (s.setFld f v i j k).force = s.force := rfl
@[simp] theorem State.setFld_pend (f : Fld) (v i j k : Nat) : (s.setFld f v i j k).pend = s.pend := rfl
@[simp] theorem State.setFld_latch (f : Fld) (v i j k : Nat) : (s.setFld f v i j k).latch = s.latch := rfl
@[simp] theorem State.setFld_mem (f : Fld) (v i j k : Nat) : (s.setFld f v i j k).mem = s.mem := rfl
@[simp] theorem State.setFld_chk (f : Fld) (v i j k : Nat) : (s.setFld f v i j k).chk = s.chk := rfl
@[simp] theorem State.setFld_fchk (f : Fld) (v i j k : Nat) : (s.setFld f v i j k).fchk = s.fchk := rfl
@[simp] theorem State.setFld_out (f : Fld) (v i j k : Nat) : (s.setFld f v i j k).out = s.out := rfl
@[simp] theorem State.setFld_free (f : Fld) (v i j k : Nat) : (s.setFld f v i j k).free = s.free := rfl
@[simp] theorem State.setFld_cores (f : Fld) (v i j k : Nat) : (s.setFld f v i j k).cores = s.cores := rfl
@[simp] theorem State.setFld_evr (f : Fld) (v i j k : Nat) : (s.setFld f v i j k).evr = s.evr := rfl
@[simp] theorem State.setFld_mbx (f : Fld) (v i j k : Nat) : (s.setFld f v i j k).mbx = s.mbx := rfl
@[simp] theorem State.setFld_flt (f : Fld) (v i j k : Nat) : (s.setFld f v i j k).flt = s.flt := rfl
@[simp] theorem State.setFld_srm (f : Fld) (v i j k : Nat) : (s.setFld f v i j k).srm = s.srm := rfl
@[simp] theorem State.setFld_bpm (f : Fld) (v i j k : Nat) : (s.setFld f v i j k).bpm = s.bpm := rfl
@[simp] theorem State.setFld_dma (f : Fld) (v i j k : Nat) : (s.setFld f v i j k).dma = s.dma := rfl
@[simp] theorem State.setFld_drc (f : Fld) (v i j k : Nat) : (s.setFld f v i j k).drc = s.drc := rfl
@[simp] theorem State.setFld_cfl (f : Fld) (v i j k : Nat) : (s.setFld f v i j k).cfl = s.cfl := rfl
@[simp] theorem State.setFld_bot (f : Fld) (v i j k : Nat) : (s.setFld f v i j k).bot = s.bot := rfl
@[simp] theorem State.setFld_pwr (f : Fld) (v i j k : Nat) : (s.setFld f v i j k).pwr = s.pwr := rfl
@[simp] theorem State.setFld_tck (f : Fld) (v i j k : Nat) : (s.setFld f v i j k).tck = s.tck := rfl
@[simp] theorem State.setFld_chans (f : Fld) (v i j k : Nat) : (s.setFld f v i j k).chans = s.chans := rfl
@[simp] theorem State.setFld_dies (f : Fld) (v i j k : Nat) : (s.setFld f v i j k).dies = s.dies := rfl
@[simp] theorem State.setFld_ecc (f : Fld) (v i j k : Nat) : (s.setFld f v i j k).ecc = s.ecc := rfl
@[simp] theorem State.setFld_txe (f : Fld) (v i j k : Nat) : (s.setFld f v i j k).txe = s.txe := rfl
@[simp] theorem State.setFld_skm (f : Fld) (v i j k : Nat) : (s.setFld f v i j k).skm = s.skm := rfl
@[simp] theorem State.setFld_ste (f : Fld) (v i j k : Nat) : (s.setFld f v i j k).ste = s.ste := rfl
@[simp] theorem State.setFld_ckp (f : Fld) (v i j k : Nat) : (s.setFld f v i j k).ckp = s.ckp := rfl
@[simp] theorem State.setFld_cmds (f : Fld) (v i j k : Nat) : (s.setFld f v i j k).cmds = s.cmds := rfl
@[simp] theorem State.setFld_hpt (f : Fld) (v i j k : Nat) : (s.setFld f v i j k).hpt = s.hpt := rfl
@[simp] theorem State.setFld_keys (f : Fld) (v i j k : Nat) : (s.setFld f v i j k).keys = s.keys := rfl
@[simp] theorem State.setFld_plk (f : Fld) (v i j k : Nat) : (s.setFld f v i j k).plk = s.plk := rfl
@[simp] theorem State.setFld_lex (f : Fld) (v i j k : Nat) : (s.setFld f v i j k).lex = s.lex := rfl
@[simp] theorem State.setFld_fab (f : Fld) (v i j k : Nat) : (s.setFld f v i j k).fab = s.fab := rfl
@[simp] theorem State.setFld_hrd (f : Fld) (v i j k : Nat) : (s.setFld f v i j k).hrd = s.hrd := rfl
@[simp] theorem State.setFld_cip (f : Fld) (v i j k : Nat) : (s.setFld f v i j k).cip = s.cip := rfl
@[simp] theorem State.setFld_pmu (f : Fld) (v i j k : Nat) : (s.setFld f v i j k).pmu = s.pmu := rfl
@[simp] theorem State.setFld_jdp (f : Fld) (v i j k : Nat) : (s.setFld f v i j k).jdp = s.jdp := rfl
@[simp] theorem State.setFld_dirty (f : Fld) (v i j k : Nat) : (s.setFld f v i j k).dirty = s.dirty := rfl
@[simp] theorem State.setFld_pending (f : Fld) (v i j k : Nat) : (s.setFld f v i j k).pending = s.pending := rfl

@[simp] theorem State.install_pend (f : Fld) (v i j k : Nat) : (s.install f v i j k).pend = s.pend := rfl
@[simp] theorem State.install_latch (f : Fld) (v i j k : Nat) : (s.install f v i j k).latch = s.latch := rfl
@[simp] theorem State.install_mem (f : Fld) (v i j k : Nat) : (s.install f v i j k).mem = s.mem := rfl
@[simp] theorem State.install_chk (f : Fld) (v i j k : Nat) : (s.install f v i j k).chk = s.chk := rfl
@[simp] theorem State.install_fchk (f : Fld) (v i j k : Nat) : (s.install f v i j k).fchk = s.fchk := rfl
@[simp] theorem State.install_out (f : Fld) (v i j k : Nat) : (s.install f v i j k).out = s.out := rfl
@[simp] theorem State.install_free (f : Fld) (v i j k : Nat) : (s.install f v i j k).free = s.free := rfl
@[simp] theorem State.install_cores (f : Fld) (v i j k : Nat) : (s.install f v i j k).cores = s.cores := rfl
@[simp] theorem State.install_evr (f : Fld) (v i j k : Nat) : (s.install f v i j k).evr = s.evr := rfl
@[simp] theorem State.install_mbx (f : Fld) (v i j k : Nat) : (s.install f v i j k).mbx = s.mbx := rfl
@[simp] theorem State.install_flt (f : Fld) (v i j k : Nat) : (s.install f v i j k).flt = s.flt := rfl
@[simp] theorem State.install_srm (f : Fld) (v i j k : Nat) : (s.install f v i j k).srm = s.srm := rfl
@[simp] theorem State.install_bpm (f : Fld) (v i j k : Nat) : (s.install f v i j k).bpm = s.bpm := rfl
@[simp] theorem State.install_dma (f : Fld) (v i j k : Nat) : (s.install f v i j k).dma = s.dma := rfl
@[simp] theorem State.install_drc (f : Fld) (v i j k : Nat) : (s.install f v i j k).drc = s.drc := rfl
@[simp] theorem State.install_cfl (f : Fld) (v i j k : Nat) : (s.install f v i j k).cfl = s.cfl := rfl
@[simp] theorem State.install_bot (f : Fld) (v i j k : Nat) : (s.install f v i j k).bot = s.bot := rfl
@[simp] theorem State.install_pwr (f : Fld) (v i j k : Nat) : (s.install f v i j k).pwr = s.pwr := rfl
@[simp] theorem State.install_tck (f : Fld) (v i j k : Nat) : (s.install f v i j k).tck = s.tck := rfl
@[simp] theorem State.install_chans (f : Fld) (v i j k : Nat) : (s.install f v i j k).chans = s.chans := rfl
@[simp] theorem State.install_dies (f : Fld) (v i j k : Nat) : (s.install f v i j k).dies = s.dies := rfl
@[simp] theorem State.install_ecc (f : Fld) (v i j k : Nat) : (s.install f v i j k).ecc = s.ecc := rfl
@[simp] theorem State.install_txe (f : Fld) (v i j k : Nat) : (s.install f v i j k).txe = s.txe := rfl
@[simp] theorem State.install_skm (f : Fld) (v i j k : Nat) : (s.install f v i j k).skm = s.skm := rfl
@[simp] theorem State.install_ste (f : Fld) (v i j k : Nat) : (s.install f v i j k).ste = s.ste := rfl
@[simp] theorem State.install_ckp (f : Fld) (v i j k : Nat) : (s.install f v i j k).ckp = s.ckp := rfl
@[simp] theorem State.install_cmds (f : Fld) (v i j k : Nat) : (s.install f v i j k).cmds = s.cmds := rfl
@[simp] theorem State.install_hpt (f : Fld) (v i j k : Nat) : (s.install f v i j k).hpt = s.hpt := rfl
@[simp] theorem State.install_keys (f : Fld) (v i j k : Nat) : (s.install f v i j k).keys = s.keys := rfl
@[simp] theorem State.install_plk (f : Fld) (v i j k : Nat) : (s.install f v i j k).plk = s.plk := rfl
@[simp] theorem State.install_lex (f : Fld) (v i j k : Nat) : (s.install f v i j k).lex = s.lex := rfl
@[simp] theorem State.install_fab (f : Fld) (v i j k : Nat) : (s.install f v i j k).fab = s.fab := rfl
@[simp] theorem State.install_hrd (f : Fld) (v i j k : Nat) : (s.install f v i j k).hrd = s.hrd := rfl
@[simp] theorem State.install_cip (f : Fld) (v i j k : Nat) : (s.install f v i j k).cip = s.cip := rfl
@[simp] theorem State.install_pmu (f : Fld) (v i j k : Nat) : (s.install f v i j k).pmu = s.pmu := rfl
@[simp] theorem State.install_jdp (f : Fld) (v i j k : Nat) : (s.install f v i j k).jdp = s.jdp := rfl
@[simp] theorem State.install_dirty (f : Fld) (v i j k : Nat) : (s.install f v i j k).dirty = s.dirty := rfl
@[simp] theorem State.install_pending (f : Fld) (v i j k : Nat) : (s.install f v i j k).pending = s.pending := rfl

@[simp] theorem State.setPair_force (a b : Fld) (v i j : Nat) : (s.setPair a b v i j).force = s.force := rfl
@[simp] theorem State.setPair_pend (a b : Fld) (v i j : Nat) : (s.setPair a b v i j).pend = s.pend := rfl
@[simp] theorem State.setPair_latch (a b : Fld) (v i j : Nat) : (s.setPair a b v i j).latch = s.latch := rfl
@[simp] theorem State.setPair_mem (a b : Fld) (v i j : Nat) : (s.setPair a b v i j).mem = s.mem := rfl
@[simp] theorem State.setPair_chk (a b : Fld) (v i j : Nat) : (s.setPair a b v i j).chk = s.chk := rfl
@[simp] theorem State.setPair_fchk (a b : Fld) (v i j : Nat) : (s.setPair a b v i j).fchk = s.fchk := rfl
@[simp] theorem State.setPair_out (a b : Fld) (v i j : Nat) : (s.setPair a b v i j).out = s.out := rfl
@[simp] theorem State.setPair_free (a b : Fld) (v i j : Nat) : (s.setPair a b v i j).free = s.free := rfl
@[simp] theorem State.setPair_cores (a b : Fld) (v i j : Nat) : (s.setPair a b v i j).cores = s.cores := rfl
@[simp] theorem State.setPair_evr (a b : Fld) (v i j : Nat) : (s.setPair a b v i j).evr = s.evr := rfl
@[simp] theorem State.setPair_mbx (a b : Fld) (v i j : Nat) : (s.setPair a b v i j).mbx = s.mbx := rfl
@[simp] theorem State.setPair_flt (a b : Fld) (v i j : Nat) : (s.setPair a b v i j).flt = s.flt := rfl
@[simp] theorem State.setPair_srm (a b : Fld) (v i j : Nat) : (s.setPair a b v i j).srm = s.srm := rfl
@[simp] theorem State.setPair_bpm (a b : Fld) (v i j : Nat) : (s.setPair a b v i j).bpm = s.bpm := rfl
@[simp] theorem State.setPair_dma (a b : Fld) (v i j : Nat) : (s.setPair a b v i j).dma = s.dma := rfl
@[simp] theorem State.setPair_drc (a b : Fld) (v i j : Nat) : (s.setPair a b v i j).drc = s.drc := rfl
@[simp] theorem State.setPair_cfl (a b : Fld) (v i j : Nat) : (s.setPair a b v i j).cfl = s.cfl := rfl
@[simp] theorem State.setPair_bot (a b : Fld) (v i j : Nat) : (s.setPair a b v i j).bot = s.bot := rfl
@[simp] theorem State.setPair_pwr (a b : Fld) (v i j : Nat) : (s.setPair a b v i j).pwr = s.pwr := rfl
@[simp] theorem State.setPair_tck (a b : Fld) (v i j : Nat) : (s.setPair a b v i j).tck = s.tck := rfl
@[simp] theorem State.setPair_chans (a b : Fld) (v i j : Nat) : (s.setPair a b v i j).chans = s.chans := rfl
@[simp] theorem State.setPair_dies (a b : Fld) (v i j : Nat) : (s.setPair a b v i j).dies = s.dies := rfl
@[simp] theorem State.setPair_ecc (a b : Fld) (v i j : Nat) : (s.setPair a b v i j).ecc = s.ecc := rfl
@[simp] theorem State.setPair_txe (a b : Fld) (v i j : Nat) : (s.setPair a b v i j).txe = s.txe := rfl
@[simp] theorem State.setPair_skm (a b : Fld) (v i j : Nat) : (s.setPair a b v i j).skm = s.skm := rfl
@[simp] theorem State.setPair_ste (a b : Fld) (v i j : Nat) : (s.setPair a b v i j).ste = s.ste := rfl
@[simp] theorem State.setPair_ckp (a b : Fld) (v i j : Nat) : (s.setPair a b v i j).ckp = s.ckp := rfl
@[simp] theorem State.setPair_cmds (a b : Fld) (v i j : Nat) : (s.setPair a b v i j).cmds = s.cmds := rfl
@[simp] theorem State.setPair_hpt (a b : Fld) (v i j : Nat) : (s.setPair a b v i j).hpt = s.hpt := rfl
@[simp] theorem State.setPair_keys (a b : Fld) (v i j : Nat) : (s.setPair a b v i j).keys = s.keys := rfl
@[simp] theorem State.setPair_plk (a b : Fld) (v i j : Nat) : (s.setPair a b v i j).plk = s.plk := rfl
@[simp] theorem State.setPair_lex (a b : Fld) (v i j : Nat) : (s.setPair a b v i j).lex = s.lex := rfl
@[simp] theorem State.setPair_fab (a b : Fld) (v i j : Nat) : (s.setPair a b v i j).fab = s.fab := rfl
@[simp] theorem State.setPair_hrd (a b : Fld) (v i j : Nat) : (s.setPair a b v i j).hrd = s.hrd := rfl
@[simp] theorem State.setPair_cip (a b : Fld) (v i j : Nat) : (s.setPair a b v i j).cip = s.cip := rfl
@[simp] theorem State.setPair_pmu (a b : Fld) (v i j : Nat) : (s.setPair a b v i j).pmu = s.pmu := rfl
@[simp] theorem State.setPair_jdp (a b : Fld) (v i j : Nat) : (s.setPair a b v i j).jdp = s.jdp := rfl
@[simp] theorem State.setPair_dirty (a b : Fld) (v i j : Nat) : (s.setPair a b v i j).dirty = s.dirty := rfl
@[simp] theorem State.setPair_pending (a b : Fld) (v i j : Nat) : (s.setPair a b v i j).pending = s.pending := rfl

@[simp] theorem State.inc_force (f : Fld) (n i j : Nat) : (s.inc f n i j).force = s.force := rfl
@[simp] theorem State.inc_pend (f : Fld) (n i j : Nat) : (s.inc f n i j).pend = s.pend := rfl
@[simp] theorem State.inc_latch (f : Fld) (n i j : Nat) : (s.inc f n i j).latch = s.latch := rfl
@[simp] theorem State.inc_mem (f : Fld) (n i j : Nat) : (s.inc f n i j).mem = s.mem := rfl
@[simp] theorem State.inc_chk (f : Fld) (n i j : Nat) : (s.inc f n i j).chk = s.chk := rfl
@[simp] theorem State.inc_fchk (f : Fld) (n i j : Nat) : (s.inc f n i j).fchk = s.fchk := rfl
@[simp] theorem State.inc_out (f : Fld) (n i j : Nat) : (s.inc f n i j).out = s.out := rfl
@[simp] theorem State.inc_free (f : Fld) (n i j : Nat) : (s.inc f n i j).free = s.free := rfl
@[simp] theorem State.inc_cores (f : Fld) (n i j : Nat) : (s.inc f n i j).cores = s.cores := rfl
@[simp] theorem State.inc_evr (f : Fld) (n i j : Nat) : (s.inc f n i j).evr = s.evr := rfl
@[simp] theorem State.inc_mbx (f : Fld) (n i j : Nat) : (s.inc f n i j).mbx = s.mbx := rfl
@[simp] theorem State.inc_flt (f : Fld) (n i j : Nat) : (s.inc f n i j).flt = s.flt := rfl
@[simp] theorem State.inc_srm (f : Fld) (n i j : Nat) : (s.inc f n i j).srm = s.srm := rfl
@[simp] theorem State.inc_bpm (f : Fld) (n i j : Nat) : (s.inc f n i j).bpm = s.bpm := rfl
@[simp] theorem State.inc_dma (f : Fld) (n i j : Nat) : (s.inc f n i j).dma = s.dma := rfl
@[simp] theorem State.inc_drc (f : Fld) (n i j : Nat) : (s.inc f n i j).drc = s.drc := rfl
@[simp] theorem State.inc_cfl (f : Fld) (n i j : Nat) : (s.inc f n i j).cfl = s.cfl := rfl
@[simp] theorem State.inc_bot (f : Fld) (n i j : Nat) : (s.inc f n i j).bot = s.bot := rfl
@[simp] theorem State.inc_pwr (f : Fld) (n i j : Nat) : (s.inc f n i j).pwr = s.pwr := rfl
@[simp] theorem State.inc_tck (f : Fld) (n i j : Nat) : (s.inc f n i j).tck = s.tck := rfl
@[simp] theorem State.inc_chans (f : Fld) (n i j : Nat) : (s.inc f n i j).chans = s.chans := rfl
@[simp] theorem State.inc_dies (f : Fld) (n i j : Nat) : (s.inc f n i j).dies = s.dies := rfl
@[simp] theorem State.inc_ecc (f : Fld) (n i j : Nat) : (s.inc f n i j).ecc = s.ecc := rfl
@[simp] theorem State.inc_txe (f : Fld) (n i j : Nat) : (s.inc f n i j).txe = s.txe := rfl
@[simp] theorem State.inc_skm (f : Fld) (n i j : Nat) : (s.inc f n i j).skm = s.skm := rfl
@[simp] theorem State.inc_ste (f : Fld) (n i j : Nat) : (s.inc f n i j).ste = s.ste := rfl
@[simp] theorem State.inc_ckp (f : Fld) (n i j : Nat) : (s.inc f n i j).ckp = s.ckp := rfl
@[simp] theorem State.inc_cmds (f : Fld) (n i j : Nat) : (s.inc f n i j).cmds = s.cmds := rfl
@[simp] theorem State.inc_hpt (f : Fld) (n i j : Nat) : (s.inc f n i j).hpt = s.hpt := rfl
@[simp] theorem State.inc_keys (f : Fld) (n i j : Nat) : (s.inc f n i j).keys = s.keys := rfl
@[simp] theorem State.inc_plk (f : Fld) (n i j : Nat) : (s.inc f n i j).plk = s.plk := rfl
@[simp] theorem State.inc_lex (f : Fld) (n i j : Nat) : (s.inc f n i j).lex = s.lex := rfl
@[simp] theorem State.inc_fab (f : Fld) (n i j : Nat) : (s.inc f n i j).fab = s.fab := rfl
@[simp] theorem State.inc_hrd (f : Fld) (n i j : Nat) : (s.inc f n i j).hrd = s.hrd := rfl
@[simp] theorem State.inc_cip (f : Fld) (n i j : Nat) : (s.inc f n i j).cip = s.cip := rfl
@[simp] theorem State.inc_pmu (f : Fld) (n i j : Nat) : (s.inc f n i j).pmu = s.pmu := rfl
@[simp] theorem State.inc_jdp (f : Fld) (n i j : Nat) : (s.inc f n i j).jdp = s.jdp := rfl
@[simp] theorem State.inc_dirty (f : Fld) (n i j : Nat) : (s.inc f n i j).dirty = s.dirty := rfl
@[simp] theorem State.inc_pending (f : Fld) (n i j : Nat) : (s.inc f n i j).pending = s.pending := rfl

@[simp] theorem State.incPair_force (a b : Fld) (n : Nat) : (s.incPair a b n).force = s.force := rfl
@[simp] theorem State.incPair_pend (a b : Fld) (n : Nat) : (s.incPair a b n).pend = s.pend := rfl
@[simp] theorem State.incPair_latch (a b : Fld) (n : Nat) : (s.incPair a b n).latch = s.latch := rfl
@[simp] theorem State.incPair_mem (a b : Fld) (n : Nat) : (s.incPair a b n).mem = s.mem := rfl
@[simp] theorem State.incPair_chk (a b : Fld) (n : Nat) : (s.incPair a b n).chk = s.chk := rfl
@[simp] theorem State.incPair_fchk (a b : Fld) (n : Nat) : (s.incPair a b n).fchk = s.fchk := rfl
@[simp] theorem State.incPair_out (a b : Fld) (n : Nat) : (s.incPair a b n).out = s.out := rfl
@[simp] theorem State.incPair_free (a b : Fld) (n : Nat) : (s.incPair a b n).free = s.free := rfl
@[simp] theorem State.incPair_cores (a b : Fld) (n : Nat) : (s.incPair a b n).cores = s.cores := rfl
@[simp] theorem State.incPair_evr (a b : Fld) (n : Nat) : (s.incPair a b n).evr = s.evr := rfl
@[simp] theorem State.incPair_mbx (a b : Fld) (n : Nat) : (s.incPair a b n).mbx = s.mbx := rfl
@[simp] theorem State.incPair_flt (a b : Fld) (n : Nat) : (s.incPair a b n).flt = s.flt := rfl
@[simp] theorem State.incPair_srm (a b : Fld) (n : Nat) : (s.incPair a b n).srm = s.srm := rfl
@[simp] theorem State.incPair_bpm (a b : Fld) (n : Nat) : (s.incPair a b n).bpm = s.bpm := rfl
@[simp] theorem State.incPair_dma (a b : Fld) (n : Nat) : (s.incPair a b n).dma = s.dma := rfl
@[simp] theorem State.incPair_drc (a b : Fld) (n : Nat) : (s.incPair a b n).drc = s.drc := rfl
@[simp] theorem State.incPair_cfl (a b : Fld) (n : Nat) : (s.incPair a b n).cfl = s.cfl := rfl
@[simp] theorem State.incPair_bot (a b : Fld) (n : Nat) : (s.incPair a b n).bot = s.bot := rfl
@[simp] theorem State.incPair_pwr (a b : Fld) (n : Nat) : (s.incPair a b n).pwr = s.pwr := rfl
@[simp] theorem State.incPair_tck (a b : Fld) (n : Nat) : (s.incPair a b n).tck = s.tck := rfl
@[simp] theorem State.incPair_chans (a b : Fld) (n : Nat) : (s.incPair a b n).chans = s.chans := rfl
@[simp] theorem State.incPair_dies (a b : Fld) (n : Nat) : (s.incPair a b n).dies = s.dies := rfl
@[simp] theorem State.incPair_ecc (a b : Fld) (n : Nat) : (s.incPair a b n).ecc = s.ecc := rfl
@[simp] theorem State.incPair_txe (a b : Fld) (n : Nat) : (s.incPair a b n).txe = s.txe := rfl
@[simp] theorem State.incPair_skm (a b : Fld) (n : Nat) : (s.incPair a b n).skm = s.skm := rfl
@[simp] theorem State.incPair_ste (a b : Fld) (n : Nat) : (s.incPair a b n).ste = s.ste := rfl
@[simp] theorem State.incPair_ckp (a b : Fld) (n : Nat) : (s.incPair a b n).ckp = s.ckp := rfl
@[simp] theorem State.incPair_cmds (a b : Fld) (n : Nat) : (s.incPair a b n).cmds = s.cmds := rfl
@[simp] theorem State.incPair_hpt (a b : Fld) (n : Nat) : (s.incPair a b n).hpt = s.hpt := rfl
@[simp] theorem State.incPair_keys (a b : Fld) (n : Nat) : (s.incPair a b n).keys = s.keys := rfl
@[simp] theorem State.incPair_plk (a b : Fld) (n : Nat) : (s.incPair a b n).plk = s.plk := rfl
@[simp] theorem State.incPair_lex (a b : Fld) (n : Nat) : (s.incPair a b n).lex = s.lex := rfl
@[simp] theorem State.incPair_fab (a b : Fld) (n : Nat) : (s.incPair a b n).fab = s.fab := rfl
@[simp] theorem State.incPair_hrd (a b : Fld) (n : Nat) : (s.incPair a b n).hrd = s.hrd := rfl
@[simp] theorem State.incPair_cip (a b : Fld) (n : Nat) : (s.incPair a b n).cip = s.cip := rfl
@[simp] theorem State.incPair_pmu (a b : Fld) (n : Nat) : (s.incPair a b n).pmu = s.pmu := rfl
@[simp] theorem State.incPair_jdp (a b : Fld) (n : Nat) : (s.incPair a b n).jdp = s.jdp := rfl
@[simp] theorem State.incPair_dirty (a b : Fld) (n : Nat) : (s.incPair a b n).dirty = s.dirty := rfl
@[simp] theorem State.incPair_pending (a b : Fld) (n : Nat) : (s.incPair a b n).pending = s.pending := rfl

@[simp] theorem State.emit_regs (o : Output) : (s.emit o).regs = s.regs := rfl
@[simp] theorem State.emit_force (o : Output) : (s.emit o).force = s.force := rfl
@[simp] theorem State.emit_pend (o : Output) : (s.emit o).pend = s.pend := rfl
@[simp] theorem State.emit_latch (o : Output) : (s.emit o).latch = s.latch := rfl
@[simp] theorem State.emit_mem (o : Output) : (s.emit o).mem = s.mem := rfl
@[simp] theorem State.emit_chk (o : Output) : (s.emit o).chk = s.chk := rfl
@[simp] theorem State.emit_fchk (o : Output) : (s.emit o).fchk = s.fchk := rfl
@[simp] theorem State.emit_free (o : Output) : (s.emit o).free = s.free := rfl
@[simp] theorem State.emit_cores (o : Output) : (s.emit o).cores = s.cores := rfl
@[simp] theorem State.emit_evr (o : Output) : (s.emit o).evr = s.evr := rfl
@[simp] theorem State.emit_mbx (o : Output) : (s.emit o).mbx = s.mbx := rfl
@[simp] theorem State.emit_flt (o : Output) : (s.emit o).flt = s.flt := rfl
@[simp] theorem State.emit_srm (o : Output) : (s.emit o).srm = s.srm := rfl
@[simp] theorem State.emit_bpm (o : Output) : (s.emit o).bpm = s.bpm := rfl
@[simp] theorem State.emit_dma (o : Output) : (s.emit o).dma = s.dma := rfl
@[simp] theorem State.emit_drc (o : Output) : (s.emit o).drc = s.drc := rfl
@[simp] theorem State.emit_cfl (o : Output) : (s.emit o).cfl = s.cfl := rfl
@[simp] theorem State.emit_bot (o : Output) : (s.emit o).bot = s.bot := rfl
@[simp] theorem State.emit_pwr (o : Output) : (s.emit o).pwr = s.pwr := rfl
@[simp] theorem State.emit_tck (o : Output) : (s.emit o).tck = s.tck := rfl
@[simp] theorem State.emit_chans (o : Output) : (s.emit o).chans = s.chans := rfl
@[simp] theorem State.emit_dies (o : Output) : (s.emit o).dies = s.dies := rfl
@[simp] theorem State.emit_ecc (o : Output) : (s.emit o).ecc = s.ecc := rfl
@[simp] theorem State.emit_txe (o : Output) : (s.emit o).txe = s.txe := rfl
@[simp] theorem State.emit_skm (o : Output) : (s.emit o).skm = s.skm := rfl
@[simp] theorem State.emit_ste (o : Output) : (s.emit o).ste = s.ste := rfl
@[simp] theorem State.emit_ckp (o : Output) : (s.emit o).ckp = s.ckp := rfl
@[simp] theorem State.emit_cmds (o : Output) : (s.emit o).cmds = s.cmds := rfl
@[simp] theorem State.emit_hpt (o : Output) : (s.emit o).hpt = s.hpt := rfl
@[simp] theorem State.emit_keys (o : Output) : (s.emit o).keys = s.keys := rfl
@[simp] theorem State.emit_plk (o : Output) : (s.emit o).plk = s.plk := rfl
@[simp] theorem State.emit_lex (o : Output) : (s.emit o).lex = s.lex := rfl
@[simp] theorem State.emit_fab (o : Output) : (s.emit o).fab = s.fab := rfl
@[simp] theorem State.emit_hrd (o : Output) : (s.emit o).hrd = s.hrd := rfl
@[simp] theorem State.emit_cip (o : Output) : (s.emit o).cip = s.cip := rfl
@[simp] theorem State.emit_pmu (o : Output) : (s.emit o).pmu = s.pmu := rfl
@[simp] theorem State.emit_jdp (o : Output) : (s.emit o).jdp = s.jdp := rfl
@[simp] theorem State.emit_dirty (o : Output) : (s.emit o).dirty = s.dirty := rfl
@[simp] theorem State.emit_pending (o : Output) : (s.emit o).pending = s.pending := rfl

@[simp] theorem State.emit_out (o : Output) : (s.emit o).out = s.out ++ [o] := rfl

end Sys2Proof.Machine
end

