-- ==== Sys2Proof/Laws/Regs.lean ====
section
/-! SUPPORT. Laws of register words and fields: what is read after a write, in the same word and in any other. -/

namespace Sys2Proof.Machine

variable (s : State)

/-- A field lies in its word, and the word holds a value in all of its bits. -/
def Fld.ok (f : Fld) : Bool := decide (f.lo + f.width ≤ 32) && decide (f.reg.mask.toNat &&& f.bits = f.bits)

theorem testBit_bits (f : Fld) (i : Nat) : f.bits.testBit i = (decide (f.lo ≤ i) && decide (i < f.lo + f.width)) := by
  simp only [Fld.bits, Nat.testBit_shiftLeft, Nat.testBit_two_pow_sub_one]
  by_cases h : f.lo ≤ i <;> simp [h]; omega

theorem testBit_nbits (n lo w i : Nat) : (nbits n lo w).testBit i = (decide (i < w) && n.testBit (lo + i)) := by
  simp [nbits, Nat.testBit_mod_two_pow, Nat.testBit_shiftRight]

/-- Within a word, a bit of a field that holds a value is one of the mask. -/
theorem Fld.mask_bit (f : Fld) (h : f.ok = true) (i : Nat) (h1 : f.lo ≤ i) (h2 : i < f.lo + f.width) : f.reg.mask.toNat.testBit i = true := by
  simp only [Fld.ok, Bool.and_eq_true, decide_eq_true_eq] at h
  have := congrArg (·.testBit i) h.2
  simp only [Nat.testBit_and, testBit_bits] at this
  simp_all

theorem testBit_putField (w : Word) (f : Fld) (v i : Nat) (hi : i < 32) :
    (putField w f v).toNat.testBit i =
      if f.lo ≤ i ∧ i < f.lo + f.width then v.testBit (i - f.lo) else w.toNat.testBit i := by
  have e1 : ∀ x : Nat, (BitVec.ofNat 32 x).getLsbD i = x.testBit i := by intro x; rw [BitVec.getLsbD_ofNat]; simp [hi]
  rw [← BitVec.getLsbD, putField, BitVec.getLsbD_or, BitVec.getLsbD_and, BitVec.getLsbD_not, e1, e1, testBit_bits, Nat.testBit_shiftLeft, Nat.testBit_mod_two_pow]
  by_cases h1 : f.lo ≤ i
  · by_cases h2 : i < f.lo + f.width
    · have h3 : i - f.lo < f.width := by omega
      simp [h1, h2, h3, hi]
    · have h3 : ¬ i - f.lo < f.width := by omega
      simp [h1, h2, h3, hi, BitVec.getLsbD]
  · simp [h1, hi, BitVec.getLsbD]

theorem State.reg_setReg_ne (r r' : Reg) (v : Word) (i j k i' j' k' : Nat) (h : r'.at i' j' k' ≠ r.at i j k) :
    (s.setReg r v i j k).reg r' i' j' k' = s.reg r' i' j' k' := by
  simp only [State.reg, State.setReg]
  exact mget_mput_ne _ _ _ _ _ _ h

theorem State.reg_setReg_same (hs : sortedFrom none s.regs = true) (r : Reg) (v : Word) (i j k : Nat) :
    (s.setReg r v i j k).reg r i j k = v &&& r.mask := by
  simp only [State.reg, State.setReg]
  exact mget_mput_same _ _ _ _ hs

theorem State.fld_setFld_ne (f g : Fld) (v i j k i' j' k' : Nat) (h : g.reg.at i' j' k' ≠ f.reg.at i j k) :
    (s.setFld f v i j k).fld g i' j' k' = s.fld g i' j' k' := by
  simp only [State.fld, State.setFld]
  rw [State.reg_setReg_ne s _ _ _ _ _ _ _ _ _ h]

/-- A field reads what was written to it. -/
theorem State.fld_setFld_same (hs : sortedFrom none s.regs = true) (f : Fld) (hf : f.ok = true) (v i j k : Nat) :
    (s.setFld f v i j k).fld f i j k = v % 2 ^ f.width := by
  simp only [State.fld, State.setFld, State.reg_setReg_same s hs]
  apply Nat.eq_of_testBit_eq
  intro b
  rw [testBit_nbits, Nat.testBit_mod_two_pow, BitVec.toNat_and, Nat.testBit_and]
  by_cases hb : b < f.width
  · have hlo : f.lo + f.width ≤ 32 := by simp only [Fld.ok, Bool.and_eq_true, decide_eq_true_eq] at hf; exact hf.1
    rw [testBit_putField _ _ _ _ (by omega), Fld.mask_bit f hf _ (by omega) (by omega)]
    simp [hb]
  · simp [hb]

/-- Another field of the same word, apart from the one written, reads as before. -/
theorem State.fld_setFld_apart (hs : sortedFrom none s.regs = true) (f g : Fld) (hr : g.reg = f.reg) (hg : g.ok = true)
    (h : g.lo + g.width ≤ f.lo ∨ f.lo + f.width ≤ g.lo) (v i j k : Nat) :
    (s.setFld f v i j k).fld g i j k = s.fld g i j k := by
  simp only [State.fld, State.setFld, hr, State.reg_setReg_same s hs]
  apply Nat.eq_of_testBit_eq
  intro b
  rw [testBit_nbits, testBit_nbits, BitVec.toNat_and, Nat.testBit_and]
  by_cases hb : b < g.width
  · have hlo : g.lo + g.width ≤ 32 := by simp only [Fld.ok, Bool.and_eq_true, decide_eq_true_eq] at hg; exact hg.1
    have hm := Fld.mask_bit g hg (g.lo + b) (by omega) (by omega)
    rw [hr] at hm
    rw [testBit_putField _ _ _ _ (by omega), hm, if_neg (by omega)]
    simp
  · simp [hb]

theorem State.setReg_sorted (hs : sortedFrom none s.regs = true) (r : Reg) (v : Word) (i j k : Nat) :
    sortedFrom none (s.setReg r v i j k).regs = true := sortedFrom_mput _ _ _ _ hs

theorem State.setFld_sorted (hs : sortedFrom none s.regs = true) (f : Fld) (v i j k : Nat) :
    sortedFrom none (s.setFld f v i j k).regs = true := sortedFrom_mput _ _ _ _ hs

/-- A write of a word changes no other word of the register space. -/
theorem State.setReg_find (r : Reg) (v : Word) (i j k off : Nat) (h : off ≠ r.at i j k) :
    mfind (s.setReg r v i j k).regs off = mfind s.regs off := mfind_mput_ne _ _ _ _ _ h

end Sys2Proof.Machine
end

