-- ==== Sys2Proof/Laws/Memory.lean ====
section
/-! SUPPORT. Laws of memory: every operation keeps the canonical form; a byte reads what was stored to it and no other byte changes; what a store touches
beside memory. -/

namespace Sys2Proof.Machine

/-! ### Canonical form -/

theorem memPut_wf (m : List Host.Cell) (a : Nat) (b : Byte) (h : Memory.wf m = true) : Memory.wf (memPut m a b) = true := by
  simp only [Memory.wf, Bool.and_eq_true, List.all_eq_true] at h ⊢
  refine ⟨sortedFrom_mput _ _ _ _ h.1, ?_⟩
  intro c hc
  unfold memPut mput at hc
  split at hc
  · exact h.2 c (mem_mdel hc)
  · rcases mem_mins hc with rfl | hc
    · simpa using ‹¬_›
    · exact h.2 c hc
where
  mem_mdel {m : List Host.Cell} {k : Nat} {c : Host.Cell} (hc : c ∈ mdel m k) : c ∈ m := by
    induction m with
    | nil => exact hc
    | cons e r ih =>
      obtain ⟨x, w⟩ := e
      simp only [mdel] at hc
      split at hc
      · exact List.mem_cons_of_mem _ hc
      · rcases List.mem_cons.mp hc with rfl | hc
        · exact List.mem_cons_self ..
        · exact List.mem_cons_of_mem _ (ih hc)
  mem_mins {m : List Host.Cell} {k : Nat} {b : Byte} {c : Host.Cell} (hc : c ∈ mins m k b) : c = (k, b) ∨ c ∈ m := by
    induction m with
    | nil => simpa [mins] using hc
    | cons e r ih =>
      obtain ⟨x, w⟩ := e
      simp only [mins] at hc
      split at hc
      · rcases List.mem_cons.mp hc with rfl | hc
        · exact .inl rfl
        · exact .inr hc
      · split at hc
        · rcases List.mem_cons.mp hc with rfl | hc
          · exact .inl rfl
          · exact .inr (List.mem_cons_of_mem _ hc)
        · rcases List.mem_cons.mp hc with rfl | hc
          · exact .inr (List.mem_cons_self ..)
          · rcases ih hc with h | h
            · exact .inl h
            · exact .inr (List.mem_cons_of_mem _ h)

theorem memPuts_wf (l : List Byte) (m : List Host.Cell) (a : Nat) (h : Memory.wf m = true) : Memory.wf (memPuts m a l) = true := by
  induction l generalizing m a with
  | nil => exact h
  | cons b r ih => exact ih _ _ (memPut_wf m a b h)

theorem memFilter_wf (p : Host.Cell → Bool) (m : List Host.Cell) (h : Memory.wf m = true) : Memory.wf (m.filter p) = true := by
  simp only [Memory.wf, Bool.and_eq_true, List.all_eq_true] at h ⊢
  exact ⟨sortedFrom_filter p m none h.1, fun c hc => h.2 c (List.mem_of_mem_filter hc)⟩

/-- Memory at reset is in canonical form. -/
theorem reset_mem_wf : Memory.wf State.reset.mem = true := rfl

/-! ### Bytes -/

theorem byte_memPuts_outside (l : List Byte) (m : List Host.Cell) (a x : Nat) (h : x < a ∨ a + l.length ≤ x) :
    mget (memDefault x) (memPuts m a l) x = mget (memDefault x) m x := by
  induction l generalizing m a with
  | nil => rfl
  | cons b r ih =>
    simp only [List.length_cons] at h
    rw [memPuts, ih _ _ (by omega)]
    exact mget_mput_ne _ _ _ _ _ _ (by omega)

theorem byte_memPuts_inside (l : List Byte) (m : List Host.Cell) (a i : Nat) (hm : Memory.wf m = true) (hi : i < l.length) :
    mget (memDefault (a + i)) (memPuts m a l) (a + i) = l[i] := by
  induction l generalizing m a i with
  | nil => cases hi
  | cons b r ih =>
    rw [memPuts]
    cases i with
    | zero =>
      rw [byte_memPuts_outside _ _ _ _ (by omega)]
      exact mget_mput_same _ _ _ _ (by simp only [Memory.wf, Bool.and_eq_true] at hm; exact hm.1)
    | succ n =>
      have := ih (memPut m a b) (a + 1) n (memPut_wf m a b hm) (by simpa using hi)
      rw [show a + 1 + n = a + (n + 1) by omega] at this
      simpa using this

theorem leBytes_length (n v : Nat) : (leBytes n v).length = n := by simp [leBytes]

/-! ### What a store touches -/

theorem ckpMark_fold (l : List Nat) (f : State → Nat → State) (hf : ∀ t r, f t r = { t with dirty := (f t r).dirty }) (t : State) :
    l.foldl f t = { t with dirty := (l.foldl f t).dirty } := by
  induction l generalizing t with
  | nil => rfl
  | cons r q ih =>
    rw [List.foldl_cons, ih (f t r)]
    exact congrArg (fun x : State => { x with dirty := (q.foldl f (f t r)).dirty }) (hf t r)

theorem ckpMark_frame (s : State) (a n : Nat) : ckpMark s a n = { s with dirty := (ckpMark s a n).dirty } := by
  unfold ckpMark
  split
  · rfl
  · apply ckpMark_fold
    intro t r
    dsimp only
    split <;> rfl

theorem breakResv_frame (s : State) (a n : Nat) : breakResv s a n = { s with cores := (breakResv s a n).cores } := by
  unfold breakResv
  split <;> rfl

theorem breakResv_sorted (s : State) (a n : Nat) (h : sortedFrom none s.cores = true) : sortedFrom none (breakResv s a n).cores = true := by
  unfold breakResv
  split
  · exact sortedFrom_map _ _ _ h
  · exact h

/-- A store writes the bytes with valid check bits, marks dirty pages and breaks reservations; nothing else changes. -/
theorem poke_frame (s : State) (a n v : Nat) :
    s.poke a n v = { s with mem := memPuts s.mem a (leBytes n v), chk := clearChk s.chk a n,
                            dirty := (s.poke a n v).dirty, cores := (s.poke a n v).cores } := by
  unfold State.poke
  rw [breakResv_frame, ckpMark_frame]

@[simp] theorem poke_mem (s : State) (a n v : Nat) : (s.poke a n v).mem = memPuts s.mem a (leBytes n v) := by rw [poke_frame]
@[simp] theorem poke_regs (s : State) (a n v : Nat) : (s.poke a n v).regs = s.regs := by rw [poke_frame]

theorem byte_poke_outside (s : State) (a n v x : Nat) (h : x < a ∨ a + n ≤ x) : (s.poke a n v).byte x = s.byte x := by
  simp only [State.byte, poke_mem]
  exact byte_memPuts_outside _ _ _ _ (by rw [leBytes_length]; exact h)

theorem byte_poke_inside (s : State) (hm : Memory.wf s.mem = true) (a n v i : Nat) (h : i < n) :
    (s.poke a n v).byte (a + i) = BitVec.ofNat 8 (v >>> (8 * i)) := by
  simp only [State.byte, poke_mem]
  rw [byte_memPuts_inside _ _ _ _ hm (by rw [leBytes_length]; exact h)]
  simp [leBytes]

theorem poke_sorted (s : State) (a n v : Nat) (h : sortedFrom none s.cores = true) : sortedFrom none (s.poke a n v).cores = true := by
  unfold State.poke
  refine breakResv_sorted _ _ _ ?_
  rw [ckpMark_frame]
  exact h

theorem poke_wf (s : State) (a n v : Nat) (h : Memory.wf s.mem = true) : Memory.wf (s.poke a n v).mem = true := by
  rw [poke_mem]; exact memPuts_wf _ _ _ h

end Sys2Proof.Machine
end

