-- ==== Sys2Proof/Laws/Flash.lean ====
section
/-! SUPPORT. Code flash that nothing has written: what its words, its selector areas and its root logs read as. -/

namespace Sys2Proof.Machine

theorem mfind_none_of_unlisted {α : Type} (m : SMap α) (k : Nat) (h : ∀ e ∈ m, e.1 ≠ k) : mfind m k = none := by
  induction m with
  | nil => rfl
  | cons e r ih =>
    obtain ⟨k', v⟩ := e
    simp [mfind, h (k', v) (by simp), ih fun e he => h e (by simp [he])]

/-- Nothing in memory lies among the n addresses from a on. -/
abbrev Unlisted {α : Type} (m : SMap α) (a n : Nat) : Prop := ∀ e ∈ m, e.1 < a ∨ a + n ≤ e.1

theorem byte_erased (s : State) (a n i : Nat) (h : Unlisted s.mem a n) (hi : i < n) (ha : 0x10000000 ≤ a) (hb : a + n ≤ 0x11000000) :
    s.byte (a + i) = 0xFF := by
  have : mfind s.mem (a + i) = none := mfind_none_of_unlisted _ _ fun e he => by have := h e he; omega
  simp only [State.byte, mget, this, Option.getD_none, memDefault]
  rw [if_neg (by omega), if_pos (by simp; omega)]

theorem ofLe_erased (n : Nat) : ofLe ((List.range n).map fun _ => (0xFF : Byte)) = 2 ^ (8 * n) - 1 := by
  rw [List.map_const']
  induction n with
  | zero => rfl
  | succ n ih =>
    simp only [List.length_range] at ih ⊢
    rw [List.replicate_succ, ofLe, List.foldr_cons, ← ofLe, ih]
    have : 2 ^ (8 * (n + 1)) = 256 * 2 ^ (8 * n) := by rw [Nat.mul_succ, Nat.pow_add]; omega
    have : 0 < 2 ^ (8 * n) := Nat.two_pow_pos _
    simp; omega

theorem rawNat_erased (s : State) (a n : Nat) (h : Unlisted s.mem a n) (ha : 0x10000000 ≤ a) (hb : a + n ≤ 0x11000000) :
    s.rawNat a n = 2 ^ (8 * n) - 1 := by
  rw [State.rawNat, ← ofLe_erased]
  congr 1
  exact List.map_congr_left fun i hi => byte_erased s a n i h (by simpa using hi) ha hb

theorem wordUsed_erased (s : State) (off : Nat) (h : Unlisted s.mem (0x10000000 + off) 8) (hc : Unlisted s.fchk (0x10000000 + off) 8)
    (hb : off + 8 ≤ 0x1000000) : s.wordUsed off = false := by
  have hr := rawNat_erased s (0x10000000 + off) 8 h (by omega) (by omega)
  have hf : mfind s.fchk (0x10000000 + off) = none := mfind_none_of_unlisted _ _ fun e he => by have := hc e he; omega
  simp [State.wordUsed, hr, State.flashChk, mget, hf]

/-- R367: no word of a selector area that nothing has written counts. -/
theorem selCount_erased (s : State) (b : Nat) (hb : b < 2) (h : Unlisted s.mem (0x100B0000 + b * 0x800000) 16384)
    (hc : Unlisted s.fchk (0x100B0000 + b * 0x800000) 16384) : s.selCount b = 0 := by
  simp only [State.selCount, List.length_eq_zero_iff, List.filter_eq_nil_iff, List.mem_range]
  intro i hi
  rw [wordUsed_erased]
  · simp
  · intro e he; have := h e he; omega
  · intro e he; have := hc e he; omega
  · omega

/-- R211: root logs with nothing in them but slot 0 of bank 0. -/
theorem rootSlots_first (s : State) (h : Unlisted s.mem 0x10090040 0xFFC0) (h1 : Unlisted s.mem 0x10890000 0x10000) :
    ∃ rest, s.rootSlots = (0, s.rawNat 0x10090000 64) :: rest ∧ ∀ r ∈ rest, r.2 = 2 ^ 512 - 1 := by
  refine ⟨((List.range 1023).map fun k => (k + 1, s.rawNat (0x10090000 + 64 * (k + 1)) 64)) ++
    (List.range 1024).map fun k => (k, s.rawNat (0x10890000 + 64 * k) 64), ?_, ?_⟩
  · rw [State.rootSlots, show List.range 1024 = 0 :: (List.range 1023).map Nat.succ from List.range_succ_eq_map]
    simp [Function.comp_def]
  · intro r hr
    simp only [List.mem_append, List.mem_map, List.mem_range] at hr
    obtain ⟨k, hk, rfl⟩ | ⟨k, hk, rfl⟩ := hr
    · simpa using rawNat_erased s (0x10090000 + 64 * (k + 1)) 64 (fun e he => by have := h e he; omega) (by omega) (by omega)
    · simpa using rawNat_erased s (0x10890000 + 64 * k) 64 (fun e he => by have := h1 e he; omega) (by omega) (by omega)

/-- R211: a valid record that stands alone in the root logs is the best; an invalid one leaves none. -/
theorem rootBest_first (v : Nat) (rest : List (Nat × Nat)) (h : ∀ r ∈ rest, r.2 = 2 ^ 512 - 1) :
    rootBest ((0, v) :: rest) =
      if nbits v 0 32 = 0x31524B43 ∧ (crc32c (leBytes 60 v)).toNat = nbits v 480 32 then some (0, v) else none := by
  have hn : rest.filter (fun r => nbits r.2 0 32 = 0x31524B43 && (crc32c (leBytes 60 r.2)).toNat = nbits r.2 480 32) = [] := by
    refine List.filter_eq_nil_iff.mpr fun r hr => ?_
    rw [h r hr, show nbits (2 ^ 512 - 1) 0 32 = 2 ^ 32 - 1 by decide +kernel]
    simp
  rw [rootBest, List.filter_cons, hn]
  split <;> rename_i hc <;> simp at hc <;> simp [bestBy] <;> exact hc

end Sys2Proof.Machine
end

