-- ==== Sys2Proof/Laws/Report.lean ====
section
/-! SUPPORT. Laws of reports: everything that raising an event or latching a fault line can change (State.Reported), and that it keeps the canonical
order of the maps. -/

namespace Sys2Proof.Machine

/-! ### Reported is a preorder closed under the plain updates -/

theorem State.Reported.refl (s : State) : s.Reported s := ⟨rfl, fun _ _ => rfl, id⟩

theorem State.Reported.trans {s t u : State} (h1 : s.Reported t) (h2 : t.Reported u) : s.Reported u := by
  refine ⟨?_, fun off h => (h2.2.1 off h).trans (h1.2.1 off h), fun h => h2.2.2 (h1.2.2 h)⟩
  have a := h1.1
  have b := h2.1
  rw [a] at b
  exact b

theorem State.Reported.setReg (s : State) (r : Reg) (v : Word) (i j k : Nat) (h : reportReg (r.at i j k) = true) : s.Reported (s.setReg r v i j k) := by
  refine ⟨rfl, fun off ho => mfind_mput_ne _ _ _ _ _ ?_, fun hs => ?_⟩
  · rintro rfl
    rw [h] at ho
    cases ho
  · simp only [State.ok, Bool.and_eq_true] at hs ⊢
    exact ⟨⟨⟨hs.1.1.1, sortedFrom_mput _ _ _ _ hs.1.1.2⟩, hs.1.2⟩, hs.2⟩

theorem State.Reported.setFld (s : State) (f : Fld) (v i j k : Nat) (h : reportReg (f.reg.at i j k) = true) : s.Reported (s.setFld f v i j k) :=
  State.Reported.setReg _ _ _ _ _ _ h

theorem State.Reported.inc (s : State) (f : Fld) (n i j : Nat) (h : reportReg (f.reg.at i j 0) = true) : s.Reported (s.inc f n i j) :=
  State.Reported.setFld _ _ _ _ _ _ h

theorem State.Reported.setPair (s : State) (a b : Fld) (v i j : Nat) (h : reportReg (a.reg.at i j 0) = true) (h' : reportReg (b.reg.at i j 0) = true) :
    s.Reported (s.setPair a b v i j) :=
  (State.Reported.setFld _ _ _ _ _ _ h).trans (State.Reported.setFld _ _ _ _ _ _ h')

theorem State.Reported.poke (s : State) (a n v : Nat) : s.Reported (s.poke a n v) := by
  refine ⟨?_, fun off _ => by rw [poke_regs], fun hs => ?_⟩
  · have h := poke_frame s a n v
    rw [h]
  · simp only [State.ok, Bool.and_eq_true] at hs ⊢
    have hc := poke_sorted s a n v hs.2
    have hm := poke_wf s a n v hs.1.1.1
    have hf : (s.poke a n v).force = s.force := by rw [poke_frame]
    rw [poke_regs, hf]
    exact ⟨⟨⟨hm, hs.1.1.2⟩, hs.1.2⟩, hc⟩

theorem State.Reported.ite {s t u : State} (c : Prop) [Decidable c] (ht : s.Reported t) (hu : s.Reported u) : s.Reported (if c then t else u) := by
  split <;> assumption

/-- A fold of steps, each of which only reports, only reports. -/
theorem State.Reported.foldl {α : Type} (l : List α) (f : State → α → State) (hf : ∀ (t : State) (a : α), a ∈ l → t.Reported (f t a)) (s : State) :
    s.Reported (l.foldl f s) := by
  induction l generalizing s with
  | nil => exact State.Reported.refl s
  | cons a q ih =>
    exact (hf s a (List.mem_cons_self ..)).trans (ih (fun t b hb => hf t b (List.mem_cons_of_mem _ hb)) (f s a))

/-! ### Offsets -/

theorem fld_lt (s : State) (f : Fld) (i j k : Nat) : s.fld f i j k < 2 ^ f.width := Nat.mod_lt _ (Nat.two_pow_pos _)

theorem reportReg_raw (i : Nat) (h : i < 20) : reportReg (EVR_RAW.at i 0 0) = true := by
  generalize hx : Reg.at _ _ 0 0 = x
  simp only [Reg.at, EVR_RAW] at hx
  simp only [reportReg, Bool.or_eq_true, Bool.and_eq_true, decide_eq_true_eq]
  omega

theorem reportReg_core (r : Reg) (hr : r = EVR_PEND_LO ∨ r = EVR_PEND_HI ∨ r = EVR_RWR) (n : Nat) (h : n < 8) : reportReg (r.at n 0 0) = true := by
  rcases hr with rfl | rfl | rfl <;>
  · generalize hx : Reg.at _ _ 0 0 = x
    simp only [Reg.at, EVR_PEND_LO, EVR_PEND_HI, EVR_RWR] at hx
    simp only [reportReg, Bool.or_eq_true, Bool.and_eq_true, decide_eq_true_eq]
    omega

theorem reportReg_cnt (r : Reg) (hr : r = PMU_CNT_LO ∨ r = PMU_CNT_HI) (i : Nat) (h : i < 256) : reportReg (r.at i 0 0) = true := by
  rcases hr with rfl | rfl <;>
  · generalize hx : Reg.at _ _ 0 0 = x
    simp only [Reg.at, PMU_CNT_LO, PMU_CNT_HI] at hx
    simp only [reportReg, Bool.or_eq_true, Bool.and_eq_true, decide_eq_true_eq]
    omega

theorem reportReg_ovf (i : Nat) (h : i < 8) : reportReg (PMU_OVF.at i 0 0) = true := by
  generalize hx : Reg.at _ _ 0 0 = x
  simp only [Reg.at, PMU_OVF] at hx
  simp only [reportReg, Bool.or_eq_true, Bool.and_eq_true, decide_eq_true_eq]
  omega

theorem reportReg_hist (r : Reg) (hr : r ∈ [FLT_HIST0, FLT_HIST1, FLT_HIST2, FLT_HIST3]) (i : Nat) (h : i < 16) : reportReg (r.at i 0 0) = true := by
  simp only [List.mem_cons, List.not_mem_nil, or_false] at hr
  rcases hr with rfl | rfl | rfl | rfl <;>
  · generalize hx : Reg.at _ _ 0 0 = x
    simp only [Reg.at, FLT_HIST0, FLT_HIST1, FLT_HIST2, FLT_HIST3] at hx
    simp only [reportReg, Bool.or_eq_true, Bool.and_eq_true, decide_eq_true_eq]
    omega

theorem evAssigned_lt (n : Nat) (h : evAssigned n = true) : n < 640 := by
  simp only [evAssigned, List.any_eq_true, Bool.and_eq_true, decide_eq_true_eq] at h
  obtain ⟨r, hr, h1, h2⟩ := h
  have : ∀ r ∈ evRanges, r.1 + r.2 ≤ 640 := by decide
  have := this r hr
  omega

/-! ### The performance monitor -/

theorem pmuAdd_reported (fuel i k : Nat) (s : State) (hi : i < 256) : s.Reported (pmuAdd fuel i k s) := by
  induction fuel generalizing i k s with
  | zero => exact State.Reported.refl s
  | succ n ih =>
    unfold pmuAdd
    have pair : ∀ (t : State) (v : Nat), t.Reported (t.setPair PMU_CNT_LO_COUNT PMU_CNT_HI_COUNT v i) := fun t v =>
      State.Reported.setPair _ _ _ _ _ _ (reportReg_cnt _ (.inl rfl) i hi) (reportReg_cnt _ (.inr rfl) i hi)
    have ovf : ∀ (t : State) (v : Nat), t.Reported (t.setFld PMU_OVF_OVF v (i / 32)) := fun t v =>
      State.Reported.setFld _ _ _ _ _ _ (reportReg_ovf _ (by omega))
    split
    · exact State.Reported.refl s
    · dsimp only
      split
      · exact pair _ _
      · have due : ∀ t u : State, s.Reported t → u = { t with pmu := u.pmu } → s.Reported u := by
          intro t u ht hu
          rw [hu]
          exact ht.trans ⟨rfl, fun _ _ => rfl, id⟩
        split
        · refine State.Reported.trans (due _ _ ((pair _ _).trans (ovf _ _)) rfl) (ih _ _ _ ?_)
          rename_i h; simp only [Bool.and_eq_true, decide_eq_true_eq] at h; omega
        · exact due _ _ ((pair _ _).trans (ovf _ _)) rfl

theorem pmuActive_lt (s : State) (i : Nat) (h : i ∈ s.pmuActive) : i < 256 := by
  simp only [State.pmuActive, List.mem_filterMap] at h
  obtain ⟨e, _, he⟩ := h
  split at he
  · rename_i hc
    simp only [Bool.and_eq_true, decide_eq_true_eq] at hc
    injection he with he
    omega
  · cases he

theorem pmuCount_reported (src k : Nat) (s : State) : s.Reported (pmuCount src k s) := by
  unfold pmuCount
  split
  · exact State.Reported.refl s
  · refine State.Reported.foldl _ _ (fun t i hi => ?_) s
    split
    · exact pmuAdd_reported _ _ _ _ (pmuActive_lt _ _ hi)
    · exact State.Reported.refl t

/-! ### Events -/

theorem evPut_reported (s : State) (n src vec prio payload : Nat) (hn : n < 8) : s.Reported (evPut s n src vec prio payload).1 := by
  unfold evPut
  have rwr : ∀ (t : State) (f : Fld), f.reg = EVR_RWR → ∀ v, t.Reported (t.setFld f v n) := fun t f hf v =>
    State.Reported.setFld _ _ _ _ _ _ (reportReg_core _ (.inr (.inr hf)) n hn)
  dsimp only
  split
  · exact State.Reported.setFld _ _ _ _ _ _ (by decide)
  · dsimp only
    refine State.Reported.trans ?_ (State.Reported.ite _ (rwr _ _ rfl _) (State.Reported.refl _))
    refine State.Reported.trans ?_ (rwr _ _ rfl _)
    exact State.Reported.ite _ (State.Reported.poke _ _ _ _) (State.Reported.refl _)

theorem raise1_reported (s : State) (src payload : Nat) : s.Reported (raise1 s src payload).1 := by
  unfold raise1
  split
  · exact State.Reported.refl s
  · rename_i h
    have hs : src < 640 := by
      simp only [Bool.or_eq_true, Bool.not_eq_true'] at h
      exact evAssigned_lt _ (by simpa using (not_or.mp h).1)
    dsimp only
    have h1 : s.Reported (pmuCount src 1 (s.setFld ⟨EVR_RAW, src % 32, 1⟩ 1 (src / 32))) := by
      refine State.Reported.trans ?_ (pmuCount_reported _ _ _)
      exact State.Reported.setFld _ _ _ _ _ _ (reportReg_raw _ (by omega))
    generalize pmuCount src 1 _ = t at h1
    split
    · exact h1
    · have hn : t.fld EVR_ROUTE0_CORE src < 8 := fld_lt t EVR_ROUTE0_CORE src 0 0
      have pend : ∀ (f : Fld), f.reg = EVR_PEND_LO ∨ f.reg = EVR_PEND_HI → ∀ v, t.Reported (t.setFld f v (t.fld EVR_ROUTE0_CORE src)) := by
        intro f hf v
        exact State.Reported.setFld _ _ _ _ _ _ (reportReg_core _ (by tauto) _ hn)
      have h2 := h1.trans (State.Reported.ite (t.fld EVR_ROUTE0_VEC src < 32) (pend EVR_PEND_LO_VEC (.inl rfl) (t.fld EVR_PEND_LO_VEC (t.fld EVR_ROUTE0_CORE src) ||| 2 ^ t.fld EVR_ROUTE0_VEC src))
        (pend EVR_PEND_HI_VEC (.inr rfl) (t.fld EVR_PEND_HI_VEC (t.fld EVR_ROUTE0_CORE src) ||| 2 ^ (t.fld EVR_ROUTE0_VEC src - 32))))
      generalize ite (t.fld EVR_ROUTE0_VEC src < 32) _ _ = u at h2 ⊢
      refine h2.trans ?_
      split
      · exact ⟨rfl, fun _ _ => rfl, id⟩
      · refine State.Reported.trans ?_ (evPut_reported _ _ _ _ _ _ hn)
        exact ⟨rfl, fun _ _ => rfl, id⟩

theorem raises_reported (es : List (Nat × Nat)) (s : State) : s.Reported (raises es s).1 := by
  induction es generalizing s with
  | nil => exact State.Reported.refl s
  | cons e r ih =>
    obtain ⟨src, pl⟩ := e
    unfold raises
    dsimp only
    refine State.Reported.trans (raise1_reported s src pl) ?_
    refine State.Reported.trans ?_ (ih _)
    exact State.Reported.ite _ (raise1_reported _ _ _) (State.Reported.refl _)

/-! ### Faults -/

theorem fltRecord_reported (s : State) (r0 r1 r2 r3 : Reg) (i line addr master ty : Nat)
    (h : ∀ r ∈ [r0, r1, r2, r3], reportReg (r.at i 0 0) = true) : s.Reported (fltRecord s r0 r1 r2 r3 i line addr master ty) := by
  unfold fltRecord
  have g : ∀ (t : State) (r : Reg) (v : Word), r ∈ [r0, r1, r2, r3] → t.Reported (t.setReg r v i) := fun t r v hr => State.Reported.setReg _ _ _ _ _ _ (h r hr)
  exact ((((g _ r0 _ (by simp)).trans (g _ r1 _ (by simp))).trans (g _ r2 _ (by simp))).trans (g _ r3 _ (by simp)))

theorem fltSettle_reported (s : State) : s.Reported (fltSettle s) := by
  unfold fltSettle
  refine (State.Reported.setFld s FLT_STAT_FAULT (b2n ((List.range 32).any fun l => nbit (s.fld FLT_LINE_LINES) l && s.reaction l != 0)) 0 0 0 (by decide)).trans ?_
  exact ⟨rfl, fun _ _ => rfl, id⟩

theorem State.Reported.of_flt (s : State) (x : Flt) : s.Reported { s with flt := x } := ⟨rfl, fun _ _ => rfl, id⟩
theorem State.Reported.of_recov (s : State) (x : Option Nat) : s.Reported { s with pwr.recovDue := x } := ⟨rfl, fun _ _ => rfl, id⟩

theorem fltLatch_reported (s : State) (line addr master ty : Nat) : s.Reported (fltLatch s line addr master ty).1 := by
  unfold fltLatch
  dsimp only
  have hist : ∀ (t : State) (i : Nat), i < 16 → t.Reported (fltRecord t FLT_HIST0 FLT_HIST1 FLT_HIST2 FLT_HIST3 i line addr master ty) := by
    intro t i hi
    refine fltRecord_reported _ _ _ _ _ _ _ _ _ _ fun r hr => ?_
    exact reportReg_hist r hr i hi
  have first : ∀ (t : State), t.Reported (fltRecord t FLT_FIRST0 FLT_FIRST1 FLT_FIRST2 FLT_FIRST3 0 line addr master ty) := by
    intro t
    refine fltRecord_reported _ _ _ _ _ _ _ _ _ _ fun r hr => ?_
    simp only [List.mem_cons, List.not_mem_nil, or_false] at hr
    rcases hr with rfl | rfl | rfl | rfl <;> decide
  have set : ∀ (t : State) (f : Fld) (v : Nat), reportReg (f.reg.at 0 0 0) = true → t.Reported (t.setFld f v) := fun t f v h => State.Reported.setFld _ _ _ _ _ _ h
  have react : ∀ (t : State) (m r : Nat) (q : Bool),
      t.Reported (let u := if (r = 2 && m != mBOOT && m != mCONFIG && m != mRECOVERY) = true then { t with pwr.recovDue := some 6 } else t
        if r = 3 then { u with flt.bodDrive := true, flt.resetDue := u.flt.resetDue || u.flag CKP_STAT_QUIESCED } else u) := by
    intro t m r q
    dsimp only
    have h0 := State.Reported.ite ((r = 2 && m != mBOOT && m != mCONFIG && m != mRECOVERY) = true) (State.Reported.of_recov t (some 6)) (State.Reported.refl t)
    exact h0.trans (State.Reported.ite _ (State.Reported.of_flt _ _) (State.Reported.refl _))
  refine State.Reported.trans ?_ (react _ _ _ true)
  refine State.Reported.trans ?_ (fltSettle_reported _)
  refine State.Reported.trans ?_ (State.Reported.inc _ _ _ _ _ (by decide))
  refine State.Reported.trans ?_ (State.Reported.ite _ ((first _).trans (set _ _ _ (by decide))) (State.Reported.refl _))
  refine State.Reported.trans ?_ (State.Reported.ite _ (set _ _ _ (by decide)) (State.Reported.refl _))
  refine State.Reported.trans ?_ (set _ FLT_HISTWR_INDEX _ (by decide))
  refine State.Reported.trans ?_ (State.Reported.of_flt _ _)
  refine (set s FLT_LINE_LINES _ (by decide)).trans (hist _ _ ?_)
  exact fld_lt _ FLT_HISTWR_INDEX 0 0 0

theorem denyMark_reported (s : State) (a m ty : Nat) : s.Reported (denyMark s a m ty).1 := by
  unfold denyMark
  exact (State.Reported.inc _ _ _ _ _ (by decide)).trans (State.Reported.setFld _ _ _ _ _ _ (by decide))

/-- Raising events changes nothing but what State.Reported names. -/
theorem raiseAll_reported (es : List (Nat × Nat)) (s : State) : s.Reported (raiseAll es s) := by
  unfold raiseAll
  have h := raises_reported es s
  split
  · rename_i t e
    rw [e] at h; exact h
  · rename_i t m a e
    rw [e] at h
    dsimp only at h ⊢
    refine h.trans ?_
    split
    · exact ((denyMark_reported _ _ _ _).trans (fltLatch_reported _ _ _ _ _)).trans (raises_reported _ _)
    · exact (fltLatch_reported _ _ _ _ _).trans (raises_reported _ _)

theorem raise_reported (src payload : Nat) (s : State) : s.Reported (raise src payload s) := raiseAll_reported _ _

/-- An occurrence on a fault line changes nothing but what State.Reported names. -/
theorem occur_reported (line addr master ty : Nat) (s : State) : s.Reported (occur line addr master ty s) := by
  unfold occur
  exact (fltLatch_reported _ _ _ _ _).trans (raiseAll_reported _ _)

/-- A register outside the reporting blocks reads as before after a report. -/
theorem State.Reported.reg {s t : State} (h : s.Reported t) (r : Reg) (i j k : Nat) (hr : reportReg (r.at i j k) = false) : t.reg r i j k = s.reg r i j k := by
  simp only [State.reg, mget, h.2.1 _ hr]

theorem State.Reported.fld {s t : State} (h : s.Reported t) (f : Fld) (i j k : Nat) (hr : reportReg (f.reg.at i j k) = false) : t.fld f i j k = s.fld f i j k := by
  simp only [State.fld, h.reg f.reg i j k hr]

end Sys2Proof.Machine
end

