-- ==== Sys2Proof/Machine/Package.lean ====
section
/-! DEFINITION. Family: package, supplies and NAND targets (spec/22_package_electrical.md): where each signal lands, the core supply that a VID code asks
for, and the chip enable of a target.  They are constants of every part: no command changes them. -/

namespace Sys2Proof.Machine

/-- What a ball carries (R429–R433): a rail, or a signal of a group by its number. -/
inductive Ball where
  | rail (name : String)
  | nand (ch k : Nat)
  | zqNand (q : Nat)
  | dram (ch k : Nat)
  | zqDdr
  | serdes (lane k : Nat)
  | control (name : String)
  deriving DecidableEq, Repr

/-- A ball, by row and column. -/
abbrev At := Nat × Nat

/-- Signal k of NAND channel c (R430): DQ0–7, DQS_t, DQS_c, RE_t, RE_c, WE_n, ALE, CLE, WP_n, RB_n, CE0_n–CE3_n. -/
def nandBall (c k : Nat) : At :=
  let m := c % 16
  (if c < 16 then 1 + k / 3 else 49 - k / 3, 3 * m + 1 + k % 3)

/-- Signal k of DRAM channel c (R431). -/
def dramBall (c k : Nat) : At := (11 + 7 * c + k / 10, 1 + k % 10)

/-- Wire k of SerDes lane j (R432): TX_P, TX_N, RX_P, RX_N. -/
def serdesBall (j k : Nat) : At := (11 + 2 * j, 46 + k)

/-- Column 44 at rows 10 to 40 (R433). -/
def controlBalls : List String :=
  ["REFCLK_P", "REFCLK_N", "VDD_PLL", "VDD_PLL", "PERST#", "CLKREQ#", "SMB_CLK", "SMB_DAT", "VDD_IO", "RESET_N", "PFAIL_N", "FAULT_N", "THERM_N", "JDCK",
   "JDIO", "TEST_N", "REFSSC", "VDD_IO", "VID0", "VID1", "VID2", "VID3", "VID4", "VID5", "VID6", "VDD_AON", "VDD_AON", "VDD_PLL", "VDD_PLL", "SREFCLK_P",
   "SREFCLK_N"]

/-- One of two rails by the parity of row + column. -/
def checker (odd : String) (r c : Nat) : Ball := .rail (if (r + c) % 2 = 1 then odd else "VSS")

/-- The balls of the NAND corner column (R429). -/
def cornerBall (r : Nat) : Ball :=
  if r = 1 then .zqNand 0 else if r = 2 then .zqNand 1 else if r = 49 then .zqNand 2 else if r = 48 then .zqNand 3 else .rail "VSS"

/-- What the ball at row r, column c carries (R428, R429); none outside the 49 × 49 array. -/
def ballAt (r c : Nat) : Option Ball :=
  if r = 0 || 49 < r || c = 0 || 49 < c then none
  else if r ≤ 7 || 43 ≤ r then
    if c = 49 then some (cornerBall r)
    else
      let k := (if r ≤ 7 then r - 1 else 49 - r) * 3 + (c - 1) % 3
      some (.nand ((c - 1) / 3 + if r ≤ 7 then 0 else 16) k)
  else if r ≤ 9 || 41 ≤ r then some (.rail (if c % 2 = 1 then "VDDQ_NAND" else "VSS"))
  else if c ≤ 11 then
    if r = 10 && c = 1 then some .zqDdr
    else if 11 ≤ r && r ≤ 38 && c ≤ 10 then some (.dram ((r - 11) / 7) ((r - 11) % 7 * 10 + (c - 1)))
    else some (checker "VDDQ_DDR" r c)
  else if c ≤ 43 then some (checker "VDD_CORE" r c)
  else if c = 44 then (controlBalls[r - 10]?).map .control
  else if c = 45 then some (.rail (if r ≤ 25 then "VDD_SERDES" else "VDDH_SERDES"))
  else if r % 2 = 1 && r ≤ 37 then some (.serdes ((r - 11) / 2) (c - 46))
  else some (.rail "VSS")

/-- The core supply that VID code n asks for (R435), in millivolts. -/
def vidMillivolts (n : Nat) : Nat := 500 + 5 * n

/-- The power drawn in DORMANT (R411, R439), in units of 0.1 mW. -/
def State.dormantPower (s : State) : Nat := 650 + 12 * ((List.range 96).filter (nbit s.retainMask)).length

/-- How target t of a channel is reached (R444): its chip enable and its ONFI volume address. -/
def targetSelect (t : Nat) : Nat × Nat := (t / 4, t % 4)

end Sys2Proof.Machine
end

