-- ==== Sys2Proof/Tests/Slice0.lean ====
section
/-! SUPPORT. Tests: commands that are not well formed, values from the spec's own descriptions, the machine step by step; and for every statement with
hypotheses a state and operands that meet them. -/

namespace Sys2Proof.Tests

open Sys2Proof Sys2Proof.Machine

set_option maxRecDepth 100000
set_option Elab.async false
set_option linter.unreachableTactic false
set_option linter.unusedTactic false
set_option linter.unnecessarySeqFocus false
set_option linter.unusedVariables false
set_option exponentiation.threshold 600

/-- The device after reset. -/
abbrev boot : State := State.reset

/-- The next state of an outcome that has one. -/
def nextOf (o : Out) : State := match o with | .next t => t | _ => {}

theorem nextOf_eq {o : Out} (h : (match o with | .next _ => true | _ => false) = true) : o = .next (nextOf o) := by
  cases o <;> first | rfl | cases h

/-! ### Commands that are not well formed -/

theorem test_wf_master : (Instr.globalCommit 27).wf = false ∧ (Instr.globalCommit 26).wf = true := by decide
theorem test_wf_fault_master : (Instr.faultOccurrence 0 0 30 0).wf = false ∧ (Instr.faultOccurrence 0 0 31 0).wf = true := by decide
theorem test_wf_pass_target : (Instr.pass 0 0 0 0 27).wf = false := by decide
theorem test_wf_fuse_word : (Instr.fuseProgram 0 3).wf = false ∧ (Instr.fuseProgram 0 2).wf = true := by decide
theorem test_wf_bursts : (Instr.dataOut 0 []).wf = false ∧ (Instr.dataOut 0 (List.replicate 17 0)).wf = false := by decide +kernel
theorem test_wf_burst_count : (Instr.dataIn 0 0).wf = false := by decide
theorem test_wf_no_bytes : (Instr.sramRead 0 0 0 false 0).wf = false := by decide
theorem test_wf_too_much_data : (Instr.sramWrite 0 0 1 256 0).wf = false ∧ (Instr.sramWrite 0 0 1 255 0).wf = true := by decide +kernel
theorem test_wf_fetch_writes : (Instr.unmappedAccess 0 0 4 true true).wf = false := by decide
theorem test_wf_config_space : (Instr.configRequest .config false 1024 0 0).wf = false ∧ (Instr.configRequest .bar0 false 16384 0 0).wf = false := by decide
theorem test_wf_pointers : (Instr.write 0 0 [256 ^ 16]).wf = false := by decide +kernel
theorem test_wf_ranges : (Instr.datasetManagement 0 (256 ^ 4096) []).wf = false := by decide +kernel
theorem test_wf_ipv4 (o : TcpOpts) : (Instr.tcpSyn 0 none false 0 (2 ^ 32) 0 0 0 o).wf = false := by
  simp only [Instr.wf]; decide +kernel
theorem test_wf_capsule : (Instr.capsuleCommand 0 0 1 256 true true).wf = false := by decide +kernel
theorem test_wf_h2c : (Instr.h2cData 0 0 0 0 true true).wf = false := by decide
theorem test_wf_herd_buffer (h : HerdHdr) : (Instr.herdReq 0 0 h 0 1048577).wf = false := by simp only [Instr.wf]; decide
theorem test_wf_herd_payload (h : HerdHdr) : (Instr.herdData 0 h 0 1 256).wf = false := by simp only [Instr.wf]; decide +kernel
theorem test_wf_lanes : (Instr.pairLinkUp 0).wf = false := by decide
theorem test_wf_hello_order (h : PairHdr) : (Instr.hello h 0 0 0 false false false 0 0 [(1, 0, 0), (1, 0, 0)]).wf = false := by simp only [Instr.wf]; decide
theorem test_wf_hello_slot (h : PairHdr) : (Instr.hello h 0 0 0 false false false 0 0 [(128, 0, 0)]).wf = false := by simp only [Instr.wf]; decide
theorem test_wf_slot (h : PairHdr) : (Instr.nsop h 0 128 0 0).wf = false := by simp only [Instr.wf]; decide
theorem test_wf_die_position (d : DieParam) : (Instr.dieDiscovery [(512, d)]).wf = false := rfl
theorem test_wf_scan_order (f : CkpFound) (e : Nat × Nat) : (Instr.ckpStartup { f with markers := [(1, e.1), (1, e.2)] }).wf = false := by
  simp [Instr.wf, rising]
theorem test_wf_register_number : (Instr.coreRegisterAccess 0 0 33 false false false).wf = false ∧ (Instr.coreRegisterAccess 0 0 33 true false false).wf = true := by decide

/-! ### Values of the spec's own examples -/

/-- The example of R330: the check byte of the word 1 is 83H. -/
theorem test_sram_check_byte : chk72 1 = 0x83 ∧ chk72 0 = 0 := by decide +kernel

/-- The example of R433: DQS_c of channel 5, CE3_n of channel 20, CK_t of DRAM channel 2, a core supply ball. -/
theorem test_balls : nandBall 5 9 = (4, 16) ∧ nandBall 20 20 = (43, 15) ∧ dramBall 2 66 = (31, 7) ∧ ballAt 17 32 = some (.rail "VDD_CORE") := by decide +kernel

/-! ### States that the witnesses use -/

def inMode (m : Nat) : State := ((State.reset.setFld PWR_MODE_CUR m).setFld PWR_DOMSTAT_ON 0xFF).setFld PWR_DOMSTAT_QUAD 15
def serv : State := inMode mSERVICE
def inFlash (s : State) (off n v : Nat) : State :=
  (List.range (n / 8)).foldl (fun s i => let w := nbits v (64 * i) 64; flashPut s (off + 8 * i) w (chk72 w)) s
def bytesOf (l : List (Nat × Nat × Nat)) : Nat := l.foldl (fun v e => v + e.2.2 * 2 ^ (8 * e.1)) 0
def shortImage : Nat :=
  let v := bytesOf [(0, 4, 0x3159414C), (4, 2, 1), (6, 2, 64), (8, 4, 92), (12, 2, 1), (16, 2, 0x7232), (64, 2, 0x7FFF)]
  v + (crc32c (leBytes 72 v)).toNat * 2 ^ (8 * 72)
def withImage (s : State) : State := inFlash s 0x80000 96 shortImage
def latched : State := (boot.setFld FLT_LINE_LINES 0x10001).setFld SRM_STAT_UE 1
def quiet : State := { ((serv.setFld CKP_STAT_BOD 1).setFld CKP_STAT_QUIESCED 1).setFld FLT_LINE_LINES 3 with flt.resetDue := true }
def pinLow : State := { serv with pwr.resetN := false }
def owned : State := (serv.setFld PWR_OWNER_OWNER 0x8 1).setFld PWR_DOMSTAT_DEMAND 9
def lapsing : State := { owned with pwr.idleTicks := [(0, 0x10000), (3, 0x10000)] }
def voted : State := (serv.setFld PWR_VSET_VOTE 3 6).setFld PWR_DOMSTAT_ON 0x0F
def demanded : State := (serv.setFld PWR_DOMSTAT_QUAD 0).setFld PWR_DOMSTAT_DEMAND 1
def dropping : State := { serv with pwr.moving := [(7, false)], pwr.movingQuad := [(3, false)] }
def imaged : State := (withImage serv).setFld LAY_CRC_CRC (nbits shortImage (8 * 72) 32)
def rising : State := { imaged with pwr.moving := [(5, true), (7, true)], pwr.movingQuad := [(0, true)] }
def risen : State := (imageAgain rising).1
def busyPs : State := serv.setFld PWR_MODE_BUSY 1
def dormEntry : State := { serv with pwr.dormEntry := true }
def dormReady : State := { serv.setFld PWR_READY_CORE 1 with pwr.dormEntry := true }
def asleep : State := { inMode mDORMANT with pwr.cmdHeld := true }
def waking : State := (withImage { inMode mDORMANT with pwr.exiting := true }).setFld LAY_CRC_CRC (nbits shortImage (8 * 72) 32)
def awake : State := (imageAgain (setDom dCTRL true (banksZero waking))).1
def withBoot (s : State) : State := inFlash s 0 80 (bytesOf [(0, 4, 0x31425442), (4, 2, 1), (8, 4, 80), (16, 4, 0x20000000)])
def booting : State := withBoot boot
def chosenErased : State := ((boot.setFld BOT_BOOT_COUNT0 0).setFld BOT_BOOT_COUNT1 0).setFld BOT_BOOT_BANK 0
def bootRunning : State := { boot with bot.bootRun := true }
def recovering : State := { boot with bot.recovWait := true }
def recoveringLate : State := { inMode mRECOVERY with bot.recovWait := true }
def sealedUnchecked : State := withImage (inMode mCONFIG)
def checked : State := { sealedUnchecked with bot.layStep := 1 }
def checkedRead : State := (readSlot false checked).1
def started : State := { sealedUnchecked with bot.layStep := 3 }
def dramStarting : State := { (serv.setFld DRC_CFG_GIB 8).setReg DRC_DLY 1 0 54 with drc.initBusy := true }
def dramStartingAll : State := (((dramStarting.setReg DRC_DLY 1 1 54).setReg DRC_DLY 1 2 54).setReg DRC_DLY 1 3 54)
def cleanSram : State := { boot with mem := [(0x20000000, 0xA5), (0x25FFFFFF, 0x3C)] }
def dramLive : State := { (((serv.install DRC_SCRUB_ENA 1).setFld DRC_CFG_GIB 8).setFld DRC_INITSTAT_DONE 1) with drc.selfRef := false, mem := [(0x1000000000, 7)] }
def dramBanked : State := { dramLive with drc.banks := [(0, { openRow := some 3, table := [(1, 2)] }), (255, { openRow := some 1 })] }
def erasing : State := { boot with cfl.run := [(0, { who := 0, erase := true, offset := 0x1000 })] }
def programming : State := { boot.setFld CFL_CTL_WARN 0 with cfl.run := [(1, { who := 8, erase := false, offset := 0x800000, data := 5, chkb := BitVec.ofNat 8 (chk72 5) })] }
def suspendedErase : State := { boot with cfl.susp := [(0, { who := 0, erase := true, offset := 0x1000 })] }
def pooled : State := { ((serv.setFld BPM_STBASE_LO_ADDR 0x20100000).setFld BPM_PCFG_COUNT 40 0) with bpm.cache := [(0, [handleOf 0 0, handleOf 0 1])], bpm.ring := [(0, (List.range 38).map fun i => handleOf 0 (i + 2))] }
def pooledFull : State := { pooled with bpm.cache := [(0, (List.range 49).map (handleOf 0))], bpm.wait := [{ master := 10, bytes := 100, tag := 7 }] }
def bufHeld : State := setBufEntry pooled (handleOf 0 3) { owner := 0, alloc := true, freeing := false, share := 0 }
def bufShared : State := setBufEntry pooled (handleOf 0 3) { owner := 10, alloc := true, freeing := false, share := 254 }
def dmaSet (s : State) (n : Nat) : State :=
  ((s.setPair DMA_NSRC_LO_ADDR DMA_NSRC_HI_ADDR 0x20000000 n).setPair DMA_NDST_LO_ADDR DMA_NDST_HI_ADDR 0x20001000 n).setFld DMA_NCNT_BYTES 80 n
def dmaIdle : State := dmaSet (dmaSet serv 63) 0
def dmaShadow : State := (dmaIdle.setFld DMA_CHSTAT_SHADOW 1 0).setFld DMA_CHSTAT_SHADOW 1 63
def dmaActive : State :=
  (((dmaIdle.setFld DMA_CHSTAT_STATE 1 0).setPair DMA_SRC_LO_ADDR DMA_SRC_HI_ADDR 0x20000000 0).setPair DMA_DST_LO_ADDR DMA_DST_HI_ADDR 0x20001000 0).setFld DMA_CNT_BYTES 80 0
def dmaRead : State := (memRead { dmaActive with dma.last := 0 } 9 .read 0x20000000 64).1
def dmaEnding : State := dmaIdle.setFld DMA_CHSTAT_STATE 1 0
def dmaStopped : State := (dmaIdle.setFld DMA_GSTAT_STOPPED 1).setFld DMA_CHSTAT_STATE 3 63
def selectorsApart : State := flashPut (flashPut boot 0xB0000 0 (chk72 0)) 0xB0008 0 (chk72 0)
def media : State :=
  let g (s : State) (ch : Nat) := ((((s.setFld FCH_GEOM_PAGEBITS 11 ch).setFld FCH_GEOM_PLANES 4 ch).setFld FCH_GEOM_BLKPP 512 ch).setFld FCH_POP_TARGETS 16 ch).setFld FCH_POP_LUNS 4 ch
  setDieState (setDieState (g (g serv 0) 31) 0 1) 2047 1
def stOf (sub : Nat) : Step := { op := 1, subop := sub, planes := 1, tag := 3, w1 := 0x10000 }
def withProg (s : State) (ch : Nat) (st : Step) : State := { s with chans := [(ch, { prog := [st, { op := 0 }] })] }
def headStart (sub : Nat) : State := withProg media 0 (stOf sub)
def aJob (st : Step) : Job := { ch := 0, die := 0, q := 0, op := st.subop, row := st.w1, planes := 1, phase := 1 }
def managedStep (sub : Nat) : Step := { stOf sub with job := some 5 }
def headBusy (sub : Nat) : State := { setDieState (withProg media 0 (managedStep sub)) 0 2 with dies := [(0, { run := some { step := stOf 4 } })], tck.jobs := [(5, aJob (managedStep sub))] }
def armedIdle : State := { media with dies := [(0, { armed := some (managedStep 0) })], tck.jobs := [(5, aJob (managedStep 0))] }
def suspStep : Step := { op := 2 }
def resStep : Step := { op := 3, target := 15, lun := 3 }
def erasingDie : State := { setDieState (withProg media 0 suspStep) 0 2 with dies := [(0, { run := some { step := stOf 4 } })] }
def suspending : State := { setDieState media 0 3 with dies := [(0, { run := some { step := stOf 4, acc := 9 }, susp := some suspStep })] }
def holding : State := { setDieState (withProg media 31 resStep) 2047 4 with dies := [(2047, { held := some { step := stOf 4, acc := 9 } })] }
def nopHead : State := withProg media 0 { op := 0 }
def badHead : State := withProg media 31 { op := 31 }
def aDesc : Desc := { addr := 0x20000000, cw := 3, slc := false, row := 0x10001, plane := 0, col := 2, aux := 0 }
def outStep : Step := { op := 4, desc := some aDesc, job := some 5 }
def inStep : Step := { op := 5, desc := some aDesc, job := some 5 }
def outHead : State := { withProg media 0 outStep with tck.jobs := [(5, { aJob (stOf 0) with descs := [aDesc], phase := 3 })] }
def fullBufs (s : State) : State := { s with ecc.bufs := (List.range 128).map fun i => (i, { ch := 0, die := 0, job := 9, idx := 0, row := 0, plane := 0, col := 0, bits := 0 }), ecc.nextBuf := 128 }
def outHeadFull : State := fullBufs outHead
def outHeld : State := { outHead with chans := mmod {} outHead.chans 0 fun c => { c with held := true } }
def inHead : State := { withProg media 0 inStep with tck.jobs := [(5, { aJob (stOf 2) with descs := [aDesc], phase := 10 })] }
def readingDie : State := { setDieState (withProg media 0 { op := 6 }) 0 2 with dies := [(0, { run := some { step := stOf 0 }, armed := some (stOf 1) })] }
def readingQuiet : State := { setDieState media 2047 2 with dies := [(2047, { run := some { step := { stOf 5 with target := 15, lun := 3 } } })] }
def trainable : State := (media.install FCH_TRAIN_INTERVAL 5).setPair EVR_MTIME_LO_COUNT EVR_MTIME_HI_COUNT 500000
def brownedOut : State := (media.setFld FCH_BOD_ASSERTED 1).setFld FCH_BOD_ASSERTED 1 31
def atBoundary : State := { { withProg media 31 { op := 0 } with chans := [(0, { next := [stOf 0, managedStep 1] }), (31, { next := [{ op := 0 }], nextDirect := true })] } with tck.cut := true }
def aBuf (i : Nat) (bits : BitVec 36864) : CwBuf := { ch := 0, die := 0, job := 5, idx := i, row := 0x10001, plane := 0, col := i, bits := bits, taken := true }
def aRead (op phase : Nat) : Job := { ch := 0, die := 0, q := 0, op := op, row := 0x10001, planes := 1, descs := [aDesc], phase := phase, cws := [{ plane := 0, col := 2 }, { plane := 0, col := 3 }] }
def decoding (b : CwBuf) : State := { media with ecc.bufs := [(0, b), (1, aBuf 1 0)], ecc.nextBuf := 2, tck.jobs := [(5, aRead 0 4)] }
def decodingSoft : State := { media with ecc.bufs := [(0, { aBuf 0 0 with soft := true, s1 := some 0, s2 := some 0 }), (1, aBuf 1 0)], ecc.nextBuf := 2, tck.jobs := [(5, aRead 6 4)], ecc.softRes := [(5, 2)] }
def decodingSoftErased : State := { decodingSoft with ecc.bufs := [(0, { aBuf 0 (BitVec.allOnes 36864) with soft := true, s1 := some 0, s2 := some 0 }), (1, aBuf 1 0)] }
def softWaiting : State := { media with ecc.softWait := [3, 5], tck.jobs := [(5, aRead 0 7)] }
def device : State :=
  let s := { ((media.setFld DRC_CFG_GIB 32).setFld DRC_INITSTAT_DONE 1).setFld CIP_STAT_UCVALID 1 with keys := [(0, { type := 3, use := 1, key := 2 ^ 256 + 3 })] }
  let s := { s with drc.selfRef := false }
  let s := ((s.setPair TXE_MAPBASE_LO_ADDR TXE_MAPBASE_HI_ADDR 0x1000000000).setPair SKM_BTBASE_LO_ADDR SKM_BTBASE_HI_ADDR 0x1100000000).setPair SKM_GTBASE_LO_ADDR SKM_GTBASE_HI_ADDR 0x1200000000
  let s := (s.setFld TXE_NSCFG_EXISTS 1).setFld TXE_NSCFG_LBAS 1
  { (s.setFld TXE_NSUNITS_LO_UNITS 1000) with txe.maxUnits := [(0, 1000)], txe.nsze := [(0, 1000)], txe.nsid := [(0, 1)] }
def aGroup : Group := { stream := 2, cream := false, w0 := 4, mem := [(0, 1, 2048), (64, 1, 2048), (1024, 1, 2048), (1984, 1, 2048)] }
def grouped : State := { device with ste.groups := [(1, aGroup)] }
def recon : State := { grouped with ste.scans := [(0, { kind := 2, group := 1, stripe := 0, job := 5, got := [(0, 0), (1, 1)] })], tck.jobs := [(5, aRead 0 6)] }
def aCmd : Cmd := { phase := 1, slot := 0, slba := 7, nlb := 2, sqe := 2 }
def withCmd (c : Cmd) (s : State) : State := { s with cmds := [(4, c)] }
def lookUp : State := withCmd aCmd device
def lookLost : State := device.poke (device.mapAddr 0 8) 5 (entOf 0 4) |> withCmd aCmd
def lookFirm : State := device.poke (device.mapAddr 0 8) 5 (entOf 0 5) |> withCmd aCmd
def merging : State := { device with txe.merges := [(3, { slot := 0, lu := 9, n := 1, ofs := 512, len := 512, bytes := 0x77, cmd := 4 })] }
def aStripe (st : Nat) : Stripe := { group := 1, idx := 0, stream := 0, st := st }
def unit0 : UnitRec := { slot := 0, lu := 9, n := 1, data := 5 }
def placing : State := { grouped with txe.waiting := [(4, [unit0])], ste.stripes := [aStripe 0] }
def placingFull : State := { device with txe.waiting := [(4, [unit0])], txe.place := List.replicate 131072 { slot := 1, lu := 0, count := 1, high := 0 } }
def trimming : State := { grouped with txe.trimQ := [(4, [(0, 1, 5)])], ste.stripes := [aStripe 0] }
def appending : State := { grouped with ste.stripes := [aStripe 3] }
def folding : State := { (((grouped.install TXE_CTL_FOLD 1).poke (grouped.gtAddr 1 + 4) 4 10).poke (grouped.btAddr 0 1) 8 (1 + 2^32)) with txe.rev := [(grouped.cwaOf 0 1 0, (0, 3))], ste.cream := [(1, 0)] }
def placedUnit : State := { device with txe.place := [{ slot := 0, lu := 0, count := 1, high := 0 }] }
def mappedUnit : State := { device.poke (device.mapAddr 0 0) 5 (entOf 0x12345 1) with txe.rev := [(0x12345, (0, 0))] }
def zeroing : State := { withCmd { aCmd with phase := 9 } (device.poke (device.mapAddr 0 9) 5 (entOf 77 1)) with txe.zeroing := [(0, 4), (1, 5)] }
def device4 : State :=
  let g (s : State) (ch : Nat) := (((((s.setFld FCH_GEOM_PAGEBITS 11 ch).setFld FCH_GEOM_PLANES 4 ch).setFld FCH_GEOM_BLKPP 512 ch).setFld FCH_POP_TARGETS 16 ch).setFld FCH_POP_LUNS 4 ch).setFld FCH_DIESTAT_STATE 1 ch 0
  let s := g (g (g (g (setDieState device 2047 0) 0) 1) 2) 3
  (s.setFld STE_LSBASE_LO_ADDR 0).setFld STE_LSBASE_HI_ADDR 0x13
def group4 : Group := { stream := 2, cream := false, w0 := 4, mem := [(0, 1, 2048), (64, 1, 2048), (128, 1, 2048), (192, 1, 2048)] }
def cream4 : Group := { group4 with stream := 0, cream := true }
def inGroup (gr : Group) (st : Nat) : State :=
  let s := { device4 with ste.groups := [(1, gr)] }
  gr.mem.foldl (fun s m => s.poke (s.btAddr m.1 m.2.1) 8 (1 + 2 ^ 32)) ((s.poke (s.gtAddr 1) 4 5).poke (s.gtAddr 1 + 4) 4 (st + 8 * b2n gr.cream))
def skimming : State := (inGroup group4 2).setFld SKM_STAT_FG 1
def skimmingBg : State := ((inGroup group4 2).setFld SKM_STAT_FG 0).install SKM_CTL_BGEN 1
def skimmingStatic : State := (skimmingBg.install SKM_CTL_WLEN 1).setFld SKM_STAT_WLGAP 1
def skimmingShut : State := { skimmingBg with ckp.shut := true }
def skimmingNone : State := device4.setFld SKM_STAT_FG 1
def fenced : State := inGroup group4 4
def oldLedger : State := { device4 with skm.oldBlocks := [(64, 3, 0)] }
def sparing : State := { device4 with skm.spare := [(0, 9), (64, 7)], skm.sp0 := 9 }
def stripe4 (st : Nat) (full : Bool) : Stripe := { group := 1, idx := 0, stream := 2, st := st, full := full }
def closing : State := { inGroup group4 1 with ste.stripes := [stripe4 0 true] }
def closingCream : State := { inGroup cream4 1 with ste.stripes := [stripe4 0 false], ckp.shut := true }
def opening : State := device4
def openingCkp : State := { opening with ste.backlog := [0], ste.units := [(0, { slot := 0, lu := 9, n := 1, data := 5, stream := 6 })] }
def openingFull : State := opening.setFld STE_LEDENT_ENTRIES 64
def ledgerDirty : State := { inGroup group4 1 with ste.ledDirty := true }
def ledgerWritten : State := { inGroup group4 1 with ste.ledWait := true, ste.ledDone := 3, ste.ledAck := true, ste.ledIn := [1] }
def retiring : State := { inGroup group4 1 with ste.retired := [64] }
def patrolling : State := { (inGroup { group4 with next := 2047 } 2).setFld STE_GMBASE_HI_ADDR 0x10 with ste.patOn := true }
def patrolEnd : State := { device4 with ste.patOn := true }
def cleanScan : Scan := { kind := 0, group := 1, stripe := 0, got := (List.range 4).flatMap fun j => (List.range 64).map fun o => (j * 1024 + o, 0) }
def patrolRead : State := { patrolling with ste.scans := [(0, cleanScan)] }
def rebuildWaits : State := { device4 with ste.rebPend := [64] }
def rebuilding : State :=
  let s := setDieState (inGroup { group4 with next := 2047 } 2) 64 6
  { setDegraded (s.setPair STE_GMBASE_LO_ADDR STE_GMBASE_HI_ADDR 0x1400000000) 1 2 with ste.rebuildQ := [64] }
def rebuildingScan : State := { rebuilding with ste.scans := [(0, { cleanScan with kind := 1 })] }
def rebuilt : State := { device4 with ste.rebuildQ := [64] }
def lostStripe : State := (device4.poke (device4.lsAddr 8191) 16 (2 ^ 31 + 7)).setFld STE_LOST_COUNT 1
def ckpWanted : State := { device4 with ckp.want := true }
def ckpDone : State := { (device4.setFld CKP_CUR_NUM 6).setFld CKP_STAT_ACTIVE 1 with ckp.phase := 3 }
def ckpSlow : State := ((device4.setFld CKP_STAT_ACTIVE 1).setPair EVR_MTIME_LO_COUNT EVR_MTIME_HI_COUNT (2 ^ 40))
def shutClean : State := { device4 with ckp.shut := true, ckp.cleanDone := true, ckp.shn := true }
def shutWaits : State := { shutClean with ckp.recs := [(1, [])] }
def ckpShutWaits : State := { ckpWanted with ckp.shut := true, ste.stripes := [stripe4 0 true] }
def small (s : State) : State := setDieState ([0, 1, 2, 3, 31].foldl (fun s ch => ((s.setFld FCH_GEOM_BLKPP 4 ch).setFld FCH_POP_TARGETS 1 ch).setFld FCH_POP_LUNS 1 ch) s) 2047 0
def starting : State := { withImage ((small device4).setFld PWR_MODE_CUR mCONFIG) with bot.layStep := 2 }
def noFound : CkpFound := { trailers := [], nums := [], dir := [], pages := [], live := [], led := [], markers := [], scan := [], tags := [], marks := [] }
def aRoot : Nat := let v := bytesOf [(0, 4, 0x31524B43), (4, 4, 7)]; v + (crc32c (leBytes 60 v)).toNat * 2 ^ 480
def startingRoot : State := inFlash starting 0x90000 64 aRoot
def startingBadRoot : State := inFlash starting 0x90000 64 7
def badTrailer : Nat := let v := bytesOf [(0, 4, 0x31544B43), (28, 4, startingRoot.layDigest.toNat + 1)]; v + (crc32c (leBytes 60 v)).toNat * 2 ^ 480
def dirTrailer : Nat :=
  let v := bytesOf [(0, 4, 0x31544B43), (28, 4, startingRoot.layDigest.toNat), (32, 4, 1)]
  v + (crc32c (leBytes 60 v ++ leBytes 8 (2 ^ 37 + 5))).toNat * 2 ^ 480 + (2 ^ 37 + 5) * 2 ^ 512
def badTrailerFound : CkpFound := { noFound with trailers := [badTrailer] }
def dirTrailerFound : CkpFound := { noFound with trailers := [dirTrailer] }
def host : State :=
  let s := ((((device.setFld HPT_CTL_LINKEN 1).setFld HPT_CTL_CFGREADY 1).setFld HPT_LINK_UP 1).setFld HPT_STAT_EN 1).setFld HPT_STAT_RDY 1
  let s := (s.setFld HPT_QCFG_IOQ 16).setFld HPT_QCFG_VEC 16
  let s := ((s.setFld TXE_NSCFG_DECL 1 0).setPair HPT_FWRING_LO_ADDR HPT_FWRING_HI_ADDR 0x20010000).setFld HPT_FWRING_HI_SIZE 4
  { s with hpt.cc := 1, hpt.sqs := [(0, { base := 0x1000, size := 8, head := 0, tail := 2 })], hpt.cqs := [(0, { base := 0x2000, size := 8, head := 1, tail := 3, ien := true })],
           hpt.attach := [(0, [1])], txe.flags := [(0, 6)], hpt.nextCmd := 9 }
def hostUnconfigured : State := host.setFld HPT_CTL_CFGREADY 0
def hostDown : State := (host.setFld HPT_LINK_UP 0).setFld HPT_STAT_EN 0
def hostIdle : State := { (host.setFld HPT_STAT_EN 0).setFld HPT_STAT_RDY 0 with hpt.sqs := [], hpt.cqs := [] }
def hostBusy : State := { host with cmds := [(4, aCmd), (5, { phase := 10, passed := true }), (6, { port := 3, phase := 2 }), (7, { phase := 8, sqe := 12 })], hpt.cfg := [(4, 6)], hpt.aers := [7] }
def hostEvents : State := { host with hpt.aenQ := List.replicate 8 1 }
def hostD3 : State := { host with hpt.cfg := [(0x44, 3)] }
def sqe (opc nsid : Nat) (cdw : List (Nat × Nat)) : Nat := opc + nsid * 2 ^ 32 + cdw.foldl (fun n e => n + e.2 * 2 ^ (32 * e.1)) 0
def adm (opc nsid : Nat) (cdw : List (Nat × Nat)) : Cmd := { sqe := sqe opc nsid cdw }
def admin (opc nsid : Nat) (cdw : List (Nat × Nat)) : State := withCmd (adm opc nsid cdw) host
def keyed : State := { host.setFld CIP_STAT_UCVALID 1 with keys := [(0, { type := 3, use := 1, key := 5 })] }
def ioc (opc nsid : Nat) (cdw : List (Nat × Nat)) : Cmd := { sq := 1, sqe := sqe opc nsid cdw }
def io (opc nsid : Nat) (cdw : List (Nat × Nat)) : State := withCmd (ioc opc nsid cdw) keyed
def fwRuns (dead : Bool) : State := { keyed with hpt.fw := [(64, { cmd := 4, dead := dead })] }
def queued (s : State) : State := { s with hpt.cqs := s.hpt.cqs ++ [(1, {}), (2, {})], hpt.sqs := [(1, { cq := 2, size := 4 })] }
def aborting : State := { queued (admin 0x08 0 [(10, 1 + 77 * 2 ^ 16)]) with cmds := [(4, adm 0x08 0 [(10, 1 + 77 * 2 ^ 16)]), (6, { sq := 1, cid := 77, sqe := 2 })] }
def aerQueued : State := { admin 0x0C 0 [] with hpt.aenQ := [3, 4] }
def nsHost (c : Cmd) : State := { withCmd c (host.setFld TXE_NSCFG_DECL 1 127) with txe.nsid := [(0, 1), (127, 9)], txe.flags := [(0, 6), (127, 6)], txe.maxUnits := [(0, 1000), (127, 50)], hpt.reserved := [(1, 127)] }
def createData : Nat := 10 + 10 * 2 ^ 64 + 2 ^ 208
def ctlList : Nat := 1 + 1 * 2 ^ 16
def xfers (dead : Bool) : State := { fwRuns dead with regs := (fwRuns dead |>.setFld HPT_XLEN_BYTES 64 |>.setPair HPT_XFER_LO_ADDR HPT_XFER_HI_ADDR 0x20000000).regs }
def xferGone : State := { fwRuns false with hpt.xfer := some (64, 0, 0x20000000, 64, 64) }
def xferCmd : State := { fwRuns false with cmds := [(4, ioc 2 1 [(10, 3), (12, 1)])] }
def xferOut : State := { xferCmd with hpt.xfer := some (64, 0, 0x20000000, 64, 64) }
def xferIn : State := { xferCmd with hpt.xfer := some (64, 1, 0x20000000, 64, 64) }
def fwLate : State := { (fwRuns false).setPair EVR_MTIME_LO_COUNT EVR_MTIME_HI_COUNT (2 ^ 40) with cmds := [(4, ioc 0 1 [])] }
def fabric : State :=
  let s := ((((host.install FAB_PORTCTL_ENA 1 0).install FAB_PORTCTL_HERD 1 0).install FAB_PORTCTL_PFCEN 0x0F 0).install FAB_IPV4_ADDR 0x0A000001 0).setFld FAB_PORTSTAT_UP 1 0
  let s := ((((s.install FAB_PORTCTL_ENA 1 3).install FAB_IPV6_ADDR 1 3 3).install FAB_VLAN_TAG 1 3).install FAB_VLAN_VID 9 3).setFld FAB_PORTSTAT_UP 1 3
  { s.install FAB_PORTCTL_ENA 1 1 with fab.maxCtx := 3 }
def ctx (st : Nat) : Ctx := { state := st, port := 0, mac := 5, addr := 6, rport := 7, rcv := 100, snd := 201, una := 200 }
def connected (st : Nat) : State :=
  { fabric with fab.ctxs := [(0, { ctx 4 with qsize := 4, cc := 1, ddgst := true }), (1, { ctx 4 with rport := 8, io := true, hdgst := true, cc := 1, qsize := 4 }), (2, { ctx st with rport := 9 })],
                cmds := [(4, { port := 1, sq := 32768, phase := 2, cid := 3 }), (5, { port := 1, sq := 32769, phase := 4 }), (6, { port := 3, sq := 32770 }), (7, { port := 0 })],
                hrd.transit := [(5, { port := 0, mac := 1, out := 1, deadline := 50 }), (6, { port := 1, mac := 1, out := 2, deadline := 50 })] }
def full4 : State := connected 1
def lastTry : State := { connected 3 with fab.ctxs := [(2, { ctx 3 with retries := 15 })] }
def fcmd (cdw1 : Nat) (cdw : List (Nat × Nat)) : Cmd := { port := 1, sq := 32768, sqe := sqe 0x7F cdw1 cdw }
def fabCmd (c : Cmd) (st : Nat) (s : State := fabric) : State := { s with fab.ctxs := [(0, { ctx st with cc := 1, qsize := 4 })], cmds := [(4, c), (5, { port := 1, sq := 32768, cid := 9 })] }
def granted : State := { connected 2 with cmds := [(4, { port := 1, sq := 32769, phase := 13 }), (8, { port := 1, sq := 32768, phase := 13 })], fab.h2c := [(4, 4, 8, 8), (8, 4, 16, 8)] }
def kaExpired : State := { fabric.setPair EVR_MTIME_LO_COUNT EVR_MTIME_HI_COUNT (2 ^ 40) with fab.ctxs := [(0, { ctx 4 with kato := 5 }), (1, { ctx 4 with io := true })], cmds := [(4, { port := 1, sq := 32768 })] }
def hdr : HerdHdr := { hops := 1, dest := 9, origin := 3, txid := 7, deadline := 100, ok := true, residence := 2 }
def herd : State :=
  let s := (((((fabric.install HRD_HOPLIM_LIMIT 16).setFld HRD_ID_MEMBER 2).setFld HRD_ROUTE0_VALID 1 9).setFld HRD_ROUTE0_PORT 0 9).setFld HRD_ROUTE1_MACIDX 4 9).setFld HRD_MAC_LO_MAC 0xABC 4
  s.setFld LEX_CTL_ENA 0
def herdTransit : State := { herd with hrd.transit := [(3 * 2 ^ 32 + 7, { port := 0, mac := 1, out := 1, deadline := 50 })] }
def herdFull : State := { herd with hrd.transit := (List.range 4096).map fun k => (k, { port := 0, mac := 1, out := 1, deadline := 50 }) }
def herdOrigin : State := { herd with hrd.origin := [(7, (4, 0, 0))], cmds := [(4, { phase := 11, sq := 1 })] }
def later (s : State) : State := s.setPair EVR_MTIME_LO_COUNT EVR_MTIME_HI_COUNT (2 ^ 40)
def rxStuffed : State := { connected 3 with fab.fill := [(7, 4194300)] }
def fwEnds (c : Cmd) (dead : Bool) : State := { fabric with hpt.fw := [(2, { cmd := 4, dead := dead })], cmds := [(4, c)], fab.ctxs := [(0, ctx 3)] }.setFld HPT_FWCPL2_INDEX 2
def posting (c : Cmd) : State := { connected 2 with cmds := [(4, c)] }
def cqFull : State := { posting { phase := 6, sq := 0 } with hpt.cqs := [(0, { base := 0x2000, size := 8, head := 1, tail := 0, ien := true, unsig := 2 })] }
def readEnds : Cmd := { phase := 6, sq := 1, slot := 0, sqe := 2, nlb := 2, got := [(0, 5)] }
def postNoKey : State := { posting readEnds with keys := [] }
def msixUp (masked : Bool) : State := { cqFull with hpt.cfg := [(0x050, 2 ^ 31)], hpt.msix := if masked then [] else [(0, 0x1000), (3, 0)] }
def entry (k : Nat) : Nat := k + 2 ^ 72 + 2 * 2 ^ 80 + 1 * 2 ^ 96 + 2 * 2 ^ 192 + 8192 * 2 ^ 256
def lexUp : State :=
  let s := ((keyed.setFld LEX_CTL_ENA 1).setPair LEX_BASE_LO_ADDR LEX_BASE_HI_ADDR 0x1500000000).setFld HRD_ID_MEMBER 2
  { s with cip.cls := [(0, s.cur LEX_CTL_CCLASS)], keys := s.keys ++ [(7, { type := 1, use := 2, key := 9 })] }
def atWay (e : Nat) (s : State) : State := s.poke (s.wayAddr (s.buckets (entKey e)).1 1) 64 e
def opKeyed (k : Nat) (s : State) : State := ((s.setFld LEX_OPKEY_KEY (nbits k 0 32) 0).setFld LEX_OPKEY_KEY (nbits k 32 32) 1).setFld LEX_OPKEY_KEY (nbits k 64 32) 2
def lexHit : State := putOpData (entry 5) (opKeyed 5 (putOpLoc (some ((lexUp.buckets 5).1, 1)) (atWay (entry 5) lexUp)))
def lexMiss : State := putOpData (entry 6 - 2 ^ 72) (opKeyed 6 (putOpLoc (some (0, 3)) (atWay (entry 5) lexUp)))
def lexBad : State := putOpData 3 (opKeyed (2 ^ 72 - 1) (putOpLoc (some (2 ^ 22 - 1, 0)) lexUp))
def lexBusy : State := lexUp.setFld LEX_OPSTAT_BUSY 1
def lexFull : State :=
  putOpData (entry 6) ((List.range 4).foldl (fun s w => (s.poke (s.wayAddr (s.buckets 6).1 w) 64 (entry (100 + w))).poke (s.wayAddr (s.buckets 6).2 w) 64 (entry (200 + w))) lexUp)
def kvc (opc k seg n f : Nat) : Cmd := { sq := 1, sqe := sqe opc 1 [(2, k), (14, seg * 2 ^ 16), (10, n), (11, 16 + f * 256)] }
def kv (c : Cmd) (e : Nat) : State := withCmd c (atWay e { lexUp with txe.nsze := [(0, 1000)] })
def owner9 : Nat := entry 5 + 7 * 2 ^ 80
def entryDk : Nat := entry 5 + 7 * 2 ^ 240
def entryNS : Nat := entry 5 + 2 ^ 75
def entryFW : Nat := entry 5 + 2 ^ 74
def entryBad : Nat := entry 5 + 2 ^ 77
def entryZero : Nat := 5 + 2 ^ 72 + 2 ^ 73 + 2 * 2 ^ 80 + 1 * 2 ^ 96 + 2 * 2 ^ 192
def deliver (sct : Nat) (dkey : Option Nat) (limit : Nat) : State :=
  { withCmd { sq := 1, phase := 12, sct := sct, kv := true, got := [(0, 77), (1, 78)] } lexUp with lex.deliv := [(4, { slot := 0, cw := 3, n := 2, len := 8192, limit := limit, dkey := dkey, key := 5 })] }
def vcmd (opc : Nat) (cdw : List (Nat × Nat)) (phase : Nat) : Cmd := { sqe := sqe opc 0 cdw, phase := phase, fw := if phase = 7 then some 2 else none }
def vend (c : Cmd) (s : State) : State := { s with cmds := [(4, c)], hpt.fw := [(2, { cmd := 4 })] }
def vendDoneSt (opc wait : Nat) : State := { vend (vcmd opc [] 7) lexUp with lex.vend := [(4, (5, 8, wait))] }
def vendGeom (pend : Nat) : State := { (vend (vcmd 0xCC [(10, 16)] 7) lexUp).setFld LEX_CSTAT_PENDING pend with lex.vend := [(4, (0, 0, 1))] }
def lexSlotted : State := putOpData 99 (opKeyed 5 (putOpLoc (some (2 ^ 16, 0)) (lexUp.install LEX_GEOM_BUCKETLOG 16)))
def kvz (c : Cmd) : State := withCmd c (atWay entryZero { lexUp.install LEX_GEOM_BUCKETLOG 16 with txe.nsze := [(0, 1000)] })
def entryNil : Nat := entry 5 - 8192 * 2 ^ 256
def kvOdd : Cmd := { sq := 1, sqe := sqe 2 1 [(2, 5), (6, 1), (10, 4096), (11, 16)] }
def deliverNoKey : State := { deliver 0 (some 7) 4096 with keys := keyed.keys }
def paired : State :=
  let s := ((fabric.setFld CIP_STAT_UCVALID 1).setFld TXE_NSCFG_MIRROR 1 0).setFld TXE_NSCFG_DECL 1 3
  let s := (((s.setFld PLK_ROLE_IMAGE 1).setFld PLK_ROLE_ACTING 1).setFld PLK_EPOCH_EPOCH 7).setFld PLK_STAT_REACH 1
  let s := ((((s.setFld PLK_STAT_STATE 2).setFld PLK_STAT_LINK 1).setFld PLK_STAT_LANES 2).setFld PLK_STAT_CURRENT 1).setFld PLK_STAT_SYNC 1
  { s with keys := keyed.keys, plk.lanes := 2, plk.alive := true, plk.rxseq := 5, plk.txseq := 9, plk.pairId := 77, txe.maxUnits := [(0, 1000), (3, 50)], txe.nsid := [(0, 1), (3, 4)] }
def split (mode state acting wit cur : Nat) : State :=
  { later (((((paired.setFld PWR_MODE_CUR mode).setFld PLK_STAT_STATE state).setFld PLK_ROLE_ACTING acting).install PLK_WITNESS_ENA wit).setFld PLK_STAT_CURRENT cur) with plk.alive := true }
def splitUp : State := (split mSERVICE 2 1 1 1).setFld PLK_STAT_WITUP 1
def unreached (wit cur : Nat) : State := (((paired.setFld PWR_MODE_CUR mCONFIG).setFld PLK_STAT_REACH 0).install PLK_WITNESS_ENA wit).setFld PLK_STAT_CURRENT cur
def claiming (st : Nat) : State := { later ((paired.setFld PLK_STAT_WITUP 1).setFld PLK_STAT_STATE st) with plk.claiming := true, plk.wit := 2 }
def claimingRec : State := (claiming 3).setFld PWR_MODE_CUR mRECOVERY
def witnessSyn : State := { paired with plk.wit := 1 }
def lanesOff : State := { (paired.setFld PLK_STAT_STATE 0) with plk.lanes := 0 }
def oneLane : State := { paired with plk.lanes := 1 }
def settling (pImage pActing pEpoch base : Nat) (pcur psync pmap : Bool) (cur syn map : Nat) : State :=
  { ((((paired.setFld PLK_STAT_REACH 0).setFld PLK_STAT_CURRENT cur).setFld PLK_STAT_SYNC syn).setFld PLK_STAT_MAPVALID map).setFld PLK_BASE_EPOCH base with
    plk.helloIn := true, plk.helloSent := true, plk.pImage := pImage, plk.pActing := pActing, plk.pEpoch := pEpoch, plk.pCurrent := pcur, plk.pSync := psync, plk.pMapValid := pmap, plk.pBase := 7 }
def phdr (msn : DWord) (tag : Word) (last : Bool) : PairHdr := { ok := true, last := last, txseq := 5, ackseq := 9, msn := msn, tag := tag, epoch := 8 }
def mwrite : Cmd := { sq := 1, slot := 0, slba := 7, nlb := 1, kind := 1, phase := 10, mirror := true, tag := 6, data := 5, passed := true }
def mirrored (c : Cmd) : State := { paired with cmds := [(4, c), (5, { sq := 1 })], plk.outst := [(3, 0, 0, 4096)] }
def ledgerKept : State := { paired with plk.ledger := some (4, 99), plk.lreq := true }
def resyncing (ready : Bool) : State := { paired.setFld PLK_STAT_STATE 6 with plk.rsReady := ready, plk.map := [(0, true)] }
def copying : State := { resyncing true with plk.region := some 0, cmds := [(4, { port := 8195, kv := true, tag := 0, phase := 12, slot := 0 })] }
def target : State := paired.setFld PLK_STAT_STATE 7
def pairedNoKey : State := { paired with keys := [] }
def cipDesc (prog keyA keyB tagLen src dst len aad : Nat) : Nat :=
  prog + keyA * 2 ^ 16 + keyB * 2 ^ 32 + tagLen * 2 ^ 48 + src * 2 ^ 64 + dst * 2 ^ 128 + len * 2 ^ 192 + aad * 2 ^ 224 + 9 * 2 ^ 256 + 0x20009000 * 2 ^ 384 + 3 * 2 ^ 448
def cipUp : State :=
  let r (n : Nat) (s : State) : State :=
    if n < 62 then (s.setFld CIP_RING_LO_ADDR (0x20000000 + 0x1000 * n) n).setFld CIP_RING_HI_SIZE 4 n
    else (s.setFld CIP_RING_LOP_ADDR (0x20000000 + 0x1000 * n) (n - 62)).setFld CIP_RING_HIP_SIZE 4 (n - 62)
  { r 0 (r 61 (r 62 (r 63 ((serv.setFld CIP_KSBASE_LO_ADDR 0x20200000).setFld CIP_STAT_UCVALID 1)))) with cip.entry := (List.range 32).map fun i => (i, if i = 31 then 0xFFFFFFFF else 4 * i) }
def cipWait (n i d : Nat) (s : State) : State :=
  cipSetTail n (i + 1) (cipSetHead n i (s.poke (s.cipRing n + 64 * i) 64 d))
def cipPlain : Nat := cipDesc 1 3 4 16 0x20004000 0x20008000 4096 16
def cipQ (n d : Nat) : State := cipWait n 0 d cipUp
def cipHwCh : State := cipUp.setFld CIP_CHSTAT_HW 1 0
def slicing : State := { cipUp with cip.seqs := (List.range 4).map fun q => (q, { ch := q, index := 0, desc := cipPlain, inp := if q = 0 then 4096 else 5, steps := if q = 3 then 4096 else 7 }) }
def slicingP : State := cipWait 63 0 (cipDesc 2 9 0 0 0 0 0 0) slicing
def cipEnds (ch st : Nat) (failed : Bool) (saved : Bool) : State :=
  let j : CipJob := { ch := ch, index := 15, desc := cipPlain, ended := some st, failed := failed }
  { cipWait ch 15 cipPlain cipUp with cip.seqs := [(0, j), (3, { j with index := 3 })], cip.saved := if saved then [(0, { j with ch := 1, ended := none })] else [], cip.taken := [(ch, 1)] }
def ucRun (w : Nat) (j : CipJob) : State := { cipUp with cip.seqs := [(0, j)], cip.imem := [(7, w)] }
def ucJob (tagLen len : Nat) : CipJob :=
  { ch := 0, index := 0, desc := cipDesc 1 3 4 tagLen 0x20004000 0x20008000 len 16, pc := 7, start := 4, v := [(2, 5#128), (3, BitVec.ofNat 128 (2 ^ 127 + 9))], k := [(1, 16, 77), (3, 32, 78)] }
def ucWord (op imm : Nat) : Nat := op + 1 * 256 + 2 * 2 ^ 12 + 3 * 2 ^ 16 + imm * 2 ^ 20
def privJob (prog keyA keyB tagLen len iv : Nat) : CipJob :=
  { ch := 63, index := 0, desc := cipDesc prog keyA keyB tagLen 0x20004000 0x20008000 len 0 - 9 * 2 ^ 256 + iv * 2 ^ 256 }
def fused3 : State := { cipUp with cip.fuse := [(0, 11), (1, 12), (2, 13)], keys := [(7, { type := 4, use := 4, key := 99 })] }
def privRuns (j : CipJob) (s : State) : State := { s with cip.seqs := [(3, j)] }
def withTag (good : Bool) (len : Nat) : State :=
  let s := fused3.poke 0x20004000 len 0x0123456789ABCDEF
  s.poke 0x20009000 16 (ofLe (cmac (s.fuseKey 1) (leBytes len (if good then 0x0123456789ABCDEF else 1))))
def withWrapped (good : Bool) (k n : Nat) : State := fused3.poke 0x20004000 (n + 8) (ofLe (keyWrap (leBytes 32 (if good then k else 55)) (leBytes n 0xFEDCBA98)))
def withEntry (how : Nat) : State :=
  let s := ksWrite 5 1 8 3 (ofLe (keyWrap (leBytes 32 (if how = 2 then 1 else 11)) (leBytes 16 0xABCD))) fused3
  if how = 1 then s.poke (s.ksAddr 5) 1 0xFF else s
def ucImage (magic n : Nat) : Nat :=
  let v := magic + 2 ^ 32 + 2 * 2 ^ 48 + n * 2 ^ 64 + 1 * 2 ^ 160 + (0xABCDEF01 * 2 ^ (8 * 144))
  v + ofLe (cmac (leBytes 32 12) (leBytes (n - 16) v)) * 2 ^ (8 * (n - 16))
def ucPlaced (magic n : Nat) : State :=
  let s := ((inMode mCONFIG).setFld CIP_UCADDR_VALUE 0x100000).setFld CIP_UCLEN_VALUE n
  { (inMode mCONFIG) with cip.fuse := [(1, 12)], regs := ((s.setFld CIP_UCADDR_VALUE 0x20004000).poke 0x20004000 n (ucImage magic n)).regs, mem := (s.poke 0x20004000 n (ucImage magic n)).mem }
def fusing : State := { inMode mBOOT with cip.fuseRun := some 2, cip.fuseData := [(0, 5), (7, 9)] }
def untagged (j : CipJob) : State := privRuns j fused3
def farJob : CipJob := { privJob 0 0 0 16 32 9 with desc := cipDesc 0 0 0 16 0x20004000 0xFF00000000 32 0 }
def ucBlank : State := { ((inMode mCONFIG).setFld CIP_UCADDR_VALUE 0x20004000).setFld CIP_UCLEN_VALUE 32 with cip.fuse := [(1, 12)] }
def coreAt (n bits len : Nat) (c : Core) : State :=
  let s := (serv.setFld EVR_CORE_HALTED 0 n).poke 0x20001000 len bits
  { s with cores := mins s.cores n { c with released := true, pc := 0x20001000 } }
def someRegs : Core := { x := [(1, 0x20002008#64), (2, BitVec.ofNat 64 (2 ^ 64 - 5)), (3, 77#64)], mtvec := 0x20003001#64, mstatusMIE := true, mepc := 0x20004000#64, mscratch := 9#64 }
def userRegs : Core := { someRegs with user := true, mstatusMPPU := true }
def broken (n : Nat) : State := ((coreAt n 0x13 4 someRegs).setFld JDP_BP_LO_ENA 1 n 7).setFld JDP_BP_LO_ADDR (0x20001000 / 2) n 7
def vectors (n : Nat) (c : Core) : State :=
  let s := coreAt n 0x13 4 c
  setVec n 5 true false { s with evr.prio := [(64 * n + 5, 9)] }
def irqs (n : Nat) : State := vectors n { someRegs with mie := BitVec.ofNat 64 (2 ^ 11 + 2 ^ 16 + 2 ^ 7 + 2 ^ 3) }
def routed (src n : Nat) (rec : Bool) (rd : Nat) : State :=
  let s := ((((serv.setFld EVR_ROUTE0_ENA 1 src).setFld EVR_ROUTE0_CORE n src).setFld EVR_ROUTE0_VEC 5 src).setFld EVR_ROUTE1_PRIO 9 src).setFld EVR_ROUTE0_REC (b2n rec) src
  (((s.setFld EVR_RING_LO_ADDR 0x20005000 n).setFld EVR_RING_HI_SIZE 4 n).setFld EVR_RWR_INDEX 15 n).setFld EVR_RRD_INDEX rd n
def watched (n : Nat) (warned : Bool) : State := ((coreAt n 0x13 4 someRegs).setFld EVR_WDOG_PERIOD 100 n).setFld EVR_WDOG_WARNED (b2n warned) n
def mailed (k : Nat) : State := { serv with mbx.msgs := [(k, 0x1234567890ABCDEF)], mbx.sendLatch := [(0, 5), (9, 7)] }
def pmuBusy (base : Nat) : State := { (serv.setFld PMU_STAT_SNAPBUSY 1).setPair PMU_SNAPBASE_LO_ADDR PMU_SNAPBASE_HI_ADDR base with pmu.snap := 2 ^ 2000 + 5 }
def haltedCore (n cause split : Nat) : State :=
  ((((((coreAt n 0x0FF0000F 4 someRegs).setFld EVR_CORE_HALTED 1 n).setFld EVR_CORE_HALTCAUSE 3 n).setFld JDP_CSTAT_HALTED 1 n).setFld JDP_CSTAT_CAUSE cause n).setFld JDP_STAT_SPLIT split).setFld
    JDP_RDATA_LO_DATA 77 n
def watchedStore (n : Nat) : State :=
  (((coreAt n 0x0030A023 4 someRegs).setFld JDP_WP_LO_ADDR 0x20002008 n 3).setFld JDP_WP_CTL_W 1 n 3).setFld JDP_WP_MASK_MASK 2 n 3
def port (lastW : Option (Bool × Nat)) (lastR : Option (Bool × Nat × Nat)) (busy : Option (Bool × Nat × Nat)) (done : Option Nat) : State :=
  { serv with jdp.jba := 0x20001000, jdp.lastW := lastW, jdp.lastR := lastR, jdp.busy := busy, jdp.done := done }
def img2 : Img := match (imageAgain rising).2 with | some (some i) => i | _ => ⟨0,0,[]⟩
def img2b : Img := match (imageAgain (setDom dCTRL true (banksZero waking))).2 with | some (some i) => i | _ => ⟨0,0,[]⟩
def img3 : Img := match (readSlot false checked).2 with | .good i _ => i | _ => ⟨0,0,[]⟩
def allOnes36 : BitVec 36864 := BitVec.allOnes 36864
def c1of (k : Cmd) : Cmd := ((takePtrs 4 (k.cdw 10) [] (withCmd k lexUp)).cmd 4).getD k
def s2of (c : Cmd) (e : Nat) : State := (lexEntry c.kvKey ((takePtrs 4 (c.cdw 10) [] (fabTaken c (kv c e))).incPair LEX_RETR_LO_COUNT LEX_RETR_HI_COUNT)).1
def z1_13b : State := s2of (kvc 2 5 0 4096 0) (owner9)
def z2_13b : State := s2of (kvc 2 5 0 4096 0) (entryDk)
def z4_13b : State := s2of (kvc 2 5 0 4096 0) (entryFW)
def z5_13b : State := s2of (kvc 2 5 0 4096 0) (entryBad)
def z7_13b : State := s2of (kvc 2 6 0 0 0) (entry 5)
def z8_13b : State := s2of (kvc 2 5 2 1 0) (entry 5)
def z9_13b : State := s2of (kvc 2 5 1 0 0) (entry 5)
def s2st (c : Cmd) (e : Nat) : State := (lexEntry c.kvKey ((fabTaken c (kv c e)).inc LEX_STORES_COUNT)).1
def z10 : State := s2st (kvc 1 5 0 8192 0) (entry 5)
def z11 : State := s2st (kvc 1 5 0 8192 0) (entryNS)
def zx2 : State := (lexEntry (kvc 1 5 0 4096 0).kvKey ((fabTaken (kvc 1 5 0 4096 0) (kv (kvc 1 5 0 4096 0) entryNil)).inc LEX_STORES_COUNT)).1
def z13 : State := s2st (kvc 1 5 0 8191 0) (entry 5)
def z14 : State := s2st (kvc 1 5 0 8192 1) (entry 5)
def z15 : State := s2st (kvc 1 5 9 1 0) (entry 5)
def z16 : State := s2st (kvc 1 6 0 0 0) (entry 5)
def loaded : State × Nat × Nat := records (let input := (entry 5 + entry 6 * 2 ^ 512); fun (k : Nat) (s : State) => let s := lexOp 1 (putOpData (nbits input (512 * k) 512) s); (s, resultStatus (s.fld LEX_OPSTAT_RESULT))) 2 0 (vend (vcmd 0xC5 [(10, 2)] 7) lexUp)
def za_13d : State := (lexEntry (kvc 2 5 0 4096 0).kvKey ((takePtrs 4 4096 [] (kvz (kvc 2 5 0 4096 0))).incPair LEX_RETR_LO_COUNT LEX_RETR_HI_COUNT)).1
def zb_13d : State := (lexEntry (kvc 1 5 0 4096 0).kvKey ((kvz (kvc 1 5 0 4096 0)).inc LEX_STORES_COUNT)).1
def zx0 : State := (lexEntry (kvOdd).kvKey ((takePtrs 4 4096 [] (kv (kvOdd) owner9)).incPair LEX_RETR_LO_COUNT LEX_RETR_HI_COUNT)).1
def zx3 : State := (lexEntry (kvc 1 5 0 4096 0).kvKey ((fabTaken (kvc 1 5 0 4096 0) (kv (kvc 1 5 0 4096 0) owner9)).inc LEX_STORES_COUNT)).1
def k1_15a : State := cipQ 0 cipPlain
def p1_15a : State := match cipPick false k1_15a with | some x => x.2 | none => {}
def k3_15a : State := cipQ 0 (cipDesc 1 3 4 16 0x20004000 0x20004100 4096 16)
def p3_15a : State := match cipPick false k3_15a with | some x => x.2 | none => {}
def k7_15a : State := slicingP
def r7_15a : State := { k7_15a with cip.seqs := mdel k7_15a.cip.seqs 0, cip.saved := mins k7_15a.cip.saved 0 ((mfind k7_15a.cip.seqs 0).getD { ch := 0, index := 0, desc := 0 }) }
def p7_15a : State := match cipPick false k7_15a with | some x => x.2 | none => {}
def m7_15a : State := (memRead (if k7_15a.cip.seqs.isEmpty then p7_15a else r7_15a) 18 .read (k7_15a.cipRing 63 + 64 * ((k7_15a.cipHead 63 + mget 0 k7_15a.cip.taken 63) % k7_15a.cipSize 63)) 64).1
def wj_15g : CipJob := { ucJob 16 31 with desc := cipDesc 1 3 4 16 0x1000000000 0x1000000000 31 16 }
def waits : State := (ucRun (ucWord 1 3) wj_15g).setFld DRC_CFG_GIB 1
def j4_15b : CipJob := ucJob 16 4096
def k4_15b : State := ucRun (ucWord 1 3) (ucJob 16 4096)
def m4_15b : State × MemR := memRead k4_15b 18 .read (j4_15b.src + j4_15b.inp) (min 16 (j4_15b.len - j4_15b.inp))
def j9_15b : CipJob := ucJob 16 4096
def k9_15b : State := ucRun (ucWord 2 3) (ucJob 16 4096)
def m9_15b : State × MemR := memWrite k9_15b 18 .write (j9_15b.dst + j9_15b.outp) j9_15b.last ((mget 0 j9_15b.v 1).toNat % 2 ^ (8 * j9_15b.last))
def j17 : CipJob := ucJob 16 4096
def k17 : State := ucRun (ucWord 3 3) (ucJob 16 4096)
def m17 : State × MemR := memRead k17 18 .read j17.tagAddr j17.tagLen
def k74 : State := ucRun (ucWord 17 3) (ucJob 16 4096)
def j74 : CipJob := ucJob 16 4096
def m74 : State × MemR := memRead k74 18 .read j74.tagAddr j74.tagLen
def j77 : CipJob := ucJob 16 4096
def k77 : State := ucRun (ucWord 18 3) (ucJob 16 4096)
def m77 : State × MemR := memWrite k77 18 .write j77.tagAddr j77.tagLen ((mget 0 j77.v 2).toNat % 2 ^ (8 * j77.tagLen))
def j88 : CipJob := { ucJob 16 31 with desc := cipDesc 1 3 4 16 0xFF00000000 0xFF00000000 31 16 }
def k88 : State := ucRun (ucWord 1 3) ({ ucJob 16 31 with desc := cipDesc 1 3 4 16 0xFF00000000 0xFF00000000 31 16 })
def m88 : State × MemR := memRead k88 18 .read (j88.src + j88.inp) (min 16 (j88.len - j88.inp))
def k89 : State := ucRun (ucWord 2 3) ({ ucJob 16 31 with desc := cipDesc 1 3 4 16 0xFF00000000 0xFF00000000 31 16 })
def j89 : CipJob := { ucJob 16 31 with desc := cipDesc 1 3 4 16 0xFF00000000 0xFF00000000 31 16 }
def m89 : State × MemR := memWrite k89 18 .write (j89.dst + j89.outp) j89.last ((mget 0 j89.v 1).toNat % 2 ^ (8 * j89.last))
def wm_15g : State × MemR := memRead waits 18 .read (wj_15g.src + wj_15g.inp) (min 16 (wj_15g.len - wj_15g.inp))
def q1_15f : State := privRuns (privJob 0 0 0 16 32 9) (withTag true 32)
def a1_15f : State := (memRead q1_15f 18 .read 0x20004000 32).1
def b1_15f : State := (memRead a1_15f 18 .read 0x20009000 16).1
def c1_15f : State := (memWrite (cipCount 0 3 b1_15f) 18 .write 0x20008000 32 (0x0123456789ABCDEF)).1
def q3_15f : State := privRuns (privJob 0 0 0 16 0 9) (withTag true 0)
def a3_15f : State := q3_15f
def q4_15f : State := privRuns ({ privJob 0 0 0 16 32 9 with desc := cipDesc 0 0 0 16 0x20004000 0xFF00000000 32 0 }) (withTag true 32)
def a4_15f : State := (memRead q4_15f 18 .read 0x20004000 32).1
def b4_15f : State := (memRead a4_15f 18 .read 0x20009000 16).1
def c4_15f : State := (memWrite (cipCount 0 3 b4_15f) 18 .write 0xFF00000000 32 0x0123456789ABCDEF).1
def q22_15f : State := ucPlaced 826492995 32
def q9_16a1 : State := coreAt 0 2154931 4 someRegs
def t9_16a1 : State := (fetchInstr 0 q9_16a1).1
def q26 : State := coreAt 0 19 4 someRegs
def t26 : State := (fetchInstr 0 q26).1
def q27 : State := coreAt 0 2147484087 4 someRegs
def t27 : State := (fetchInstr 0 q27).1
def q28 : State := coreAt 0 4294963607 4 someRegs
def t28 : State := (fetchInstr 0 q28).1
def q30 : State := coreAt 0 8388719 4 someRegs
def t30 : State := (fetchInstr 0 q30).1
def q68 : State := coreAt 0 32898 2 someRegs
def t68 : State := (fetchInstr 0 q68).1
def q38 : State := coreAt 0 1082467 4 someRegs
def t38 : State := (fetchInstr 0 q38).1
def q39 : State := coreAt 0 267386895 4 someRegs
def t39 : State := (fetchInstr 0 q39).1
def q40 : State := (coreAt 0 4286611843 4 someRegs).poke 0x20002000 8 0x8877F655448392A1
def t40 : State := (fetchInstr 0 q40).1
def q47 : State := coreAt 0 65923 4 someRegs
def t47 : State := (fetchInstr 0 q47).1
def u47 : State := (busRead (coreMaster 0) (t47.core 0).userAccess .read (2 ^ 64 - 5) 1 t47).1
def q48 : State := coreAt 0 4263545891 4 someRegs
def t48 : State := (fetchInstr 0 q48).1
def u48 : State := (match (busWrite (coreMaster 0) (t48.core 0).userAccess .write (0x20002008 - 8) 1 ((2 ^ 64 - 5) % 2 ^ 8) t48).1 with | .next u => u | _ => {})
def q52 : State := coreAt 0 404791727 4 someRegs
def t52 : State := (fetchInstr 0 q52).1
def q53 : State := coreAt 0 404791727 4 { someRegs with resv := some 0x20002008 }
def t53 : State := (fetchInstr 0 q53).1
def u53 : State := (match (busWrite (coreMaster 0) (t53.core 0).userAccess .write (0x20002008) 4 ((2 ^ 64 - 5) % 2 ^ 32) t53).1 with | .next u => u | _ => {})
def q56 : State := coreAt 0 115 4 someRegs
def t56 : State := (fetchInstr 0 q56).1
def q57 : State := coreAt 0 0 2 someRegs
def t57 : State := (fetchInstr 0 q57).1
def q59 : State := coreAt 0 807403635 4 someRegs
def t59 : State := (fetchInstr 0 q59).1
def q60 : State := coreAt 0 273678451 4 someRegs
def t60 : State := (fetchInstr 0 q60).1
def q61 : State := coreAt 0 872452595 4 someRegs
def t61 : State := (fetchInstr 0 q61).1
def q65 : State := coreAt 0 807403635 4 userRegs
def t65 : State := (fetchInstr 0 q65).1
def waitBusy : State := (pmuBusy 0x1000000000).setFld DRC_CFG_GIB 1
def wst7 : State := watchedStore 7
def wf7 : State := (fetchInstr 7 wst7).1
def ww7 : Out × MemR := busWrite (coreMaster 7) (wf7.core 7).userAccess .write 0x20002008 4 77 wf7
def hst (n : Nat) : State := modCore n (fun k => { k with stepping := true, wfi := false }) (coreGo n (haltedCore n 1 0))
def pa_17c (w : Bool) (a : Nat) : State := let s := ((defaultMap serv).setFld BOT_STAT_SEALED 1); { s with jdp := (port none none (some (w, a, 5)) none).jdp }
def paErr (m : MemR) : Nat := match m with | .ok v => v | .err i => i | _ => 0

/-! ### The queue, the state after reset -/

theorem witness_StepRunsTheFrontCommand : ({ boot with pending := [.tickCutoff] } : State).pending = .tickCutoff :: [] := rfl

theorem witness_AnEmptyQueueLetsOneCyclePass : serv.ok = true ∧ serv.pending = [] ∧ serv.mode ≠ mDORMANT ∧ serv.fld TCK_PHASE_CYCLES < serv.tickCycles := by
  decide +kernel

theorem witness_CommandsRunInOrder : ∃ t, step { boot with pending := [.pong true, .tickCutoff] } = .next t := ⟨_, rfl⟩

theorem witness_StepKeepsTheCanonicalForm : serv.ok = true ∧ ∃ t, step { serv with pending := [.pong true] } = .next t := ⟨by decide +kernel, _, rfl⟩

theorem witness_StepKeepsTheMapsInOrder : serv.mapsOk = true ∧ ∃ t, step { serv with pending := [.pong true] } = .next t := ⟨by decide +kernel, _, rfl⟩

/-- The state after reset is what the row POWER_ON leaves (R20, R28), but for what it put on the boundary. -/
theorem test_power_on_leaves_the_reset_state :
    (match exec (.powerOn true true) {} with | .next t => decide ({ t with out := [] } = boot) | _ => false) = true := by decide +kernel

theorem witness_ResetIsABootedDevice : boot.mode = mBOOT ∧ (boot.core 0).released = true ∧ boot.fld PWR_DOMSTAT_ON = 0x4B := by decide +kernel

/-! ### A state and operands for each clause of each statement -/

theorem witness_FaultOccurrencesLatchRecordAndReact :
    (∃ (s : State), s.ok = true ∧ ∃ (line : Fin 32), s.lineLive line.val = true) ∧
    (∃ (s : State), s.ok = true ∧ s.pwr.powered = true ∧ (s.mode ≠ mDORMANT ∨ s.pwr.clkreq = true)) ∧
    (∃ (s : State), s.ok = true ∧ s.flag FLT_CTL_RAILCHK = true ∧ s.mode ≠ mDORMANT) := by
  refine ⟨?_, ?_, ?_⟩
  · refine ⟨serv, ?_, 0, ?_⟩ <;>
    first | decide +kernel | exact nextOf_eq (by decide +kernel) | exact Prod.ext (nextOf_eq (by decide +kernel)) (by decide +kernel) | exact Prod.ext rfl (by decide +kernel) | (intro _ h; cases h; done) | (intro _ _ h; cases h; done) | rfl
  · refine ⟨serv, ?_, ?_, ?_⟩ <;>
    first | decide +kernel | exact nextOf_eq (by decide +kernel) | exact Prod.ext (nextOf_eq (by decide +kernel)) (by decide +kernel) | exact Prod.ext rfl (by decide +kernel) | (intro _ h; cases h; done) | (intro _ _ h; cases h; done) | rfl
  · refine ⟨serv, ?_, ?_, ?_⟩ <;>
    first | decide +kernel | exact nextOf_eq (by decide +kernel) | exact Prod.ext (nextOf_eq (by decide +kernel)) (by decide +kernel) | exact Prod.ext rfl (by decide +kernel) | (intro _ h; cases h; done) | (intro _ _ h; cases h; done) | rfl

theorem witness_FaultRecordsAreClearedAsWritten :
    (∃ (s : State) (m : MasterId), s.ok = true ∧ s.MayWrite m.val FLT_LINE) ∧
    (∃ (s : State) (m : MasterId), s.ok = true ∧ s.MayWrite m.val FLT_STAT) ∧
    (∃ (s : State) (m : MasterId), s.ok = true ∧ s.MayWrite m.val FLT_CTL) := by
  refine ⟨?_, ?_, ?_⟩
  · refine ⟨latched, 0, ?_, ?_⟩ <;>
    first | decide +kernel | exact nextOf_eq (by decide +kernel) | exact Prod.ext (nextOf_eq (by decide +kernel)) (by decide +kernel) | exact Prod.ext rfl (by decide +kernel) | (intro _ h; cases h; done) | (intro _ _ h; cases h; done) | rfl
  · refine ⟨latched, 0, ?_, ?_⟩ <;>
    first | decide +kernel | exact nextOf_eq (by decide +kernel) | exact Prod.ext (nextOf_eq (by decide +kernel)) (by decide +kernel) | exact Prod.ext rfl (by decide +kernel) | (intro _ h; cases h; done) | (intro _ _ h; cases h; done) | rfl
  · refine ⟨latched, 0, ?_, ?_⟩ <;>
    first | decide +kernel | exact nextOf_eq (by decide +kernel) | exact Prod.ext (nextOf_eq (by decide +kernel)) (by decide +kernel) | exact Prod.ext rfl (by decide +kernel) | (intro _ h; cases h; done) | (intro _ _ h; cases h; done) | rfl

theorem witness_ResetsEnterBootWithTheirCause :
    (∃ (s : State), s.ok = true) ∧
    (∃ (s : State), s.ok = true ∧ s.flag CKP_STAT_BOD = true ∧ s.flag CKP_STAT_QUIESCED = true) ∧
    (∃ (s : State), s.ok = true ∧ s.flt.resetDue = true ∧ s.flag CKP_STAT_QUIESCED = true) ∧
    (∃ (s : State), s.ok = true ∧ s.pwr.resetN = false) := by
  refine ⟨?_, ?_, ?_, ?_⟩
  · refine ⟨serv, ?_⟩ <;>
    first | decide +kernel | exact nextOf_eq (by decide +kernel) | exact Prod.ext (nextOf_eq (by decide +kernel)) (by decide +kernel) | exact Prod.ext rfl (by decide +kernel) | (intro _ h; cases h; done) | (intro _ _ h; cases h; done) | rfl
  · refine ⟨quiet, ?_, ?_, ?_⟩ <;>
    first | decide +kernel | exact nextOf_eq (by decide +kernel) | exact Prod.ext (nextOf_eq (by decide +kernel)) (by decide +kernel) | exact Prod.ext rfl (by decide +kernel) | (intro _ h; cases h; done) | (intro _ _ h; cases h; done) | rfl
  · refine ⟨quiet, ?_, ?_, ?_⟩ <;>
    first | decide +kernel | exact nextOf_eq (by decide +kernel) | exact Prod.ext (nextOf_eq (by decide +kernel)) (by decide +kernel) | exact Prod.ext rfl (by decide +kernel) | (intro _ h; cases h; done) | (intro _ _ h; cases h; done) | rfl
  · refine ⟨pinLow, ?_, ?_⟩ <;>
    first | decide +kernel | exact nextOf_eq (by decide +kernel) | exact Prod.ext (nextOf_eq (by decide +kernel)) (by decide +kernel) | exact Prod.ext rfl (by decide +kernel) | (intro _ h; cases h; done) | (intro _ _ h; cases h; done) | rfl

theorem witness_VotesMoveDomains :
    (∃ (s : State), s.ok = true ∧ ∃ (m : MasterId) (d : Fin 8), s.MayWrite m.val PWR_VSET d.val) ∧
    (∃ (s : State), s.ok = true ∧ ∃ (m : MasterId) (d : Fin 8), s.MayWrite m.val PWR_VCLR d.val) ∧
    (∃ (s : State), s.ok = true ∧ ∃ (d : Fin 8) (q : Fin 4), d.val ≠ dMEDIA ∧ s.wanted d.val = false ∧ s.domOn d.val = true ∧ mfind s.pwr.moving d.val = none ∧ s.mayDrop d.val q.val = true ∧ (d.val ≠ dDRAM ∨ s.dramLive = false) ∧ (d.val ≠ dFABRIC ∨ s.mode ≠ mSERVICE ∨ s.flag PLK_ROLE_IMAGE = false) ∧ s.saveBad d.val q.val = false) ∧
    (∃ (s : State), s.ok = true ∧ ∃ (q : Fin 4), nbit (s.fld PWR_DOMSTAT_DEMAND) q.val = true ∧ s.quadWork q.val = false ∧ s.cur PWR_DEMAND_IDLE ≤ mget 0 s.pwr.idleTicks q.val) ∧
    (∃ (s : State), s.ok = true ∧ ∃ (d : Fin 8), d.val ≠ dMEDIA ∧ s.mode ≠ mBOOT ∧ s.mode ≠ mCONFIG ∧ s.wanted d.val = true ∧ s.domOn d.val = false ∧ mfind s.pwr.moving d.val = none) ∧
    (∃ (s : State), s.ok = true ∧ ∃ (q : Fin 4), s.mode ≠ mBOOT ∧ s.mode ≠ mCONFIG ∧ (demandSettle s).quadWanted q.val = true ∧ nbit (s.fld PWR_DOMSTAT_QUAD) q.val = false ∧ mfind s.pwr.movingQuad q.val = none) ∧
    (∃ (s : State), s.ok = true ∧ ∃ (d : Fin 8) (q : Fin 4), s.movingOf d.val q.val = some false) := by
  refine ⟨?_, ?_, ?_, ?_, ?_, ?_, ?_⟩
  · refine ⟨serv, ?_, 0, 0, ?_⟩ <;>
    first | decide +kernel | exact nextOf_eq (by decide +kernel) | exact Prod.ext (nextOf_eq (by decide +kernel)) (by decide +kernel) | exact Prod.ext rfl (by decide +kernel) | (intro _ h; cases h; done) | (intro _ _ h; cases h; done) | rfl
  · refine ⟨serv, ?_, 0, 0, ?_⟩ <;>
    first | decide +kernel | exact nextOf_eq (by decide +kernel) | exact Prod.ext (nextOf_eq (by decide +kernel)) (by decide +kernel) | exact Prod.ext rfl (by decide +kernel) | (intro _ h; cases h; done) | (intro _ _ h; cases h; done) | rfl
  · refine ⟨serv, ?_, 6, 0, ?_, ?_, ?_, ?_, ?_, ?_, ?_, ?_⟩ <;>
    first | decide +kernel | exact nextOf_eq (by decide +kernel) | exact Prod.ext (nextOf_eq (by decide +kernel)) (by decide +kernel) | exact Prod.ext rfl (by decide +kernel) | (intro _ h; cases h; done) | (intro _ _ h; cases h; done) | rfl
  · refine ⟨lapsing, ?_, 0, ?_, ?_, ?_⟩ <;>
    first | decide +kernel | exact nextOf_eq (by decide +kernel) | exact Prod.ext (nextOf_eq (by decide +kernel)) (by decide +kernel) | exact Prod.ext rfl (by decide +kernel) | (intro _ h; cases h; done) | (intro _ _ h; cases h; done) | rfl
  · refine ⟨voted, ?_, 6, ?_, ?_, ?_, ?_, ?_, ?_⟩ <;>
    first | decide +kernel | exact nextOf_eq (by decide +kernel) | exact Prod.ext (nextOf_eq (by decide +kernel)) (by decide +kernel) | exact Prod.ext rfl (by decide +kernel) | (intro _ h; cases h; done) | (intro _ _ h; cases h; done) | rfl
  · refine ⟨demanded, ?_, 0, ?_, ?_, ?_, ?_, ?_⟩ <;>
    first | decide +kernel | exact nextOf_eq (by decide +kernel) | exact Prod.ext (nextOf_eq (by decide +kernel)) (by decide +kernel) | exact Prod.ext rfl (by decide +kernel) | (intro _ h; cases h; done) | (intro _ _ h; cases h; done) | rfl
  · refine ⟨dropping, ?_, 2, Fin.ofNat 4 (4 - 1), ?_⟩ <;>
    first | decide +kernel | exact nextOf_eq (by decide +kernel) | exact Prod.ext (nextOf_eq (by decide +kernel)) (by decide +kernel) | exact Prod.ext rfl (by decide +kernel) | (intro _ h; cases h; done) | (intro _ _ h; cases h; done) | rfl

theorem witness_PowerStatesChangeAtTheBoundary :
    (∃ (s : State), s.ok = true ∧ ∃ (m : MasterId) (ps : Fin 8), s.MayWrite m.val PWR_PSREQ ∧ s.flag PWR_MODE_BUSY = false ∧ ps.val ≤ 3 ∧ s.mode = mSERVICE) ∧
    (∃ (s : State), s.ok = true ∧ ∃ (m : MasterId) (ps : Fin 8), s.MayWrite m.val PWR_PSREQ ∧ (s.flag PWR_MODE_BUSY = true ∨ 4 < ps.val)) ∧
    (∃ (s : State), s.ok = true ∧ ∃ (d : Fin 8) (q : Fin 4) (ok : Bool) (s1 : State) (i : Img), s.movingOf d.val q.val = some true ∧ s.saveBad d.val q.val = false ∧ imageAgain s = (s1, some (some i)) ∧ (d.val ≠ dDRAM ∨ ok = true)) ∧
    (∃ (s : State), s.ok = true ∧ s.flag PWR_MODE_BUSY = true ∧ s.pwr.psPend = none ∧ s.pwr.dormEntry = false ∧ s.mode ≠ mDORMANT) := by
  refine ⟨?_, ?_, ?_, ?_⟩
  · refine ⟨serv, ?_, 0, 0, ?_, ?_, ?_, ?_⟩ <;>
    first | decide +kernel | exact nextOf_eq (by decide +kernel) | exact Prod.ext (nextOf_eq (by decide +kernel)) (by decide +kernel) | exact Prod.ext rfl (by decide +kernel) | (intro _ h; cases h; done) | (intro _ _ h; cases h; done) | rfl
  · refine ⟨serv, ?_, 0, 6, ?_, ?_⟩ <;>
    first | decide +kernel | exact nextOf_eq (by decide +kernel) | exact Prod.ext (nextOf_eq (by decide +kernel)) (by decide +kernel) | exact Prod.ext rfl (by decide +kernel) | (intro _ h; cases h; done) | (intro _ _ h; cases h; done) | rfl
  · refine ⟨rising, ?_, 2, 0, true, risen, img2, ?_, ?_, ?_, ?_⟩ <;>
    first | decide +kernel | exact nextOf_eq (by decide +kernel) | exact Prod.ext (nextOf_eq (by decide +kernel)) (by decide +kernel) | exact Prod.ext rfl (by decide +kernel) | (intro _ h; cases h; done) | (intro _ _ h; cases h; done) | rfl
  · refine ⟨busyPs, ?_, ?_, ?_, ?_, ?_⟩ <;>
    first | decide +kernel | exact nextOf_eq (by decide +kernel) | exact Prod.ext (nextOf_eq (by decide +kernel)) (by decide +kernel) | exact Prod.ext rfl (by decide +kernel) | (intro _ h; cases h; done) | (intro _ _ h; cases h; done) | rfl

theorem witness_DormantIsEnteredAndLeft :
    (∃ (s : State), s.ok = true ∧ ∃ (m : MasterId), s.MayWrite m.val PWR_READY) ∧
    (∃ (s : State), s.ok = true ∧ s.pwr.dormEntry = true ∧ s.coresReady = false) ∧
    (∃ (s : State), s.ok = true ∧ s.pwr.dormEntry = true ∧ s.coresReady = true ∧ s.mediaAtRest = true ∧ (∀ (d : Fin 8) (q : Fin 4), s.saveBad d.val q.val = false)) ∧
    (∃ (s : State), s.ok = true ∧ ∃ (cause : Fin 3), s.mode = mDORMANT ∧ (cause.val ≠ 2 ∨ s.pwr.cmdHeld = true)) ∧
    (∃ (s : State), s.ok = true ∧ s.mode = mDORMANT ∧ s.pwr.exiting = false) ∧
    (∃ (s : State), s.ok = true ∧ ∃ (s1 : State) (i : Img), s.mode = mDORMANT ∧ s.pwr.exiting = true ∧ (∀ (d : Fin 8) (q : Fin 4), s.saveBad d.val q.val = false) ∧ imageAgain (setDom dCTRL true (banksZero s)) = (s1, some (some i))) := by
  refine ⟨?_, ?_, ?_, ?_, ?_, ?_⟩
  · refine ⟨serv, ?_, 0, ?_⟩ <;>
    first | decide +kernel | exact nextOf_eq (by decide +kernel) | exact Prod.ext (nextOf_eq (by decide +kernel)) (by decide +kernel) | exact Prod.ext rfl (by decide +kernel) | (intro _ h; cases h; done) | (intro _ _ h; cases h; done) | rfl
  · refine ⟨dormEntry, ?_, ?_, ?_⟩ <;>
    first | decide +kernel | exact nextOf_eq (by decide +kernel) | exact Prod.ext (nextOf_eq (by decide +kernel)) (by decide +kernel) | exact Prod.ext rfl (by decide +kernel) | (intro _ h; cases h; done) | (intro _ _ h; cases h; done) | rfl
  · refine ⟨dormReady, ?_, ?_, ?_, ?_, ?_⟩ <;>
    first | decide +kernel | exact nextOf_eq (by decide +kernel) | exact Prod.ext (nextOf_eq (by decide +kernel)) (by decide +kernel) | exact Prod.ext rfl (by decide +kernel) | (intro _ h; cases h; done) | (intro _ _ h; cases h; done) | rfl
  · refine ⟨asleep, ?_, 0, ?_, ?_⟩ <;>
    first | decide +kernel | exact nextOf_eq (by decide +kernel) | exact Prod.ext (nextOf_eq (by decide +kernel)) (by decide +kernel) | exact Prod.ext rfl (by decide +kernel) | (intro _ h; cases h; done) | (intro _ _ h; cases h; done) | rfl
  · refine ⟨asleep, ?_, ?_, ?_⟩ <;>
    first | decide +kernel | exact nextOf_eq (by decide +kernel) | exact Prod.ext (nextOf_eq (by decide +kernel)) (by decide +kernel) | exact Prod.ext rfl (by decide +kernel) | (intro _ h; cases h; done) | (intro _ _ h; cases h; done) | rfl
  · refine ⟨waking, ?_, awake, img2b, ?_, ?_, ?_, ?_⟩ <;>
    first | decide +kernel | exact nextOf_eq (by decide +kernel) | exact Prod.ext (nextOf_eq (by decide +kernel)) (by decide +kernel) | exact Prod.ext rfl (by decide +kernel) | (intro _ h; cases h; done) | (intro _ _ h; cases h; done) | rfl

theorem witness_SensorsAndSmbusReport : ∃ (s : State), s.ok = true ∧ s.mode ≠ mDORMANT := by
  refine ⟨serv, ?_, ?_⟩ <;>
  first | decide +kernel | exact nextOf_eq (by decide +kernel) | exact Prod.ext (nextOf_eq (by decide +kernel)) (by decide +kernel) | exact Prod.ext rfl (by decide +kernel) | (intro _ h; cases h; done) | (intro _ _ h; cases h; done) | rfl

theorem witness_BootSealsOrRecovers :
    (∃ (s : State), s.ok = true ∧ ∃ (m : MasterId), s.MayWrite m.val BOT_SEAL ∧ s.mode = mBOOT ∧ s.flag BOT_STAT_SEALED = false) ∧
    (∃ (s : State), s.ok = true ∧ ∃ (s1 : State) (h : Nat), let c0 := s.selCount 0; let c1 := s.selCount 1; let b := if c0 < c1 then 1 else 0; s.mode = mBOOT ∧ s.pwr.resetN = true ∧ s.bot.bootRun = false ∧ s.bot.recovWait = false ∧ memRead (((s.setFld BOT_BOOT_COUNT0 c0).setFld BOT_BOOT_COUNT1 c1).setFld BOT_BOOT_BANK b) 0 Acc.read (bankAddr b) 64 = (s1, MemR.ok h) ∧ headerOk h 826430530 524288 = false) ∧
    (∃ (s : State), s.ok = true ∧ s.mode = mBOOT ∧ s.bot.bootRun = true) ∧
    (∃ (s : State), s.ok = true ∧ ∃ (s1 : State) (src : Fin 3) (h : Nat), s.bot.recovWait = true ∧ s.mode = mBOOT ∧ recoveryImage 0 s = (s1, some (src.val, h)) ∧ s1.ok = true) ∧
    (∃ (s : State), s.ok = true ∧ ∃ (s1 : State) (src : Fin 3) (h : Nat), s.bot.recovWait = true ∧ s.mode = mRECOVERY ∧ recoveryImage 7 s = (s1, some (src.val, h)) ∧ s1.ok = true) ∧
    (∃ (s : State), s.ok = true ∧ ∃ (m : MasterId), s.MayWrite m.val PWR_CTL ∧ (s.mode = mSERVICE ∨ s.mode = mSOLO ∨ s.mode = mDRAIN ∨ s.mode = mSPENT) ∧ (∀ (e : Nat × FlashOp), e ∈ s.cfl.run → e.snd.who ≠ m.val) ∧ (∀ (o : FlashOp), o ∈ s.cfl.queue → o.who ≠ m.val)) := by
  refine ⟨?_, ?_, ?_, ?_, ?_, ?_⟩
  · refine ⟨booting, ?_, 0, ?_, ?_, ?_⟩ <;>
    first | decide +kernel | exact nextOf_eq (by decide +kernel) | exact Prod.ext (nextOf_eq (by decide +kernel)) (by decide +kernel) | exact Prod.ext rfl (by decide +kernel) | (intro _ h; cases h; done) | (intro _ _ h; cases h; done) | rfl
  · have h0 : boot.selCount 0 = 0 := selCount_erased boot 0 (by decide) (by decide +kernel) (by decide +kernel)
    have h1 : boot.selCount 1 = 0 := selCount_erased boot 1 (by decide) (by decide +kernel) (by decide +kernel)
    refine ⟨boot, ?_, chosenErased, 2 ^ 512 - 1, ?_, ?_, ?_, ?_, ?_, ?_⟩ <;>
    first | (rw [h0, h1]; decide +kernel) | decide +kernel
  · refine ⟨bootRunning, ?_, ?_, ?_⟩ <;>
    first | decide +kernel | exact nextOf_eq (by decide +kernel) | exact Prod.ext (nextOf_eq (by decide +kernel)) (by decide +kernel) | exact Prod.ext rfl (by decide +kernel) | (intro _ h; cases h; done) | (intro _ _ h; cases h; done) | rfl
  · refine ⟨recovering, ?_, recovering, Fin.ofNat 3 (3 - 1), 0, ?_, ?_, ?_, ?_⟩ <;>
    first | decide +kernel | exact nextOf_eq (by decide +kernel) | exact Prod.ext (nextOf_eq (by decide +kernel)) (by decide +kernel) | exact Prod.ext rfl (by decide +kernel) | (intro _ h; cases h; done) | (intro _ _ h; cases h; done) | rfl
  · refine ⟨recoveringLate, ?_, recoveringLate, Fin.ofNat 3 (3 - 1), 0, ?_, ?_, ?_, ?_⟩ <;>
    first | decide +kernel | exact nextOf_eq (by decide +kernel) | exact Prod.ext (nextOf_eq (by decide +kernel)) (by decide +kernel) | exact Prod.ext rfl (by decide +kernel) | (intro _ h; cases h; done) | (intro _ _ h; cases h; done) | rfl
  · refine ⟨serv, ?_, 0, ?_, ?_, ?_, ?_⟩ <;>
    first | decide +kernel | exact nextOf_eq (by decide +kernel) | exact Prod.ext (nextOf_eq (by decide +kernel)) (by decide +kernel) | exact Prod.ext rfl (by decide +kernel) | (intro _ h; cases h; done) | (intro _ _ h; cases h; done) | rfl

theorem witness_ConfigAppliesTheImage :
    (∃ (s : State), s.ok = true ∧ s.layRuns = true ∧ s.bot.layStep = 0) ∧
    (∃ (s : State), s.ok = true ∧ ∃ (src : Fin 4), (src.val ≠ 1 ∨ s.pwr.retention = false) ∧ (src.val ≠ 3 ∨ s.flt.bodDrive = true) ∧ s.flag CKP_STAT_BOD = false) ∧
    (∃ (s : State), s.ok = true ∧ ∃ (s1 : State) (i : Img) (c : Nat), s.layRuns = true ∧ s.bot.layStep = 1 ∧ s.flag CKP_STAT_BOD = false ∧ readSlot false s = (s1, Slot.good i c)) ∧
    (∃ (s : State), s.ok = true ∧ s.layRuns = true ∧ s.bot.layStep = 3 ∧ s.flag PLK_ROLE_IMAGE = false ∧ s.pwr.spentDue = false ∧ s.flag SKM_STAT_SPENT = false ∧ s.spareEmpty = false) ∧
    (∃ (s : State), s.ok = true ∧ s.drc.initBusy = true ∧ s.domOn dDRAM = true ∧ s.dramOrgOk = true) := by
  refine ⟨?_, ?_, ?_, ?_, ?_⟩
  · refine ⟨sealedUnchecked, ?_, ?_, ?_⟩ <;>
    first | decide +kernel | exact nextOf_eq (by decide +kernel) | exact Prod.ext (nextOf_eq (by decide +kernel)) (by decide +kernel) | exact Prod.ext rfl (by decide +kernel) | (intro _ h; cases h; done) | (intro _ _ h; cases h; done) | rfl
  · refine ⟨sealedUnchecked, ?_, 0, ?_, ?_, ?_⟩ <;>
    first | decide +kernel | exact nextOf_eq (by decide +kernel) | exact Prod.ext (nextOf_eq (by decide +kernel)) (by decide +kernel) | exact Prod.ext rfl (by decide +kernel) | (intro _ h; cases h; done) | (intro _ _ h; cases h; done) | rfl
  · refine ⟨checked, ?_, checkedRead, img3, nbits shortImage (8 * 72) 32, ?_, ?_, ?_, ?_⟩ <;>
    first | decide +kernel | exact nextOf_eq (by decide +kernel) | exact Prod.ext (nextOf_eq (by decide +kernel)) (by decide +kernel) | exact Prod.ext rfl (by decide +kernel) | (intro _ h; cases h; done) | (intro _ _ h; cases h; done) | rfl
  · refine ⟨started, ?_, ?_, ?_, ?_, ?_, ?_, ?_⟩ <;>
    first | decide +kernel | exact nextOf_eq (by decide +kernel) | exact Prod.ext (nextOf_eq (by decide +kernel)) (by decide +kernel) | exact Prod.ext rfl (by decide +kernel) | (intro _ h; cases h; done) | (intro _ _ h; cases h; done) | rfl
  · refine ⟨dramStartingAll, ?_, ?_, ?_, ?_⟩ <;>
    first | decide +kernel | exact nextOf_eq (by decide +kernel) | exact Prod.ext (nextOf_eq (by decide +kernel)) (by decide +kernel) | exact Prod.ext rfl (by decide +kernel) | (intro _ h; cases h; done) | (intro _ _ h; cases h; done) | rfl

theorem witness_SramReadsWhatWasWrittenAndCorrectsIt :
    (∃ (s : State), s.ok = true ∧ ∃ (m : MasterId) (off : BitVec 27) (n : Fin 65) (fetch : Bool), 1 ≤ n.val ∧ off.toNat + n.val ≤ 100663296 ∧ s.flag SRM_TEST_ENA = false ∧ (s.mapAllowsAll m.val (if fetch = true then Acc.fetch else Acc.read) (536870912 + off.toNat) n.val = true) ∧ (∀ (w : Nat), w ∈ wordsOf (536870912 + off.toNat) n.val → mget 0 s.chk w = 0)) ∧
    (∃ (s : State), s.ok = true ∧ ∃ (m : MasterId) (off : BitVec 27) (n : Fin 65), 1 ≤ n.val ∧ off.toNat + n.val ≤ 100663296 ∧ s.flag SRM_TEST_ENA = false ∧ s.mapAllowsAll m.val Acc.write (536870912 + off.toNat) n.val = true ∧ (∀ (w : Nat), w ∈ wordsOf (536870912 + off.toNat) n.val → mget 0 s.chk w = 0)) ∧
    (∃ (s : State), s.ok = true ∧ s.sramScrubOn = true) ∧
    (∃ (s : State), s.ok = true ∧ ∃ (m : MasterId) (off : BitVec 27), off.toNat % 8 = 0 ∧ off.toNat + 8 ≤ 100663296 ∧ s.flag SRM_TEST_ENA = false ∧ s.mapAllowsAll m.val Acc.read (536870912 + off.toNat) 8 = true ∧ mget 0 s.chk (536870912 + off.toNat) = 0 ∧ sortedFrom none s.chk = true ∧ ∃ (i j : Fin 72), i ≠ j) := by
  refine ⟨?_, ?_, ?_, ?_⟩
  · refine ⟨cleanSram, ?_, 0, 0, 1, true, ?_, ?_, ?_, ?_, ?_⟩ <;>
    first | decide +kernel | exact nextOf_eq (by decide +kernel) | exact Prod.ext (nextOf_eq (by decide +kernel)) (by decide +kernel) | exact Prod.ext rfl (by decide +kernel) | (intro _ h; cases h; done) | (intro _ _ h; cases h; done) | rfl
  · refine ⟨cleanSram, ?_, 0, 0, 1, ?_, ?_, ?_, ?_, ?_⟩ <;>
    first | decide +kernel | exact nextOf_eq (by decide +kernel) | exact Prod.ext (nextOf_eq (by decide +kernel)) (by decide +kernel) | exact Prod.ext rfl (by decide +kernel) | (intro _ h; cases h; done) | (intro _ _ h; cases h; done) | rfl
  · refine ⟨cleanSram, ?_, ?_⟩ <;>
    first | decide +kernel | exact nextOf_eq (by decide +kernel) | exact Prod.ext (nextOf_eq (by decide +kernel)) (by decide +kernel) | exact Prod.ext rfl (by decide +kernel) | (intro _ h; cases h; done) | (intro _ _ h; cases h; done) | rfl
  · refine ⟨cleanSram, ?_, 0, 0, ?_, ?_, ?_, ?_, ?_, ?_, 0, Fin.ofNat 72 (72 - 1), ?_⟩ <;>
    first | decide +kernel | exact nextOf_eq (by decide +kernel) | exact Prod.ext (nextOf_eq (by decide +kernel)) (by decide +kernel) | exact Prod.ext rfl (by decide +kernel) | (intro _ h; cases h; done) | (intro _ _ h; cases h; done) | rfl

theorem witness_DramReadsWhatWasWritten :
    (∃ (s : State), s.ok = true ∧ ∃ (m : MasterId) (off : BitVec 37) (n : Fin 65) (fetch : Bool), 1 ≤ n.val ∧ off.toNat + n.val ≤ s.dramBytes ∧ (s.mapAllowsAll m.val (if fetch = true then Acc.fetch else Acc.read) (68719476736 + off.toNat) n.val = true) ∧ (∀ (l : Nat), l ∈ linesOf (68719476736 + off.toNat) n.val → s.dramReady l = true ∧ beatErrors s l = [])) ∧
    (∃ (s : State), s.ok = true ∧ ∃ (m : MasterId) (off : BitVec 37) (n : Fin 65), 1 ≤ n.val ∧ off.toNat + n.val ≤ s.dramBytes ∧ s.mapAllowsAll m.val Acc.write (68719476736 + off.toNat) n.val = true ∧ s.storeUndef m.val (68719476736 + off.toNat) n.val = none ∧ (∀ (l : Nat), l ∈ linesOf (68719476736 + off.toNat) n.val → s.dramReady l = true ∧ beatErrors s l = [])) ∧
    (∃ (s : State), s.ok = true ∧ ∃ (m : MasterId), s.MayWrite m.val DRC_INIT) ∧
    (∃ (s : State), s.ok = true ∧ ∃ (m : MasterId), s.MayWrite m.val DRC_CHCTL) ∧
    (∃ (s : State), s.ok = true ∧ s.dramScrubOn = true) := by
  refine ⟨?_, ?_, ?_, ?_, ?_⟩
  · refine ⟨dramLive, ?_, 0, 0, 1, true, ?_, ?_, ?_, ?_⟩ <;>
    first | decide +kernel | exact nextOf_eq (by decide +kernel) | exact Prod.ext (nextOf_eq (by decide +kernel)) (by decide +kernel) | exact Prod.ext rfl (by decide +kernel) | (intro _ h; cases h; done) | (intro _ _ h; cases h; done) | rfl
  · refine ⟨dramLive, ?_, 0, 0, 1, ?_, ?_, ?_, ?_, ?_⟩ <;>
    first | decide +kernel | exact nextOf_eq (by decide +kernel) | exact Prod.ext (nextOf_eq (by decide +kernel)) (by decide +kernel) | exact Prod.ext rfl (by decide +kernel) | (intro _ h; cases h; done) | (intro _ _ h; cases h; done) | rfl
  · refine ⟨dramLive, ?_, 0, ?_⟩ <;>
    first | decide +kernel | exact nextOf_eq (by decide +kernel) | exact Prod.ext (nextOf_eq (by decide +kernel)) (by decide +kernel) | exact Prod.ext rfl (by decide +kernel) | (intro _ h; cases h; done) | (intro _ _ h; cases h; done) | rfl
  · refine ⟨dramLive, ?_, 0, ?_⟩ <;>
    first | decide +kernel | exact nextOf_eq (by decide +kernel) | exact Prod.ext (nextOf_eq (by decide +kernel)) (by decide +kernel) | exact Prod.ext rfl (by decide +kernel) | (intro _ h; cases h; done) | (intro _ _ h; cases h; done) | rfl
  · refine ⟨dramLive, ?_, ?_⟩ <;>
    first | decide +kernel | exact nextOf_eq (by decide +kernel) | exact Prod.ext (nextOf_eq (by decide +kernel)) (by decide +kernel) | exact Prod.ext rfl (by decide +kernel) | (intro _ h; cases h; done) | (intro _ _ h; cases h; done) | rfl

theorem witness_DramBanksFollowRefresh :
    (∃ (s : State), sortedFrom none s.drc.banks = true ∧ s.ok = true ∧ s.domOn dDRAM = true ∧ s.flag DRC_INITSTAT_DONE = true ∧ s.drc.selfRef = false) ∧
    (∃ (s : State), sortedFrom none s.drc.banks = true ∧ s.ok = true ∧ s.cur DRC_PAGE_MODE ≠ 1) := by
  refine ⟨?_, ?_⟩
  · refine ⟨dramBanked, ?_, ?_, ?_, ?_, ?_⟩ <;>
    first | decide +kernel | exact nextOf_eq (by decide +kernel) | exact Prod.ext (nextOf_eq (by decide +kernel)) (by decide +kernel) | exact Prod.ext rfl (by decide +kernel) | (intro _ h; cases h; done) | (intro _ _ h; cases h; done) | rfl
  · refine ⟨dramBanked, ?_, ?_, ?_⟩ <;>
    first | decide +kernel | exact nextOf_eq (by decide +kernel) | exact Prod.ext (nextOf_eq (by decide +kernel)) (by decide +kernel) | exact Prod.ext rfl (by decide +kernel) | (intro _ h; cases h; done) | (intro _ _ h; cases h; done) | rfl

theorem witness_CodeFlashOperations :
    (∃ (s : State), s.ok = true ∧ ∃ (m : MasterId) (off : BitVec 24) (n : Fin 65) (fetch : Bool), 1 ≤ n.val ∧ off.toNat + n.val ≤ 16777216 ∧ s.cflBusy (268435456 + off.toNat) n.val = false ∧ (s.mapAllowsAll m.val (if fetch = true then Acc.fetch else Acc.read) (268435456 + off.toNat) n.val = true) ∧ s.cfl.susp = [] ∧ (∀ (w : Nat), w ∈ wordsOf (268435456 + off.toNat) n.val → s.cflTwice (w - 268435456) = false ∧ eccDecode 7 71 (chk72 (s.rawNat w 8) ^^^ s.flashChk w) = EccR.clean)) ∧
    (∃ (s : State), s.ok = true ∧ ∃ (m : MasterId), s.MayWrite m.val CFL_CMD ∧ s.flag CFL_STAT_FWBUSY = false ∧ m.val < 9 ∧ let off := s.fld CFL_ADDR_OFFSET; s.cfl.queue = [] ∧ s.cflRefuses m.val off false = false ∧ mfind s.cfl.run (cflBank off) = none ∧ s.wordUsed off = false ∧ s.cflTwice off = false) ∧
    (∃ (s : State), s.ok = true ∧ ∃ (m : MasterId), s.MayWrite m.val CFL_CMD ∧ s.flag CFL_STAT_FWBUSY = false ∧ m.val < 9 ∧ let off := s.fld CFL_ADDR_OFFSET; s.cfl.queue = [] ∧ s.cflRefuses m.val off true = false ∧ mfind s.cfl.run (cflBank off) = none) ∧
    (∃ (s : State), s.ok = true ∧ ∃ (m : MasterId), s.MayWrite m.val BOT_SWAP ∧ let act := s.activeBank; (if act = 0 then s.selCount 1 = s.selCount 0 else s.selCount 0 + 1 = s.selCount 1) ∧ s.selCount (1 - act) < 2048 ∧ s.cfl.queue = [] ∧ mfind s.cfl.run (1 - act) = none) ∧
    (∃ (s : State), s.ok = true ∧ ∃ (m : MasterId), s.MayWrite m.val CFL_CMD ∧ s.flag CFL_STAT_FWBUSY = false ∧ m.val < 9 ∧ let off := s.fld CFL_ADDR_OFFSET; ∃ (op : FlashOp), s.cfl.queue = [] ∧ sortedFrom none s.cfl.run = true ∧ mfind s.cfl.run (cflBank off) = some op ∧ op.erase = true ∧ s.mayHold (cflBank off) = true) ∧
    (∃ (s : State), s.ok = true ∧ ∃ (bank : Fin 2) (op : FlashOp), s.ckp.recs = [] ∧ s.plk.logOps = [] ∧ s.plk.due = [] ∧ mfind s.cfl.run bank.val = some op ∧ op.erase = true ∧ s.cfl.queue = [] ∧ sortedFrom none s.cfl.run = true) ∧
    (∃ (s : State), s.ok = true ∧ ∃ (bank : Fin 2) (op : FlashOp), s.ckp.recs = [] ∧ s.plk.logOps = [] ∧ s.plk.due = [] ∧ mfind s.cfl.run bank.val = some op ∧ op.erase = false ∧ s.cflTwice op.offset = false ∧ op.who < 9 ∧ s.fld CFL_CTL_WARN = 0 ∧ s.cfl.queue = [] ∧ sortedFrom none s.cfl.run = true ∧ op.offset < 16777216) ∧
    (∃ (s : State), s.ok = true ∧ ∃ (m : MasterId), s.MayWrite m.val CFL_CMD ∧ s.flag CFL_STAT_FWBUSY = false ∧ m.val < 9 ∧ let off := s.fld CFL_ADDR_OFFSET; ∃ (op : FlashOp), s.cfl.queue = [] ∧ mfind s.cfl.susp (cflBank off) = some op ∧ cflBank op.offset = cflBank off ∧ op.erase = true ∧ mfind s.cfl.run (cflBank off) = none ∧ sortedFrom none s.cfl.susp = true) ∧
    (∃ (s : State), s.ok = true ∧ ∃ (m : MasterId), s.MayWrite m.val BOT_SWAP ∧ let act := s.activeBank; (¬if act = 0 then s.selCount 1 = s.selCount 0 else s.selCount 0 + 1 = s.selCount 1)) := by
  refine ⟨?_, ?_, ?_, ?_, ?_, ?_, ?_, ?_, ?_⟩
  · refine ⟨boot, ?_, 0, 0, 1, true, ?_, ?_, ?_, ?_, ?_, ?_⟩ <;>
    first | decide +kernel | exact nextOf_eq (by decide +kernel) | exact Prod.ext (nextOf_eq (by decide +kernel)) (by decide +kernel) | exact Prod.ext rfl (by decide +kernel) | (intro _ h; cases h; done) | (intro _ _ h; cases h; done) | rfl
  · refine ⟨boot, ?_, 0, ?_, ?_, ?_, ?_, ?_, ?_, ?_, ?_⟩ <;>
    first | decide +kernel | exact nextOf_eq (by decide +kernel) | exact Prod.ext (nextOf_eq (by decide +kernel)) (by decide +kernel) | exact Prod.ext rfl (by decide +kernel) | (intro _ h; cases h; done) | (intro _ _ h; cases h; done) | rfl
  · refine ⟨boot, ?_, 0, ?_, ?_, ?_, ?_, ?_, ?_⟩ <;>
    first | decide +kernel | exact nextOf_eq (by decide +kernel) | exact Prod.ext (nextOf_eq (by decide +kernel)) (by decide +kernel) | exact Prod.ext rfl (by decide +kernel) | (intro _ h; cases h; done) | (intro _ _ h; cases h; done) | rfl
  · have h0 : boot.selCount 0 = 0 := selCount_erased boot 0 (by decide) (by decide +kernel) (by decide +kernel)
    have h1 : boot.selCount 1 = 0 := selCount_erased boot 1 (by decide) (by decide +kernel) (by decide +kernel)
    refine ⟨boot, ?_, 0, ?_, ?_, ?_, ?_, ?_⟩ <;>
    first | (rw [show boot.activeBank = 0 by decide +kernel]; first | (rw [if_pos rfl, h0, h1]) | (rw [show 1 - 0 = 1 from rfl, h1]; decide)) | decide +kernel
  · refine ⟨erasing, ?_, 0, ?_, ?_, ?_, { who := 0, erase := true, offset := 4096 }, ?_, ?_, ?_, ?_, ?_⟩ <;>
    first | decide +kernel | exact nextOf_eq (by decide +kernel) | exact Prod.ext (nextOf_eq (by decide +kernel)) (by decide +kernel) | exact Prod.ext rfl (by decide +kernel) | (intro _ h; cases h; done) | (intro _ _ h; cases h; done) | rfl
  · refine ⟨erasing, ?_, 0, { who := 0, erase := true, offset := 4096 }, ?_, ?_, ?_, ?_, ?_, ?_, ?_⟩ <;>
    first | decide +kernel | exact nextOf_eq (by decide +kernel) | exact Prod.ext (nextOf_eq (by decide +kernel)) (by decide +kernel) | exact Prod.ext rfl (by decide +kernel) | (intro _ h; cases h; done) | (intro _ _ h; cases h; done) | rfl
  · refine ⟨programming, ?_, Fin.ofNat 2 (2 - 1), { who := 8, erase := false, offset := 8388608, data := 5, chkb := BitVec.ofNat 8 (chk72 5) }, ?_, ?_, ?_, ?_, ?_, ?_, ?_, ?_, ?_, ?_, ?_⟩ <;>
    first | decide +kernel | exact nextOf_eq (by decide +kernel) | exact Prod.ext (nextOf_eq (by decide +kernel)) (by decide +kernel) | exact Prod.ext rfl (by decide +kernel) | (intro _ h; cases h; done) | (intro _ _ h; cases h; done) | rfl
  · refine ⟨suspendedErase, ?_, 0, ?_, ?_, ?_, { who := 0, erase := true, offset := 4096 }, ?_, ?_, ?_, ?_, ?_, ?_⟩ <;>
    first | decide +kernel | exact nextOf_eq (by decide +kernel) | exact Prod.ext (nextOf_eq (by decide +kernel)) (by decide +kernel) | exact Prod.ext rfl (by decide +kernel) | (intro _ h; cases h; done) | (intro _ _ h; cases h; done) | rfl
  · have h0 : (boot.setFld BOT_BOOT_BANK 1).selCount 0 = 0 := selCount_erased (boot.setFld BOT_BOOT_BANK 1) 0 (by decide) (by decide +kernel) (by decide +kernel)
    have h1 : (boot.setFld BOT_BOOT_BANK 1).selCount 1 = 0 := selCount_erased (boot.setFld BOT_BOOT_BANK 1) 1 (by decide) (by decide +kernel) (by decide +kernel)
    refine ⟨boot.setFld BOT_BOOT_BANK 1, ?_, 0, ?_, ?_⟩ <;>
    first | (rw [show (boot.setFld BOT_BOOT_BANK 1).activeBank = 1 by decide +kernel, h0, h1]; decide) | decide +kernel

theorem witness_BufferPoolsHandOutAndTakeBack :
    (∃ (s : State), s.ok = true ∧ (∀ (k : Fin 4), s.cur BPM_PLOW_LOW k.val = 0) ∧ sortedFrom none s.bpm.cache = true ∧ sortedFrom none s.bpm.ring = true ∧ ∃ (m : MasterId) (group : Fin 9) (size : BitVec 19) (f : Option Nat) (k : Fin 4), m.val = group.val ∧ s.MayWrite m.val BPM_ALLOC group.val ∧ size.toNat ≤ 262144 ∧ s.poolFor size.toNat = (f, some k.val) ∧ s.poolFree k.val ≠ 0 ∧ (∀ (h : Nat), h ∈ mget [] s.bpm.cache k.val ++ mget [] s.bpm.ring k.val → s.takes 22 (s.bufEntryAddr h) 4 = true)) ∧
    (∃ (s : State), s.ok = true ∧ (∀ (k : Fin 4), s.cur BPM_PLOW_LOW k.val = 0) ∧ sortedFrom none s.bpm.cache = true ∧ sortedFrom none s.bpm.ring = true ∧ ∃ (pool : Fin 4), (mget [] s.bpm.cache pool.val).length < 16) ∧
    (∃ (s : State), s.ok = true ∧ (∀ (k : Fin 4), s.cur BPM_PLOW_LOW k.val = 0) ∧ sortedFrom none s.bpm.cache = true ∧ sortedFrom none s.bpm.ring = true ∧ ∃ (pool : Fin 4), 48 < (mget [] s.bpm.cache pool.val).length) ∧
    (∃ (s : State), s.ok = true ∧ (∀ (k : Fin 4), s.cur BPM_PLOW_LOW k.val = 0) ∧ sortedFrom none s.bpm.cache = true ∧ sortedFrom none s.bpm.ring = true ∧ ∃ (w : HwAlloc) (f : Option Nat) (k : Fin 4), s.bpm.wait = [w] ∧ s.poolFor w.bytes = (f, some k.val) ∧ s.poolFree k.val ≠ 0) ∧
    (∃ (s : State), s.ok = true ∧ (∀ (k : Fin 4), s.cur BPM_PLOW_LOW k.val = 0) ∧ sortedFrom none s.bpm.cache = true ∧ sortedFrom none s.bpm.ring = true ∧ ∃ (m : MasterId) (group : Fin 9) (pool : Fin 4) (idx : BitVec 24), let h := handleOf pool idx.toNat; let e := s.bufEntry h; (m.val < 9 → m.val = group.val ∧ s.MayWrite m.val BPM_OP group.val) ∧ s.bufNamed h = true ∧ e.alloc = true ∧ e.freeing = false ∧ e.owner = m.val ∧ e.share = 0 ∧ s.takes 22 (s.bufEntryAddr h) 4 = true) ∧
    (∃ (s : State), s.ok = true ∧ (∀ (k : Fin 4), s.cur BPM_PLOW_LOW k.val = 0) ∧ sortedFrom none s.bpm.cache = true ∧ sortedFrom none s.bpm.ring = true ∧ ∃ (m : MasterId) (group : Fin 9) (pool : Fin 4) (idx : BitVec 24), let h := handleOf pool idx.toNat; let e := s.bufEntry h; (m.val < 9 → m.val = group.val ∧ s.MayWrite m.val BPM_OP group.val) ∧ s.bufNamed h = true ∧ e.alloc = true ∧ e.freeing = false ∧ e.share < 255) ∧
    (∃ (s : State), s.ok = true ∧ (∀ (k : Fin 4), s.cur BPM_PLOW_LOW k.val = 0) ∧ sortedFrom none s.bpm.cache = true ∧ sortedFrom none s.bpm.ring = true ∧ ∃ (m : MasterId) (group : Fin 9) (pool : Fin 4) (idx : BitVec 24), let h := handleOf pool idx.toNat; let e := s.bufEntry h; (m.val < 9 → m.val = group.val ∧ s.MayWrite m.val BPM_OP group.val) ∧ s.bufNamed h = true ∧ e.alloc = true ∧ e.freeing = false ∧ 0 < e.share) ∧
    (∃ (s : State), s.ok = true ∧ (∀ (k : Fin 4), s.cur BPM_PLOW_LOW k.val = 0) ∧ sortedFrom none s.bpm.cache = true ∧ sortedFrom none s.bpm.ring = true ∧ ∃ (m : MasterId) (group : Fin 9) (pool : Fin 4) (idx : BitVec 24), let h := handleOf pool idx.toNat; let e := s.bufEntry h; (m.val < 9 → m.val = group.val ∧ s.MayWrite m.val BPM_OP group.val) ∧ s.bufNamed h = true ∧ e.alloc = true ∧ e.freeing = false ∧ e.owner = m.val ∧ e.share ≠ 0) := by
  refine ⟨?_, ?_, ?_, ?_, ?_, ?_, ?_, ?_⟩
  · refine ⟨pooled, ?_, ?_, ?_, ?_, 0, 0, 0, some 0, 0, ?_, ?_, ?_, ?_, ?_, ?_⟩ <;>
    first | decide +kernel | exact nextOf_eq (by decide +kernel) | exact Prod.ext (nextOf_eq (by decide +kernel)) (by decide +kernel) | exact Prod.ext rfl (by decide +kernel) | (intro _ h; cases h; done) | (intro _ _ h; cases h; done) | rfl
  · refine ⟨pooled, ?_, ?_, ?_, ?_, 0, ?_⟩ <;>
    first | decide +kernel | exact nextOf_eq (by decide +kernel) | exact Prod.ext (nextOf_eq (by decide +kernel)) (by decide +kernel) | exact Prod.ext rfl (by decide +kernel) | (intro _ h; cases h; done) | (intro _ _ h; cases h; done) | rfl
  · refine ⟨pooledFull, ?_, ?_, ?_, ?_, 0, ?_⟩ <;>
    first | decide +kernel | exact nextOf_eq (by decide +kernel) | exact Prod.ext (nextOf_eq (by decide +kernel)) (by decide +kernel) | exact Prod.ext rfl (by decide +kernel) | (intro _ h; cases h; done) | (intro _ _ h; cases h; done) | rfl
  · refine ⟨pooledFull, ?_, ?_, ?_, ?_, { master := 10, bytes := 100, tag := 7 }, some 0, 0, ?_, ?_, ?_⟩ <;>
    first | decide +kernel | exact nextOf_eq (by decide +kernel) | exact Prod.ext (nextOf_eq (by decide +kernel)) (by decide +kernel) | exact Prod.ext rfl (by decide +kernel) | (intro _ h; cases h; done) | (intro _ _ h; cases h; done) | rfl
  · refine ⟨bufHeld, ?_, ?_, ?_, ?_, 0, 0, 0, 3, ?_, ?_, ?_, ?_, ?_, ?_, ?_⟩ <;>
    first | decide +kernel | exact nextOf_eq (by decide +kernel) | exact Prod.ext (nextOf_eq (by decide +kernel)) (by decide +kernel) | exact Prod.ext rfl (by decide +kernel) | (intro _ h; cases h; done) | (intro _ _ h; cases h; done) | rfl
  · refine ⟨bufHeld, ?_, ?_, ?_, ?_, 0, 0, 0, 3, ?_, ?_, ?_, ?_, ?_⟩ <;>
    first | decide +kernel | exact nextOf_eq (by decide +kernel) | exact Prod.ext (nextOf_eq (by decide +kernel)) (by decide +kernel) | exact Prod.ext rfl (by decide +kernel) | (intro _ h; cases h; done) | (intro _ _ h; cases h; done) | rfl
  · refine ⟨bufShared, ?_, ?_, ?_, ?_, 0, 0, 0, 3, ?_, ?_, ?_, ?_, ?_⟩ <;>
    first | decide +kernel | exact nextOf_eq (by decide +kernel) | exact Prod.ext (nextOf_eq (by decide +kernel)) (by decide +kernel) | exact Prod.ext rfl (by decide +kernel) | (intro _ h; cases h; done) | (intro _ _ h; cases h; done) | rfl
  · refine ⟨bufShared, ?_, ?_, ?_, ?_, 10, 0, 0, 3, ?_, ?_, ?_, ?_, ?_, ?_⟩ <;>
    first | decide +kernel | exact nextOf_eq (by decide +kernel) | exact Prod.ext (nextOf_eq (by decide +kernel)) (by decide +kernel) | exact Prod.ext rfl (by decide +kernel) | (intro _ h; cases h; done) | (intro _ _ h; cases h; done) | rfl

theorem witness_DmaChannelsRunTheirTransfers :
    (∃ (s : State) (n : Fin 64), s.ok = true ∧ ∃ (m : MasterId), s.MayWrite m.val DMA_NCTL n.val ∧ s.flag DMA_CHSTAT_SHADOW n.val = false ∧ s.fld DMA_CHSTAT_STATE n.val = 0 ∧ s.flag DMA_GSTAT_STOPPED = false ∧ let al := max (swapAlign (s.fld DMA_SRCCFG_SWAP n)) (swapAlign (s.fld DMA_DSTCFG_SWAP n)); s.fld DMA_NCNT_BYTES n.val ≠ 0 ∧ s.fld DMA_NCNT_BYTES n.val % al = 0 ∧ s.pair DMA_NSRC_LO_ADDR DMA_NSRC_HI_ADDR n.val % al = 0 ∧ s.pair DMA_NDST_LO_ADDR DMA_NDST_HI_ADDR n.val % al = 0) ∧
    (∃ (s : State) (n : Fin 64), s.ok = true ∧ ∃ (m : MasterId), s.MayWrite m.val DMA_NCTL n.val ∧ s.flag DMA_CHSTAT_SHADOW n.val = true) ∧
    (∃ (s : State) (n : Fin 64), s.ok = true ∧ ∃ (s1 s2 : State) (v w : Nat), let b := min 64 (s.dmaCnt n); s.dmaTurn = some n.val ∧ ¬(s.dmaSrc n.val < s.dmaDst n.val ∧ s.dmaDst n.val < s.dmaSrc n.val + s.dmaCnt n.val) ∧ s.storeUndef 9 (s.dmaDst n.val) b = none ∧ memRead     { s with dma :=         { s.dma with last := n.val } }     9 Acc.read (s.dmaSrc n.val) b =   (s1, MemR.ok v) ∧ memWrite s1 9 Acc.write (s.dmaDst n.val) b (ofLe (swapBytes (s.fld DMA_DSTCFG_SWAP n.val) (swapBytes (s.fld DMA_SRCCFG_SWAP n.val) (leBytes b v)))) = (s2, MemR.ok w)) ∧
    (∃ (s : State) (n : Fin 64), s.ok = true ∧ s.fld DMA_CHSTAT_STATE n.val = 1 ∧ s.dmaCnt n.val = 0 ∧ s.flag DMA_CHSTAT_SHADOW n.val = false) ∧
    (∃ (s : State), s.ok = true ∧ ∃ (m : MasterId), s.MayWrite m.val DMA_GSTAT ∧ s.flag DMA_GSTAT_STOPPED = true) := by
  refine ⟨?_, ?_, ?_, ?_, ?_⟩
  · refine ⟨dmaIdle, 0, ?_, 0, ?_, ?_, ?_, ?_, ?_, ?_, ?_, ?_⟩ <;>
    first | decide +kernel | exact nextOf_eq (by decide +kernel) | exact Prod.ext (nextOf_eq (by decide +kernel)) (by decide +kernel) | exact Prod.ext rfl (by decide +kernel) | (intro _ h; cases h; done) | (intro _ _ h; cases h; done) | rfl
  · refine ⟨dmaShadow, 0, ?_, 0, ?_, ?_⟩ <;>
    first | decide +kernel | exact nextOf_eq (by decide +kernel) | exact Prod.ext (nextOf_eq (by decide +kernel)) (by decide +kernel) | exact Prod.ext rfl (by decide +kernel) | (intro _ h; cases h; done) | (intro _ _ h; cases h; done) | rfl
  · refine ⟨dmaActive, 0, ?_, dmaRead, dmaRead, 0, 0, ?_, ?_, ?_, ?_, ?_⟩ <;>
    first | decide +kernel | exact nextOf_eq (by decide +kernel) | exact Prod.ext (nextOf_eq (by decide +kernel)) (by decide +kernel) | exact Prod.ext rfl (by decide +kernel) | (intro _ h; cases h; done) | (intro _ _ h; cases h; done) | rfl
  · refine ⟨dmaEnding, 0, ?_, ?_, ?_, ?_⟩ <;>
    first | decide +kernel | exact nextOf_eq (by decide +kernel) | exact Prod.ext (nextOf_eq (by decide +kernel)) (by decide +kernel) | exact Prod.ext rfl (by decide +kernel) | (intro _ h; cases h; done) | (intro _ _ h; cases h; done) | rfl
  · refine ⟨dmaStopped, ?_, 0, ?_, ?_⟩ <;>
    first | decide +kernel | exact nextOf_eq (by decide +kernel) | exact Prod.ext (nextOf_eq (by decide +kernel)) (by decide +kernel) | exact Prod.ext rfl (by decide +kernel) | (intro _ h; cases h; done) | (intro _ _ h; cases h; done) | rfl

theorem witness_StartsAreIssuedArmedAndSuspended :
    (∃ (s : State) (ch : Fin 32) (st : Step), s.mediaOk = true ∧ st.target < 16 ∧ st.lun < 4 ∧ let pos := ch.val * 64 + st.die; let c : Instr × Nat := (Instr.startPageReadQlc ch, 0); s.Head ch.val st ∧ st.op = 1 ∧ st.subop = c.snd ∧ s.badStart ch.val st = false ∧ (s.chan ch.val).transfer = false ∧ s.pastHalf = false ∧ s.dieState pos = 1 ∧ (s.die pos).held = none ∧ (isProgOp c.snd = true → s.loaded ch.val st = true)) ∧
    (∃ (s : State) (ch : Fin 32) (st : Step), s.mediaOk = true ∧ st.target < 16 ∧ st.lun < 4 ∧ let pos := ch.val * 64 + st.die; let c : Instr × Nat := (Instr.startPageReadQlc ch, 0); s.Head ch.val st ∧ st.op = 1 ∧ st.subop = c.snd ∧ s.badStart ch.val st = false ∧ (s.chan ch.val).transfer = false ∧ s.pastHalf = false ∧ s.dieState pos = 2 ∧ st.job ≠ none ∧ (s.die pos).armed = none ∧ (s.die pos).resetting = false) ∧
    (∃ (s : State) (ch : Fin 32) (st : Step), s.mediaOk = true ∧ st.target < 16 ∧ st.lun < 4 ∧ let pos := ch.val * 64 + st.die; s.quadOn ch.val = true ∧ s.fchBod ch.val = false ∧ (s.die pos).armed = some st ∧ (s.die pos).held = none ∧ s.dieState pos = 1 ∧ isReadOp st.subop = true) ∧
    (∃ (s : State) (ch : Fin 32) (st : Step), s.mediaOk = true ∧ st.target < 16 ∧ st.lun < 4 ∧ let pos := ch.val * 64 + st.die; ∃ (r : ArrOp), s.Head ch.val st ∧ st.op = 2 ∧ (s.chan ch.val).transfer = false ∧ s.pastHalf = false ∧ s.dieState pos = 2 ∧ (s.die pos).run = some r ∧ isReadOp r.step.subop = false ∧ (s.cur FCH_SUSPLIM_LIMIT ch.val = 0 ∨ r.susp < s.cur FCH_SUSPLIM_LIMIT ch.val)) ∧
    (∃ (s : State) (ch : Fin 32) (st : Step), s.mediaOk = true ∧ st.target < 16 ∧ st.lun < 4 ∧ let pos := ch.val * 64 + st.die; ∃ (r : ArrOp), s.quadOn ch.val = true ∧ s.dieState pos = 3 ∧ (s.die pos).run = some r ∧ r.bod = false) ∧
    (∃ (s : State) (ch : Fin 32) (st : Step), s.mediaOk = true ∧ st.target < 16 ∧ st.lun < 4 ∧ let pos := ch.val * 64 + st.die; ∃ (r : ArrOp), s.Head ch.val st ∧ st.op = 3 ∧ (s.chan ch.val).transfer = false ∧ s.pastHalf = false ∧ s.dieState pos = 4 ∧ (s.die pos).held = some r) ∧
    (∃ (s : State) (ch : Fin 32) (st : Step), s.mediaOk = true ∧ st.target < 16 ∧ st.lun < 4 ∧ s.Head ch.val st ∧ st.op = 0) ∧
    (∃ (s : State) (ch : Fin 32) (st : Step), s.mediaOk = true ∧ st.target < 16 ∧ st.lun < 4 ∧ s.Head ch.val st ∧ 7 ≤ st.op) := by
  refine ⟨?_, ?_, ?_, ?_, ?_, ?_, ?_, ?_⟩
  · refine ⟨headStart 0, 0, stOf 0, ?_, ?_, ?_, ?_, ?_, ?_, ?_, ?_, ?_, ?_, ?_, ?_⟩ <;>
    first | decide +kernel | exact nextOf_eq (by decide +kernel) | exact Prod.ext (nextOf_eq (by decide +kernel)) (by decide +kernel) | exact Prod.ext rfl (by decide +kernel) | (intro _ h; cases h; done) | (intro _ _ h; cases h; done) | rfl
  · refine ⟨headBusy 0, 0, managedStep 0, ?_, ?_, ?_, ?_, ?_, ?_, ?_, ?_, ?_, ?_, ?_, ?_, ?_⟩ <;>
    first | decide +kernel | exact nextOf_eq (by decide +kernel) | exact Prod.ext (nextOf_eq (by decide +kernel)) (by decide +kernel) | exact Prod.ext rfl (by decide +kernel) | (intro _ h; cases h; done) | (intro _ _ h; cases h; done) | rfl
  · refine ⟨armedIdle, 0, managedStep 0, ?_, ?_, ?_, ?_, ?_, ?_, ?_, ?_, ?_⟩ <;>
    first | decide +kernel | exact nextOf_eq (by decide +kernel) | exact Prod.ext (nextOf_eq (by decide +kernel)) (by decide +kernel) | exact Prod.ext rfl (by decide +kernel) | (intro _ h; cases h; done) | (intro _ _ h; cases h; done) | rfl
  · refine ⟨erasingDie, 0, suspStep, ?_, ?_, ?_, { step := stOf 4 }, ?_, ?_, ?_, ?_, ?_, ?_, ?_, ?_⟩ <;>
    first | decide +kernel | exact nextOf_eq (by decide +kernel) | exact Prod.ext (nextOf_eq (by decide +kernel)) (by decide +kernel) | exact Prod.ext rfl (by decide +kernel) | (intro _ h; cases h; done) | (intro _ _ h; cases h; done) | rfl
  · refine ⟨suspending, 0, stOf 0, ?_, ?_, ?_, { step := stOf 4, acc := 9 }, ?_, ?_, ?_, ?_⟩ <;>
    first | decide +kernel | exact nextOf_eq (by decide +kernel) | exact Prod.ext (nextOf_eq (by decide +kernel)) (by decide +kernel) | exact Prod.ext rfl (by decide +kernel) | (intro _ h; cases h; done) | (intro _ _ h; cases h; done) | rfl
  · refine ⟨holding, 31, resStep, ?_, ?_, ?_, { step := stOf 4, acc := 9 }, ?_, ?_, ?_, ?_, ?_, ?_⟩ <;>
    first | decide +kernel | exact nextOf_eq (by decide +kernel) | exact Prod.ext (nextOf_eq (by decide +kernel)) (by decide +kernel) | exact Prod.ext rfl (by decide +kernel) | (intro _ h; cases h; done) | (intro _ _ h; cases h; done) | rfl
  · refine ⟨nopHead, 0, { op := 0 }, ?_, ?_, ?_, ?_, ?_⟩ <;>
    first | decide +kernel | exact nextOf_eq (by decide +kernel) | exact Prod.ext (nextOf_eq (by decide +kernel)) (by decide +kernel) | exact Prod.ext rfl (by decide +kernel) | (intro _ h; cases h; done) | (intro _ _ h; cases h; done) | rfl
  · refine ⟨badHead, 31, { op := 31 }, ?_, ?_, ?_, ?_, ?_⟩ <;>
    first | decide +kernel | exact nextOf_eq (by decide +kernel) | exact Prod.ext (nextOf_eq (by decide +kernel)) (by decide +kernel) | exact Prod.ext rfl (by decide +kernel) | (intro _ h; cases h; done) | (intro _ _ h; cases h; done) | rfl

theorem witness_TransfersMoveBurstsAndStatusEndsOperations :
    (∃ (s : State) (ch : Fin 32) (st : Step), s.mediaOk = true ∧ st.target < 16 ∧ st.lun < 4 ∧ let pos := ch.val * 64 + st.die; ∃ (d : Desc) (id : Nat) (j : Job), s.Head ch.val st ∧ st.op = 4 ∧ st.wait = false ∧ st.desc = some d ∧ st.job = some id ∧ mfind s.tck.jobs id = some j ∧ j.op < 2 ∧ (s.chan ch.val).moved = 0 ∧ 1 < d.cw ∧ s.badDesc ch.val d false = false ∧ s.dieState pos = 1 ∧ (s.die pos).cont = none ∧ s.raw ch.val = false ∧ ((List.any s.ecc.bufs fun (e : Nat × CwBuf) => decide (s.ecc.nextBuf ≤ e.fst)) = false) ∧ (s.chan ch.val).held = false ∧ s.bufsUsed < 128) ∧
    (∃ (s : State) (ch : Fin 32) (st : Step), s.mediaOk = true ∧ st.target < 16 ∧ st.lun < 4 ∧ let pos := ch.val * 64 + st.die; ∃ (d : Desc) (id : Nat) (j : Job), s.Head ch.val st ∧ st.op = 4 ∧ st.wait = false ∧ st.desc = some d ∧ st.job = some id ∧ mfind s.tck.jobs id = some j ∧ j.op < 2 ∧ (s.chan ch.val).moved = 0 ∧ 1 < d.cw ∧ s.badDesc ch.val d false = false ∧ s.dieState pos = 1 ∧ (s.die pos).cont = none ∧ s.raw ch.val = false ∧ ((List.any s.ecc.bufs fun (e : Nat × CwBuf) => decide (s.ecc.nextBuf ≤ e.fst)) = false) ∧ (s.chan ch.val).held = false ∧ 128 ≤ s.bufsUsed) ∧
    (∃ (s : State) (ch : Fin 32) (st : Step), s.mediaOk = true ∧ st.target < 16 ∧ st.lun < 4 ∧ let pos := ch.val * 64 + st.die; ∃ (d : Desc) (id : Nat) (j : Job), s.Head ch.val st ∧ st.op = 4 ∧ st.wait = false ∧ st.desc = some d ∧ st.job = some id ∧ mfind s.tck.jobs id = some j ∧ j.op < 2 ∧ (s.chan ch.val).moved = 0 ∧ 1 < d.cw ∧ s.badDesc ch.val d false = false ∧ s.dieState pos = 1 ∧ (s.die pos).cont = none ∧ s.raw ch.val = false ∧ ((List.any s.ecc.bufs fun (e : Nat × CwBuf) => decide (s.ecc.nextBuf ≤ e.fst)) = false) ∧ (s.chan ch.val).held = true ∧ s.bufsUsed < 128) ∧
    (∃ (s : State) (ch : Fin 32) (st : Step), s.mediaOk = true ∧ st.target < 16 ∧ st.lun < 4 ∧ let pos := ch.val * 64 + st.die; ∃ (d : Desc) (j : Job), s.Head ch.val st ∧ st.op = 5 ∧ st.job.bind (mfind s.tck.jobs) = some j ∧ st.wait = false ∧ st.desc = some d ∧ (s.chan ch.val).moved = 0 ∧ 1 < d.cw ∧ s.badDesc ch.val d false = false ∧ s.dieState pos = 1 ∧ (s.die pos).held = none ∧ (s.die pos).cont = none ∧ s.raw ch.val = false) ∧
    (∃ (s : State) (ch : Fin 32) (st : Step), s.mediaOk = true ∧ st.target < 16 ∧ st.lun < 4 ∧ let pos := ch.val * 64 + st.die; ∃ (r : ArrOp) (fail : Bool), s.quadOn ch.val = true ∧ s.dieState pos = 2 ∧ (s.die pos).run = some r ∧ (s.die pos).held = none ∧ (s.die pos).susp = none ∧ r.step.job = none ∧ (fail = false ∨ isReadOp r.step.subop = true)) ∧
    (∃ (s : State) (ch : Fin 32) (st : Step), s.mediaOk = true ∧ st.target < 16 ∧ st.lun < 4 ∧ let pos := ch.val * 64 + st.die; ∃ (r : ArrOp), s.quadOn ch.val = true ∧ s.dieState pos = 2 ∧ (s.die pos).run = some r ∧ (s.die pos).resetting = false) ∧
    (∃ (s : State) (ch : Fin 32) (st : Step), s.mediaOk = true ∧ st.target < 16 ∧ st.lun < 4 ∧ let pos := ch.val * 64 + st.die; ∃ (r : ArrOp) (fail : Bool), s.quadOn ch.val = true ∧ s.dieState pos = 2 ∧ (s.die pos).run = some r ∧ (s.die pos).held = none ∧ (s.die pos).susp = none ∧ r.step.job = none ∧ (fail = false ∨ isReadOp r.step.subop = true) ∧ s.Head ch.val st ∧ st.op = 6) ∧
    (∃ (s : State) (ch : Fin 32) (st : Step), s.mediaOk = true ∧ st.target < 16 ∧ st.lun < 4 ∧ let pos := ch.val * 64 + st.die; ∃ (r : ArrOp) (fail : Bool), s.quadOn ch.val = true ∧ s.dieState pos = 2 ∧ (s.die pos).run = some r ∧ (s.die pos).held = none ∧ (s.die pos).susp = none ∧ r.step.job = none ∧ (fail = false ∨ isReadOp r.step.subop = true) ∧ (s.chan ch.val).prog = [] ∧ (s.die pos).stepRead = false) := by
  refine ⟨?_, ?_, ?_, ?_, ?_, ?_, ?_, ?_⟩
  · refine ⟨outHead, 0, outStep, ?_, ?_, ?_, aDesc, 5, { aJob (stOf 0) with descs := [aDesc], phase := 3 }, ?_, ?_, ?_, ?_, ?_, ?_, ?_, ?_, ?_, ?_, ?_, ?_, ?_, ?_, ?_, ?_⟩ <;>
    first | decide +kernel | exact nextOf_eq (by decide +kernel) | exact Prod.ext (nextOf_eq (by decide +kernel)) (by decide +kernel) | exact Prod.ext rfl (by decide +kernel) | (intro _ h; cases h; done) | (intro _ _ h; cases h; done) | rfl
  · refine ⟨outHeadFull, 0, outStep, ?_, ?_, ?_, aDesc, 5, { aJob (stOf 0) with descs := [aDesc], phase := 3 }, ?_, ?_, ?_, ?_, ?_, ?_, ?_, ?_, ?_, ?_, ?_, ?_, ?_, ?_, ?_, ?_⟩ <;>
    first | decide +kernel | exact nextOf_eq (by decide +kernel) | exact Prod.ext (nextOf_eq (by decide +kernel)) (by decide +kernel) | exact Prod.ext rfl (by decide +kernel) | (intro _ h; cases h; done) | (intro _ _ h; cases h; done) | rfl
  · refine ⟨outHeld, 0, outStep, ?_, ?_, ?_, aDesc, 5, { aJob (stOf 0) with descs := [aDesc], phase := 3 }, ?_, ?_, ?_, ?_, ?_, ?_, ?_, ?_, ?_, ?_, ?_, ?_, ?_, ?_, ?_, ?_⟩ <;>
    first | decide +kernel | exact nextOf_eq (by decide +kernel) | exact Prod.ext (nextOf_eq (by decide +kernel)) (by decide +kernel) | exact Prod.ext rfl (by decide +kernel) | (intro _ h; cases h; done) | (intro _ _ h; cases h; done) | rfl
  · refine ⟨inHead, 0, inStep, ?_, ?_, ?_, aDesc, { aJob (stOf 2) with descs := [aDesc], phase := 10 }, ?_, ?_, ?_, ?_, ?_, ?_, ?_, ?_, ?_, ?_, ?_, ?_⟩ <;>
    first | decide +kernel | exact nextOf_eq (by decide +kernel) | exact Prod.ext (nextOf_eq (by decide +kernel)) (by decide +kernel) | exact Prod.ext rfl (by decide +kernel) | (intro _ h; cases h; done) | (intro _ _ h; cases h; done) | rfl
  · refine ⟨readingDie, 0, stOf 4, ?_, ?_, ?_, { step := stOf 0 }, true, ?_, ?_, ?_, ?_, ?_, ?_, ?_⟩ <;>
    first | decide +kernel | exact nextOf_eq (by decide +kernel) | exact Prod.ext (nextOf_eq (by decide +kernel)) (by decide +kernel) | exact Prod.ext rfl (by decide +kernel) | (intro _ h; cases h; done) | (intro _ _ h; cases h; done) | rfl
  · refine ⟨readingDie, 0, stOf 4, ?_, ?_, ?_, { step := stOf 0 }, ?_, ?_, ?_, ?_⟩ <;>
    first | decide +kernel | exact nextOf_eq (by decide +kernel) | exact Prod.ext (nextOf_eq (by decide +kernel)) (by decide +kernel) | exact Prod.ext rfl (by decide +kernel) | (intro _ h; cases h; done) | (intro _ _ h; cases h; done) | rfl
  · refine ⟨readingDie, 0, { op := 6 }, ?_, ?_, ?_, { step := stOf 0 }, true, ?_, ?_, ?_, ?_, ?_, ?_, ?_, ?_, ?_⟩ <;>
    first | decide +kernel | exact nextOf_eq (by decide +kernel) | exact Prod.ext (nextOf_eq (by decide +kernel)) (by decide +kernel) | exact Prod.ext rfl (by decide +kernel) | (intro _ h; cases h; done) | (intro _ _ h; cases h; done) | rfl
  · refine ⟨readingQuiet, 31, resStep, ?_, ?_, ?_, {   step :=     { stOf 5 with target := 15, lun := 3 } }, false, ?_, ?_, ?_, ?_, ?_, ?_, ?_, ?_, ?_⟩ <;>
    first | decide +kernel | exact nextOf_eq (by decide +kernel) | exact Prod.ext (nextOf_eq (by decide +kernel)) (by decide +kernel) | exact Prod.ext rfl (by decide +kernel) | (intro _ h; cases h; done) | (intro _ _ h; cases h; done) | rfl

theorem witness_DiesAreControlledAndChannelsQuiesce :
    (∃ (s : State) (ch : Fin 32) (die : Fin 64), s.mediaOk = true ∧ s.quadOn ch.val = true ∧ let pos := ch.val * 64 + die.val; ∃ (m : MasterId), s.MayWrite m.val FCH_DIECTL ch.val ∧ s.dieState pos = 1 ∧ (s.die pos).run = none ∧ (s.die pos).held = none ∧ (s.die pos).armed = none ∧ (∀ (st : Step), st ∈ (s.chan ch.val).prog → st.pos ch.val ≠ pos) ∧ s.tck.jobs = [] ∧ mget false s.skm.out pos = false) ∧
    (∃ (s : State) (ch : Fin 32) (die : Fin 64), s.mediaOk = true ∧ s.quadOn ch.val = true ∧ let pos := ch.val * 64 + die.val; ∃ (m : MasterId), s.MayWrite m.val FCH_DIECTL ch.val ∧ (s.dieState pos = 0 ∨ s.dieState pos = 6)) ∧
    (∃ (s : State) (ch : Fin 32), s.mediaOk = true ∧ s.quadOn ch.val = true ∧ s.on FCH_TRAIN_INTERVAL ch.val = true ∧ ∃ (k : Nat), s.fchBod ch.val = false ∧ (s.chan ch.val).prog = [] ∧ s.fld TCK_PHASE_CYCLES + 400 ≤ s.tickCycles ∧ s.nextTarget ch.val (s.chan ch.val).trainTarget = some k ∧ s.retrainDue ch.val 1 ≤ s.mtime) ∧
    (∃ (s : State) (ch : Fin 32), s.mediaOk = true ∧ s.quadOn ch.val = true ∧ s.fchBod ch.val = true ∧ s.flag FCH_BOD_QUIESCED ch.val = false ∧ (∀ (p : Fin 64), s.dieBusy (ch.val * 64 + p.val) = false)) := by
  refine ⟨?_, ?_, ?_, ?_⟩
  · refine ⟨media, 0, 0, ?_, ?_, 0, ?_, ?_, ?_, ?_, ?_, ?_, ?_, ?_⟩ <;>
    first | decide +kernel | exact nextOf_eq (by decide +kernel) | exact Prod.ext (nextOf_eq (by decide +kernel)) (by decide +kernel) | exact Prod.ext rfl (by decide +kernel) | (intro _ h; cases h; done) | (intro _ _ h; cases h; done) | rfl
  · refine ⟨media, 0, 1, ?_, ?_, 0, ?_, ?_⟩ <;>
    first | decide +kernel | exact nextOf_eq (by decide +kernel) | exact Prod.ext (nextOf_eq (by decide +kernel)) (by decide +kernel) | exact Prod.ext rfl (by decide +kernel) | (intro _ h; cases h; done) | (intro _ _ h; cases h; done) | rfl
  · refine ⟨trainable, 0, ?_, ?_, ?_, 0, ?_, ?_, ?_, ?_, ?_⟩ <;>
    first | decide +kernel | exact nextOf_eq (by decide +kernel) | exact Prod.ext (nextOf_eq (by decide +kernel)) (by decide +kernel) | exact Prod.ext rfl (by decide +kernel) | (intro _ h; cases h; done) | (intro _ _ h; cases h; done) | rfl
  · refine ⟨brownedOut, 0, ?_, ?_, ?_, ?_, ?_⟩ <;>
    first | decide +kernel | exact nextOf_eq (by decide +kernel) | exact Prod.ext (nextOf_eq (by decide +kernel)) (by decide +kernel) | exact Prod.ext rfl (by decide +kernel) | (intro _ h; cases h; done) | (intro _ _ h; cases h; done) | rfl

theorem witness_CutoffMakesThePrograms : ∃ (s : State), s.mediaOk = true ∧ s.churnRuns = true ∧ s.tck.cut = false := by
  refine ⟨media, ?_, ?_, ?_⟩ <;>
  first | decide +kernel | exact nextOf_eq (by decide +kernel) | exact Prod.ext (nextOf_eq (by decide +kernel)) (by decide +kernel) | exact Prod.ext rfl (by decide +kernel) | (intro _ h; cases h; done) | (intro _ _ h; cases h; done) | rfl

theorem witness_BoundaryInstallsThePrograms : ∃ (s : State), s.mediaOk = true ∧ s.churnRuns = true ∧ s.tck.cut = true ∧ s.pend = [] ∧ s.pwr.recovDue = none ∧ s.pwr.spentDue = false ∧ s.pwr.soloDue = false ∧ s.pwr.serviceDue = false ∧ s.pwr.psPend = none ∧ (∀ (ch : Fin 32), (s.chan ch.val).prog = []) := by
  refine ⟨atBoundary, ?_, ?_, ?_, ?_, ?_, ?_, ?_, ?_, ?_, ?_⟩ <;>
  first | decide +kernel | exact nextOf_eq (by decide +kernel) | exact Prod.ext (nextOf_eq (by decide +kernel)) (by decide +kernel) | exact Prod.ext rfl (by decide +kernel) | (intro _ h; cases h; done) | (intro _ _ h; cases h; done) | rfl

theorem witness_CommitsStagePendAndApplyWhole :
    (∃ (s : State), s.ok = true ∧ ∃ (m : MasterId) (b : Fin 57), s.mapAllows m.val Acc.write (1073741824 + (blk b.val).base + 4080) = true ∧ hasRws b.val = true ∧ s.blkOn b.val = true) ∧
    (∃ (s : State), s.ok = true ∧ ∃ (m : MasterId) (b : Fin 57), s.mapAllows m.val Acc.write (1073741824 + (blk b.val).base + 4080) = true ∧ (hasRws b.val = false ∨ s.blkOn b.val = false)) ∧
    (∃ (s : State), s.ok = true ∧ ∃ (m : MasterId), s.MayWrite m.val TCK_GCOMMIT) ∧
    (∃ (s : State), s.ok = true ∧ ∃ (b : Fin 57) (p : SMap Word), sortedFrom none p = true ∧ (∀ (off : Nat) (v : Word), mfind p off = some v → (blk b.val).holds off = true) ∧ setOk b.val s (applySet b.val p s) = true) ∧
    (∃ (s : State), s.ok = true ∧ ∃ (b : Fin 57) (p : SMap Word), sortedFrom none p = true ∧ (∀ (off : Nat) (v : Word), mfind p off = some v → (blk b.val).holds off = true) ∧ setOk b.val s (applySet b.val p s) = false) := by
  refine ⟨?_, ?_, ?_, ?_, ?_⟩
  · refine ⟨serv, ?_, 0, 0, ?_, ?_, ?_⟩ <;>
    first | decide +kernel | exact nextOf_eq (by decide +kernel) | exact Prod.ext (nextOf_eq (by decide +kernel)) (by decide +kernel) | exact Prod.ext rfl (by decide +kernel) | (intro _ h; cases h; done) | (intro _ _ h; cases h; done) | rfl
  · refine ⟨serv, ?_, 0, 56, ?_, ?_⟩ <;>
    first | decide +kernel | exact nextOf_eq (by decide +kernel) | exact Prod.ext (nextOf_eq (by decide +kernel)) (by decide +kernel) | exact Prod.ext rfl (by decide +kernel) | (intro _ h; cases h; done) | (intro _ _ h; cases h; done) | rfl
  · refine ⟨serv, ?_, 0, ?_⟩ <;>
    first | decide +kernel | exact nextOf_eq (by decide +kernel) | exact Prod.ext (nextOf_eq (by decide +kernel)) (by decide +kernel) | exact Prod.ext rfl (by decide +kernel) | (intro _ h; cases h; done) | (intro _ _ h; cases h; done) | rfl
  · refine ⟨serv, ?_, 0, [], ?_, ?_, ?_⟩ <;>
    first | decide +kernel | exact nextOf_eq (by decide +kernel) | exact Prod.ext (nextOf_eq (by decide +kernel)) (by decide +kernel) | exact Prod.ext rfl (by decide +kernel) | (intro _ h; cases h; done) | (intro _ _ h; cases h; done) | rfl
  · refine ⟨serv, ?_, 0, [(4, 0), (8, 0), (12, 0)], ?_, ?_, ?_⟩ <;>
    first | decide +kernel | exact fun off v h => if h4 : off = 4 then by subst h4; decide +kernel else if h8 : off = 8 then by subst h8; decide +kernel else if h12 : off = 12 then by subst h12; decide +kernel else by simp [mfind, Ne.symm h4, Ne.symm h8, Ne.symm h12] at h

theorem witness_CodewordsAreDecodedAndEscalated :
    (∃ (s : State), s.mediaOk = true ∧ sortedFrom none s.ecc.bufs = true ∧ ∃ (bid bid' : Nat) (b b' : CwBuf) (j : Job) (c : Cw) (out : BitVec 36864), mfind s.ecc.bufs bid = some b ∧ mfind s.tck.jobs b.job = some j ∧ b.taken = true ∧ j.client ≠ Client.direct ∧ j.cws[b.idx]? = some c ∧ bid' ≠ bid ∧ mfind s.ecc.bufs bid' = some b' ∧ b'.job = b.job ∧ ∃ (iter : Fin 64), b.soft = false ∧ s.ecc.hardOff < 64 ∧ iter.val = s.cur ECC_HARD_ITER ∧ let zeros := 36864 - popCount 36864 b.bits.toNat; s.cur ECC_ERASED_THRESH < zeros ∧ ldpcOk out = true) ∧
    (∃ (s : State), s.mediaOk = true ∧ sortedFrom none s.ecc.bufs = true ∧ ∃ (bid bid' : Nat) (b b' : CwBuf) (j : Job) (c : Cw) (out : BitVec 36864), mfind s.ecc.bufs bid = some b ∧ mfind s.tck.jobs b.job = some j ∧ b.taken = true ∧ j.client ≠ Client.direct ∧ j.cws[b.idx]? = some c ∧ bid' ≠ bid ∧ mfind s.ecc.bufs bid' = some b' ∧ b'.job = b.job ∧ ∃ (iter : Fin 64), b.soft = false ∧ s.ecc.hardOff < 64 ∧ iter.val = s.cur ECC_HARD_ITER ∧ let zeros := 36864 - popCount 36864 b.bits.toNat; s.cur ECC_ERASED_THRESH < zeros ∧ ldpcOk out = false ∧ s.lineLive 19 = true) ∧
    (∃ (s : State), s.mediaOk = true ∧ sortedFrom none s.ecc.bufs = true ∧ ∃ (m : MasterId), s.MayWrite m.val ECC_INJ) ∧
    (∃ (s : State), s.mediaOk = true ∧ sortedFrom none s.ecc.bufs = true ∧ ∃ (bid bid' : Nat) (b b' : CwBuf) (j : Job) (c : Cw), mfind s.ecc.bufs bid = some b ∧ mfind s.tck.jobs b.job = some j ∧ b.taken = true ∧ j.client ≠ Client.direct ∧ j.cws[b.idx]? = some c ∧ bid' ≠ bid ∧ mfind s.ecc.bufs bid' = some b' ∧ b'.job = b.job ∧ ∃ (iter : Fin 64), b.soft = false ∧ s.ecc.hardOff < 64 ∧ iter.val = s.cur ECC_HARD_ITER ∧ let zeros := 36864 - popCount 36864 b.bits.toNat; zeros ≤ s.cur ECC_ERASED_THRESH) ∧
    (∃ (s : State), s.mediaOk = true ∧ sortedFrom none s.ecc.bufs = true ∧ ∃ (bid bid' : Nat) (b b' : CwBuf) (j : Job) (c : Cw), mfind s.ecc.bufs bid = some b ∧ mfind s.tck.jobs b.job = some j ∧ b.taken = true ∧ j.client ≠ Client.direct ∧ j.cws[b.idx]? = some c ∧ bid' ≠ bid ∧ mfind s.ecc.bufs bid' = some b' ∧ b'.job = b.job ∧ ∃ (iter : Byte), b.soft = true ∧ s.erasedCw b.bits = false ∧ BitVec.toNat iter = s.cur ECC_SOFT_ITER) ∧
    (∃ (s : State), s.mediaOk = true ∧ sortedFrom none s.ecc.bufs = true ∧ ∃ (bid bid' : Nat) (b b' : CwBuf) (j : Job) (c : Cw), mfind s.ecc.bufs bid = some b ∧ mfind s.tck.jobs b.job = some j ∧ b.taken = true ∧ j.client ≠ Client.direct ∧ j.cws[b.idx]? = some c ∧ bid' ≠ bid ∧ mfind s.ecc.bufs bid' = some b' ∧ b'.job = b.job ∧ b.soft = true ∧ s.erasedCw b.bits = true) ∧
    (∃ (s : State), s.mediaOk = true ∧ sortedFrom none s.ecc.bufs = true ∧ ∃ (id : Nat) (j : Job), let n := j.undecoded; mfind s.tck.jobs id = some j ∧ j.phase = 7 ∧ id ∈ s.ecc.softWait ∧ softQ s + n ≤ 256 ∧ s.pageBusy id j = false ∧ mfind s.ecc.softRes id = none) ∧
    (∃ (s : State), s.mediaOk = true ∧ sortedFrom none s.ecc.bufs = true ∧ ∃ (id sid : Nat) (sc : Scan) (j : Job) (g : Group), (List.find? (fun (c : Nat × Scan) => decide (c.snd.kind = 2) && decide (c.snd.job = id) && s.scanDone c.fst) s.ste.scans = some (sid, sc)) ∧ mfind s.tck.jobs id = some j ∧ s.grp sc.group = some g ∧ (∀ (x : Nat × Option InfoBits), x ∈ reconWords s j g sc → x.snd.isSome = true)) := by
  refine ⟨?_, ?_, ?_, ?_, ?_, ?_, ?_, ?_⟩
  · refine ⟨decoding (aBuf 0 0), ?_, ?_, 0, 1, aBuf 0 0, aBuf 1 0, aRead 0 4, { plane := 0, col := 2 }, 0, ?_, ?_, ?_, ?_, ?_, ?_, ?_, ?_, ⟨serv.cur ECC_HARD_ITER % 64, by decide +kernel⟩, ?_, ?_, ?_, ?_, ?_⟩ <;>
    first | decide +kernel | exact nextOf_eq (by decide +kernel) | exact Prod.ext (nextOf_eq (by decide +kernel)) (by decide +kernel) | exact Prod.ext rfl (by decide +kernel) | (intro _ h; cases h; done) | (intro _ _ h; cases h; done) | rfl
  · refine ⟨decoding (aBuf 0 0), ?_, ?_, 0, 1, aBuf 0 0, aBuf 1 0, aRead 0 4, { plane := 0, col := 2 }, 1, ?_, ?_, ?_, ?_, ?_, ?_, ?_, ?_, ⟨serv.cur ECC_HARD_ITER % 64, by decide +kernel⟩, ?_, ?_, ?_, ?_, ?_, ?_⟩ <;>
    first | decide +kernel | exact nextOf_eq (by decide +kernel) | exact Prod.ext (nextOf_eq (by decide +kernel)) (by decide +kernel) | exact Prod.ext rfl (by decide +kernel) | (intro _ h; cases h; done) | (intro _ _ h; cases h; done) | rfl
  · refine ⟨decoding (aBuf 0 0), ?_, ?_, 0, ?_⟩ <;>
    first | decide +kernel | exact nextOf_eq (by decide +kernel) | exact Prod.ext (nextOf_eq (by decide +kernel)) (by decide +kernel) | exact Prod.ext rfl (by decide +kernel) | (intro _ h; cases h; done) | (intro _ _ h; cases h; done) | rfl
  · refine ⟨decoding (aBuf 0 allOnes36), ?_, ?_, 0, 1, aBuf 0 allOnes36, aBuf 1 0, aRead 0 4, { plane := 0, col := 2 }, ?_, ?_, ?_, ?_, ?_, ?_, ?_, ?_, ⟨serv.cur ECC_HARD_ITER % 64, by decide +kernel⟩, ?_, ?_, ?_, ?_⟩ <;>
    first | decide +kernel | exact nextOf_eq (by decide +kernel) | exact Prod.ext (nextOf_eq (by decide +kernel)) (by decide +kernel) | exact Prod.ext rfl (by decide +kernel) | (intro _ h; cases h; done) | (intro _ _ h; cases h; done) | rfl
  · refine ⟨let __src := decodingSoft; { __src with ecc :=     let __src := __src.ecc;     { __src with bufs := decodingSoft.ecc.bufs } }, ?_, ?_, 0, 1, { aBuf 0 0 with s1 := some 0, s2 := some 0, soft := true }, aBuf 1 0, aRead 6 4, { plane := 0, col := 2 }, ?_, ?_, ?_, ?_, ?_, ?_, ?_, ?_, BitVec.ofNat 8 (serv.cur ECC_SOFT_ITER), ?_, ?_, ?_⟩ <;>
    first | decide +kernel | exact nextOf_eq (by decide +kernel) | exact Prod.ext (nextOf_eq (by decide +kernel)) (by decide +kernel) | exact Prod.ext rfl (by decide +kernel) | (intro _ h; cases h; done) | (intro _ _ h; cases h; done) | rfl
  · refine ⟨decodingSoftErased, ?_, ?_, 0, 1, { aBuf 0 allOnes36 with s1 := some 0, s2 := some 0, soft := true }, aBuf 1 0, aRead 6 4, { plane := 0, col := 2 }, ?_, ?_, ?_, ?_, ?_, ?_, ?_, ?_, ?_, ?_⟩ <;>
    first | decide +kernel | exact nextOf_eq (by decide +kernel) | exact Prod.ext (nextOf_eq (by decide +kernel)) (by decide +kernel) | exact Prod.ext rfl (by decide +kernel) | (intro _ h; cases h; done) | (intro _ _ h; cases h; done) | rfl
  · refine ⟨softWaiting, ?_, ?_, 5, aRead 0 7, ?_, ?_, ?_, ?_, ?_, ?_⟩ <;>
    first | decide +kernel | exact nextOf_eq (by decide +kernel) | exact Prod.ext (nextOf_eq (by decide +kernel)) (by decide +kernel) | exact Prod.ext rfl (by decide +kernel) | (intro _ h; cases h; done) | (intro _ _ h; cases h; done) | rfl
  · refine ⟨recon, ?_, ?_, 5, 0, (0, { kind := 2, group := 1, stripe := 0, job := 5, got := [(0, 0), (1, 1)] }).snd, aRead 0 6, aGroup, ?_, ?_, ?_, ?_⟩ <;>
    first | decide +kernel | exact nextOf_eq (by decide +kernel) | exact Prod.ext (nextOf_eq (by decide +kernel)) (by decide +kernel) | exact Prod.ext rfl (by decide +kernel) | (intro _ h; cases h; done) | (intro _ _ h; cases h; done) | rfl

theorem witness_UnitsAreLookedUpMergedAndPlaced :
    (∃ (s : State), s.ok = true ∧ ∃ (id : Nat) (c : Cmd), s.cmd id = some c ∧ c.phase = 1 ∧ let r := s.looked c; (∀ (lu : Nat), lu ∈ s.cmdUnits c → entSt (r.mapEntry c.slot lu) = 0) ∧ c.kv = false ∧ (∀ (e : Nat × Job), e ∈ s.tck.jobs → ∀ (f : Nat), e.snd.client ≠ Client.host id f)) ∧
    (∃ (s : State), s.ok = true ∧ s.domOn dCTRL = true ∧ s.fld TCK_COUNT_LO_COUNT % 4096 = 0) ∧
    (∃ (s : State), s.ok = true ∧ ∃ (id : Nat) (c : Cmd), s.cmd id = some c ∧ c.phase = 1 ∧ let r := s.looked c; (∃ (lu : Nat), lu ∈ s.cmdUnits c ∧ entSt (r.mapEntry c.slot lu) = 4) ∧ (∀ (lu : Nat), lu ∈ s.cmdUnits c → entSt (r.mapEntry c.slot lu) ≤ 2 ∨ entSt (r.mapEntry c.slot lu) = 4)) ∧
    (∃ (s : State), s.ok = true ∧ ∃ (id : Nat) (c : Cmd), s.cmd id = some c ∧ c.phase = 1 ∧ let r := s.looked c; (∃ (lu : Nat), lu ∈ s.cmdUnits c ∧ entSt (r.mapEntry c.slot lu) = 5) ∧ (∀ (lu : Nat), lu ∈ s.cmdUnits c → entSt (r.mapEntry c.slot lu) ≤ 2 ∨ entSt (r.mapEntry c.slot lu) = 5)) ∧
    (∃ (s : State), s.ok = true ∧ ∃ (id mid : Nat) (m : Merge), s.txe.merges = [(mid, m)] ∧ m.cmd = id ∧ m.buf = none ∧ m.job = none ∧ entSt (s.mapEntry m.slot m.lu) = 0 ∧ s.trimmed m.slot m.lu = false ∧ s.restRuns = true ∧ s.restBad m.slot = none ∧ (List.find? (fun (w : Nat × List UnitRec) => decide (w.fst = id + 2 ^ 64)) s.txe.waiting = none)) ∧
    (∃ (s : State), s.ok = true ∧ ∃ (id : Nat) (us : List UnitRec), (List.find? (fun (w : Nat × List UnitRec) => decide (w.fst < 2 ^ 64) && s.classRuns (s.cur CIP_CTL_XCLASS) && s.mayPlace w.fst && !s.placeBehind w.fst) s.txe.waiting = some (id, us)) ∧ (∀ (u : UnitRec), u ∈ us → ∀ (t : Nat × List (Nat × Nat × Nat)), t ∈ s.txe.trims → ∀ (r : Nat × Nat × Nat), r ∈ t.snd → inRange u.slot u.lu r = false) ∧ s.txe.place.length + newEntries s.txe.place us ≤ 131072 ∧ (s.filling [0, 1]).isSome = true) ∧
    (∃ (s : State), s.ok = true ∧ ∃ (id : Nat) (us : List UnitRec), (List.find? (fun (w : Nat × List UnitRec) => decide (w.fst < 2 ^ 64) && s.classRuns (s.cur CIP_CTL_XCLASS) && s.mayPlace w.fst && !s.placeBehind w.fst) s.txe.waiting = some (id, us)) ∧ (∀ (u : UnitRec), u ∈ us → ∀ (t : Nat × List (Nat × Nat × Nat)), t ∈ s.txe.trims → ∀ (r : Nat × Nat × Nat), r ∈ t.snd → inRange u.slot u.lu r = false) ∧ 131072 < s.txe.place.length + newEntries s.txe.place us ∧ s.flag TXE_PLACE_FULL = false) ∧
    (∃ (s : State), s.ok = true ∧ ∃ (id : Nat) (rs : List (Nat × Nat × Nat)), (List.find? (fun (t : Nat × List (Nat × Nat × Nat)) => decide (t.fst = id)) s.txe.trimQ = some (id, rs)) ∧ s.mayPlace id = true ∧ (∀ (p : Place), p ∈ s.txe.place → ∀ (r : Nat × Nat × Nat), r ∈ rs → inRange p.slot p.lu r = false) ∧ (s.filling [0, 1]).isSome = true ∧ rs ≠ [] ∧ rs.length ≤ 255) ∧
    (∃ (s : State), s.ok = true ∧ ∃ (g : BitVec 24) (i : Fin 1024) (x : Stripe), s.stripe g.toNat i.val = some x ∧ x.st = 3) ∧
    (∃ (s : State), s.ok = true ∧ ∃ (g i : Nat), s.on TXE_CTL_FOLD = true ∧ s.ckp.shut = false ∧ s.domOn dMEDIA = true ∧ s.foldNext = some (g, i) ∧ s.gtState g = 2) := by
  refine ⟨?_, ?_, ?_, ?_, ?_, ?_, ?_, ?_, ?_, ?_⟩
  · refine ⟨lookUp, ?_, 4, aCmd, ?_, ?_, ?_, ?_, ?_⟩ <;>
    first | decide +kernel | exact nextOf_eq (by decide +kernel) | exact Prod.ext (nextOf_eq (by decide +kernel)) (by decide +kernel) | exact Prod.ext rfl (by decide +kernel) | (intro _ h; cases h; done) | (intro _ _ h; cases h; done) | rfl
  · refine ⟨lookUp, ?_, ?_, ?_⟩ <;>
    first | decide +kernel | exact nextOf_eq (by decide +kernel) | exact Prod.ext (nextOf_eq (by decide +kernel)) (by decide +kernel) | exact Prod.ext rfl (by decide +kernel) | (intro _ h; cases h; done) | (intro _ _ h; cases h; done) | rfl
  · refine ⟨lookLost, ?_, 4, aCmd, ?_, ?_, ?_, ?_⟩ <;>
    first | decide +kernel | exact nextOf_eq (by decide +kernel) | exact Prod.ext (nextOf_eq (by decide +kernel)) (by decide +kernel) | exact Prod.ext rfl (by decide +kernel) | (intro _ h; cases h; done) | (intro _ _ h; cases h; done) | rfl
  · refine ⟨lookFirm, ?_, 4, aCmd, ?_, ?_, ?_, ?_⟩ <;>
    first | decide +kernel | exact nextOf_eq (by decide +kernel) | exact Prod.ext (nextOf_eq (by decide +kernel)) (by decide +kernel) | exact Prod.ext rfl (by decide +kernel) | (intro _ h; cases h; done) | (intro _ _ h; cases h; done) | rfl
  · refine ⟨merging, ?_, 4, 3, { slot := 0, lu := 9, n := 1, ofs := 512, len := 512, bytes := 119, cmd := 4 }, ?_, ?_, ?_, ?_, ?_, ?_, ?_, ?_, ?_⟩ <;>
    first | decide +kernel | exact nextOf_eq (by decide +kernel) | exact Prod.ext (nextOf_eq (by decide +kernel)) (by decide +kernel) | exact Prod.ext rfl (by decide +kernel) | (intro _ h; cases h; done) | (intro _ _ h; cases h; done) | rfl
  · refine ⟨placing, ?_, 4, [unit0], ?_, ?_, ?_, ?_⟩ <;>
    first | decide +kernel | exact nextOf_eq (by decide +kernel) | exact Prod.ext (nextOf_eq (by decide +kernel)) (by decide +kernel) | exact Prod.ext rfl (by decide +kernel) | (intro _ h; cases h; done) | (intro _ _ h; cases h; done) | rfl
  · have hn : ∀ n, n < (List.replicate n ({ slot := 1, lu := 0, count := 1, high := 0 } : Place)).length + newEntries (List.replicate n { slot := 1, lu := 0, count := 1, high := 0 }) [unit0] := by
      intro n; simp [newEntries, unit0, List.any_replicate]
    have hp : placingFull.txe.place = List.replicate 131072 { slot := 1, lu := 0, count := 1, high := 0 } := rfl
    refine ⟨placingFull, ?_, 4, [unit0], ?_, ?_, ?_, ?_⟩ <;>
    first | (rw [hp]; exact hn _) | decide +kernel
  · refine ⟨trimming, ?_, 4, [(0, 1, 5)], ?_, ?_, ?_, ?_, ?_, ?_⟩ <;>
    first | decide +kernel | exact nextOf_eq (by decide +kernel) | exact Prod.ext (nextOf_eq (by decide +kernel)) (by decide +kernel) | exact Prod.ext rfl (by decide +kernel) | (intro _ h; cases h; done) | (intro _ _ h; cases h; done) | rfl
  · refine ⟨appending, ?_, 1, 0, aStripe 3, ?_, ?_⟩ <;>
    first | decide +kernel | exact nextOf_eq (by decide +kernel) | exact Prod.ext (nextOf_eq (by decide +kernel)) (by decide +kernel) | exact Prod.ext rfl (by decide +kernel) | (intro _ h; cases h; done) | (intro _ _ h; cases h; done) | rfl
  · refine ⟨folding, ?_, 1, 0, ?_, ?_, ?_, ?_, ?_⟩ <;>
    first | decide +kernel | exact nextOf_eq (by decide +kernel) | exact Prod.ext (nextOf_eq (by decide +kernel)) (by decide +kernel) | exact Prod.ext rfl (by decide +kernel) | (intro _ h; cases h; done) | (intro _ _ h; cases h; done) | rfl

theorem witness_EntriesAreReadSetAndCleared :
    (∃ (s : State), s.ok = true ∧ ∃ (m : MasterId) (slot : Fin 128) (hi : Byte), s.MayWrite m.val TXE_ENTSEL_HI ∧ let lu := s.fld TXE_ENTSEL_LO_LU + 2 ^ 32 * hi.toNat; let a := s.mapAddr slot lu; s.placed slot.val lu = false ∧ s.nsExists slot.val = true ∧ lu < s.nsUnits slot.val ∧ s.cleanDram 14 Acc.read a 5 = true ∧ let e := s.mapEntry slot lu; mapped e = false ∧ s.cleanDram 14 Acc.write a 5 = true ∧ ∃ (c : Instr) (v : Nat), (c, v) ∈ [(Instr.entrySetLost m slot hi, entOf (entCwa e) 4), (Instr.entrySetFirmware m slot hi, entOf (entCwa e) 5), (Instr.entryClear m slot hi, 0)]) ∧
    (∃ (s : State), s.ok = true ∧ ∃ (m : MasterId) (slot : Fin 128) (hi : Byte), s.MayWrite m.val TXE_ENTSEL_HI ∧ let lu := s.fld TXE_ENTSEL_LO_LU + 2 ^ 32 * hi.toNat; let cmds := [Instr.entryRead m slot hi, .entrySetLost m slot hi, .entrySetFirmware m slot hi, .entryClear m slot hi]; s.placed slot.val lu = false ∧ (s.nsExists slot.val = false ∨ s.nsUnits slot.val ≤ lu) ∧ ∃ (c : Instr), c ∈ cmds) ∧
    (∃ (s : State), s.ok = true ∧ ∃ (m : MasterId) (slot : Fin 128) (hi : Byte), s.MayWrite m.val TXE_ENTSEL_HI ∧ let lu := s.fld TXE_ENTSEL_LO_LU + 2 ^ 32 * hi.toNat; s.placed slot.val lu = true) ∧
    (∃ (s : State), s.ok = true ∧ ∃ (m : MasterId) (slot : Fin 128) (hi : Byte), s.MayWrite m.val TXE_ENTSEL_HI ∧ let lu := s.fld TXE_ENTSEL_LO_LU + 2 ^ 32 * hi.toNat; let a := s.mapAddr slot lu; s.placed slot.val lu = false ∧ s.nsExists slot.val = true ∧ lu < s.nsUnits slot.val ∧ s.cleanDram 14 Acc.read a 5 = true ∧ let e := s.mapEntry slot lu; mapped e = true ∧ s.cleanDram 14 Acc.write a 5 = true ∧ ∃ (c : Instr) (v : Nat), (c, v) ∈ [(Instr.entrySetLost m slot hi, entOf (entCwa e) 4), (Instr.entrySetFirmware m slot hi, entOf (entCwa e) 5), (Instr.entryClear m slot hi, 0)]) ∧
    (∃ (s : State), s.ok = true ∧ ∃ (slot id : Nat) (r : List (Nat × Nat)), s.txe.zeroing = (slot, id) :: r ∧ slot < 128 ∧ 68719476736 ≤ s.fld TXE_MAPBASE_LO_ADDR + 2 ^ 32 * s.fld TXE_MAPBASE_HI_ADDR) := by
  refine ⟨?_, ?_, ?_, ?_, ?_⟩
  · refine ⟨device, ?_, 0, 0, 0, ?_, ?_, ?_, ?_, ?_, ?_, ?_, Instr.entryClear 0 0 0, 0, ?_⟩ <;>
    first | decide +kernel | exact nextOf_eq (by decide +kernel) | exact Prod.ext (nextOf_eq (by decide +kernel)) (by decide +kernel) | exact Prod.ext rfl (by decide +kernel) | (intro _ h; cases h; done) | (intro _ _ h; cases h; done) | rfl
  · refine ⟨device, ?_, 0, 0, 1, ?_, ?_, ?_, Instr.entryRead 0 0 1, ?_⟩ <;>
    first | decide +kernel | exact nextOf_eq (by decide +kernel) | exact Prod.ext (nextOf_eq (by decide +kernel)) (by decide +kernel) | exact Prod.ext rfl (by decide +kernel) | (intro _ h; cases h; done) | (intro _ _ h; cases h; done) | rfl
  · refine ⟨placedUnit, ?_, 0, 0, 0, ?_, ?_⟩ <;>
    first | decide +kernel | exact nextOf_eq (by decide +kernel) | exact Prod.ext (nextOf_eq (by decide +kernel)) (by decide +kernel) | exact Prod.ext rfl (by decide +kernel) | (intro _ h; cases h; done) | (intro _ _ h; cases h; done) | rfl
  · refine ⟨mappedUnit, ?_, 0, 0, 0, ?_, ?_, ?_, ?_, ?_, ?_, ?_, Instr.entryClear 0 0 0, 0, ?_⟩ <;>
    first | decide +kernel | exact nextOf_eq (by decide +kernel) | exact Prod.ext (nextOf_eq (by decide +kernel)) (by decide +kernel) | exact Prod.ext rfl (by decide +kernel) | (intro _ h; cases h; done) | (intro _ _ h; cases h; done) | rfl
  · refine ⟨zeroing, ?_, 0, 4, [(1, 5)], ?_, ?_, ?_⟩ <;>
    first | decide +kernel | exact nextOf_eq (by decide +kernel) | exact Prod.ext (nextOf_eq (by decide +kernel)) (by decide +kernel) | exact Prod.ext rfl (by decide +kernel) | (intro _ h; cases h; done) | (intro _ _ h; cases h; done) | rfl

theorem witness_ReconstructionRestoresAnyTwoMembers : ∃ (d : List InfoBits), 4 ≤ d.length + 2 ∧ d.length + 2 ≤ 32 ∧ let all := d ++ [synP d, synQ d]; ∃ (x : Nat) (v : InfoBits), all[x]? = some v := by
  refine ⟨[7, BitVec.allOnes 32896], ?_, ?_, 0, 7, ?_⟩ <;>
  first | decide +kernel | exact nextOf_eq (by decide +kernel) | exact Prod.ext (nextOf_eq (by decide +kernel)) (by decide +kernel) | exact Prod.ext rfl (by decide +kernel) | (intro _ h; cases h; done) | (intro _ _ h; cases h; done) | rfl

theorem witness_SkimTakesVictimsErasesAndRetires :
    (∃ (s : State), s.ok = true ∧ s.domOn dMEDIA = true ∧ s.skm.reloc = [] ∧ s.skm.prio = [] ∧ s.ckp.shut = false ∧ let k := (s.skm.victims.filter fun v => !v.2.2).length; s.flag SKM_STAT_FG = true ∧ ∃ (g : Nat), s.fgChoice = some g ∧ k < s.cur SKM_CTL_FGPAR) ∧
    (∃ (s : State), s.ok = true ∧ ∃ (m : MasterId) (pos : Fin 2048) (b : BitVec 16), s.MayWrite m.val SKM_RETIRE ∧ (s.inService pos.val = false ∨ s.blkpp ≤ b.toNat ∨ 2 ≤ (s.bt pos.val b.toNat).state)) ∧
    (∃ (s : State), s.ok = true ∧ s.domOn dMEDIA = true ∧ s.skm.reloc = [] ∧ s.skm.prio = [] ∧ s.ckp.shut = false ∧ let k := (s.skm.victims.filter fun v => !v.2.2).length; s.flag SKM_STAT_FG = false ∧ s.on SKM_CTL_BGEN = true ∧ s.mode ≠ mSPENT ∧ s.staticDue = false ∧ ∃ (g : Nat), s.bgChoice = some g ∧ k < s.cur SKM_CTL_BGPAR) ∧
    (∃ (s : State), s.ok = true ∧ s.domOn dMEDIA = true ∧ s.skm.reloc = [] ∧ s.skm.prio = [] ∧ s.ckp.shut = false ∧ ∃ (g : Nat), s.staticDue = true ∧ s.staticChoice = some g) ∧
    (∃ (s : State), s.ok = true ∧ s.domOn dMEDIA = true ∧ s.ckp.shut = true ∧ s.skm.reloc = []) ∧
    (∃ (s : State), s.ok = true ∧ s.domOn dMEDIA = true ∧ s.skm.reloc = [] ∧ s.skm.prio = [] ∧ s.ckp.shut = false ∧ let k := (s.skm.victims.filter fun v => !v.2.2).length; s.flag SKM_STAT_FG = true ∧ (s.fgChoice = none ∨ s.cur SKM_CTL_FGPAR ≤ k)) ∧
    (∃ (s : State), s.ok = true ∧ ∃ (g : BitVec 24) (gr : Group), g.toNat ≠ 16777215 ∧ s.gtState g.toNat = 4 ∧ ckAtLeast (s.fld CKP_LAST_NUM) (s.gtFence g.toNat) = true ∧ s.readsEnded g.toNat = true ∧ s.grp g.toNat = some gr) ∧
    (∃ (s : State), s.ok = true ∧ ∃ (pos b f : Nat) (r : List (Nat × Nat × Nat)), s.skm.oldBlocks = (pos, b, f) :: r ∧ ckAtLeast (s.fld CKP_LAST_NUM) f = true) ∧
    (∃ (s : State), s.ok = true ∧ ∃ (m : MasterId) (pos : Fin 2048) (b : BitVec 16), s.MayWrite m.val SKM_RETIRE ∧ s.inService pos.val = true ∧ b.toNat < s.blkpp ∧ (s.bt pos.val b.toNat).state = 0 ∧ 0 < mget 0 s.skm.spare pos.val ∧ sortedFrom none s.skm.spare = true) := by
  refine ⟨?_, ?_, ?_, ?_, ?_, ?_, ?_, ?_, ?_⟩
  · refine ⟨skimming, ?_, ?_, ?_, ?_, ?_, ?_, 1, ?_, ?_⟩ <;>
    first | decide +kernel | exact nextOf_eq (by decide +kernel) | exact Prod.ext (nextOf_eq (by decide +kernel)) (by decide +kernel) | exact Prod.ext rfl (by decide +kernel) | (intro _ h; cases h; done) | (intro _ _ h; cases h; done) | rfl
  · refine ⟨skimming, ?_, 0, 0, 512, ?_, ?_⟩ <;>
    first | decide +kernel | exact nextOf_eq (by decide +kernel) | exact Prod.ext (nextOf_eq (by decide +kernel)) (by decide +kernel) | exact Prod.ext rfl (by decide +kernel) | (intro _ h; cases h; done) | (intro _ _ h; cases h; done) | rfl
  · refine ⟨skimmingBg, ?_, ?_, ?_, ?_, ?_, ?_, ?_, ?_, ?_, 1, ?_, ?_⟩ <;>
    first | decide +kernel | exact nextOf_eq (by decide +kernel) | exact Prod.ext (nextOf_eq (by decide +kernel)) (by decide +kernel) | exact Prod.ext rfl (by decide +kernel) | (intro _ h; cases h; done) | (intro _ _ h; cases h; done) | rfl
  · refine ⟨skimmingStatic, ?_, ?_, ?_, ?_, ?_, 1, ?_, ?_⟩ <;>
    first | decide +kernel | exact nextOf_eq (by decide +kernel) | exact Prod.ext (nextOf_eq (by decide +kernel)) (by decide +kernel) | exact Prod.ext rfl (by decide +kernel) | (intro _ h; cases h; done) | (intro _ _ h; cases h; done) | rfl
  · refine ⟨skimmingShut, ?_, ?_, ?_, ?_⟩ <;>
    first | decide +kernel | exact nextOf_eq (by decide +kernel) | exact Prod.ext (nextOf_eq (by decide +kernel)) (by decide +kernel) | exact Prod.ext rfl (by decide +kernel) | (intro _ h; cases h; done) | (intro _ _ h; cases h; done) | rfl
  · refine ⟨skimmingNone, ?_, ?_, ?_, ?_, ?_, ?_, ?_⟩ <;>
    first | decide +kernel | exact nextOf_eq (by decide +kernel) | exact Prod.ext (nextOf_eq (by decide +kernel)) (by decide +kernel) | exact Prod.ext rfl (by decide +kernel) | (intro _ h; cases h; done) | (intro _ _ h; cases h; done) | rfl
  · refine ⟨fenced, ?_, 1, group4, ?_, ?_, ?_, ?_, ?_⟩ <;>
    first | decide +kernel | exact nextOf_eq (by decide +kernel) | exact Prod.ext (nextOf_eq (by decide +kernel)) (by decide +kernel) | exact Prod.ext rfl (by decide +kernel) | (intro _ h; cases h; done) | (intro _ _ h; cases h; done) | rfl
  · refine ⟨oldLedger, ?_, 64, 3, 0, [], ?_, ?_⟩ <;>
    first | decide +kernel | exact nextOf_eq (by decide +kernel) | exact Prod.ext (nextOf_eq (by decide +kernel)) (by decide +kernel) | exact Prod.ext rfl (by decide +kernel) | (intro _ h; cases h; done) | (intro _ _ h; cases h; done) | rfl
  · refine ⟨sparing, ?_, 0, 0, 0, ?_, ?_, ?_, ?_, ?_, ?_⟩ <;>
    first | decide +kernel | exact nextOf_eq (by decide +kernel) | exact Prod.ext (nextOf_eq (by decide +kernel)) (by decide +kernel) | exact Prod.ext rfl (by decide +kernel) | (intro _ h; cases h; done) | (intro _ _ h; cases h; done) | rfl

theorem witness_StripesCloseLedgersWriteAndDiesAreRebuilt :
    (∃ (s : State), s.ok = true ∧ ∃ (stream : Fin 7), stream.val ≠ 6 ∧ s.domOn dMEDIA = true ∧ (s.fillingGroups stream.val).length < s.streamCount stream.val ∧ (1 < stream.val ∨ s.cur SKM_LWM_RESV < s.freeGroups) ∧ s.fld STE_LEDENT_ENTRIES < 64) ∧
    (∃ (s : State), s.ok = true ∧ s.domOn dMEDIA = true ∧ s.on STE_PATROL_ENA = true ∧ s.ste.patOn = false) ∧
    (∃ (s : State), s.ok = true ∧ ∃ (m : MasterId) (k : Fin 8192), s.MayWrite m.val STE_LSCLR ∧ s.lsUsed k.val = false) ∧
    (∃ (s : State), s.ok = true ∧ ∃ (g : BitVec 24) (i : Fin 1024) (x : Stripe) (gr : Group), s.stripe g.toNat i.val = some x ∧ s.grp g.toNat = some gr ∧ x.st = 0 ∧ (s.closeDue x = true ∨ s.ckp.shut = true)) ∧
    (∃ (s : State), s.ok = true ∧ ∃ (u : Nat) (x : UnitRec), s.domOn dMEDIA = true ∧ u ∈ s.ste.backlog ∧ mfind s.ste.units u = some x ∧ x.stream = 6) ∧
    (∃ (s : State), s.ok = true ∧ ∃ (stream : Fin 7), stream.val ≠ 6 ∧ s.domOn dMEDIA = true ∧ (s.fillingGroups stream.val).length < s.streamCount stream.val ∧ (1 < stream.val ∨ s.cur SKM_LWM_RESV < s.freeGroups) ∧ 64 ≤ s.fld STE_LEDENT_ENTRIES ∧ s.ste.backlog = []) ∧
    (∃ (s : State), s.ok = true ∧ s.domOn dMEDIA = true ∧ s.ste.ledDirty = true ∧ s.ste.ledWait = false) ∧
    (∃ (s : State), s.ok = true ∧ s.ste.ledWait = true ∧ s.ste.ledDone = 3 ∧ s.ste.ledAck = true) ∧
    (∃ (s : State), s.ok = true ∧ ∃ (pos : Fin 2048), s.ste.retired = [pos.val]) ∧
    (∃ (s : State), s.ok = true ∧ s.ste.patOn = true ∧ ∃ (gi i : Nat) (g : Group), s.patNext = some (gi, i) ∧ s.grp gi = some g) ∧
    (∃ (s : State), s.ok = true ∧ s.ste.patOn = true ∧ s.lineLive 29 = true) ∧
    (∃ (s : State), s.ok = true ∧ s.ste.patOn = true ∧ s.patNext = none ∧ (∀ (c : Nat × Scan), c ∈ s.ste.scans → c.snd.kind ≠ 0)) ∧
    (∃ (s : State), s.ok = true ∧ ∃ (id : Nat) (sc : Scan) (g : Group), (List.find? (fun (c : Nat × Scan) => decide (c.snd.kind = 0) && s.scanDone c.fst) s.ste.scans = some (id, sc)) ∧ s.grp sc.group = some g ∧ (∀ (o : Nat), o ∈ s.slotList g → patJudge sc (g.width sc.stripe) o = PatRes.fine)) ∧
    (∃ (s : State), s.ok = true ∧ ∃ (pos : Nat) (r : List Nat), s.ste.rebPend = pos :: r) ∧
    (∃ (s : State), s.ok = true ∧ ∃ (pos : Nat) (r : List Nat), s.ste.rebuildQ = pos :: r ∧ ∃ (gi i : Nat) (g : Group), s.ste.scans = [] ∧ s.ckp.shut = false ∧ (s.rebLeft pos).head? = some (gi, i) ∧ s.grp gi = some g) ∧
    (∃ (s : State), s.ok = true ∧ ∃ (pos : Nat) (r : List Nat), s.ste.rebuildQ = pos :: r ∧ ∃ (id : Nat) (sc : Scan), (List.find? (fun (c : Nat × Scan) => decide (c.snd.kind = 1) && s.scanDone c.fst) s.ste.scans = some (id, sc))) ∧
    (∃ (s : State), s.ok = true ∧ ∃ (pos : Nat) (r : List Nat), s.ste.rebuildQ = pos :: r ∧ s.rebLeft pos = [] ∧ (∀ (c : Nat × Scan), c ∈ s.ste.scans → c.snd.kind ≠ 1)) ∧
    (∃ (s : State), s.ok = true ∧ ∃ (m : MasterId) (k : Fin 8192), s.MayWrite m.val STE_LSCLR ∧ s.lsUsed k.val = true ∧ s.cleanDram 15 Acc.write (s.lsAddr k.val) 16 = true) := by
  refine ⟨?_, ?_, ?_, ?_, ?_, ?_, ?_, ?_, ?_, ?_, ?_, ?_, ?_, ?_, ?_, ?_, ?_, ?_⟩
  · refine ⟨closing, ?_, 2, ?_, ?_, ?_, ?_, ?_⟩ <;>
    first | decide +kernel | exact nextOf_eq (by decide +kernel) | exact Prod.ext (nextOf_eq (by decide +kernel)) (by decide +kernel) | exact Prod.ext rfl (by decide +kernel) | (intro _ h; cases h; done) | (intro _ _ h; cases h; done) | rfl
  · refine ⟨closing, ?_, ?_, ?_, ?_⟩ <;>
    first | decide +kernel | exact nextOf_eq (by decide +kernel) | exact Prod.ext (nextOf_eq (by decide +kernel)) (by decide +kernel) | exact Prod.ext rfl (by decide +kernel) | (intro _ h; cases h; done) | (intro _ _ h; cases h; done) | rfl
  · refine ⟨closing, ?_, 0, 0, ?_, ?_⟩ <;>
    first | decide +kernel | exact nextOf_eq (by decide +kernel) | exact Prod.ext (nextOf_eq (by decide +kernel)) (by decide +kernel) | exact Prod.ext rfl (by decide +kernel) | (intro _ h; cases h; done) | (intro _ _ h; cases h; done) | rfl
  · refine ⟨closingCream, ?_, 1, 0, stripe4 0 false, cream4, ?_, ?_, ?_, ?_⟩ <;>
    first | decide +kernel | exact nextOf_eq (by decide +kernel) | exact Prod.ext (nextOf_eq (by decide +kernel)) (by decide +kernel) | exact Prod.ext rfl (by decide +kernel) | (intro _ h; cases h; done) | (intro _ _ h; cases h; done) | rfl
  · refine ⟨openingCkp, ?_, 0, { slot := 0, lu := 9, n := 1, data := 5, stream := 6 }, ?_, ?_, ?_, ?_⟩ <;>
    first | decide +kernel | exact nextOf_eq (by decide +kernel) | exact Prod.ext (nextOf_eq (by decide +kernel)) (by decide +kernel) | exact Prod.ext rfl (by decide +kernel) | (intro _ h; cases h; done) | (intro _ _ h; cases h; done) | rfl
  · refine ⟨openingFull, ?_, 2, ?_, ?_, ?_, ?_, ?_, ?_⟩ <;>
    first | decide +kernel | exact nextOf_eq (by decide +kernel) | exact Prod.ext (nextOf_eq (by decide +kernel)) (by decide +kernel) | exact Prod.ext rfl (by decide +kernel) | (intro _ h; cases h; done) | (intro _ _ h; cases h; done) | rfl
  · refine ⟨ledgerDirty, ?_, ?_, ?_, ?_⟩ <;>
    first | decide +kernel | exact nextOf_eq (by decide +kernel) | exact Prod.ext (nextOf_eq (by decide +kernel)) (by decide +kernel) | exact Prod.ext rfl (by decide +kernel) | (intro _ h; cases h; done) | (intro _ _ h; cases h; done) | rfl
  · refine ⟨ledgerWritten, ?_, ?_, ?_, ?_⟩ <;>
    first | decide +kernel | exact nextOf_eq (by decide +kernel) | exact Prod.ext (nextOf_eq (by decide +kernel)) (by decide +kernel) | exact Prod.ext rfl (by decide +kernel) | (intro _ h; cases h; done) | (intro _ _ h; cases h; done) | rfl
  · refine ⟨retiring, ?_, 64, ?_⟩ <;>
    first | decide +kernel | exact nextOf_eq (by decide +kernel) | exact Prod.ext (nextOf_eq (by decide +kernel)) (by decide +kernel) | exact Prod.ext rfl (by decide +kernel) | (intro _ h; cases h; done) | (intro _ _ h; cases h; done) | rfl
  · refine ⟨patrolling, ?_, ?_, 1, 0, { group4 with next := 2047 }, ?_, ?_⟩ <;>
    first | decide +kernel | exact nextOf_eq (by decide +kernel) | exact Prod.ext (nextOf_eq (by decide +kernel)) (by decide +kernel) | exact Prod.ext rfl (by decide +kernel) | (intro _ h; cases h; done) | (intro _ _ h; cases h; done) | rfl
  · refine ⟨patrolling, ?_, ?_, ?_⟩ <;>
    first | decide +kernel | exact nextOf_eq (by decide +kernel) | exact Prod.ext (nextOf_eq (by decide +kernel)) (by decide +kernel) | exact Prod.ext rfl (by decide +kernel) | (intro _ h; cases h; done) | (intro _ _ h; cases h; done) | rfl
  · refine ⟨patrolEnd, ?_, ?_, ?_, ?_⟩ <;>
    first | decide +kernel | exact nextOf_eq (by decide +kernel) | exact Prod.ext (nextOf_eq (by decide +kernel)) (by decide +kernel) | exact Prod.ext rfl (by decide +kernel) | (intro _ h; cases h; done) | (intro _ _ h; cases h; done) | rfl
  · refine ⟨patrolRead, ?_, 0, cleanScan, { group4 with next := 2047 }, ?_, ?_, ?_⟩ <;>
    first | decide +kernel | exact nextOf_eq (by decide +kernel) | exact Prod.ext (nextOf_eq (by decide +kernel)) (by decide +kernel) | exact Prod.ext rfl (by decide +kernel) | (intro _ h; cases h; done) | (intro _ _ h; cases h; done) | rfl
  · refine ⟨rebuildWaits, ?_, 64, [], ?_⟩ <;>
    first | decide +kernel | exact nextOf_eq (by decide +kernel) | exact Prod.ext (nextOf_eq (by decide +kernel)) (by decide +kernel) | exact Prod.ext rfl (by decide +kernel) | (intro _ h; cases h; done) | (intro _ _ h; cases h; done) | rfl
  · refine ⟨rebuilding, ?_, 64, [], ?_, 1, 0, { group4 with next := 2047 }, ?_, ?_, ?_, ?_⟩ <;>
    first | decide +kernel | exact nextOf_eq (by decide +kernel) | exact Prod.ext (nextOf_eq (by decide +kernel)) (by decide +kernel) | exact Prod.ext rfl (by decide +kernel) | (intro _ h; cases h; done) | (intro _ _ h; cases h; done) | rfl
  · refine ⟨rebuildingScan, ?_, 64, [], ?_, 0, { cleanScan with kind := 1 }, ?_⟩ <;>
    first | decide +kernel | exact nextOf_eq (by decide +kernel) | exact Prod.ext (nextOf_eq (by decide +kernel)) (by decide +kernel) | exact Prod.ext rfl (by decide +kernel) | (intro _ h; cases h; done) | (intro _ _ h; cases h; done) | rfl
  · refine ⟨rebuilt, ?_, 64, [], ?_, ?_, ?_⟩ <;>
    first | decide +kernel | exact nextOf_eq (by decide +kernel) | exact Prod.ext (nextOf_eq (by decide +kernel)) (by decide +kernel) | exact Prod.ext rfl (by decide +kernel) | (intro _ h; cases h; done) | (intro _ _ h; cases h; done) | rfl
  · refine ⟨lostStripe, ?_, 0, 8191, ?_, ?_, ?_⟩ <;>
    first | decide +kernel | exact nextOf_eq (by decide +kernel) | exact Prod.ext (nextOf_eq (by decide +kernel)) (by decide +kernel) | exact Prod.ext rfl (by decide +kernel) | (intro _ h; cases h; done) | (intro _ _ h; cases h; done) | rfl

theorem witness_CheckpointsBeginCompleteAndShutDown :
    (∃ (s : State), s.ok = true ∧ s.ckpDue = true ∧ s.ckp.phase = 0 ∧ s.flag CKP_STAT_BOD = false ∧ s.domOn dMEDIA = true ∧ (s.ckp.shut = true → (∀ (x : Stripe), x ∈ s.ste.stripes → 6 ≤ x.stream) ∧ s.ste.backlog = [] ∧ s.writesWait = false)) ∧
    (∃ (s : State), s.ok = true ∧ ∃ (m : MasterId), s.MayWrite m.val CKP_CTL) ∧
    (∃ (s : State), s.ok = true ∧ s.ckpDue = true ∧ s.ckp.phase = 0 ∧ s.flag CKP_STAT_BOD = false ∧ s.domOn dMEDIA = true ∧ s.ckp.shut = true ∧ ((∃ (x : Stripe), x ∈ s.ste.stripes ∧ x.stream ≤ 5) ∨ s.ste.backlog ≠ [] ∨ s.writesWait = true)) ∧
    (∃ (s : State), s.ok = true ∧ s.ckp.phase = 3 ∧ s.typeLeft 7 = false ∧ s.flag CKP_STAT_BOD = false) ∧
    (∃ (s : State), s.ok = true ∧ s.flag CKP_STAT_ACTIVE = true ∧ s.ckp.began + 100000 * s.cur CKP_PERIOD_MS ≤ s.mtime) ∧
    (∃ (s : State), s.ok = true ∧ s.ckp.shut = true ∧ s.ckp.cleanDone = true ∧ s.ckp.phase = 0 ∧ s.rootWaits 1 = false) ∧
    (∃ (s : State), s.ok = true ∧ s.ckp.shut = true ∧ s.ckp.cleanDone = true ∧ s.ckp.phase = 0 ∧ s.rootWaits 1 = true) ∧
    (∃ (s : State), s.ok = true ∧ s.layRuns = true ∧ s.bot.layStep = 2 ∧ s.ckp.closing = none ∧ s.flag CKP_STAT_BOD = false ∧ ((s.rootSlots.all fun (r : Nat × Nat) => decide (r.snd = 2 ^ 512 - 1)) = true)) ∧
    (∃ (s : State), s.ok = true ∧ s.layRuns = true ∧ s.bot.layStep = 2 ∧ s.ckp.closing = none ∧ s.flag CKP_STAT_BOD = false ∧ ((s.rootSlots.all fun (r : Nat × Nat) => decide (r.snd = 2 ^ 512 - 1)) = false) ∧ rootBest s.rootSlots = none) ∧
    (∃ (s : State), s.ok = true ∧ ∃ (f : CkpFound), s.layRuns = true ∧ s.bot.layStep = 2 ∧ s.ckp.closing = none ∧ s.flag CKP_STAT_BOD = false ∧ ((s.rootSlots.all fun (r : Nat × Nat) => decide (r.snd = 2 ^ 512 - 1)) = false) ∧ ∃ (k r : Nat), rootBest s.rootSlots = some (k, r) ∧ foundTrailer f = none) ∧
    (∃ (s : State), s.ok = true ∧ ∃ (f : CkpFound), s.layRuns = true ∧ s.bot.layStep = 2 ∧ s.ckp.closing = none ∧ s.flag CKP_STAT_BOD = false ∧ ((s.rootSlots.all fun (r : Nat × Nat) => decide (r.snd = 2 ^ 512 - 1)) = false) ∧ ∃ (k r : Nat), rootBest s.rootSlots = some (k, r) ∧ ∃ (t : Nat), foundTrailer f = some t ∧ s.layDigest.toNat ≠ nbits t 224 32) ∧
    (∃ (s : State), s.ok = true ∧ ∃ (f : CkpFound), s.layRuns = true ∧ s.bot.layStep = 2 ∧ s.ckp.closing = none ∧ s.flag CKP_STAT_BOD = false ∧ ((s.rootSlots.all fun (r : Nat × Nat) => decide (r.snd = 2 ^ 512 - 1)) = false) ∧ ∃ (k r : Nat), rootBest s.rootSlots = some (k, r) ∧ ∃ (t : Nat), foundTrailer f = some t ∧ s.layDigest.toNat = nbits t 224 32 ∧ s.flag PLK_ROLE_IMAGE = false ∧ s.ckp.asked = false ∧ pagesLoad t f s = none) := by
  refine ⟨?_, ?_, ?_, ?_, ?_, ?_, ?_, ?_, ?_, ?_, ?_, ?_⟩
  · refine ⟨ckpWanted, ?_, ?_, ?_, ?_, ?_, ?_⟩ <;>
    first | decide +kernel | exact nextOf_eq (by decide +kernel) | exact Prod.ext (nextOf_eq (by decide +kernel)) (by decide +kernel) | exact Prod.ext rfl (by decide +kernel) | (intro _ h; cases h; done) | (intro _ _ h; cases h; done) | rfl
  · refine ⟨ckpWanted, ?_, 0, ?_⟩ <;>
    first | decide +kernel | exact nextOf_eq (by decide +kernel) | exact Prod.ext (nextOf_eq (by decide +kernel)) (by decide +kernel) | exact Prod.ext rfl (by decide +kernel) | (intro _ h; cases h; done) | (intro _ _ h; cases h; done) | rfl
  · refine ⟨ckpShutWaits, ?_, ?_, ?_, ?_, ?_, ?_, ?_⟩ <;>
    first | decide +kernel | exact nextOf_eq (by decide +kernel) | exact Prod.ext (nextOf_eq (by decide +kernel)) (by decide +kernel) | exact Prod.ext rfl (by decide +kernel) | (intro _ h; cases h; done) | (intro _ _ h; cases h; done) | rfl
  · refine ⟨ckpDone, ?_, ?_, ?_, ?_⟩ <;>
    first | decide +kernel | exact nextOf_eq (by decide +kernel) | exact Prod.ext (nextOf_eq (by decide +kernel)) (by decide +kernel) | exact Prod.ext rfl (by decide +kernel) | (intro _ h; cases h; done) | (intro _ _ h; cases h; done) | rfl
  · refine ⟨ckpSlow, ?_, ?_, ?_⟩ <;>
    first | decide +kernel | exact nextOf_eq (by decide +kernel) | exact Prod.ext (nextOf_eq (by decide +kernel)) (by decide +kernel) | exact Prod.ext rfl (by decide +kernel) | (intro _ h; cases h; done) | (intro _ _ h; cases h; done) | rfl
  · refine ⟨shutClean, ?_, ?_, ?_, ?_, ?_⟩ <;>
    first | decide +kernel | exact nextOf_eq (by decide +kernel) | exact Prod.ext (nextOf_eq (by decide +kernel)) (by decide +kernel) | exact Prod.ext rfl (by decide +kernel) | (intro _ h; cases h; done) | (intro _ _ h; cases h; done) | rfl
  · refine ⟨shutWaits, ?_, ?_, ?_, ?_, ?_⟩ <;>
    first | decide +kernel | exact nextOf_eq (by decide +kernel) | exact Prod.ext (nextOf_eq (by decide +kernel)) (by decide +kernel) | exact Prod.ext rfl (by decide +kernel) | (intro _ h; cases h; done) | (intro _ _ h; cases h; done) | rfl
  · obtain ⟨rest, hs, he⟩ := rootSlots_first starting (by decide +kernel) (by decide +kernel)
    have hv : starting.rawNat 0x10090000 64 = 2 ^ 512 - 1 := by decide +kernel
    rw [hv] at hs
    refine ⟨starting, ?_, ?_, ?_, ?_, ?_, ?_⟩ <;>
    first | (rw [hs, List.all_eq_true]; intro r hr; exact decide_eq_true ((List.mem_cons.mp hr).elim (fun h => h ▸ rfl) (he r))) | decide +kernel
  · obtain ⟨rest, hs, he⟩ := rootSlots_first startingBadRoot (by decide +kernel) (by decide +kernel)
    have hv : startingBadRoot.rawNat 0x10090000 64 = 7 := by decide +kernel
    rw [hv] at hs
    refine ⟨startingBadRoot, ?_, ?_, ?_, ?_, ?_, ?_, ?_⟩ <;>
    first | (rw [hs, List.all_cons, show decide (7 = 2 ^ 512 - 1) = false by decide +kernel]; rfl) | (rw [hs, rootBest_first _ _ he, if_pos (by decide +kernel)]) | (rw [hs, rootBest_first _ _ he, if_neg (by decide +kernel)]) | decide +kernel | exact Prod.ext rfl (by decide +kernel) | rfl
  · obtain ⟨rest, hs, he⟩ := rootSlots_first startingRoot (by decide +kernel) (by decide +kernel)
    have hv : startingRoot.rawNat 0x10090000 64 = aRoot := by decide +kernel
    rw [hv] at hs
    refine ⟨startingRoot, ?_, noFound, ?_, ?_, ?_, ?_, ?_, 0, aRoot, ?_, ?_⟩ <;>
    first | (rw [hs, List.all_cons, show decide (aRoot = 2 ^ 512 - 1) = false by decide +kernel]; rfl) | (rw [hs, rootBest_first _ _ he, if_pos (by decide +kernel)]) | (rw [hs, rootBest_first _ _ he, if_neg (by decide +kernel)]) | decide +kernel | exact Prod.ext rfl (by decide +kernel) | rfl
  · obtain ⟨rest, hs, he⟩ := rootSlots_first startingRoot (by decide +kernel) (by decide +kernel)
    have hv : startingRoot.rawNat 0x10090000 64 = aRoot := by decide +kernel
    rw [hv] at hs
    refine ⟨startingRoot, ?_, badTrailerFound, ?_, ?_, ?_, ?_, ?_, 0, aRoot, ?_, badTrailer, ?_, ?_⟩ <;>
    first | (rw [hs, List.all_cons, show decide (aRoot = 2 ^ 512 - 1) = false by decide +kernel]; rfl) | (rw [hs, rootBest_first _ _ he, if_pos (by decide +kernel)]) | (rw [hs, rootBest_first _ _ he, if_neg (by decide +kernel)]) | decide +kernel | exact Prod.ext rfl (by decide +kernel) | rfl
  · obtain ⟨rest, hs, he⟩ := rootSlots_first startingRoot (by decide +kernel) (by decide +kernel)
    have hv : startingRoot.rawNat 0x10090000 64 = aRoot := by decide +kernel
    rw [hv] at hs
    refine ⟨startingRoot, ?_, dirTrailerFound, ?_, ?_, ?_, ?_, ?_, 0, aRoot, ?_, dirTrailer, ?_, ?_, ?_, ?_, ?_⟩ <;>
    first | (rw [hs, List.all_cons, show decide (aRoot = 2 ^ 512 - 1) = false by decide +kernel]; rfl) | (rw [hs, rootBest_first _ _ he, if_pos (by decide +kernel)]) | (rw [hs, rootBest_first _ _ he, if_neg (by decide +kernel)]) | decide +kernel | exact Prod.ext rfl (by decide +kernel) | rfl

theorem witness_TheLinkTrainsConfiguresAndResets :
    (∃ (s : State), s.ok = true ∧ sortedFrom none s.hpt.cfg = true ∧ sortedFrom none s.cmds = true ∧ ∃ (dword : Fin 32768), s.hptUp = true ∧ dword.val < 1024 ∧ s.flag HPT_CTL_CFGREADY = true) ∧
    (∃ (s : State), s.ok = true ∧ sortedFrom none s.hpt.cfg = true ∧ sortedFrom none s.cmds = true ∧ ∃ (dword : Fin 32768), s.hptUp = true ∧ let d0 := nbits (s.cfgRead 0x044) 0 2 = 0; d0 ∧ dword.val < 16384) ∧
    (∃ (s : State), s.ok = true ∧ sortedFrom none s.hpt.cfg = true ∧ sortedFrom none s.cmds = true ∧ ∃ (dword : Fin 32768), s.hptUp = true ∧ let d0 := nbits (s.cfgRead 0x044) 0 2 = 0; d0 ∧ 1024 ≤ dword.val ∧ dword.val < 16384) ∧
    (∃ (s : State), s.ok = true ∧ sortedFrom none s.hpt.cfg = true ∧ sortedFrom none s.cmds = true ∧ ∃ (m : MasterId), s.hptUp = true ∧ s.MayWrite m.val HPT_CTL) ∧
    (∃ (s : State), s.ok = true ∧ sortedFrom none s.hpt.cfg = true ∧ sortedFrom none s.cmds = true ∧ ∃ (dword : Fin 32768), s.hptUp = true ∧ dword.val < 1024 ∧ s.flag HPT_CTL_CFGREADY = false) ∧
    (∃ (s : State), s.ok = true ∧ sortedFrom none s.hpt.cfg = true ∧ sortedFrom none s.cmds = true ∧ s.domOn dHOST = true ∧ s.flag HPT_CTL_LINKEN = true ∧ s.flag HPT_LINK_UP = false) ∧
    (∃ (s : State), s.ok = true ∧ sortedFrom none s.hpt.cfg = true ∧ sortedFrom none s.cmds = true ∧ s.hptUp = true ∧ let d0 := nbits (s.cfgRead 0x044) 0 2 = 0; ¬d0) := by
  refine ⟨?_, ?_, ?_, ?_, ?_, ?_, ?_⟩
  · refine ⟨host, ?_, ?_, ?_, 0, ?_, ?_, ?_⟩ <;>
    first | decide +kernel | exact nextOf_eq (by decide +kernel) | exact Prod.ext (nextOf_eq (by decide +kernel)) (by decide +kernel) | exact Prod.ext rfl (by decide +kernel) | (intro _ h; cases h; done) | (intro _ _ h; cases h; done) | rfl
  · refine ⟨host, ?_, ?_, ?_, 0, ?_, ?_, ?_⟩ <;>
    first | decide +kernel | exact nextOf_eq (by decide +kernel) | exact Prod.ext (nextOf_eq (by decide +kernel)) (by decide +kernel) | exact Prod.ext rfl (by decide +kernel) | (intro _ h; cases h; done) | (intro _ _ h; cases h; done) | rfl
  · refine ⟨host, ?_, ?_, ?_, 1024, ?_, ?_, ?_, ?_⟩ <;>
    first | decide +kernel | exact nextOf_eq (by decide +kernel) | exact Prod.ext (nextOf_eq (by decide +kernel)) (by decide +kernel) | exact Prod.ext rfl (by decide +kernel) | (intro _ h; cases h; done) | (intro _ _ h; cases h; done) | rfl
  · refine ⟨host, ?_, ?_, ?_, 0, ?_, ?_⟩ <;>
    first | decide +kernel | exact nextOf_eq (by decide +kernel) | exact Prod.ext (nextOf_eq (by decide +kernel)) (by decide +kernel) | exact Prod.ext rfl (by decide +kernel) | (intro _ h; cases h; done) | (intro _ _ h; cases h; done) | rfl
  · refine ⟨hostUnconfigured, ?_, ?_, ?_, 0, ?_, ?_, ?_⟩ <;>
    first | decide +kernel | exact nextOf_eq (by decide +kernel) | exact Prod.ext (nextOf_eq (by decide +kernel)) (by decide +kernel) | exact Prod.ext rfl (by decide +kernel) | (intro _ h; cases h; done) | (intro _ _ h; cases h; done) | rfl
  · refine ⟨hostDown, ?_, ?_, ?_, ?_, ?_, ?_⟩ <;>
    first | decide +kernel | exact nextOf_eq (by decide +kernel) | exact Prod.ext (nextOf_eq (by decide +kernel)) (by decide +kernel) | exact Prod.ext rfl (by decide +kernel) | (intro _ h; cases h; done) | (intro _ _ h; cases h; done) | rfl
  · refine ⟨hostD3, ?_, ?_, ?_, ?_, ?_⟩ <;>
    first | decide +kernel | exact nextOf_eq (by decide +kernel) | exact Prod.ext (nextOf_eq (by decide +kernel)) (by decide +kernel) | exact Prod.ext rfl (by decide +kernel) | (intro _ h; cases h; done) | (intro _ _ h; cases h; done) | rfl

theorem witness_ControllersEnableFetchAndPost :
    (∃ (s : State), s.ok = true ∧ sortedFrom none s.cmds = true ∧ s.hptUp = true ∧ s.flag HPT_STAT_EN = true ∧ ∃ (shn : Fin 4), (shn = 1 ∨ shn = 2)) ∧
    (∃ (s : State), s.ok = true ∧ sortedFrom none s.cmds = true ∧ ∃ (m : MasterId) (type : Fin 8) (info lid : Byte), s.MayWrite m.val HPT_AEN ∧ let v := type.val + info.toNat * 2 ^ 8 + lid.toNat * 2 ^ 16; s.hpt.aers = [] ∧ s.aenOn 1 v = true ∧ s.hpt.aenQ.length < 8) ∧
    (∃ (s : State), s.ok = true ∧ sortedFrom none s.cmds = true ∧ ∃ (qid v : BitVec 16) (q : Sq), s.hptUp = true ∧ s.pwr.dormEntry = false ∧ qid.toNat ≤ s.fld HPT_QCFG_IOQ ∧ mfind s.hpt.sqs qid.toNat = some q ∧ let old := (q.tail + q.size - q.head) % q.size; let new : Nat := (v.toNat + q.size - q.head) % q.size; (q.size ≤ v.toNat ∨ new ≤ old)) ∧
    (∃ (s : State), s.ok = true ∧ sortedFrom none s.cmds = true ∧ ∃ (qid v : BitVec 16) (q : Sq), s.hptUp = true ∧ s.pwr.dormEntry = false ∧ qid.toNat ≤ s.fld HPT_QCFG_IOQ ∧ mfind s.hpt.sqs qid.toNat = some q ∧ let old := (q.tail + q.size - q.head) % q.size; let new : Nat := (v.toNat + q.size - q.head) % q.size; v.toNat < q.size ∧ old < new) ∧
    (∃ (s : State), s.ok = true ∧ sortedFrom none s.cmds = true ∧ ∃ (qid : BitVec 16), s.hptUp = true ∧ s.fld HPT_QCFG_IOQ < qid.toNat) ∧
    (∃ (s : State), s.ok = true ∧ sortedFrom none s.cmds = true ∧ ∃ (qid v : BitVec 16) (q : Cq), s.hptUp = true ∧ qid.toNat ≤ s.fld HPT_QCFG_IOQ ∧ mfind s.hpt.cqs qid.toNat = some q ∧ let new : Nat := (v.toNat + q.size - q.head) % q.size; (q.size ≤ v.toNat ∨ new = 0 ∨ q.used < new)) ∧
    (∃ (s : State), s.ok = true ∧ sortedFrom none s.cmds = true ∧ ∃ (qid v : BitVec 16) (q : Cq), s.hptUp = true ∧ qid.toNat ≤ s.fld HPT_QCFG_IOQ ∧ mfind s.hpt.cqs qid.toNat = some q ∧ let new : Nat := (v.toNat + q.size - q.head) % q.size; v.toNat < q.size ∧ new ≠ 0 ∧ new ≤ q.used) ∧
    (∃ (s : State), s.ok = true ∧ sortedFrom none s.cmds = true ∧ ∃ (qid : BitVec 16) (q : Sq), s.hptUp = true ∧ s.flag HPT_STAT_RDY = true ∧ s.flag CKP_STAT_BOD = false ∧ s.pwr.dormEntry = false ∧ s.hpt.stopped = false ∧ s.mayFetch qid.toNat = true ∧ mfind s.hpt.sqs qid.toNat = some q) ∧
    (∃ (s : State), s.ok = true ∧ sortedFrom none s.cmds = true ∧ s.hptUp = true ∧ s.flag HPT_STAT_EN = false) ∧
    (∃ (s : State), s.ok = true ∧ sortedFrom none s.cmds = true ∧ ∃ (m : MasterId) (type : Fin 8) (info lid : Byte), s.MayWrite m.val HPT_AEN ∧ let v := type.val + info.toNat * 2 ^ 8 + lid.toNat * 2 ^ 16; ∃ (id : Nat) (r : List Nat) (c : Cmd), s.hpt.aers = id :: r ∧ s.cmd id = some c ∧ s.aenOn c.ctl v = false) ∧
    (∃ (s : State), s.ok = true ∧ sortedFrom none s.cmds = true ∧ ∃ (m : MasterId) (type : Fin 8) (info lid : Byte), s.MayWrite m.val HPT_AEN ∧ let v := type.val + info.toNat * 2 ^ 8 + lid.toNat * 2 ^ 16; ∃ (id : Nat) (r : List Nat) (c : Cmd), s.hpt.aers = id :: r ∧ s.cmd id = some c ∧ s.aenOn c.ctl v = true) ∧
    (∃ (s : State), s.ok = true ∧ sortedFrom none s.cmds = true ∧ ∃ (m : MasterId) (type : Fin 8) (info lid : Byte), s.MayWrite m.val HPT_AEN ∧ let v := type.val + info.toNat * 2 ^ 8 + lid.toNat * 2 ^ 16; s.hpt.aers = [] ∧ s.aenOn 1 v = true ∧ 8 ≤ s.hpt.aenQ.length) := by
  refine ⟨?_, ?_, ?_, ?_, ?_, ?_, ?_, ?_, ?_, ?_, ?_, ?_⟩
  · refine ⟨host, ?_, ?_, ?_, ?_, 1, ?_⟩ <;>
    first | decide +kernel | exact nextOf_eq (by decide +kernel) | exact Prod.ext (nextOf_eq (by decide +kernel)) (by decide +kernel) | exact Prod.ext rfl (by decide +kernel) | (intro _ h; cases h; done) | (intro _ _ h; cases h; done) | rfl
  · refine ⟨host, ?_, ?_, 0, 7, 1, 1, ?_, ?_, ?_, ?_⟩ <;>
    first | decide +kernel | exact nextOf_eq (by decide +kernel) | exact Prod.ext (nextOf_eq (by decide +kernel)) (by decide +kernel) | exact Prod.ext rfl (by decide +kernel) | (intro _ h; cases h; done) | (intro _ _ h; cases h; done) | rfl
  · refine ⟨host, ?_, ?_, 0, 0, (0, { base := 4096, size := 8, tail := 2 }).snd, ?_, ?_, ?_, ?_, ?_⟩ <;>
    first | decide +kernel | exact nextOf_eq (by decide +kernel) | exact Prod.ext (nextOf_eq (by decide +kernel)) (by decide +kernel) | exact Prod.ext rfl (by decide +kernel) | (intro _ h; cases h; done) | (intro _ _ h; cases h; done) | rfl
  · refine ⟨host, ?_, ?_, 0, 3, (0, { base := 4096, size := 8, tail := 2 }).snd, ?_, ?_, ?_, ?_, ?_, ?_⟩ <;>
    first | decide +kernel | exact nextOf_eq (by decide +kernel) | exact Prod.ext (nextOf_eq (by decide +kernel)) (by decide +kernel) | exact Prod.ext rfl (by decide +kernel) | (intro _ h; cases h; done) | (intro _ _ h; cases h; done) | rfl
  · refine ⟨host, ?_, ?_, 17, ?_, ?_⟩ <;>
    first | decide +kernel | exact nextOf_eq (by decide +kernel) | exact Prod.ext (nextOf_eq (by decide +kernel)) (by decide +kernel) | exact Prod.ext rfl (by decide +kernel) | (intro _ h; cases h; done) | (intro _ _ h; cases h; done) | rfl
  · refine ⟨host, ?_, ?_, 0, 0, (0, { base := 8192, size := 8, head := 1, tail := 3, ien := true }).snd, ?_, ?_, ?_, ?_⟩ <;>
    first | decide +kernel | exact nextOf_eq (by decide +kernel) | exact Prod.ext (nextOf_eq (by decide +kernel)) (by decide +kernel) | exact Prod.ext rfl (by decide +kernel) | (intro _ h; cases h; done) | (intro _ _ h; cases h; done) | rfl
  · refine ⟨host, ?_, ?_, 0, 2, (0, { base := 8192, size := 8, head := 1, tail := 3, ien := true }).snd, ?_, ?_, ?_, ?_, ?_, ?_⟩ <;>
    first | decide +kernel | exact nextOf_eq (by decide +kernel) | exact Prod.ext (nextOf_eq (by decide +kernel)) (by decide +kernel) | exact Prod.ext rfl (by decide +kernel) | (intro _ h; cases h; done) | (intro _ _ h; cases h; done) | rfl
  · refine ⟨host, ?_, ?_, 0, (0, { base := 4096, size := 8, tail := 2 }).snd, ?_, ?_, ?_, ?_, ?_, ?_, ?_⟩ <;>
    first | decide +kernel | exact nextOf_eq (by decide +kernel) | exact Prod.ext (nextOf_eq (by decide +kernel)) (by decide +kernel) | exact Prod.ext rfl (by decide +kernel) | (intro _ h; cases h; done) | (intro _ _ h; cases h; done) | rfl
  · refine ⟨hostIdle, ?_, ?_, ?_, ?_⟩ <;>
    first | decide +kernel | exact nextOf_eq (by decide +kernel) | exact Prod.ext (nextOf_eq (by decide +kernel)) (by decide +kernel) | exact Prod.ext rfl (by decide +kernel) | (intro _ h; cases h; done) | (intro _ _ h; cases h; done) | rfl
  · refine ⟨hostBusy, ?_, ?_, 0, 1, 1, 1, ?_, 7, [], { sqe := 12, phase := 8 }, ?_, ?_, ?_⟩ <;>
    first | decide +kernel | exact nextOf_eq (by decide +kernel) | exact Prod.ext (nextOf_eq (by decide +kernel)) (by decide +kernel) | exact Prod.ext rfl (by decide +kernel) | (intro _ h; cases h; done) | (intro _ _ h; cases h; done) | rfl
  · refine ⟨hostBusy, ?_, ?_, 0, 7, 1, 1, ?_, 7, [], { sqe := 12, phase := 8 }, ?_, ?_, ?_⟩ <;>
    first | decide +kernel | exact nextOf_eq (by decide +kernel) | exact Prod.ext (nextOf_eq (by decide +kernel)) (by decide +kernel) | exact Prod.ext rfl (by decide +kernel) | (intro _ h; cases h; done) | (intro _ _ h; cases h; done) | rfl
  · refine ⟨hostEvents, ?_, ?_, 0, 7, 1, 1, ?_, ?_, ?_, ?_⟩ <;>
    first | decide +kernel | exact nextOf_eq (by decide +kernel) | exact Prod.ext (nextOf_eq (by decide +kernel)) (by decide +kernel) | exact Prod.ext rfl (by decide +kernel) | (intro _ h; cases h; done) | (intro _ _ h; cases h; done) | rfl

theorem witness_FirmwareTakesTheCommandsOfItsOwn :
    (∃ (s : State) (id : Nat) (c : Cmd), s.ok = true ∧ let size := 2 ^ s.fld HPT_FWRING_HI_SIZE; let wr := s.fld HPT_FWWR_INDEX % size; s.domOn dHOST = true ∧ s.hpt.fwWait = [] ∧ s.fld HPT_FWRING_HI_SIZE ≤ 12 ∧ (wr + 1) % size ≠ s.fld HPT_FWRD_INDEX % size ∧ mfind s.hpt.fw wr = none ∧ let e : Instr × Nat := (Instr.getLogPage id, 2); s.AdminReady id c e.snd) ∧
    (∃ (s : State) (id : Nat) (c : Cmd), s.ok = true ∧ let size := 2 ^ s.fld HPT_FWRING_HI_SIZE; let wr := s.fld HPT_FWWR_INDEX % size; s.domOn dHOST = true ∧ s.hpt.fwWait = [] ∧ s.fld HPT_FWRING_HI_SIZE ≤ 12 ∧ (wr + 1) % size ≠ s.fld HPT_FWRD_INDEX % size ∧ mfind s.hpt.fw wr = none ∧ s.AdminReady id c 16 ∧ nbits (c.cdw 10) 3 3 ≠ 3) ∧
    (∃ (s : State) (id : Nat) (c : Cmd), s.ok = true ∧ s.AdminReady id c 16 ∧ nbits (c.cdw 10) 3 3 = 3) ∧
    (∃ (s : State) (id : Nat) (c : Cmd), s.ok = true ∧ let size := 2 ^ s.fld HPT_FWRING_HI_SIZE; let wr := s.fld HPT_FWWR_INDEX % size; s.domOn dHOST = true ∧ s.hpt.fwWait = [] ∧ s.fld HPT_FWRING_HI_SIZE ≤ 12 ∧ (wr + 1) % size ≠ s.fld HPT_FWRD_INDEX % size ∧ mfind s.hpt.fw wr = none ∧ 192 ≤ c.opc ∧ c.opc ≠ 196 ∧ s.AdminReady id c c.opc) ∧
    (∃ (s : State) (id : Nat) (c : Cmd), s.ok = true ∧ let size := 2 ^ s.fld HPT_FWRING_HI_SIZE; let wr := s.fld HPT_FWWR_INDEX % size; s.domOn dHOST = true ∧ s.hpt.fwWait = [] ∧ s.fld HPT_FWRING_HI_SIZE ≤ 12 ∧ (wr + 1) % size ≠ s.fld HPT_FWRD_INDEX % size ∧ mfind s.hpt.fw wr = none ∧ s.AdminReady id c 9 ∧ nbits (c.cdw 10) 0 8 = 2 ∧ nbits (c.cdw 11) 0 5 < 3) ∧
    (∃ (s : State) (id : Nat) (c : Cmd), s.ok = true ∧ s.AdminReady id c 9 ∧ nbits (c.cdw 10) 0 8 = 2 ∧ ((nbits (c.cdw 11) 0 5 = 3 ∨ nbits (c.cdw 11) 0 5 = 4) ∧ (s.mode = mSOLO ∨ s.mode = mSPENT) ∨ nbits (c.cdw 11) 0 5 = 4 ∧ s.holdsMirrored = true)) := by
  refine ⟨?_, ?_, ?_, ?_, ?_, ?_⟩
  · refine ⟨withCmd (adm 2 0 []) host, 4, adm 2 0 [], ?_, ?_, ?_, ?_, ?_, ?_, ?_⟩ <;>
    first | decide +kernel | exact nextOf_eq (by decide +kernel) | exact Prod.ext (nextOf_eq (by decide +kernel)) (by decide +kernel) | exact Prod.ext rfl (by decide +kernel) | (intro _ h; cases h; done) | (intro _ _ h; cases h; done) | rfl
  · refine ⟨withCmd (adm 16 0 [(10, 8)]) host, 4, adm 16 0 [(10, 8)], ?_, ?_, ?_, ?_, ?_, ?_, ?_, ?_⟩ <;>
    first | decide +kernel | exact nextOf_eq (by decide +kernel) | exact Prod.ext (nextOf_eq (by decide +kernel)) (by decide +kernel) | exact Prod.ext rfl (by decide +kernel) | (intro _ h; cases h; done) | (intro _ _ h; cases h; done) | rfl
  · refine ⟨withCmd (adm 16 0 [(10, 24)]) host, 4, adm 16 0 [(10, 24)], ?_, ?_, ?_⟩ <;>
    first | decide +kernel | exact nextOf_eq (by decide +kernel) | exact Prod.ext (nextOf_eq (by decide +kernel)) (by decide +kernel) | exact Prod.ext rfl (by decide +kernel) | (intro _ h; cases h; done) | (intro _ _ h; cases h; done) | rfl
  · refine ⟨withCmd (adm 193 0 []) host, 4, adm 193 0 [], ?_, ?_, ?_, ?_, ?_, ?_, ?_, ?_, ?_⟩ <;>
    first | decide +kernel | exact nextOf_eq (by decide +kernel) | exact Prod.ext (nextOf_eq (by decide +kernel)) (by decide +kernel) | exact Prod.ext rfl (by decide +kernel) | (intro _ h; cases h; done) | (intro _ _ h; cases h; done) | rfl
  · refine ⟨withCmd (adm 9 0 [(10, 2), (11, 1)]) host, 4, adm 9 0 [(10, 2), (11, 1)], ?_, ?_, ?_, ?_, ?_, ?_, ?_, ?_, ?_⟩ <;>
    first | decide +kernel | exact nextOf_eq (by decide +kernel) | exact Prod.ext (nextOf_eq (by decide +kernel)) (by decide +kernel) | exact Prod.ext rfl (by decide +kernel) | (intro _ h; cases h; done) | (intro _ _ h; cases h; done) | rfl
  · refine ⟨withCmd (adm 9 0 [(10, 2), (11, 4)]) (host.setFld PWR_MODE_CUR mSOLO), 4, adm 9 0 [(10, 2), (11, 4)], ?_, ?_, ?_, ?_⟩ <;>
    first | decide +kernel | exact nextOf_eq (by decide +kernel) | exact Prod.ext (nextOf_eq (by decide +kernel)) (by decide +kernel) | exact Prod.ext rfl (by decide +kernel) | (intro _ h; cases h; done) | (intro _ _ h; cases h; done) | rfl

theorem witness_QueuesFeaturesAndAbortsAreCarriedOut :
    (∃ (s : State) (id : Nat) (c : Cmd), s.ok = true ∧ let qid := nbits (c.cdw 10) 0 16; let size := nbits (c.cdw 10) 16 16; let base := c.cdw 6 + 2 ^ 32 * c.cdw 7; s.AdminReady id c 5 ∧ c.port = 0 ∧ qid ≠ 0 ∧ qid ≤ s.fld HPT_QCFG_IOQ ∧ mfind s.hpt.cqs qid = none ∧ 1 ≤ size ∧ size ≤ 16383 ∧ nbits (c.cdw 11) 16 16 < s.fld HPT_QCFG_VEC ∧ nbit (c.cdw 11) 0 = true ∧ base % 4096 = 0) ∧
    (∃ (s : State) (id : Nat) (c : Cmd), s.ok = true ∧ let qid := nbits (c.cdw 10) 0 16; s.AdminReady id c 5 ∧ c.port = 0 ∧ (qid = 0 ∨ s.fld HPT_QCFG_IOQ < qid ∨ (mfind s.hpt.cqs qid).isSome = true)) ∧
    (∃ (s : State) (id : Nat) (c : Cmd), s.ok = true ∧ let qid := nbits (c.cdw 10) 0 16; let size := nbits (c.cdw 10) 16 16; let base := c.cdw 6 + 2 ^ 32 * c.cdw 7; s.AdminReady id c 1 ∧ c.port = 0 ∧ qid ≠ 0 ∧ qid ≤ s.fld HPT_QCFG_IOQ ∧ mfind s.hpt.sqs qid = none ∧ 1 ≤ size ∧ size ≤ 16383 ∧ nbit (c.cdw 11) 0 = true ∧ nbits (c.cdw 11) 16 16 ≠ 0 ∧ (mfind s.hpt.cqs (nbits (c.cdw 11) 16 16)).isSome = true ∧ base % 4096 = 0) ∧
    (∃ (s : State) (id : Nat) (c : Cmd), s.ok = true ∧ let qid := nbits (c.cdw 10) 0 16; let size := nbits (c.cdw 10) 16 16; s.AdminReady id c 1 ∧ c.port = 0 ∧ qid ≠ 0 ∧ qid ≤ s.fld HPT_QCFG_IOQ ∧ mfind s.hpt.sqs qid = none ∧ 1 ≤ size ∧ size ≤ 16383 ∧ nbit (c.cdw 11) 0 = true ∧ nbits (c.cdw 11) 16 16 ≠ 0 ∧ mfind s.hpt.cqs (nbits (c.cdw 11) 16 16) = none) ∧
    (∃ (s : State) (id : Nat) (c : Cmd), s.ok = true ∧ let qid := nbits (c.cdw 10) 0 16; s.AdminReady id c 4 ∧ c.port = 0 ∧ qid ≠ 0 ∧ (mfind s.hpt.cqs qid).isSome = true ∧ sortedFrom none s.hpt.cqs = true ∧ (∀ (q : Nat × Sq), q ∈ s.hpt.sqs → q.snd.cq ≠ qid)) ∧
    (∃ (s : State) (id : Nat) (c : Cmd), s.ok = true ∧ let qid := nbits (c.cdw 10) 0 16; s.AdminReady id c 4 ∧ c.port = 0 ∧ qid ≠ 0 ∧ (mfind s.hpt.cqs qid).isSome = true ∧ sortedFrom none s.hpt.cqs = true ∧ (∃ (q : Nat × Sq), q ∈ s.hpt.sqs ∧ q.snd.cq = qid)) ∧
    (∃ (s : State) (id : Nat) (c : Cmd), s.ok = true ∧ let qid := nbits (c.cdw 10) 0 16; ∃ (q : Sq), s.AdminReady id c 0 ∧ c.port = 0 ∧ qid ≠ 0 ∧ s.hpt.sqs = [(qid, q)] ∧ q.del = none ∧ (∀ (e : Nat × Cmd), e ∈ s.cmds → e.snd.port ≠ 0 ∨ e.snd.sq ≠ qid)) ∧
    (∃ (s : State) (id : Nat) (c : Cmd), s.ok = true ∧ let qid := nbits (c.cdw 10) 0 16; let size := nbits (c.cdw 10) 16 16; s.AdminReady id c 8 ∧ ((List.filter (fun (e : Nat × Cmd) => decide (e.snd.port = c.port) && e.snd.isAdmin && decide (e.snd.opc = 8)) s.cmds).length ≤ 4) ∧ ∃ (k : Nat) (d : Cmd), k ≠ id ∧ (List.find? (fun (e : Nat × Cmd) => decide (e.snd.port = c.port) && e.fst != id && decide (e.snd.sq = qid) && decide (e.snd.cid = size) && !e.snd.passed && (decide (e.snd.phase = 0) || decide (e.snd.phase = 8) || s.hpt.fwWait.any fun (w : Nat × Nat) => decide (w.fst = e.fst))) s.cmds = some (k, d)) ∧ s.cmd k = some d) ∧
    (∃ (s : State) (id : Nat) (c : Cmd), s.ok = true ∧ let qid := nbits (c.cdw 10) 0 16; let size := nbits (c.cdw 10) 16 16; s.AdminReady id c 8 ∧ ((List.filter (fun (e : Nat × Cmd) => decide (e.snd.port = c.port) && e.snd.isAdmin && decide (e.snd.opc = 8)) s.cmds).length ≤ 4) ∧ (List.find? (fun (e : Nat × Cmd) => decide (e.snd.port = c.port) && e.fst != id && decide (e.snd.sq = qid) && decide (e.snd.cid = size) && !e.snd.passed && (decide (e.snd.phase = 0) || decide (e.snd.phase = 8) || s.hpt.fwWait.any fun (w : Nat × Nat) => decide (w.fst = e.fst))) s.cmds = none)) ∧
    (∃ (s : State) (id : Nat) (c : Cmd), s.ok = true ∧ let f : Nat := nbits (c.cdw 10) 0 8; s.AdminReady id c 9 ∧ nbit (c.cdw 10) 31 = false ∧ f = 11) ∧
    (∃ (s : State) (id : Nat) (c : Cmd), s.ok = true ∧ let f : Nat := nbits (c.cdw 10) 0 8; s.AdminReady id c 9 ∧ nbit (c.cdw 10) 31 = false ∧ f = 7 ∧ c.port = 0 ∧ (∀ (q : Nat × Sq), q ∈ s.hpt.sqs → q.fst = 0) ∧ (∀ (q : Nat × Cq), q ∈ s.hpt.cqs → q.fst = 0)) ∧
    (∃ (s : State) (id : Nat) (c : Cmd), s.ok = true ∧ let f : Nat := nbits (c.cdw 10) 0 8; s.AdminReady id c 10 ∧ hwFeature f = true ∧ f ≠ 9 ∧ nbits (c.cdw 10) 8 3 = 0) ∧
    (∃ (s : State) (id : Nat) (c : Cmd), s.ok = true ∧ let f : Nat := nbits (c.cdw 10) 0 8; s.AdminReady id c 10 ∧ hwFeature f = true ∧ f ≠ 9 ∧ nbits (c.cdw 10) 8 3 = 1) ∧
    (∃ (s : State) (id : Nat) (c : Cmd), s.ok = true ∧ s.AdminReady id c 12 ∧ (∀ (a : Nat), a ∈ s.hpt.aers → s.cmd a = none ∨ ∃ (x : Cmd), s.cmd a = some x ∧ x.port ≠ c.port) ∧ s.hpt.aenQ = []) ∧
    (∃ (s : State) (id : Nat) (c : Cmd), s.ok = true ∧ s.AdminReady id c 12 ∧ (∀ (a : Nat), a ∈ s.hpt.aers → s.cmd a = none ∨ ∃ (x : Cmd), s.cmd a = some x ∧ x.port ≠ c.port) ∧ ∃ (v : Nat) (r : List Nat), s.hpt.aenQ = v :: r) := by
  refine ⟨?_, ?_, ?_, ?_, ?_, ?_, ?_, ?_, ?_, ?_, ?_, ?_, ?_, ?_, ?_⟩
  · refine ⟨queued (admin 5 0 [(6, 20480), (10, 3 + 7 * 2 ^ 16), (11, 3 + 5 * 2 ^ 16)]), 4, adm 5 0 [(6, 20480), (10, 3 + 7 * 2 ^ 16), (11, 3 + 5 * 2 ^ 16)], ?_, ?_, ?_, ?_, ?_, ?_, ?_, ?_, ?_, ?_, ?_⟩ <;>
    first | decide +kernel | exact nextOf_eq (by decide +kernel) | exact Prod.ext (nextOf_eq (by decide +kernel)) (by decide +kernel) | exact Prod.ext rfl (by decide +kernel) | (intro _ h; cases h; done) | (intro _ _ h; cases h; done) | rfl
  · refine ⟨queued (admin 5 0 [(10, 2 ^ 16)]), 4, adm 5 0 [(10, 2 ^ 16)], ?_, ?_, ?_, ?_⟩ <;>
    first | decide +kernel | exact nextOf_eq (by decide +kernel) | exact Prod.ext (nextOf_eq (by decide +kernel)) (by decide +kernel) | exact Prod.ext rfl (by decide +kernel) | (intro _ h; cases h; done) | (intro _ _ h; cases h; done) | rfl
  · refine ⟨queued (admin 1 0 [(6, 24576), (10, 3 + 7 * 2 ^ 16), (11, 3 + 2 * 2 ^ 16)]), 4, adm 1 0 [(6, 24576), (10, 3 + 7 * 2 ^ 16), (11, 3 + 2 * 2 ^ 16)], ?_, ?_, ?_, ?_, ?_, ?_, ?_, ?_, ?_, ?_, ?_, ?_⟩ <;>
    first | decide +kernel | exact nextOf_eq (by decide +kernel) | exact Prod.ext (nextOf_eq (by decide +kernel)) (by decide +kernel) | exact Prod.ext rfl (by decide +kernel) | (intro _ h; cases h; done) | (intro _ _ h; cases h; done) | rfl
  · refine ⟨queued (admin 1 0 [(10, 3 + 7 * 2 ^ 16), (11, 3 + 9 * 2 ^ 16)]), 4, adm 1 0 [(10, 3 + 7 * 2 ^ 16), (11, 3 + 9 * 2 ^ 16)], ?_, ?_, ?_, ?_, ?_, ?_, ?_, ?_, ?_, ?_, ?_⟩ <;>
    first | decide +kernel | exact nextOf_eq (by decide +kernel) | exact Prod.ext (nextOf_eq (by decide +kernel)) (by decide +kernel) | exact Prod.ext rfl (by decide +kernel) | (intro _ h; cases h; done) | (intro _ _ h; cases h; done) | rfl
  · refine ⟨queued (admin 4 0 [(10, 1)]), 4, adm 4 0 [(10, 1)], ?_, ?_, ?_, ?_, ?_, ?_, ?_⟩ <;>
    first | decide +kernel | exact nextOf_eq (by decide +kernel) | exact Prod.ext (nextOf_eq (by decide +kernel)) (by decide +kernel) | exact Prod.ext rfl (by decide +kernel) | (intro _ h; cases h; done) | (intro _ _ h; cases h; done) | rfl
  · refine ⟨queued (admin 4 0 [(10, 2)]), 4, adm 4 0 [(10, 2)], ?_, ?_, ?_, ?_, ?_, ?_, ?_⟩ <;>
    first | decide +kernel | exact nextOf_eq (by decide +kernel) | exact Prod.ext (nextOf_eq (by decide +kernel)) (by decide +kernel) | exact Prod.ext rfl (by decide +kernel) | (intro _ h; cases h; done) | (intro _ _ h; cases h; done) | rfl
  · refine ⟨queued (admin 0 0 [(10, 1)]), 4, adm 0 0 [(10, 1)], ?_, { size := 4, cq := 2 }, ?_, ?_, ?_, ?_, ?_, ?_⟩ <;>
    first | decide +kernel | exact nextOf_eq (by decide +kernel) | exact Prod.ext (nextOf_eq (by decide +kernel)) (by decide +kernel) | exact Prod.ext rfl (by decide +kernel) | (intro _ h; cases h; done) | (intro _ _ h; cases h; done) | rfl
  · refine ⟨aborting, 4, adm 8 0 [(10, 1 + 77 * 2 ^ 16)], ?_, ?_, ?_, 6, { sq := 1, cid := 77, sqe := 2 }, ?_, ?_, ?_⟩ <;>
    first | decide +kernel | exact nextOf_eq (by decide +kernel) | exact Prod.ext (nextOf_eq (by decide +kernel)) (by decide +kernel) | exact Prod.ext rfl (by decide +kernel) | (intro _ h; cases h; done) | (intro _ _ h; cases h; done) | rfl
  · refine ⟨queued (admin 8 0 [(10, 1 + 78 * 2 ^ 16)]), 4, adm 8 0 [(10, 1 + 78 * 2 ^ 16)], ?_, ?_, ?_, ?_⟩ <;>
    first | decide +kernel | exact nextOf_eq (by decide +kernel) | exact Prod.ext (nextOf_eq (by decide +kernel)) (by decide +kernel) | exact Prod.ext rfl (by decide +kernel) | (intro _ h; cases h; done) | (intro _ _ h; cases h; done) | rfl
  · refine ⟨admin 9 0 [(10, 11), (11, 48)], 4, adm 9 0 [(10, 11), (11, 48)], ?_, ?_, ?_, ?_⟩ <;>
    first | decide +kernel | exact nextOf_eq (by decide +kernel) | exact Prod.ext (nextOf_eq (by decide +kernel)) (by decide +kernel) | exact Prod.ext rfl (by decide +kernel) | (intro _ h; cases h; done) | (intro _ _ h; cases h; done) | rfl
  · refine ⟨admin 9 0 [(10, 7), (11, 196611)], 4, adm 9 0 [(10, 7), (11, 196611)], ?_, ?_, ?_, ?_, ?_, ?_, ?_⟩ <;>
    first | decide +kernel | exact nextOf_eq (by decide +kernel) | exact Prod.ext (nextOf_eq (by decide +kernel)) (by decide +kernel) | exact Prod.ext rfl (by decide +kernel) | (intro _ h; cases h; done) | (intro _ _ h; cases h; done) | rfl
  · refine ⟨admin 10 0 [(10, 11)], 4, adm 10 0 [(10, 11)], ?_, ?_, ?_, ?_, ?_⟩ <;>
    first | decide +kernel | exact nextOf_eq (by decide +kernel) | exact Prod.ext (nextOf_eq (by decide +kernel)) (by decide +kernel) | exact Prod.ext rfl (by decide +kernel) | (intro _ h; cases h; done) | (intro _ _ h; cases h; done) | rfl
  · refine ⟨admin 10 0 [(10, 263)], 4, adm 10 0 [(10, 263)], ?_, ?_, ?_, ?_, ?_⟩ <;>
    first | decide +kernel | exact nextOf_eq (by decide +kernel) | exact Prod.ext (nextOf_eq (by decide +kernel)) (by decide +kernel) | exact Prod.ext rfl (by decide +kernel) | (intro _ h; cases h; done) | (intro _ _ h; cases h; done) | rfl
  · refine ⟨admin 12 0 [], 4, adm 12 0 [], ?_, ?_, ?_, ?_⟩ <;>
    first | decide +kernel | exact nextOf_eq (by decide +kernel) | exact Prod.ext (nextOf_eq (by decide +kernel)) (by decide +kernel) | exact Prod.ext rfl (by decide +kernel) | (intro _ h; cases h; done) | (intro _ _ h; cases h; done) | rfl
  · refine ⟨aerQueued, 4, adm 12 0 [], ?_, ?_, ?_, 3, [4], ?_⟩ <;>
    first | decide +kernel | exact nextOf_eq (by decide +kernel) | exact Prod.ext (nextOf_eq (by decide +kernel)) (by decide +kernel) | exact Prod.ext rfl (by decide +kernel) | (intro _ h; cases h; done) | (intro _ _ h; cases h; done) | rfl

theorem witness_NamespacesAreCreatedAttachedAndReserved :
    (∃ (s : State) (id : Nat) (c : Cmd), s.ok = true ∧ ∃ (host slot : Nat) (rd l : List (Nat × Nat)), s.AdminReady id c 13 ∧ s.Ptrs c 4096 [] rd l ∧ slot < 128 ∧ let d : Nat := c.input host; let n := nbits d 0 64; let lbas := nbits d 208 8; nbits (c.cdw 10) 0 4 = 0 ∧ n = nbits d 64 64 ∧ n ≠ 0 ∧ lbas ≤ 1 ∧ nbits d 232 8 = 0 ∧ mfind s.hpt.reserved c.ctl = some slot ∧ s.unitsFor slot n lbas ≤ mget 0 s.txe.maxUnits slot ∧ s.nsExists slot = false ∧ s.flag TXE_NSCFG_ZEROING slot = false ∧ s.mirrored slot = false) ∧
    (∃ (s : State) (id : Nat) (c : Cmd), s.ok = true ∧ s.AdminReady id c 13 ∧ nbits (c.cdw 10) 0 4 = 1 ∧ let slots := (s.namedSlots c).filter fun k => !(s.txe.deleting.any fun d => d.1 = k); slots ≠ [] ∧ (∀ (k : Nat), k ∈ slots → s.mirrored k = false)) ∧
    (∃ (s : State) (id : Nat) (c : Cmd), s.ok = true ∧ s.AdminReady id c 13 ∧ nbits (c.cdw 10) 0 4 = 1 ∧ let slots := (s.namedSlots c).filter fun k => !(s.txe.deleting.any fun d => d.1 = k); slots = [] ∧ c.nsid ≠ 4294967295) ∧
    (∃ (s : State) (id : Nat) (c : Cmd), s.ok = true ∧ ∃ (host slot : Nat) (rd segs : List (Nat × Nat)), s.AdminReady id c 21 ∧ s.Ptrs c 4096 [] rd segs ∧ s.slotOf c.nsid = some slot ∧ s.nsExists slot = true ∧ slot < 128 ∧ let d : Nat := c.input host; let l := (List.range (min (nbits d 0 16) 2047)).map fun i => nbits d (16 + 16 * i) 16; let now := mget [] s.hpt.attach slot; l ≠ [] ∧ (∀ (x : Nat), x ∈ l → s.ctlExists x = true ∧ s.visible x slot = true) ∧ sortedFrom none s.hpt.attach = true ∧ nbits (c.cdw 10) 0 4 = 0 ∧ (∀ (x : Nat), x ∈ l → ¬x ∈ now)) ∧
    (∃ (s : State) (id : Nat) (c : Cmd), s.ok = true ∧ ∃ (host slot : Nat) (rd segs : List (Nat × Nat)), s.AdminReady id c 21 ∧ s.Ptrs c 4096 [] rd segs ∧ s.slotOf c.nsid = some slot ∧ s.nsExists slot = true ∧ slot < 128 ∧ let d : Nat := c.input host; let l := (List.range (min (nbits d 0 16) 2047)).map fun i => nbits d (16 + 16 * i) 16; let now := mget [] s.hpt.attach slot; l ≠ [] ∧ (∀ (x : Nat), x ∈ l → s.ctlExists x = true ∧ s.visible x slot = true) ∧ sortedFrom none s.hpt.attach = true ∧ nbits (c.cdw 10) 0 4 = 1 ∧ (∀ (x : Nat), x ∈ l → x ∈ now)) ∧
    (∃ (s : State) (id : Nat) (c : Cmd), s.ok = true ∧ s.AdminReady id c 128 ∧ nbits (c.cdw 10) 0 4 ≤ 1 ∧ nbits (c.cdw 10) 9 3 ≤ 1 ∧ nbits (c.cdw 10) 4 5 = 0 ∧ nbits (c.cdw 10) 12 2 = 0 ∧ s.namedSlots c ≠ [] ∧ (∀ (k : Nat), k ∈ s.namedSlots c → s.mirrored k = false ∧ (∀ (d : Nat × Nat × Nat × Nat), d ∈ s.hpt.format → d.fst ≠ k) ∧ ∀ (d : Nat × Nat × Nat × Nat), d ∈ s.txe.deleting → d.fst ≠ k)) ∧
    (∃ (s : State) (id : Nat) (c : Cmd), s.ok = true ∧ s.AdminReady id c 196 ∧ nbit (c.cdw 10) 31 = true ∧ sortedFrom none s.hpt.reserved = true) ∧
    (∃ (s : State) (id : Nat) (c : Cmd), s.ok = true ∧ s.AdminReady id c 196 ∧ let slot := nbits (c.cdw 10) 0 7; nbit (c.cdw 10) 31 = false ∧ s.flag TXE_NSCFG_DECL slot = true ∧ s.nsExists slot = false ∧ s.flag TXE_NSCFG_ZEROING slot = false ∧ s.visible 1 slot = true ∧ (∀ (r : Nat × Nat), r ∈ s.hpt.reserved → r.snd = slot → r.fst = c.ctl)) ∧
    (∃ (s : State) (id : Nat) (c : Cmd), s.ok = true ∧ s.AdminReady id c 196 ∧ let slot := nbits (c.cdw 10) 0 7; nbit (c.cdw 10) 31 = false ∧ (s.flag TXE_NSCFG_DECL slot = false ∨ s.nsExists slot = true)) := by
  refine ⟨?_, ?_, ?_, ?_, ?_, ?_, ?_, ?_, ?_⟩
  · refine ⟨nsHost (adm 13 0 [(10, 0)]), 4, adm 13 0 [(10, 0)], ?_, createData, 127, [], [(0, 4096)], ?_, ?_, ?_, ?_, ?_, ?_, ?_, ?_, ?_, ?_, ?_, ?_, ?_⟩ <;>
    first | decide +kernel | exact nextOf_eq (by decide +kernel) | exact Prod.ext (nextOf_eq (by decide +kernel)) (by decide +kernel) | exact Prod.ext rfl (by decide +kernel) | (intro _ h; cases h; done) | (intro _ _ h; cases h; done) | rfl
  · refine ⟨nsHost (adm 13 1 [(10, 1)]), 4, adm 13 1 [(10, 1)], ?_, ?_, ?_, ?_, ?_⟩ <;>
    first | decide +kernel | exact nextOf_eq (by decide +kernel) | exact Prod.ext (nextOf_eq (by decide +kernel)) (by decide +kernel) | exact Prod.ext rfl (by decide +kernel) | (intro _ h; cases h; done) | (intro _ _ h; cases h; done) | rfl
  · refine ⟨nsHost (adm 13 9 [(10, 1)]), 4, adm 13 9 [(10, 1)], ?_, ?_, ?_, ?_, ?_⟩ <;>
    first | decide +kernel | exact nextOf_eq (by decide +kernel) | exact Prod.ext (nextOf_eq (by decide +kernel)) (by decide +kernel) | exact Prod.ext rfl (by decide +kernel) | (intro _ h; cases h; done) | (intro _ _ h; cases h; done) | rfl
  · refine ⟨let __src := nsHost (adm 21 1 [(10, 0)]); { __src with hpt :=     let __src := __src.hpt;     { __src with attach := [(0, [5])] } }, 4, adm 21 1 [(10, 0)], ?_, ctlList, 0, [], [(0, 4096)], ?_, ?_, ?_, ?_, ?_, ?_, ?_, ?_, ?_, ?_⟩ <;>
    first | decide +kernel | exact nextOf_eq (by decide +kernel) | exact Prod.ext (nextOf_eq (by decide +kernel)) (by decide +kernel) | exact Prod.ext rfl (by decide +kernel) | (intro _ h; cases h; done) | (intro _ _ h; cases h; done) | rfl
  · refine ⟨nsHost (adm 21 1 [(10, 1)]), 4, adm 21 1 [(10, 1)], ?_, ctlList, 0, [], [(0, 4096)], ?_, ?_, ?_, ?_, ?_, ?_, ?_, ?_, ?_, ?_⟩ <;>
    first | decide +kernel | exact nextOf_eq (by decide +kernel) | exact Prod.ext (nextOf_eq (by decide +kernel)) (by decide +kernel) | exact Prod.ext rfl (by decide +kernel) | (intro _ h; cases h; done) | (intro _ _ h; cases h; done) | rfl
  · refine ⟨nsHost (adm 128 1 [(10, 513)]), 4, adm 128 1 [(10, 513)], ?_, ?_, ?_, ?_, ?_, ?_, ?_, ?_⟩ <;>
    first | decide +kernel | exact nextOf_eq (by decide +kernel) | exact Prod.ext (nextOf_eq (by decide +kernel)) (by decide +kernel) | exact Prod.ext rfl (by decide +kernel) | (intro _ h; cases h; done) | (intro _ _ h; cases h; done) | rfl
  · refine ⟨nsHost (adm 196 0 [(10, 2 ^ 31)]), 4, adm 196 0 [(10, 2 ^ 31)], ?_, ?_, ?_, ?_⟩ <;>
    first | decide +kernel | exact nextOf_eq (by decide +kernel) | exact Prod.ext (nextOf_eq (by decide +kernel)) (by decide +kernel) | exact Prod.ext rfl (by decide +kernel) | (intro _ h; cases h; done) | (intro _ _ h; cases h; done) | rfl
  · refine ⟨nsHost (adm 196 0 [(10, 127)]), 4, adm 196 0 [(10, 127)], ?_, ?_, ?_, ?_, ?_, ?_, ?_, ?_⟩ <;>
    first | decide +kernel | exact nextOf_eq (by decide +kernel) | exact Prod.ext (nextOf_eq (by decide +kernel)) (by decide +kernel) | exact Prod.ext rfl (by decide +kernel) | (intro _ h; cases h; done) | (intro _ _ h; cases h; done) | rfl
  · refine ⟨nsHost (adm 196 0 [(10, 0)]), 4, adm 196 0 [(10, 0)], ?_, ?_, ?_, ?_⟩ <;>
    first | decide +kernel | exact nextOf_eq (by decide +kernel) | exact Prod.ext (nextOf_eq (by decide +kernel)) (by decide +kernel) | exact Prod.ext rfl (by decide +kernel) | (intro _ h; cases h; done) | (intro _ _ h; cases h; done) | rfl

theorem witness_IoCommandsPassTheirChecksAndFirmwareTransfers :
    (∃ (s : State), s.ok = true ∧ ∃ (id slot : Nat) (c : Cmd), s.IoReady id c 0 slot 0 0 false false) ∧
    (∃ (s : State), s.ok = true ∧ ∃ (id slot : Nat) (c : Cmd) (ptrs : List Nat) (rd l : List (Nat × Nat)), let n := c.nlbOf * s.lbaBytes slot; s.IoReady id c 2 slot c.slbaOf c.nlbOf false true ∧ s.Ptrs c n ptrs rd l) ∧
    (∃ (s : State), s.ok = true ∧ ∃ (id slot : Nat) (c : Cmd), s.IoReady id c 12 slot c.slbaOf c.nlbOf false false) ∧
    (∃ (s : State), s.ok = true ∧ ∃ (id slot : Nat) (c : Cmd) (ptrs : List Nat) (rd l : List (Nat × Nat)), let n := c.nlbOf * s.lbaBytes slot; let here := (s.mirrored slot && s.follows && s.pairState = 2) = false; s.IoReady id c 1 slot c.slbaOf c.nlbOf true true ∧ s.Ptrs c n ptrs rd l ∧ here) ∧
    (∃ (s : State), s.ok = true ∧ ∃ (id slot : Nat) (c : Cmd), let here := (s.mirrored slot && s.follows && s.pairState = 2) = false; s.IoReady id c 8 slot c.slbaOf c.nlbOf true false ∧ here) ∧
    (∃ (s : State), s.ok = true ∧ ∃ (id slot : Nat) (c : Cmd) (host : Nat) (ptrs : List Nat) (rd l : List (Nat × Nat)), let here := (s.mirrored slot && s.follows && s.pairState = 2) = false; nbit (c.cdw 11) 2 = true ∧ s.IoReady id c 9 slot 0 0 true false ∧ here ∧ let rs := (List.range (nbits (c.cdw 10) 0 8 + 1)).map fun i => (slot, nbits (c.input host) (128 * i + 64) 64, nbits (c.input host) (128 * i + 32) 32); s.Ptrs c (16 * rs.length) ptrs rd l ∧ (∀ (r : Nat × Nat × Nat), r ∈ rs → r.snd.fst + r.snd.snd ≤ mget 0 s.txe.nsze slot)) ∧
    (∃ (s : State), s.ok = true ∧ ∃ (id slot : Nat) (c : Cmd), nbit (c.cdw 11) 2 = false ∧ s.IoReady id c 9 slot 0 0 false false) ∧
    (∃ (s : State), s.ok = true ∧ ∃ (m : MasterId) (i : BitVec 12) (e : FwEnt), s.MayWrite m.val HPT_XCTL ∧ s.flag HPT_XSTAT_BUSY = false ∧ mfind s.hpt.fw i.toNat = some e ∧ s.fld HPT_XLEN_BYTES = 0) ∧
    (∃ (s : State), s.ok = true ∧ ∃ (m : MasterId) (i : BitVec 12) (e : FwEnt), s.MayWrite m.val HPT_XCTL ∧ s.flag HPT_XSTAT_BUSY = false ∧ mfind s.hpt.fw i.toNat = some e ∧ s.fld HPT_XLEN_BYTES ≠ 0 ∧ e.dead = false) ∧
    (∃ (s : State), s.ok = true ∧ ∃ (m : MasterId) (i : BitVec 12) (e : FwEnt), s.MayWrite m.val HPT_XCTL ∧ s.flag HPT_XSTAT_BUSY = false ∧ mfind s.hpt.fw i.toNat = some e ∧ s.fld HPT_XLEN_BYTES ≠ 0 ∧ e.dead = true) ∧
    (∃ (s : State), s.ok = true ∧ ∃ (i : BitVec 12) (e : FwEnt) (c : Cmd), s.cur HPT_FWTO_MS ≠ 0 ∧ mfind s.hpt.fw i.toNat = some e ∧ e.dead = false ∧ e.at' + 100000 * s.cur HPT_FWTO_MS ≤ s.mtime ∧ s.cmd e.cmd = some c) ∧
    (∃ (s : State), s.ok = true ∧ ∃ (i dir a ofs n : Nat) (e : FwEnt) (ptrs : List Nat) (v : Nat) (s1 : State), s.hpt.xfer = some (i, dir, a, ofs, n) ∧ mfind s.hpt.fw i = some e ∧ ∃ (c : Cmd) (rd segs : List (Nat × Nat)), e.dead = false ∧ s.cmd e.cmd = some c ∧ s.xferSegs c ofs n ptrs = some (rd, segs) ∧ dir = 0 ∧ memRead s 10 Acc.read a n = (s1, MemR.ok v) ∧ s1.ok = true) ∧
    (∃ (s : State), s.ok = true ∧ ∃ (i dir a ofs n : Nat) (e : FwEnt) (ptrs : List Nat) (data w : Nat) (s1 : State), s.hpt.xfer = some (i, dir, a, ofs, n) ∧ mfind s.hpt.fw i = some e ∧ ∃ (c : Cmd) (rd segs : List (Nat × Nat)), e.dead = false ∧ s.cmd e.cmd = some c ∧ s.xferSegs c ofs n ptrs = some (rd, segs) ∧ dir ≠ 0 ∧ memWrite s 10 Acc.write a n (data % 2 ^ (8 * n)) = (s1, MemR.ok w) ∧ s1.ok = true) ∧
    (∃ (s : State), s.ok = true ∧ ∃ (i dir a ofs n : Nat) (e : FwEnt) (ptrs : List Nat), s.hpt.xfer = some (i, dir, a, ofs, n) ∧ mfind s.hpt.fw i = some e ∧ (e.dead = true ∨ s.cmd e.cmd = none ∨ ∃ (c : Cmd), s.cmd e.cmd = some c ∧ s.xferSegs c ofs n ptrs = none)) ∧
    (∃ (s : State), s.ok = true ∧ ∃ (id slot : Nat) (c : Cmd) (st : Nat), s.cmd id = some c ∧ c.phase = 0 ∧ c.isAdmin = false ∧ c.port < 8192 ∧ c.opc = 2 ∧ s.cmdsWait = false ∧ s.fabTakes id c = true ∧ c.fuse = 0 ∧ s.slotOf c.nsid = some slot ∧ s.ioStatus c slot c.slbaOf c.nlbOf false true = some st) ∧
    (∃ (s : State), s.ok = true ∧ ∃ (id slot : Nat) (c : Cmd) (ptrs : List Nat), let n := c.nlbOf * s.lbaBytes slot; ∃ (st : Nat), s.IoReady id c 2 slot c.slbaOf c.nlbOf false true ∧ c.port = 0 ∧ s.dataPtrs c n ptrs = Except.error st ∧ st ≠ 0) := by
  refine ⟨?_, ?_, ?_, ?_, ?_, ?_, ?_, ?_, ?_, ?_, ?_, ?_, ?_, ?_, ?_, ?_⟩
  · refine ⟨io 0 1 [], ?_, 4, 0, ioc 0 1 [], ?_⟩ <;>
    first | decide +kernel | exact nextOf_eq (by decide +kernel) | exact Prod.ext (nextOf_eq (by decide +kernel)) (by decide +kernel) | exact Prod.ext rfl (by decide +kernel) | (intro _ h; cases h; done) | (intro _ _ h; cases h; done) | rfl
  · refine ⟨io 2 1 [(10, 3), (12, 1)], ?_, 4, 0, ioc 2 1 [(10, 3), (12, 1)], [], [], [(0, 4096), (0, 4096)], ?_, ?_⟩ <;>
    first | decide +kernel | exact nextOf_eq (by decide +kernel) | exact Prod.ext (nextOf_eq (by decide +kernel)) (by decide +kernel) | exact Prod.ext rfl (by decide +kernel) | (intro _ h; cases h; done) | (intro _ _ h; cases h; done) | rfl
  · refine ⟨io 12 1 [(10, 9)], ?_, 4, 0, ioc 12 1 [(10, 9)], ?_⟩ <;>
    first | decide +kernel | exact nextOf_eq (by decide +kernel) | exact Prod.ext (nextOf_eq (by decide +kernel)) (by decide +kernel) | exact Prod.ext rfl (by decide +kernel) | (intro _ h; cases h; done) | (intro _ _ h; cases h; done) | rfl
  · refine ⟨io 1 1 [(10, 9)], ?_, 4, 0, ioc 1 1 [(10, 9)], [], [], [(0, 4096)], ?_, ?_, ?_⟩ <;>
    first | decide +kernel | exact nextOf_eq (by decide +kernel) | exact Prod.ext (nextOf_eq (by decide +kernel)) (by decide +kernel) | exact Prod.ext rfl (by decide +kernel) | (intro _ h; cases h; done) | (intro _ _ h; cases h; done) | rfl
  · refine ⟨io 8 1 [(10, 9)], ?_, 4, 0, ioc 8 1 [(10, 9)], ?_, ?_⟩ <;>
    first | decide +kernel | exact nextOf_eq (by decide +kernel) | exact Prod.ext (nextOf_eq (by decide +kernel)) (by decide +kernel) | exact Prod.ext rfl (by decide +kernel) | (intro _ h; cases h; done) | (intro _ _ h; cases h; done) | rfl
  · refine ⟨io 9 1 [(11, 4)], ?_, 4, 0, ioc 9 1 [(11, 4)], 4, [], [], [(0, 16)], ?_, ?_, ?_, ?_, ?_⟩ <;>
    first | decide +kernel | exact nextOf_eq (by decide +kernel) | exact Prod.ext (nextOf_eq (by decide +kernel)) (by decide +kernel) | exact Prod.ext rfl (by decide +kernel) | (intro _ h; cases h; done) | (intro _ _ h; cases h; done) | rfl
  · refine ⟨io 9 1 [], ?_, 4, 0, ioc 9 1 [], ?_, ?_⟩ <;>
    first | decide +kernel | exact nextOf_eq (by decide +kernel) | exact Prod.ext (nextOf_eq (by decide +kernel)) (by decide +kernel) | exact Prod.ext rfl (by decide +kernel) | (intro _ h; cases h; done) | (intro _ _ h; cases h; done) | rfl
  · refine ⟨xferOut, ?_, 0, 64, { cmd := 4 }, ?_, ?_, ?_, ?_⟩ <;>
    first | decide +kernel | exact nextOf_eq (by decide +kernel) | exact Prod.ext (nextOf_eq (by decide +kernel)) (by decide +kernel) | exact Prod.ext rfl (by decide +kernel) | (intro _ h; cases h; done) | (intro _ _ h; cases h; done) | rfl
  · refine ⟨xfers false, ?_, 0, 64, { cmd := 4 }, ?_, ?_, ?_, ?_, ?_⟩ <;>
    first | decide +kernel | exact nextOf_eq (by decide +kernel) | exact Prod.ext (nextOf_eq (by decide +kernel)) (by decide +kernel) | exact Prod.ext rfl (by decide +kernel) | (intro _ h; cases h; done) | (intro _ _ h; cases h; done) | rfl
  · refine ⟨xfers true, ?_, 0, 64, { cmd := 4, dead := true }, ?_, ?_, ?_, ?_, ?_⟩ <;>
    first | decide +kernel | exact nextOf_eq (by decide +kernel) | exact Prod.ext (nextOf_eq (by decide +kernel)) (by decide +kernel) | exact Prod.ext rfl (by decide +kernel) | (intro _ h; cases h; done) | (intro _ _ h; cases h; done) | rfl
  · refine ⟨fwLate, ?_, 64, { cmd := 4 }, ioc 0 1 [], ?_, ?_, ?_, ?_, ?_⟩ <;>
    first | decide +kernel | exact nextOf_eq (by decide +kernel) | exact Prod.ext (nextOf_eq (by decide +kernel)) (by decide +kernel) | exact Prod.ext rfl (by decide +kernel) | (intro _ h; cases h; done) | (intro _ _ h; cases h; done) | rfl
  · refine ⟨xferOut, ?_, 64, 0, 536870912, 64, 64, { cmd := 4 }, [], 0, (memRead xferOut 10 Acc.read 536870912 64).fst, ?_, ?_, ioc 2 1 [(10, 3), (12, 1)], [], [(64, 64)], ?_, ?_, ?_, ?_, ?_, ?_⟩ <;>
    first | decide +kernel | exact nextOf_eq (by decide +kernel) | exact Prod.ext (nextOf_eq (by decide +kernel)) (by decide +kernel) | exact Prod.ext rfl (by decide +kernel) | (intro _ h; cases h; done) | (intro _ _ h; cases h; done) | rfl
  · refine ⟨xferIn, ?_, 64, 1, 536870912, 64, 64, { cmd := 4 }, [], 64, 0, (memWrite xferIn 10 Acc.write 536870912 64 64).fst, ?_, ?_, ioc 2 1 [(10, 3), (12, 1)], [], [(64, 64)], ?_, ?_, ?_, ?_, ?_, ?_⟩ <;>
    first | decide +kernel | exact nextOf_eq (by decide +kernel) | exact Prod.ext (nextOf_eq (by decide +kernel)) (by decide +kernel) | exact Prod.ext rfl (by decide +kernel) | (intro _ h; cases h; done) | (intro _ _ h; cases h; done) | rfl
  · refine ⟨xferGone, ?_, 64, 0, 536870912, 64, 64, { cmd := 4 }, [], ?_, ?_, ?_⟩ <;>
    first | decide +kernel | exact nextOf_eq (by decide +kernel) | exact Prod.ext (nextOf_eq (by decide +kernel)) (by decide +kernel) | exact Prod.ext rfl (by decide +kernel) | (intro _ h; cases h; done) | (intro _ _ h; cases h; done) | rfl
  · refine ⟨io 2 1 [(10, 3000)], ?_, 4, 0, ioc 2 1 [(10, 3000)], 128, ?_, ?_, ?_, ?_, ?_, ?_, ?_, ?_, ?_, ?_⟩ <;>
    first | decide +kernel | exact nextOf_eq (by decide +kernel) | exact Prod.ext (nextOf_eq (by decide +kernel)) (by decide +kernel) | exact Prod.ext rfl (by decide +kernel) | (intro _ h; cases h; done) | (intro _ _ h; cases h; done) | rfl
  · refine ⟨io 2 1 [(6, 1), (12, 1)], ?_, 4, 0, ioc 2 1 [(6, 1), (12, 1)], [], stPrpOffset, ?_, ?_, ?_, ?_⟩ <;>
    first | decide +kernel | exact nextOf_eq (by decide +kernel) | exact Prod.ext (nextOf_eq (by decide +kernel)) (by decide +kernel) | exact Prod.ext rfl (by decide +kernel) | (intro _ h; cases h; done) | (intro _ _ h; cases h; done) | rfl

theorem witness_PortsAnswerFramesAndFollowTheirLinks :
    (∃ (s : State), s.ok = true ∧ sortedFrom none s.fab.ctxs = true ∧ ∃ (p : Fin 4), s.domOn dFABRIC = true ∧ s.flag FAB_PORTSTAT_UP p.val = true) ∧
    (∃ (s : State), s.ok = true ∧ sortedFrom none s.fab.ctxs = true ∧ ∃ (p : Fin 4), s.domOn dFABRIC = true ∧ s.on FAB_PORTCTL_ENA p.val = true ∧ s.flag FAB_PORTSTAT_UP p.val = false) ∧
    (∃ (s : State), s.ok = true ∧ sortedFrom none s.fab.ctxs = true ∧ ∃ (p : Fin 4) (vid : Option (BitVec 12)) (target : Word), s.portUp p.val = true ∧ s.vidOk p.val vid = true ∧ BitVec.toNat target ≠ 0 ∧ s.cur FAB_IPV4_ADDR p.val = BitVec.toNat target) ∧
    (∃ (s : State), s.ok = true ∧ sortedFrom none s.fab.ctxs = true ∧ ∃ (p : Fin 4) (vid : Option (BitVec 12)) (t6 : BitVec 128), s.portUp p.val = true ∧ s.vidOk p.val vid = true ∧ s.portV6 p.val ≠ t6.toNat) ∧
    (∃ (s : State), s.ok = true ∧ sortedFrom none s.fab.ctxs = true ∧ ∃ (p : Fin 4) (vid : Option (BitVec 12)) (v6 : Bool), s.portUp p.val = true ∧ s.vidOk p.val vid = true ∧ s.familyOn p.val v6 = false) ∧
    (∃ (s : State), s.ok = true ∧ sortedFrom none s.fab.ctxs = true ∧ ∃ (p : Fin 4), s.portUp p.val = true ∧ sortedFrom none s.fab.fill = true) ∧
    (∃ (s : State), s.ok = true ∧ sortedFrom none s.fab.ctxs = true ∧ ∃ (p : Fin 4) (vid : Option (BitVec 12)) (v6 : Bool), s.portUp p.val = true ∧ s.vidOk p.val vid = true ∧ s.familyOn p.val v6 = true) ∧
    (∃ (s : State), s.ok = true ∧ sortedFrom none s.fab.ctxs = true ∧ ∃ (p : Fin 4) (vid : Option (BitVec 12)) (target : Word), s.portUp p.val = true ∧ s.vidOk p.val vid = true ∧ s.cur FAB_IPV4_ADDR p.val ≠ BitVec.toNat target) ∧
    (∃ (s : State), s.ok = true ∧ sortedFrom none s.fab.ctxs = true ∧ ∃ (p : Fin 4) (vid : Option (BitVec 12)), s.portUp p.val = true ∧ s.vidOk p.val vid = false) ∧
    (∃ (s : State), s.ok = true ∧ sortedFrom none s.fab.ctxs = true ∧ ∃ (p : Fin 4) (vid : Option (BitVec 12)) (t6 : BitVec 128), s.portUp p.val = true ∧ s.vidOk p.val vid = true ∧ t6.toNat ≠ 0 ∧ s.portV6 p.val = t6.toNat) := by
  refine ⟨?_, ?_, ?_, ?_, ?_, ?_, ?_, ?_, ?_, ?_⟩
  · refine ⟨fabric, ?_, ?_, 0, ?_, ?_⟩ <;>
    first | decide +kernel | exact nextOf_eq (by decide +kernel) | exact Prod.ext (nextOf_eq (by decide +kernel)) (by decide +kernel) | exact Prod.ext rfl (by decide +kernel) | (intro _ h; cases h; done) | (intro _ _ h; cases h; done) | rfl
  · refine ⟨fabric, ?_, ?_, 1, ?_, ?_, ?_⟩ <;>
    first | decide +kernel | exact nextOf_eq (by decide +kernel) | exact Prod.ext (nextOf_eq (by decide +kernel)) (by decide +kernel) | exact Prod.ext rfl (by decide +kernel) | (intro _ h; cases h; done) | (intro _ _ h; cases h; done) | rfl
  · refine ⟨fabric, ?_, ?_, 0, none, 167772161, ?_, ?_, ?_, ?_⟩ <;>
    first | decide +kernel | exact nextOf_eq (by decide +kernel) | exact Prod.ext (nextOf_eq (by decide +kernel)) (by decide +kernel) | exact Prod.ext rfl (by decide +kernel) | (intro _ h; cases h; done) | (intro _ _ h; cases h; done) | rfl
  · refine ⟨fabric, ?_, ?_, 0, none, 1, ?_, ?_, ?_⟩ <;>
    first | decide +kernel | exact nextOf_eq (by decide +kernel) | exact Prod.ext (nextOf_eq (by decide +kernel)) (by decide +kernel) | exact Prod.ext rfl (by decide +kernel) | (intro _ h; cases h; done) | (intro _ _ h; cases h; done) | rfl
  · refine ⟨fabric, ?_, ?_, 0, none, true, ?_, ?_, ?_⟩ <;>
    first | decide +kernel | exact nextOf_eq (by decide +kernel) | exact Prod.ext (nextOf_eq (by decide +kernel)) (by decide +kernel) | exact Prod.ext rfl (by decide +kernel) | (intro _ h; cases h; done) | (intro _ _ h; cases h; done) | rfl
  · refine ⟨fabric, ?_, ?_, 0, ?_, ?_⟩ <;>
    first | decide +kernel | exact nextOf_eq (by decide +kernel) | exact Prod.ext (nextOf_eq (by decide +kernel)) (by decide +kernel) | exact Prod.ext rfl (by decide +kernel) | (intro _ h; cases h; done) | (intro _ _ h; cases h; done) | rfl
  · refine ⟨fabric, ?_, ?_, 0, none, false, ?_, ?_, ?_⟩ <;>
    first | decide +kernel | exact nextOf_eq (by decide +kernel) | exact Prod.ext (nextOf_eq (by decide +kernel)) (by decide +kernel) | exact Prod.ext rfl (by decide +kernel) | (intro _ h; cases h; done) | (intro _ _ h; cases h; done) | rfl
  · refine ⟨fabric, ?_, ?_, 0, none, 0, ?_, ?_, ?_⟩ <;>
    first | decide +kernel | exact nextOf_eq (by decide +kernel) | exact Prod.ext (nextOf_eq (by decide +kernel)) (by decide +kernel) | exact Prod.ext rfl (by decide +kernel) | (intro _ h; cases h; done) | (intro _ _ h; cases h; done) | rfl
  · refine ⟨fabric, ?_, ?_, 0, some 9, ?_, ?_⟩ <;>
    first | decide +kernel | exact nextOf_eq (by decide +kernel) | exact Prod.ext (nextOf_eq (by decide +kernel)) (by decide +kernel) | exact Prod.ext rfl (by decide +kernel) | (intro _ h; cases h; done) | (intro _ _ h; cases h; done) | rfl
  · refine ⟨fabric, ?_, ?_, 3, none, 1, ?_, ?_, ?_, ?_⟩ <;>
    first | decide +kernel | exact nextOf_eq (by decide +kernel) | exact Prod.ext (nextOf_eq (by decide +kernel)) (by decide +kernel) | exact Prod.ext rfl (by decide +kernel) | (intro _ h; cases h; done) | (intro _ _ h; cases h; done) | rfl

theorem witness_ConnectionsOpenAdvanceAndClose :
    (∃ (s : State), s.ok = true ∧ sortedFrom none s.fab.ctxs = true ∧ sortedFrom none s.cmds = true ∧ ∃ (p : Fin 4) (vid : Option (BitVec 12)) (v6 : Bool), s.portUp p.val = true ∧ s.vidOk p.val vid = true ∧ s.familyOn p.val v6 = false) ∧
    (∃ (s : State), s.ok = true ∧ sortedFrom none s.fab.ctxs = true ∧ sortedFrom none s.cmds = true ∧ ∃ (p : Fin 4) (vid : Option (BitVec 12)) (v6 : Bool) (addr : BitVec 128) (rport dport : BitVec 16), s.portUp p.val = true ∧ s.vidOk p.val vid = true ∧ let slot := (List.range s.fab.maxCtx).find? fun a => (mfind s.fab.ctxs a).isNone; s.familyOn p.val v6 = true ∧ dport.toNat = s.cur FAB_TCP_LPORT ∧ (∀ (e : Nat × Ctx), e ∈ s.fab.ctxs → e.snd.port ≠ p.val ∨ e.snd.addr ≠ addr.toNat ∨ e.snd.rport ≠ rport.toNat ∨ e.snd.v6 ≠ v6) ∧ ∃ (a : Nat), slot = some a) ∧
    (∃ (s : State), s.ok = true ∧ sortedFrom none s.fab.ctxs = true ∧ sortedFrom none s.cmds = true ∧ ∃ (p : Fin 4) (vid : Option (BitVec 12)) (v6 : Bool) (dport : BitVec 16), s.portUp p.val = true ∧ s.vidOk p.val vid = true ∧ s.familyOn p.val v6 = true ∧ dport.toNat ≠ s.cur FAB_TCP_LPORT) ∧
    (∃ (s : State), s.ok = true ∧ sortedFrom none s.fab.ctxs = true ∧ sortedFrom none s.cmds = true ∧ ∃ (p : Fin 4) (vid : Option (BitVec 12)) (v6 : Bool) (addr : BitVec 128) (rport dport : BitVec 16), s.portUp p.val = true ∧ s.vidOk p.val vid = true ∧ let slot := (List.range s.fab.maxCtx).find? fun a => (mfind s.fab.ctxs a).isNone; s.familyOn p.val v6 = true ∧ dport.toNat = s.cur FAB_TCP_LPORT ∧ (∀ (e : Nat × Ctx), e ∈ s.fab.ctxs → e.snd.port ≠ p.val ∨ e.snd.addr ≠ addr.toNat ∨ e.snd.rport ≠ rport.toNat ∨ e.snd.v6 ≠ v6) ∧ slot = none) ∧
    (∃ (s : State), s.ok = true ∧ sortedFrom none s.fab.ctxs = true ∧ sortedFrom none s.cmds = true ∧ ∃ (a : Fin 4096) (x : Ctx), mfind s.fab.ctxs a.val = some x ∧ s.portUp x.port = true ∧ ∃ (seq : Word) (len : BitVec 16) (ack : Word) (ece : Bool) (prio : Fin 8) (drained : Nat), let s1 := rxDrain x.port prio drained s; let pfc := nbit (s.cur FAB_PORTCTL_PFCEN x.port) prio; let fwd := (ack.toNat + 2 ^ 32 - x.una) % 2 ^ 32; let rcv := if seq.toNat = x.rcv ∧ x.state ≠ 5 then (x.rcv + len.toNat) % 2 ^ 32 else x.rcv; 
            let y := if 0 < fwd ∧ fwd ≤ (x.snd + 2 ^ 32 - x.una) % 2 ^ 32 then ccAck fwd ece { x with rcv := rcv, una := ack.toNat, retries := 0, sentAt := s.mtime }
              else { x with rcv := rcv }
            (s1.rxFull x.port len.toNat = false ∨ pfc = true) ∧ 2 ≤ x.state ∧ (x.state ≠ 5 ∨ y.una ≠ x.snd)) ∧
    (∃ (s : State), s.ok = true ∧ sortedFrom none s.fab.ctxs = true ∧ sortedFrom none s.cmds = true ∧ ∃ (a : Fin 4096) (x : Ctx), mfind s.fab.ctxs a.val = some x ∧ s.portUp x.port = true ∧ x.state ≠ 5) ∧
    (∃ (s : State), s.ok = true ∧ sortedFrom none s.fab.ctxs = true ∧ sortedFrom none s.cmds = true ∧ ∃ (a : Fin 4096) (x : Ctx), mfind s.fab.ctxs a.val = some x ∧ s.portUp x.port = true ∧ (x.una = x.snd ∨ s.mtime < x.sentAt + s.rto x)) ∧
    (∃ (s : State), s.ok = true ∧ sortedFrom none s.fab.ctxs = true ∧ sortedFrom none s.cmds = true ∧ ∃ (a : Fin 4096) (x : Ctx), mfind s.fab.ctxs a.val = some x ∧ s.portUp x.port = true ∧ ∃ (ack : Word), x.state = 1 ∧ BitVec.toNat ack = x.snd) ∧
    (∃ (s : State), s.ok = true ∧ sortedFrom none s.fab.ctxs = true ∧ sortedFrom none s.cmds = true ∧ ∃ (a : Fin 4096) (x : Ctx), mfind s.fab.ctxs a.val = some x ∧ s.portUp x.port = true ∧ ∃ (pfv : BitVec 16) (hpda : Byte), x.state = 2 ∧ (pfv ≠ 0 ∨ 31 < BitVec.toNat hpda)) ∧
    (∃ (s : State), s.ok = true ∧ sortedFrom none s.fab.ctxs = true ∧ sortedFrom none s.cmds = true ∧ ∃ (a : Fin 4096) (x : Ctx), mfind s.fab.ctxs a.val = some x ∧ s.portUp x.port = true ∧ ∃ (pfv : BitVec 16) (hpda : Byte), x.state = 2 ∧ pfv = 0 ∧ BitVec.toNat hpda ≤ 31) ∧
    (∃ (s : State), s.ok = true ∧ sortedFrom none s.fab.ctxs = true ∧ sortedFrom none s.cmds = true ∧ ∃ (a : Fin 4096) (x : Ctx), mfind s.fab.ctxs a.val = some x ∧ s.portUp x.port = true ∧ ∃ (seq : Word) (len : BitVec 16) (ack : Word) (ece : Bool) (prio : Fin 8) (drained : Nat), let s1 := rxDrain x.port prio drained s; let pfc := nbit (s.cur FAB_PORTCTL_PFCEN x.port) prio; let fwd := (ack.toNat + 2 ^ 32 - x.una) % 2 ^ 32; let rcv := if seq.toNat = x.rcv ∧ x.state ≠ 5 then (x.rcv + len.toNat) % 2 ^ 32 else x.rcv; 
            let y := if 0 < fwd ∧ fwd ≤ (x.snd + 2 ^ 32 - x.una) % 2 ^ 32 then ccAck fwd ece { x with rcv := rcv, una := ack.toNat, retries := 0, sentAt := s.mtime }
              else { x with rcv := rcv }
            (s1.rxFull x.port len.toNat = false ∨ pfc = true) ∧ 2 ≤ x.state ∧ x.state = 5 ∧ y.una = x.snd) ∧
    (∃ (s : State), s.ok = true ∧ sortedFrom none s.fab.ctxs = true ∧ sortedFrom none s.cmds = true ∧ ∃ (a : Fin 4096) (x : Ctx), mfind s.fab.ctxs a.val = some x ∧ s.portUp x.port = true ∧ ∃ (len : BitVec 16) (prio : Fin 8) (drained : Nat), let s1 := rxDrain x.port prio drained s; let pfc := nbit (s.cur FAB_PORTCTL_PFCEN x.port) prio; s1.rxFull x.port len.toNat = true ∧ pfc = false) ∧
    (∃ (s : State), s.ok = true ∧ sortedFrom none s.fab.ctxs = true ∧ sortedFrom none s.cmds = true ∧ ∃ (a : Fin 4096) (x : Ctx), mfind s.fab.ctxs a.val = some x ∧ s.portUp x.port = true ∧ x.una ≠ x.snd ∧ x.sentAt + s.rto x ≤ s.mtime ∧ x.state ≠ 0 ∧ x.retries < s.cur FAB_TCP_RETRIES) ∧
    (∃ (s : State), s.ok = true ∧ sortedFrom none s.fab.ctxs = true ∧ sortedFrom none s.cmds = true ∧ ∃ (a : Fin 4096) (x : Ctx), mfind s.fab.ctxs a.val = some x ∧ s.portUp x.port = true ∧ x.una ≠ x.snd ∧ x.sentAt + s.rto x ≤ s.mtime ∧ s.cur FAB_TCP_RETRIES ≤ x.retries) := by
  refine ⟨?_, ?_, ?_, ?_, ?_, ?_, ?_, ?_, ?_, ?_, ?_, ?_, ?_, ?_⟩
  · refine ⟨fabric, ?_, ?_, ?_, 0, none, true, ?_, ?_, ?_⟩ <;>
    first | decide +kernel | exact nextOf_eq (by decide +kernel) | exact Prod.ext (nextOf_eq (by decide +kernel)) (by decide +kernel) | exact Prod.ext rfl (by decide +kernel) | (intro _ h; cases h; done) | (intro _ _ h; cases h; done) | rfl
  · refine ⟨fabric, ?_, ?_, ?_, 0, none, false, 1, 4420, 4420, ?_, ?_, ?_, ?_, ?_, 0, ?_⟩ <;>
    first | decide +kernel | exact nextOf_eq (by decide +kernel) | exact Prod.ext (nextOf_eq (by decide +kernel)) (by decide +kernel) | exact Prod.ext rfl (by decide +kernel) | (intro _ h; cases h; done) | (intro _ _ h; cases h; done) | rfl
  · refine ⟨fabric, ?_, ?_, ?_, 0, none, false, 0, ?_, ?_, ?_, ?_⟩ <;>
    first | decide +kernel | exact nextOf_eq (by decide +kernel) | exact Prod.ext (nextOf_eq (by decide +kernel)) (by decide +kernel) | exact Prod.ext rfl (by decide +kernel) | (intro _ h; cases h; done) | (intro _ _ h; cases h; done) | rfl
  · refine ⟨full4, ?_, ?_, ?_, 0, none, false, 1, 4420, 4420, ?_, ?_, ?_, ?_, ?_, ?_⟩ <;>
    first | decide +kernel | exact nextOf_eq (by decide +kernel) | exact Prod.ext (nextOf_eq (by decide +kernel)) (by decide +kernel) | exact Prod.ext rfl (by decide +kernel) | (intro _ h; cases h; done) | (intro _ _ h; cases h; done) | rfl
  · refine ⟨full4, ?_, ?_, ?_, 0, (0,     { ctx 4 with ddgst := true, qsize := 4, cc := 1 }).snd, ?_, ?_, 201, 4420, 201, true, 0, 0, ?_, ?_, ?_⟩ <;>
    first | decide +kernel | exact nextOf_eq (by decide +kernel) | exact Prod.ext (nextOf_eq (by decide +kernel)) (by decide +kernel) | exact Prod.ext rfl (by decide +kernel) | (intro _ h; cases h; done) | (intro _ _ h; cases h; done) | rfl
  · refine ⟨full4, ?_, ?_, ?_, 0, (0,     { ctx 4 with ddgst := true, qsize := 4, cc := 1 }).snd, ?_, ?_, ?_⟩ <;>
    first | decide +kernel | exact nextOf_eq (by decide +kernel) | exact Prod.ext (nextOf_eq (by decide +kernel)) (by decide +kernel) | exact Prod.ext rfl (by decide +kernel) | (intro _ h; cases h; done) | (intro _ _ h; cases h; done) | rfl
  · refine ⟨full4, ?_, ?_, ?_, 0, (0,     { ctx 4 with ddgst := true, qsize := 4, cc := 1 }).snd, ?_, ?_, ?_⟩ <;>
    first | decide +kernel | exact nextOf_eq (by decide +kernel) | exact Prod.ext (nextOf_eq (by decide +kernel)) (by decide +kernel) | exact Prod.ext rfl (by decide +kernel) | (intro _ h; cases h; done) | (intro _ _ h; cases h; done) | rfl
  · refine ⟨full4, ?_, ?_, ?_, 2, (2,     { ctx 1 with rport := 9 }).snd, ?_, ?_, 201, ?_, ?_⟩ <;>
    first | decide +kernel | exact nextOf_eq (by decide +kernel) | exact Prod.ext (nextOf_eq (by decide +kernel)) (by decide +kernel) | exact Prod.ext rfl (by decide +kernel) | (intro _ h; cases h; done) | (intro _ _ h; cases h; done) | rfl
  · refine ⟨connected 2, ?_, ?_, ?_, 2, (2,     { ctx 2 with rport := 9 }).snd, ?_, ?_, 4420, 31, ?_, ?_⟩ <;>
    first | decide +kernel | exact nextOf_eq (by decide +kernel) | exact Prod.ext (nextOf_eq (by decide +kernel)) (by decide +kernel) | exact Prod.ext rfl (by decide +kernel) | (intro _ h; cases h; done) | (intro _ _ h; cases h; done) | rfl
  · refine ⟨connected 2, ?_, ?_, ?_, 2, (2,     { ctx 2 with rport := 9 }).snd, ?_, ?_, 0, 31, ?_, ?_, ?_⟩ <;>
    first | decide +kernel | exact nextOf_eq (by decide +kernel) | exact Prod.ext (nextOf_eq (by decide +kernel)) (by decide +kernel) | exact Prod.ext rfl (by decide +kernel) | (intro _ h; cases h; done) | (intro _ _ h; cases h; done) | rfl
  · refine ⟨connected 5, ?_, ?_, ?_, 2, (2,     { ctx 5 with rport := 9 }).snd, ?_, ?_, 201, 4420, 201, true, 0, 0, ?_, ?_, ?_, ?_⟩ <;>
    first | decide +kernel | exact nextOf_eq (by decide +kernel) | exact Prod.ext (nextOf_eq (by decide +kernel)) (by decide +kernel) | exact Prod.ext rfl (by decide +kernel) | (intro _ h; cases h; done) | (intro _ _ h; cases h; done) | rfl
  · refine ⟨rxStuffed, ?_, ?_, ?_, 0, (0,     { ctx 4 with ddgst := true, qsize := 4, cc := 1 }).snd, ?_, ?_, 9, 7, 0, ?_, ?_⟩ <;>
    first | decide +kernel | exact nextOf_eq (by decide +kernel) | exact Prod.ext (nextOf_eq (by decide +kernel)) (by decide +kernel) | exact Prod.ext rfl (by decide +kernel) | (intro _ h; cases h; done) | (intro _ _ h; cases h; done) | rfl
  · refine ⟨later (connected 3), ?_, ?_, ?_, 0, (0,     { ctx 4 with ddgst := true, qsize := 4, cc := 1 }).snd, ?_, ?_, ?_, ?_, ?_, ?_⟩ <;>
    first | decide +kernel | exact nextOf_eq (by decide +kernel) | exact Prod.ext (nextOf_eq (by decide +kernel)) (by decide +kernel) | exact Prod.ext rfl (by decide +kernel) | (intro _ h; cases h; done) | (intro _ _ h; cases h; done) | rfl
  · refine ⟨later lastTry, ?_, ?_, ?_, 2, (2,     { ctx 3 with retries := 15 }).snd, ?_, ?_, ?_, ?_, ?_⟩ <;>
    first | decide +kernel | exact nextOf_eq (by decide +kernel) | exact Prod.ext (nextOf_eq (by decide +kernel)) (by decide +kernel) | exact Prod.ext rfl (by decide +kernel) | (intro _ h; cases h; done) | (intro _ _ h; cases h; done) | rfl

theorem witness_CapsulesBringCommandsAndFabricsCommandsAreCarriedOut :
    (∃ (s : State), s.ok = true ∧ sortedFrom none s.fab.ctxs = true ∧ sortedFrom none s.cmds = true ∧ sortedFrom none s.fab.h2c = true ∧ ∃ (a : Fin 4096) (x : Ctx) (sqe : BitVec 512) (n : Nat) (hdOk ddOk : Bool), mfind s.fab.ctxs a.val = some x ∧ s.portUp x.port = true ∧ (x.state = 3 ∨ x.state = 4) ∧ let id := s.hpt.nextCmd; let opc := nbits sqe.toNat 0 8; let c : Cmd := { port := 1 + (if x.state = 4 then x.assoc else a.val), sq := 32768 + a.val, cid := nbits sqe.toNat 16 16, sqe := sqe.toNat, tick := s.fld TCK_COUNT_LO_COUNT }; (x.hdgst = true → hdOk = true) ∧ (x.state = 4 → x.io = true → s.ckp.shut = false) ∧ s.cmd id = none ∧ (n = 0 ∨ x.ddgst = false ∨ ddOk = true) ∧ n ≤ 8192 ∧ (opc = 127 ∨ x.state = 4 ∧ (if c.isAdmin = true then adminKnown opc || decide (opc = 24) else ioKnown opc) = true ∧ ∃ (y : Ctx), mfind s.fab.ctxs x.assoc = some y ∧ nbit (s.fabCsts y.cc 0) 0 = true) ∧ n < s.wantBytes c) ∧
    (∃ (s : State), s.ok = true ∧ sortedFrom none s.fab.ctxs = true ∧ sortedFrom none s.cmds = true ∧ sortedFrom none s.fab.h2c = true ∧ ∃ (a : Fin 4096) (x : Ctx) (n : Nat) (hdOk ddOk : Bool), mfind s.fab.ctxs a.val = some x ∧ s.portUp x.port = true ∧ (x.state = 3 ∨ x.state = 4) ∧ let id := s.hpt.nextCmd; (x.hdgst = true → hdOk = true) ∧ (x.state = 4 → x.io = true → s.ckp.shut = false) ∧ s.cmd id = none ∧ (n = 0 ∨ x.ddgst = false ∨ ddOk = true) ∧ 8192 < n) ∧
    (∃ (s : State), s.ok = true ∧ sortedFrom none s.fab.ctxs = true ∧ sortedFrom none s.cmds = true ∧ sortedFrom none s.fab.h2c = true ∧ ∃ (a : Fin 4096) (x : Ctx) (n : Nat) (hdOk ddOk : Bool), mfind s.fab.ctxs a.val = some x ∧ s.portUp x.port = true ∧ (x.state = 3 ∨ x.state = 4) ∧ let id := s.hpt.nextCmd; (x.hdgst = true → hdOk = true) ∧ (x.state = 4 → x.io = true → s.ckp.shut = false) ∧ s.cmd id = none ∧ n ≠ 0 ∧ x.ddgst = true ∧ ddOk = false) ∧
    (∃ (s : State), s.ok = true ∧ sortedFrom none s.fab.ctxs = true ∧ sortedFrom none s.cmds = true ∧ sortedFrom none s.fab.h2c = true ∧ ∃ (a : Fin 4096) (x : Ctx) (sqe : BitVec 512) (n : Nat) (hdOk ddOk : Bool), mfind s.fab.ctxs a.val = some x ∧ s.portUp x.port = true ∧ (x.state = 3 ∨ x.state = 4) ∧ let id := s.hpt.nextCmd; let opc := nbits sqe.toNat 0 8; let c : Cmd := { port := 1 + (if x.state = 4 then x.assoc else a.val), sq := 32768 + a.val, cid := nbits sqe.toNat 16 16, sqe := sqe.toNat, tick := s.fld TCK_COUNT_LO_COUNT }; (x.hdgst = true → hdOk = true) ∧ (x.state = 4 → x.io = true → s.ckp.shut = false) ∧ s.cmd id = none ∧ (n = 0 ∨ x.ddgst = false ∨ ddOk = true) ∧ n ≤ 8192 ∧ (opc = 127 ∨ x.state = 4 ∧ (if c.isAdmin = true then adminKnown opc || decide (opc = 24) else ioKnown opc) = true ∧ ∃ (y : Ctx), mfind s.fab.ctxs x.assoc = some y ∧ nbit (s.fabCsts y.cc 0) 0 = true) ∧ s.wantBytes c ≤ n) ∧
    (∃ (s : State), s.ok = true ∧ sortedFrom none s.fab.ctxs = true ∧ sortedFrom none s.cmds = true ∧ sortedFrom none s.fab.h2c = true ∧ ∃ (a : Fin 4096) (x : Ctx) (hdOk : Bool), mfind s.fab.ctxs a.val = some x ∧ s.portUp x.port = true ∧ (x.state = 3 ∨ x.state = 4) ∧ x.hdgst = true ∧ hdOk = false) ∧
    (∃ (s : State), s.ok = true ∧ sortedFrom none s.fab.ctxs = true ∧ sortedFrom none s.cmds = true ∧ sortedFrom none s.fab.h2c = true ∧ ∃ (a : Fin 4096) (x : Ctx) (sqe : BitVec 512) (n : Nat) (hdOk ddOk : Bool), mfind s.fab.ctxs a.val = some x ∧ s.portUp x.port = true ∧ (x.state = 3 ∨ x.state = 4) ∧ let id := s.hpt.nextCmd; let opc := nbits sqe.toNat 0 8; (x.hdgst = true → hdOk = true) ∧ (x.state = 4 → x.io = true → s.ckp.shut = false) ∧ s.cmd id = none ∧ (n = 0 ∨ x.ddgst = false ∨ ddOk = true) ∧ n ≤ 8192 ∧ opc ≠ 127 ∧ x.state = 3) ∧
    (∃ (s : State), s.ok = true ∧ sortedFrom none s.fab.ctxs = true ∧ sortedFrom none s.cmds = true ∧ sortedFrom none s.fab.h2c = true ∧ ∃ (id : Nat) (c : Cmd) (x : Ctx), s.cmd id = some c ∧ c.phase = 0 ∧ c.port ≠ 0 ∧ c.port < 8192 ∧ s.fabTakes id c = true ∧ mfind s.fab.ctxs (c.sq % 32768) = some x ∧ let fabrics (type : Nat) : Prop := c.opc = 0x7F ∧ nbits (c.cdw 1) 0 8 = type; let size := 2 ^ s.fld HPT_FWRING_HI_SIZE; let wr := s.fld HPT_FWWR_INDEX % size; fabrics 1 ∧ x.state = 3 ∧ s.domOn dHOST = true ∧ s.hpt.fwWait = [] ∧ (wr + 1) % size ≠ s.fld HPT_FWRD_INDEX % size ∧ mfind s.hpt.fw wr = none) ∧
    (∃ (s : State), s.ok = true ∧ sortedFrom none s.fab.ctxs = true ∧ sortedFrom none s.cmds = true ∧ sortedFrom none s.fab.h2c = true ∧ ∃ (id : Nat) (c : Cmd) (x : Ctx), s.cmd id = some c ∧ c.phase = 0 ∧ c.port ≠ 0 ∧ c.port < 8192 ∧ s.fabTakes id c = true ∧ mfind s.fab.ctxs (c.sq % 32768) = some x ∧ let fabrics (type : Nat) : Prop := c.opc = 0x7F ∧ nbits (c.cdw 1) 0 8 = type; fabrics 1 ∧ x.state = 3 ∧ s.domOn dHOST = false) ∧
    (∃ (s : State), s.ok = true ∧ sortedFrom none s.fab.ctxs = true ∧ sortedFrom none s.cmds = true ∧ sortedFrom none s.fab.h2c = true ∧ ∃ (id : Nat) (c : Cmd) (x : Ctx), s.cmd id = some c ∧ c.phase = 0 ∧ c.port ≠ 0 ∧ c.port < 8192 ∧ s.fabTakes id c = true ∧ mfind s.fab.ctxs (c.sq % 32768) = some x ∧ let fabrics (type : Nat) : Prop := c.opc = 0x7F ∧ nbits (c.cdw 1) 0 8 = type; fabrics 1 ∧ x.state = 4) ∧
    (∃ (s : State), s.ok = true ∧ sortedFrom none s.fab.ctxs = true ∧ sortedFrom none s.cmds = true ∧ sortedFrom none s.fab.h2c = true ∧ ∃ (id : Nat) (c : Cmd) (x : Ctx), s.cmd id = some c ∧ c.phase = 0 ∧ c.port ≠ 0 ∧ c.port < 8192 ∧ s.fabTakes id c = true ∧ mfind s.fab.ctxs (c.sq % 32768) = some x ∧ let fabrics (type : Nat) : Prop := c.opc = 0x7F ∧ nbits (c.cdw 1) 0 8 = type; fabrics 4 ∧ x.state = 4 ∧ x.io = false ∧ let e : Nat × Nat := (20, x.cc); c.cdw 11 = e.fst) ∧
    (∃ (s : State), s.ok = true ∧ sortedFrom none s.fab.ctxs = true ∧ sortedFrom none s.cmds = true ∧ sortedFrom none s.fab.h2c = true ∧ ∃ (id : Nat) (c : Cmd) (x : Ctx), s.cmd id = some c ∧ c.phase = 0 ∧ c.port ≠ 0 ∧ c.port < 8192 ∧ s.fabTakes id c = true ∧ mfind s.fab.ctxs (c.sq % 32768) = some x ∧ let fabrics (type : Nat) : Prop := c.opc = 0x7F ∧ nbits (c.cdw 1) 0 8 = type; fabrics 0 ∧ x.state = 4 ∧ x.io = false ∧ c.cdw 11 = 20) ∧
    (∃ (s : State), s.ok = true ∧ sortedFrom none s.fab.ctxs = true ∧ sortedFrom none s.cmds = true ∧ sortedFrom none s.fab.h2c = true ∧ ∃ (id : Nat) (c : Cmd) (x : Ctx), s.cmd id = some c ∧ c.phase = 0 ∧ c.port ≠ 0 ∧ c.port < 8192 ∧ s.fabTakes id c = true ∧ mfind s.fab.ctxs (c.sq % 32768) = some x ∧ c.isAdmin = true ∧ c.opc = 24 ∧ x.state ≠ 0) ∧
    (∃ (s : State), s.ok = true ∧ sortedFrom none s.fab.ctxs = true ∧ sortedFrom none s.cmds = true ∧ sortedFrom none s.fab.h2c = true ∧ ∃ (id : Nat) (c : Cmd) (x : Ctx), s.cmd id = some c ∧ c.phase = 0 ∧ c.port ≠ 0 ∧ c.port < 8192 ∧ s.fabTakes id c = true ∧ mfind s.fab.ctxs (c.sq % 32768) = some x ∧ let fabrics (type : Nat) : Prop := c.opc = 0x7F ∧ nbits (c.cdw 1) 0 8 = type; fabrics 8) ∧
    (∃ (s : State), s.ok = true ∧ sortedFrom none s.fab.ctxs = true ∧ sortedFrom none s.cmds = true ∧ sortedFrom none s.fab.h2c = true ∧ ∃ (a : Fin 4096) (x : Ctx), mfind s.fab.ctxs a.val = some x ∧ x.state = 4 ∧ x.io = false ∧ x.kato ≠ 0 ∧ x.last + 100000 * (x.kato + 100) ≤ s.mtime) ∧
    (∃ (s : State), s.ok = true ∧ sortedFrom none s.fab.ctxs = true ∧ sortedFrom none s.cmds = true ∧ sortedFrom none s.fab.h2c = true ∧ ∃ (id ofs n : Nat) (hdOk ddOk : Bool) (c : Cmd) (got want granted : Nat) (x : Ctx), s.cmd id = some c ∧ mfind s.fab.h2c id = some (got, want, granted) ∧ mfind s.fab.ctxs (c.sq % 32768) = some x ∧ s.portUp x.port = true ∧ (x.hdgst = true → hdOk = true) ∧ ofs = got ∧ got + n ≤ granted ∧ 0 < n ∧ n ≤ 65536 ∧ (x.ddgst = true → ddOk = true) ∧ want ≤ got + n) ∧
    (∃ (s : State), s.ok = true ∧ sortedFrom none s.fab.ctxs = true ∧ sortedFrom none s.cmds = true ∧ sortedFrom none s.fab.h2c = true ∧ ∃ (id ofs n : Nat) (hdOk ddOk : Bool) (c : Cmd) (got want granted : Nat) (x : Ctx), s.cmd id = some c ∧ mfind s.fab.h2c id = some (got, want, granted) ∧ mfind s.fab.ctxs (c.sq % 32768) = some x ∧ s.portUp x.port = true ∧ (x.hdgst = true → hdOk = true) ∧ ofs = got ∧ got + n ≤ granted ∧ 0 < n ∧ n ≤ 65536 ∧ (x.ddgst = true → ddOk = true) ∧ got + n < want) ∧
    (∃ (s : State), s.ok = true ∧ sortedFrom none s.fab.ctxs = true ∧ sortedFrom none s.cmds = true ∧ sortedFrom none s.fab.h2c = true ∧ ∃ (id ofs n : Nat) (hdOk ddOk : Bool) (c : Cmd) (got want granted : Nat) (x : Ctx), s.cmd id = some c ∧ mfind s.fab.h2c id = some (got, want, granted) ∧ mfind s.fab.ctxs (c.sq % 32768) = some x ∧ s.portUp x.port = true ∧ (x.hdgst = true → hdOk = true) ∧ ofs = got ∧ got + n ≤ granted ∧ 0 < n ∧ n ≤ 65536 ∧ x.ddgst = true ∧ ddOk = false) := by
  refine ⟨?_, ?_, ?_, ?_, ?_, ?_, ?_, ?_, ?_, ?_, ?_, ?_, ?_, ?_, ?_, ?_, ?_⟩
  · refine ⟨granted, ?_, ?_, ?_, ?_, 0, (0,     { ctx 4 with ddgst := true, qsize := 4, cc := 1 }).snd, BitVec.ofNat 512 (sqe 127 1 []), 4, true, true, ?_, ?_, ?_, ?_, ?_, ?_, ?_, ?_, ?_, ?_⟩ <;>
    first | decide +kernel | exact nextOf_eq (by decide +kernel) | exact Prod.ext (nextOf_eq (by decide +kernel)) (by decide +kernel) | exact Prod.ext rfl (by decide +kernel) | (intro _ h; cases h; done) | (intro _ _ h; cases h; done) | rfl
  · refine ⟨connected 3, ?_, ?_, ?_, ?_, 0, (0,     { ctx 4 with ddgst := true, qsize := 4, cc := 1 }).snd, 9000, true, true, ?_, ?_, ?_, ?_, ?_, ?_, ?_, ?_⟩ <;>
    first | decide +kernel | exact nextOf_eq (by decide +kernel) | exact Prod.ext (nextOf_eq (by decide +kernel)) (by decide +kernel) | exact Prod.ext rfl (by decide +kernel) | (intro _ h; cases h; done) | (intro _ _ h; cases h; done) | rfl
  · refine ⟨granted, ?_, ?_, ?_, ?_, 0, (0,     { ctx 4 with ddgst := true, qsize := 4, cc := 1 }).snd, 4, true, false, ?_, ?_, ?_, ?_, ?_, ?_, ?_, ?_, ?_⟩ <;>
    first | decide +kernel | exact nextOf_eq (by decide +kernel) | exact Prod.ext (nextOf_eq (by decide +kernel)) (by decide +kernel) | exact Prod.ext rfl (by decide +kernel) | (intro _ h; cases h; done) | (intro _ _ h; cases h; done) | rfl
  · refine ⟨granted, ?_, ?_, ?_, ?_, 0, (0,     { ctx 4 with ddgst := true, qsize := 4, cc := 1 }).snd, BitVec.ofNat 512 (sqe 1 1 []), 4, true, true, ?_, ?_, ?_, ?_, ?_, ?_, ?_, ?_, ?_, ?_⟩ <;>
    first | decide +kernel | exact nextOf_eq (by decide +kernel) | exact Prod.ext (nextOf_eq (by decide +kernel)) (by decide +kernel) | exact Prod.ext rfl (by decide +kernel) | (intro _ h; cases h; done) | (intro _ _ h; cases h; done) | rfl
  · refine ⟨granted, ?_, ?_, ?_, ?_, 1, (1,     { ctx 4 with rport := 8, hdgst := true, io := true, qsize := 4, cc := 1 }).snd, false, ?_, ?_, ?_, ?_, ?_⟩ <;>
    first | decide +kernel | exact nextOf_eq (by decide +kernel) | exact Prod.ext (nextOf_eq (by decide +kernel)) (by decide +kernel) | exact Prod.ext rfl (by decide +kernel) | (intro _ h; cases h; done) | (intro _ _ h; cases h; done) | rfl
  · refine ⟨fabCmd (fcmd 1 []) 3, ?_, ?_, ?_, ?_, 0, { ctx 3 with qsize := 4, cc := 1 }, BitVec.ofNat 512 (sqe 1 1 []), 4, true, true, ?_, ?_, ?_, ?_, ?_, ?_, ?_, ?_, ?_, ?_⟩ <;>
    first | decide +kernel | exact nextOf_eq (by decide +kernel) | exact Prod.ext (nextOf_eq (by decide +kernel)) (by decide +kernel) | exact Prod.ext rfl (by decide +kernel) | (intro _ h; cases h; done) | (intro _ _ h; cases h; done) | rfl
  · refine ⟨fabCmd (fcmd 1 []) 3, ?_, ?_, ?_, ?_, 4, fcmd 1 [], { ctx 3 with qsize := 4, cc := 1 }, ?_, ?_, ?_, ?_, ?_, ?_, ?_, ?_, ?_, ?_, ?_, ?_⟩ <;>
    first | decide +kernel | exact nextOf_eq (by decide +kernel) | exact Prod.ext (nextOf_eq (by decide +kernel)) (by decide +kernel) | exact Prod.ext rfl (by decide +kernel) | (intro _ h; cases h; done) | (intro _ _ h; cases h; done) | rfl
  · refine ⟨fabCmd (fcmd 1 []) 3 (fabric.setFld PWR_DOMSTAT_ON 247), ?_, ?_, ?_, ?_, 4, fcmd 1 [], { ctx 3 with qsize := 4, cc := 1 }, ?_, ?_, ?_, ?_, ?_, ?_, ?_, ?_, ?_⟩ <;>
    first | decide +kernel | exact nextOf_eq (by decide +kernel) | exact Prod.ext (nextOf_eq (by decide +kernel)) (by decide +kernel) | exact Prod.ext rfl (by decide +kernel) | (intro _ h; cases h; done) | (intro _ _ h; cases h; done) | rfl
  · refine ⟨fabCmd (fcmd 1 []) 4, ?_, ?_, ?_, ?_, 4, fcmd 1 [], { ctx 4 with qsize := 4, cc := 1 }, ?_, ?_, ?_, ?_, ?_, ?_, ?_, ?_⟩ <;>
    first | decide +kernel | exact nextOf_eq (by decide +kernel) | exact Prod.ext (nextOf_eq (by decide +kernel)) (by decide +kernel) | exact Prod.ext rfl (by decide +kernel) | (intro _ h; cases h; done) | (intro _ _ h; cases h; done) | rfl
  · refine ⟨fabCmd (fcmd 4 [(11, 20)]) 4, ?_, ?_, ?_, ?_, 4, fcmd 4 [(11, 20)], { ctx 4 with qsize := 4, cc := 1 }, ?_, ?_, ?_, ?_, ?_, ?_, ?_, ?_, ?_, ?_⟩ <;>
    first | decide +kernel | exact nextOf_eq (by decide +kernel) | exact Prod.ext (nextOf_eq (by decide +kernel)) (by decide +kernel) | exact Prod.ext rfl (by decide +kernel) | (intro _ h; cases h; done) | (intro _ _ h; cases h; done) | rfl
  · refine ⟨fabCmd (fcmd 0 [(11, 20)]) 4, ?_, ?_, ?_, ?_, 4, fcmd 0 [(11, 20)], { ctx 4 with qsize := 4, cc := 1 }, ?_, ?_, ?_, ?_, ?_, ?_, ?_, ?_, ?_, ?_⟩ <;>
    first | decide +kernel | exact nextOf_eq (by decide +kernel) | exact Prod.ext (nextOf_eq (by decide +kernel)) (by decide +kernel) | exact Prod.ext rfl (by decide +kernel) | (intro _ h; cases h; done) | (intro _ _ h; cases h; done) | rfl
  · refine ⟨fabCmd { port := 1, sq := 32768, sqe := 24 } 4, ?_, ?_, ?_, ?_, 4, { port := 1, sq := 32768, sqe := 24 }, { ctx 4 with qsize := 4, cc := 1 }, ?_, ?_, ?_, ?_, ?_, ?_, ?_, ?_, ?_⟩ <;>
    first | decide +kernel | exact nextOf_eq (by decide +kernel) | exact Prod.ext (nextOf_eq (by decide +kernel)) (by decide +kernel) | exact Prod.ext rfl (by decide +kernel) | (intro _ h; cases h; done) | (intro _ _ h; cases h; done) | rfl
  · refine ⟨fabCmd (fcmd 8 []) 4, ?_, ?_, ?_, ?_, 4, fcmd 8 [], { ctx 4 with qsize := 4, cc := 1 }, ?_, ?_, ?_, ?_, ?_, ?_, ?_⟩ <;>
    first | decide +kernel | exact nextOf_eq (by decide +kernel) | exact Prod.ext (nextOf_eq (by decide +kernel)) (by decide +kernel) | exact Prod.ext rfl (by decide +kernel) | (intro _ h; cases h; done) | (intro _ _ h; cases h; done) | rfl
  · refine ⟨kaExpired, ?_, ?_, ?_, ?_, 0, { ctx 4 with kato := 5 }, ?_, ?_, ?_, ?_, ?_⟩ <;>
    first | decide +kernel | exact nextOf_eq (by decide +kernel) | exact Prod.ext (nextOf_eq (by decide +kernel)) (by decide +kernel) | exact Prod.ext rfl (by decide +kernel) | (intro _ h; cases h; done) | (intro _ _ h; cases h; done) | rfl
  · refine ⟨granted, ?_, ?_, ?_, ?_, 4, 4, 4, true, true, (4, { port := 1, sq := 32769, phase := 13 }).snd, 4, 8, 8, (1,     { ctx 4 with rport := 8, hdgst := true, io := true, qsize := 4, cc := 1 }).snd, ?_, ?_, ?_, ?_, ?_, ?_, ?_, ?_, ?_, ?_, ?_⟩ <;>
    first | decide +kernel | exact nextOf_eq (by decide +kernel) | exact Prod.ext (nextOf_eq (by decide +kernel)) (by decide +kernel) | exact Prod.ext rfl (by decide +kernel) | (intro _ h; cases h; done) | (intro _ _ h; cases h; done) | rfl
  · refine ⟨granted, ?_, ?_, ?_, ?_, 8, 4, 4, true, true, (8, { port := 1, sq := 32768, phase := 13 }).snd, 4, 16, 8, (0,     { ctx 4 with ddgst := true, qsize := 4, cc := 1 }).snd, ?_, ?_, ?_, ?_, ?_, ?_, ?_, ?_, ?_, ?_, ?_⟩ <;>
    first | decide +kernel | exact nextOf_eq (by decide +kernel) | exact Prod.ext (nextOf_eq (by decide +kernel)) (by decide +kernel) | exact Prod.ext rfl (by decide +kernel) | (intro _ h; cases h; done) | (intro _ _ h; cases h; done) | rfl
  · refine ⟨granted, ?_, ?_, ?_, ?_, 8, 4, 4, true, false, (8, { port := 1, sq := 32768, phase := 13 }).snd, 4, 16, 8, (0,     { ctx 4 with ddgst := true, qsize := 4, cc := 1 }).snd, ?_, ?_, ?_, ?_, ?_, ?_, ?_, ?_, ?_, ?_, ?_⟩ <;>
    first | decide +kernel | exact nextOf_eq (by decide +kernel) | exact Prod.ext (nextOf_eq (by decide +kernel)) (by decide +kernel) | exact Prod.ext rfl (by decide +kernel) | (intro _ h; cases h; done) | (intro _ _ h; cases h; done) | rfl

theorem witness_CompletionsAreWrittenAndPosted :
    (∃ (s : State), s.ok = true ∧ sortedFrom none s.cmds = true ∧ sortedFrom none s.hpt.fw = true ∧ ∃ (m : MasterId), s.MayWrite m.val HPT_FWCPL3 ∧ s.hpt.fwWait = [] ∧ let i := s.fld HPT_FWCPL2_INDEX; mfind s.hpt.fw i = none) ∧
    (∃ (s : State), s.ok = true ∧ sortedFrom none s.cmds = true ∧ sortedFrom none s.hpt.fw = true ∧ ∃ (m : MasterId), s.MayWrite m.val HPT_FWCPL3 ∧ s.hpt.fwWait = [] ∧ let i := s.fld HPT_FWCPL2_INDEX; ∃ (e : FwEnt) (c : Cmd), mfind s.hpt.fw i = some e ∧ e.dead = false ∧ s.cmd e.cmd = some c ∧ ∃ (x : Ctx), c.port ≠ 0 ∧ c.port < 8192 ∧ c.opc = 127 ∧ nbits (c.cdw 10) 16 16 = 0 ∧ mfind s.fab.ctxs (c.sq % 32768) = some x) ∧
    (∃ (s : State), s.ok = true ∧ sortedFrom none s.cmds = true ∧ sortedFrom none s.hpt.fw = true ∧ ∃ (m : MasterId) (sc : Byte) (sct : Fin 8), s.MayWrite m.val HPT_FWCPL3 ∧ s.hpt.fwWait = [] ∧ let i := s.fld HPT_FWCPL2_INDEX; ∃ (e : FwEnt) (c : Cmd), mfind s.hpt.fw i = some e ∧ e.dead = false ∧ s.cmd e.cmd = some c ∧ (c.port = 0 ∨ 8192 ≤ c.port ∨ c.opc ≠ 127 ∨ sct ≠ 0 ∨ sc ≠ 0)) ∧
    (∃ (s : State), s.ok = true ∧ sortedFrom none s.cmds = true ∧ sortedFrom none s.hpt.fw = true ∧ ∃ (id : Nat) (c : Cmd), s.cmd id = some c ∧ (∀ (e : Nat × Sq), e ∈ s.hpt.sqs → e.snd.del = none) ∧ c.phase ≠ 6) ∧
    (∃ (s : State), s.ok = true ∧ sortedFrom none s.cmds = true ∧ sortedFrom none s.hpt.fw = true ∧ ∃ (m : MasterId), s.MayWrite m.val HPT_FWCPL3 ∧ s.hpt.fwWait = [] ∧ let i := s.fld HPT_FWCPL2_INDEX; ∃ (e : FwEnt), mfind s.hpt.fw i = some e ∧ e.dead = true) ∧
    (∃ (s : State), s.ok = true ∧ sortedFrom none s.cmds = true ∧ sortedFrom none s.hpt.fw = true ∧ ∃ (id : Nat) (c : Cmd), s.cmd id = some c ∧ (∀ (e : Nat × Sq), e ∈ s.hpt.sqs → e.snd.del = none) ∧ c.phase = 6 ∧ 8192 ≤ c.port ∧ c.port ≤ 8195) ∧
    (∃ (s : State), s.ok = true ∧ sortedFrom none s.cmds = true ∧ sortedFrom none s.hpt.fw = true ∧ ∃ (id : Nat) (c : Cmd), s.cmd id = some c ∧ (∀ (e : Nat × Sq), e ∈ s.hpt.sqs → e.snd.del = none) ∧ c.phase = 6 ∧ c.port < 8192 ∧ (∀ (n : Nat × Nat × Option Nat), n ∈ s.plk.nsops → n.fst ≠ id) ∧ c.dropped = true) ∧
    (∃ (s : State), s.ok = true ∧ sortedFrom none s.cmds = true ∧ sortedFrom none s.hpt.fw = true ∧ ∃ (id : Nat) (c : Cmd), s.cmd id = some c ∧ (∀ (e : Nat × Sq), e ∈ s.hpt.sqs → e.snd.del = none) ∧ c.phase = 6 ∧ c.port < 8192 ∧ (∀ (n : Nat × Nat × Option Nat), n ∈ s.plk.nsops → n.fst ≠ id) ∧ let rest := c.sendsRead = true ∧ c.got ≠ []; ∃ (sq : Sq) (q : Cq), c.dropped = false ∧ (rest → s.restRuns = true ∧ s.restBad c.slot = none) ∧ c.port = 0 ∧ s.hptUp = true ∧ mfind s.hpt.sqs c.sq = some sq ∧ mfind s.hpt.cqs sq.cq = some q ∧ q.full = false) ∧
    (∃ (s : State), s.ok = true ∧ sortedFrom none s.cmds = true ∧ sortedFrom none s.hpt.fw = true ∧ ∃ (id : Nat) (c : Cmd), s.cmd id = some c ∧ (∀ (e : Nat × Sq), e ∈ s.hpt.sqs → e.snd.del = none) ∧ c.phase = 6 ∧ c.port < 8192 ∧ (∀ (n : Nat × Nat × Option Nat), n ∈ s.plk.nsops → n.fst ≠ id) ∧ let rest := c.sendsRead = true ∧ c.got ≠ []; ∃ (x : Ctx), c.dropped = false ∧ (rest → s.restRuns = true ∧ s.restBad c.slot = none) ∧ c.port ≠ 0 ∧ mfind s.fab.ctxs (c.sq % 32768) = some x ∧ 2 ≤ x.state ∧ x.state ≠ 5) ∧
    (∃ (s : State), s.ok = true ∧ sortedFrom none s.cmds = true ∧ sortedFrom none s.hpt.fw = true ∧ ∃ (id : Nat) (c : Cmd), s.cmd id = some c ∧ (∀ (e : Nat × Sq), e ∈ s.hpt.sqs → e.snd.del = none) ∧ c.phase = 6 ∧ c.port < 8192 ∧ (∀ (n : Nat × Nat × Option Nat), n ∈ s.plk.nsops → n.fst ≠ id) ∧ let rest := c.sendsRead = true ∧ c.got ≠ []; ∃ (sq : Sq) (q : Cq), c.dropped = false ∧ (rest → s.restRuns = true ∧ s.restBad c.slot = none) ∧ c.port = 0 ∧ s.hptUp = true ∧ mfind s.hpt.sqs c.sq = some sq ∧ mfind s.hpt.cqs sq.cq = some q ∧ q.full = true ∧ ¬id ∈ s.hpt.held) ∧
    (∃ (s : State), s.ok = true ∧ sortedFrom none s.cmds = true ∧ sortedFrom none s.hpt.fw = true ∧ ∃ (q : BitVec 16) (c : Cq), mfind s.hpt.cqs q.toNat = some c ∧ c.unsig ≠ 0 ∧ c.ien = true ∧ s.hptUp = true ∧ s.msixOn = false) ∧
    (∃ (s : State), s.ok = true ∧ sortedFrom none s.cmds = true ∧ sortedFrom none s.hpt.fw = true ∧ ∃ (id : Nat) (c : Cmd), s.cmd id = some c ∧ (∀ (e : Nat × Sq), e ∈ s.hpt.sqs → e.snd.del = none) ∧ c.phase = 6 ∧ c.port < 8192 ∧ (∀ (n : Nat × Nat × Option Nat), n ∈ s.plk.nsops → n.fst ≠ id) ∧ let rest := c.sendsRead = true ∧ c.got ≠ []; ∃ (e : Nat), c.dropped = false ∧ rest ∧ s.restRuns = true ∧ s.restBad c.slot = some e) ∧
    (∃ (s : State), s.ok = true ∧ sortedFrom none s.cmds = true ∧ sortedFrom none s.hpt.fw = true ∧ ∃ (q : BitVec 16) (c : Cq), mfind s.hpt.cqs q.toNat = some c ∧ c.unsig ≠ 0 ∧ c.ien = true ∧ s.hptUp = true ∧ s.msixOn = true ∧ s.msixMasked c.vec = true) ∧
    (∃ (s : State), s.ok = true ∧ sortedFrom none s.cmds = true ∧ sortedFrom none s.hpt.fw = true ∧ ∃ (q : BitVec 16) (c : Cq), mfind s.hpt.cqs q.toNat = some c ∧ c.unsig ≠ 0 ∧ c.ien = true ∧ s.hptUp = true ∧ s.msixOn = true ∧ s.msixMasked c.vec = false) := by
  refine ⟨?_, ?_, ?_, ?_, ?_, ?_, ?_, ?_, ?_, ?_, ?_, ?_, ?_, ?_⟩
  · refine ⟨fabric, ?_, ?_, ?_, 0, ?_, ?_, ?_⟩ <;>
    first | decide +kernel | exact nextOf_eq (by decide +kernel) | exact Prod.ext (nextOf_eq (by decide +kernel)) (by decide +kernel) | exact Prod.ext rfl (by decide +kernel) | (intro _ h; cases h; done) | (intro _ _ h; cases h; done) | rfl
  · refine ⟨fwEnds (fcmd 1 []) false, ?_, ?_, ?_, 0, ?_, ?_, { cmd := 4 }, fcmd 1 [], ?_, ?_, ?_, ctx 3, ?_, ?_, ?_, ?_, ?_⟩ <;>
    first | decide +kernel | exact nextOf_eq (by decide +kernel) | exact Prod.ext (nextOf_eq (by decide +kernel)) (by decide +kernel) | exact Prod.ext rfl (by decide +kernel) | (intro _ h; cases h; done) | (intro _ _ h; cases h; done) | rfl
  · refine ⟨fwEnds (fcmd 1 []) false, ?_, ?_, ?_, 0, 0, 1, ?_, ?_, { cmd := 4 }, fcmd 1 [], ?_, ?_, ?_, ?_⟩ <;>
    first | decide +kernel | exact nextOf_eq (by decide +kernel) | exact Prod.ext (nextOf_eq (by decide +kernel)) (by decide +kernel) | exact Prod.ext rfl (by decide +kernel) | (intro _ h; cases h; done) | (intro _ _ h; cases h; done) | rfl
  · refine ⟨fwEnds (fcmd 1 []) false, ?_, ?_, ?_, 4, fcmd 1 [], ?_, ?_, ?_⟩ <;>
    first | decide +kernel | exact nextOf_eq (by decide +kernel) | exact Prod.ext (nextOf_eq (by decide +kernel)) (by decide +kernel) | exact Prod.ext rfl (by decide +kernel) | (intro _ h; cases h; done) | (intro _ _ h; cases h; done) | rfl
  · refine ⟨fwEnds { sq := 1, phase := 7 } true, ?_, ?_, ?_, 0, ?_, ?_, { cmd := 4, dead := true }, ?_, ?_⟩ <;>
    first | decide +kernel | exact nextOf_eq (by decide +kernel) | exact Prod.ext (nextOf_eq (by decide +kernel)) (by decide +kernel) | exact Prod.ext rfl (by decide +kernel) | (intro _ h; cases h; done) | (intro _ _ h; cases h; done) | rfl
  · refine ⟨posting { port := 8192, phase := 6, sct := 2 }, ?_, ?_, ?_, 4, { port := 8192, phase := 6, sct := 2 }, ?_, ?_, ?_, ?_, ?_⟩ <;>
    first | decide +kernel | exact nextOf_eq (by decide +kernel) | exact Prod.ext (nextOf_eq (by decide +kernel)) (by decide +kernel) | exact Prod.ext rfl (by decide +kernel) | (intro _ h; cases h; done) | (intro _ _ h; cases h; done) | rfl
  · refine ⟨posting { phase := 6, dropped := true }, ?_, ?_, ?_, 4, { phase := 6, dropped := true }, ?_, ?_, ?_, ?_, ?_, ?_⟩ <;>
    first | decide +kernel | exact nextOf_eq (by decide +kernel) | exact Prod.ext (nextOf_eq (by decide +kernel)) (by decide +kernel) | exact Prod.ext rfl (by decide +kernel) | (intro _ h; cases h; done) | (intro _ _ h; cases h; done) | rfl
  · refine ⟨posting { phase := 6 }, ?_, ?_, ?_, 4, { phase := 6 }, ?_, ?_, ?_, ?_, ?_, (0, { base := 4096, size := 8, tail := 2 }).snd, (0, { base := 8192, size := 8, head := 1, tail := 3, ien := true }).snd, ?_, ?_, ?_, ?_, ?_, ?_, ?_⟩ <;>
    first | decide +kernel | exact nextOf_eq (by decide +kernel) | exact Prod.ext (nextOf_eq (by decide +kernel)) (by decide +kernel) | exact Prod.ext rfl (by decide +kernel) | (intro _ h; cases h; done) | (intro _ _ h; cases h; done) | rfl
  · refine ⟨posting { port := 1, sq := 32768, phase := 6, sc := 5 }, ?_, ?_, ?_, 4, { port := 1, sq := 32768, phase := 6, sc := 5 }, ?_, ?_, ?_, ?_, ?_, (0,     { ctx 4 with ddgst := true, qsize := 4, cc := 1 }).snd, ?_, ?_, ?_, ?_, ?_, ?_⟩ <;>
    first | decide +kernel | exact nextOf_eq (by decide +kernel) | exact Prod.ext (nextOf_eq (by decide +kernel)) (by decide +kernel) | exact Prod.ext rfl (by decide +kernel) | (intro _ h; cases h; done) | (intro _ _ h; cases h; done) | rfl
  · refine ⟨cqFull, ?_, ?_, ?_, 4, { phase := 6 }, ?_, ?_, ?_, ?_, ?_, (0, { base := 4096, size := 8, tail := 2 }).snd, (0, { base := 8192, size := 8, head := 1, ien := true, unsig := 2 }).snd, ?_, ?_, ?_, ?_, ?_, ?_, ?_, ?_⟩ <;>
    first | decide +kernel | exact nextOf_eq (by decide +kernel) | exact Prod.ext (nextOf_eq (by decide +kernel)) (by decide +kernel) | exact Prod.ext rfl (by decide +kernel) | (intro _ h; cases h; done) | (intro _ _ h; cases h; done) | rfl
  · refine ⟨cqFull, ?_, ?_, ?_, 0, (0, { base := 8192, size := 8, head := 1, ien := true, unsig := 2 }).snd, ?_, ?_, ?_, ?_, ?_⟩ <;>
    first | decide +kernel | exact nextOf_eq (by decide +kernel) | exact Prod.ext (nextOf_eq (by decide +kernel)) (by decide +kernel) | exact Prod.ext rfl (by decide +kernel) | (intro _ h; cases h; done) | (intro _ _ h; cases h; done) | rfl
  · refine ⟨postNoKey, ?_, ?_, ?_, 4, readEnds, ?_, ?_, ?_, ?_, ?_, 1, ?_, ?_, ?_, ?_⟩ <;>
    first | decide +kernel | exact nextOf_eq (by decide +kernel) | exact Prod.ext (nextOf_eq (by decide +kernel)) (by decide +kernel) | exact Prod.ext rfl (by decide +kernel) | (intro _ h; cases h; done) | (intro _ _ h; cases h; done) | rfl
  · refine ⟨msixUp true, ?_, ?_, ?_, 0, (0, { base := 8192, size := 8, head := 1, ien := true, unsig := 2 }).snd, ?_, ?_, ?_, ?_, ?_, ?_⟩ <;>
    first | decide +kernel | exact nextOf_eq (by decide +kernel) | exact Prod.ext (nextOf_eq (by decide +kernel)) (by decide +kernel) | exact Prod.ext rfl (by decide +kernel) | (intro _ h; cases h; done) | (intro _ _ h; cases h; done) | rfl
  · refine ⟨msixUp false, ?_, ?_, ?_, 0, (0, { base := 8192, size := 8, head := 1, ien := true, unsig := 2 }).snd, ?_, ?_, ?_, ?_, ?_, ?_⟩ <;>
    first | decide +kernel | exact nextOf_eq (by decide +kernel) | exact Prod.ext (nextOf_eq (by decide +kernel)) (by decide +kernel) | exact Prod.ext rfl (by decide +kernel) | (intro _ h; cases h; done) | (intro _ _ h; cases h; done) | rfl

theorem witness_HerdFramesAreServedForwardedAndReturned :
    (∃ (s : State), s.ok = true ∧ sortedFrom none s.hrd.transit = true ∧ sortedFrom none s.hrd.origin = true ∧ ∃ (p : Fin 4) (h : HerdHdr), s.portUp p.val = true ∧ s.on FAB_PORTCTL_HERD p.val = true ∧ let used := s.hrd.transit.length + s.hrd.origin.length; let left : Nat := BitVec.toNat h.deadline - max 1 h.residence.toNat; h.ok = true ∧ h.dest.toNat ≤ 16383 ∧ h.dest.toNat ≠ s.fld HRD_ID_MEMBER ∧ BitVec.toNat h.hops + 1 ≤ s.cur HRD_HOPLIM_LIMIT ∧ ∃ (out mac k : Nat), s.route h.dest.toNat = some (out, mac, k) ∧ used < 4096 ∧ left ≠ 0) ∧
    (∃ (s : State), s.ok = true ∧ sortedFrom none s.hrd.transit = true ∧ sortedFrom none s.hrd.origin = true ∧ ∃ (p : Fin 4) (h : HerdHdr), s.portUp p.val = true ∧ s.on FAB_PORTCTL_HERD p.val = true ∧ (h.ok = false ∨ 16383 < h.dest.toNat)) ∧
    (∃ (s : State), s.ok = true ∧ sortedFrom none s.hrd.transit = true ∧ sortedFrom none s.hrd.origin = true ∧ ∃ (p : Fin 4) (h : HerdHdr), s.portUp p.val = true ∧ s.on FAB_PORTCTL_HERD p.val = true ∧ h.ok = true ∧ h.dest.toNat ≤ 16383 ∧ h.dest.toNat = s.fld HRD_ID_MEMBER ∧ (s.domOn dLEX = false ∨ s.flag LEX_CTL_ENA = false)) ∧
    (∃ (s : State), s.ok = true ∧ sortedFrom none s.hrd.transit = true ∧ sortedFrom none s.hrd.origin = true ∧ ∃ (p : Fin 4) (h : HerdHdr), s.portUp p.val = true ∧ s.on FAB_PORTCTL_HERD p.val = true ∧ h.ok = true ∧ h.dest.toNat ≤ 16383 ∧ h.dest.toNat ≠ s.fld HRD_ID_MEMBER ∧ BitVec.toNat h.hops + 1 ≤ s.cur HRD_HOPLIM_LIMIT ∧ s.route h.dest.toNat = none) ∧
    (∃ (s : State), s.ok = true ∧ sortedFrom none s.hrd.transit = true ∧ sortedFrom none s.hrd.origin = true ∧ ∃ (p : Fin 4) (h : HerdHdr), s.portUp p.val = true ∧ s.on FAB_PORTCTL_HERD p.val = true ∧ h.ok = true ∧ h.dest.toNat ≤ 16383 ∧ h.dest.toNat ≠ s.fld HRD_ID_MEMBER ∧ s.cur HRD_HOPLIM_LIMIT < BitVec.toNat h.hops + 1) ∧
    (∃ (s : State), s.ok = true ∧ sortedFrom none s.hrd.transit = true ∧ sortedFrom none s.hrd.origin = true ∧ ∃ (p : Fin 4) (h : HerdHdr), s.portUp p.val = true ∧ s.on FAB_PORTCTL_HERD p.val = true ∧ let used := s.hrd.transit.length + s.hrd.origin.length; let left : Nat := BitVec.toNat h.deadline - max 1 h.residence.toNat; h.ok = true ∧ h.dest.toNat ≤ 16383 ∧ h.dest.toNat ≠ s.fld HRD_ID_MEMBER ∧ BitVec.toNat h.hops + 1 ≤ s.cur HRD_HOPLIM_LIMIT ∧ ∃ (out mac k : Nat), s.route h.dest.toNat = some (out, mac, k) ∧ used < 4096 ∧ left = 0) ∧
    (∃ (s : State), s.ok = true ∧ sortedFrom none s.hrd.transit = true ∧ sortedFrom none s.hrd.origin = true ∧ ∃ (p : Fin 4) (h : HerdHdr), s.portUp p.val = true ∧ s.on FAB_PORTCTL_HERD p.val = true ∧ h.ok = true ∧ h.dest.toNat ≤ 16383 ∧ let left : Nat := BitVec.toNat h.deadline - max 1 h.residence.toNat; h.dest.toNat ≠ s.fld HRD_ID_MEMBER ∧ ∃ (out mac k : Nat), left ≠ 0 ∧ mfind s.hrd.transit (hdrKey h) = none ∧ s.route h.dest.toNat = some (out, mac, k) ∧ s.flag FAB_PORTSTAT_UP out = true ∧ s.on FAB_PORTCTL_HERD out = true) ∧
    (∃ (s : State), s.ok = true ∧ sortedFrom none s.hrd.transit = true ∧ sortedFrom none s.hrd.origin = true ∧ ∃ (p : Fin 4) (h : HerdHdr), s.portUp p.val = true ∧ s.on FAB_PORTCTL_HERD p.val = true ∧ h.ok = true ∧ h.dest.toNat ≤ 16383 ∧ h.dest.toNat = s.fld HRD_ID_MEMBER ∧ mfind s.hrd.origin (BitVec.toNat h.txid) = none) ∧
    (∃ (s : State), s.ok = true ∧ sortedFrom none s.hrd.transit = true ∧ sortedFrom none s.hrd.origin = true ∧ ∃ (p : Fin 4) (h : HerdHdr), s.portUp p.val = true ∧ s.on FAB_PORTCTL_HERD p.val = true ∧ h.ok = true ∧ h.dest.toNat ≤ 16383 ∧ let left : Nat := BitVec.toNat h.deadline - max 1 h.residence.toNat; h.dest.toNat ≠ s.fld HRD_ID_MEMBER ∧ left ≠ 0 ∧ mfind s.hrd.transit (hdrKey h) = none ∧ s.route h.dest.toNat = none) ∧
    (∃ (s : State), s.ok = true ∧ sortedFrom none s.hrd.transit = true ∧ sortedFrom none s.hrd.origin = true ∧ ∃ (p : Fin 4) (h : HerdHdr), s.portUp p.val = true ∧ s.on FAB_PORTCTL_HERD p.val = true ∧ h.ok = true ∧ h.dest.toNat ≤ 16383 ∧ h.dest.toNat = s.fld HRD_ID_MEMBER ∧ s.domOn dLEX = true ∧ s.flag LEX_CTL_ENA = true) ∧
    (∃ (s : State), s.ok = true ∧ sortedFrom none s.hrd.transit = true ∧ sortedFrom none s.hrd.origin = true ∧ ∃ (p : Fin 4) (h : HerdHdr), s.portUp p.val = true ∧ s.on FAB_PORTCTL_HERD p.val = true ∧ h.ok = true ∧ h.dest.toNat ≤ 16383 ∧ let left : Nat := BitVec.toNat h.deadline - max 1 h.residence.toNat; h.dest.toNat ≠ s.fld HRD_ID_MEMBER ∧ ∃ (w : Transit), left ≠ 0 ∧ mfind s.hrd.transit (hdrKey h) = some w ∧ s.flag FAB_PORTSTAT_UP w.port = true ∧ s.on FAB_PORTCTL_HERD w.port = true) ∧
    (∃ (s : State), s.ok = true ∧ sortedFrom none s.hrd.transit = true ∧ sortedFrom none s.hrd.origin = true ∧ ∃ (origin : BitVec 14) (txid : Word) (w : Transit), mfind s.hrd.transit (origin.toNat * 2 ^ 32 + BitVec.toNat txid) = some w ∧ s.mtime < w.deadline) ∧
    (∃ (s : State), s.ok = true ∧ sortedFrom none s.hrd.transit = true ∧ sortedFrom none s.hrd.origin = true ∧ ∃ (p : Fin 4) (h : HerdHdr), s.portUp p.val = true ∧ s.on FAB_PORTCTL_HERD p.val = true ∧ let used := s.hrd.transit.length + s.hrd.origin.length; h.ok = true ∧ h.dest.toNat ≤ 16383 ∧ h.dest.toNat ≠ s.fld HRD_ID_MEMBER ∧ BitVec.toNat h.hops + 1 ≤ s.cur HRD_HOPLIM_LIMIT ∧ ∃ (out mac k : Nat), s.route h.dest.toNat = some (out, mac, k) ∧ 4096 ≤ used) ∧
    (∃ (s : State), s.ok = true ∧ sortedFrom none s.hrd.transit = true ∧ sortedFrom none s.hrd.origin = true ∧ ∃ (p : Fin 4) (h : HerdHdr) (ofs : Word), s.portUp p.val = true ∧ s.on FAB_PORTCTL_HERD p.val = true ∧ h.ok = true ∧ h.dest.toNat ≤ 16383 ∧ h.dest.toNat = s.fld HRD_ID_MEMBER ∧ ∃ (id got at' : Nat) (c : Cmd), mfind s.hrd.origin (BitVec.toNat h.txid) = some (id, got, at') ∧ s.cmd id = some c ∧ c.phase = 11 ∧ BitVec.toNat ofs = got) ∧
    (∃ (s : State), s.ok = true ∧ sortedFrom none s.hrd.transit = true ∧ sortedFrom none s.hrd.origin = true ∧ ∃ (p : Fin 4) (h : HerdHdr) (ofs : Word), s.portUp p.val = true ∧ s.on FAB_PORTCTL_HERD p.val = true ∧ h.ok = true ∧ h.dest.toNat ≤ 16383 ∧ h.dest.toNat = s.fld HRD_ID_MEMBER ∧ ∃ (id got at' : Nat) (c : Cmd), mfind s.hrd.origin (BitVec.toNat h.txid) = some (id, got, at') ∧ s.cmd id = some c ∧ c.phase = 11 ∧ BitVec.toNat ofs ≠ got) ∧
    (∃ (s : State), s.ok = true ∧ sortedFrom none s.hrd.transit = true ∧ sortedFrom none s.hrd.origin = true ∧ ∃ (txid : Word) (id got at' : Nat) (c : Cmd), mfind s.hrd.origin (BitVec.toNat txid) = some (id, got, at') ∧ s.cmd id = some c ∧ c.phase = 11 ∧ s.mtime < at' + 100 * s.cur HRD_DEADLINE_US) ∧
    (∃ (s : State), s.ok = true ∧ sortedFrom none s.hrd.transit = true ∧ sortedFrom none s.hrd.origin = true ∧ ∃ (txid : Word) (id got at' : Nat) (c : Cmd), mfind s.hrd.origin (BitVec.toNat txid) = some (id, got, at') ∧ s.cmd id = some c ∧ c.phase = 11 ∧ at' + 100 * s.cur HRD_DEADLINE_US ≤ s.mtime) ∧
    (∃ (s : State), s.ok = true ∧ sortedFrom none s.hrd.transit = true ∧ sortedFrom none s.hrd.origin = true ∧ ∃ (origin : BitVec 14) (txid : Word) (w : Transit), mfind s.hrd.transit (origin.toNat * 2 ^ 32 + BitVec.toNat txid) = some w ∧ w.deadline ≤ s.mtime) := by
  refine ⟨?_, ?_, ?_, ?_, ?_, ?_, ?_, ?_, ?_, ?_, ?_, ?_, ?_, ?_, ?_, ?_, ?_, ?_⟩
  · refine ⟨herd, ?_, ?_, ?_, 0, hdr, ?_, ?_, ?_, ?_, ?_, ?_, 0, 2748, 0, ?_, ?_, ?_⟩ <;>
    first | decide +kernel | exact nextOf_eq (by decide +kernel) | exact Prod.ext (nextOf_eq (by decide +kernel)) (by decide +kernel) | exact Prod.ext rfl (by decide +kernel) | (intro _ h; cases h; done) | (intro _ _ h; cases h; done) | rfl
  · refine ⟨herd, ?_, ?_, ?_, 0, { hdr with ok := false }, ?_, ?_, ?_⟩ <;>
    first | decide +kernel | exact nextOf_eq (by decide +kernel) | exact Prod.ext (nextOf_eq (by decide +kernel)) (by decide +kernel) | exact Prod.ext rfl (by decide +kernel) | (intro _ h; cases h; done) | (intro _ _ h; cases h; done) | rfl
  · refine ⟨herd, ?_, ?_, ?_, 0, { hdr with dest := 2 }, ?_, ?_, ?_, ?_, ?_, ?_⟩ <;>
    first | decide +kernel | exact nextOf_eq (by decide +kernel) | exact Prod.ext (nextOf_eq (by decide +kernel)) (by decide +kernel) | exact Prod.ext rfl (by decide +kernel) | (intro _ h; cases h; done) | (intro _ _ h; cases h; done) | rfl
  · refine ⟨herd, ?_, ?_, ?_, 0, { hdr with dest := 8 }, ?_, ?_, ?_, ?_, ?_, ?_, ?_⟩ <;>
    first | decide +kernel | exact nextOf_eq (by decide +kernel) | exact Prod.ext (nextOf_eq (by decide +kernel)) (by decide +kernel) | exact Prod.ext rfl (by decide +kernel) | (intro _ h; cases h; done) | (intro _ _ h; cases h; done) | rfl
  · refine ⟨herd, ?_, ?_, ?_, 0, { hdr with hops := 255 }, ?_, ?_, ?_, ?_, ?_, ?_⟩ <;>
    first | decide +kernel | exact nextOf_eq (by decide +kernel) | exact Prod.ext (nextOf_eq (by decide +kernel)) (by decide +kernel) | exact Prod.ext rfl (by decide +kernel) | (intro _ h; cases h; done) | (intro _ _ h; cases h; done) | rfl
  · refine ⟨herd, ?_, ?_, ?_, 0, { hdr with deadline := 1 }, ?_, ?_, ?_, ?_, ?_, ?_, 0, 2748, 0, ?_, ?_, ?_⟩ <;>
    first | decide +kernel | exact nextOf_eq (by decide +kernel) | exact Prod.ext (nextOf_eq (by decide +kernel)) (by decide +kernel) | exact Prod.ext rfl (by decide +kernel) | (intro _ h; cases h; done) | (intro _ _ h; cases h; done) | rfl
  · refine ⟨herd, ?_, ?_, ?_, 0, hdr, ?_, ?_, ?_, ?_, ?_, 0, 2748, 0, ?_, ?_, ?_, ?_, ?_⟩ <;>
    first | decide +kernel | exact nextOf_eq (by decide +kernel) | exact Prod.ext (nextOf_eq (by decide +kernel)) (by decide +kernel) | exact Prod.ext rfl (by decide +kernel) | (intro _ h; cases h; done) | (intro _ _ h; cases h; done) | rfl
  · refine ⟨herd, ?_, ?_, ?_, 0, { hdr with dest := 2 }, ?_, ?_, ?_, ?_, ?_, ?_⟩ <;>
    first | decide +kernel | exact nextOf_eq (by decide +kernel) | exact Prod.ext (nextOf_eq (by decide +kernel)) (by decide +kernel) | exact Prod.ext rfl (by decide +kernel) | (intro _ h; cases h; done) | (intro _ _ h; cases h; done) | rfl
  · refine ⟨herd, ?_, ?_, ?_, 0, { hdr with dest := 8 }, ?_, ?_, ?_, ?_, ?_, ?_, ?_, ?_⟩ <;>
    first | decide +kernel | exact nextOf_eq (by decide +kernel) | exact Prod.ext (nextOf_eq (by decide +kernel)) (by decide +kernel) | exact Prod.ext rfl (by decide +kernel) | (intro _ h; cases h; done) | (intro _ _ h; cases h; done) | rfl
  · refine ⟨herd.setFld LEX_CTL_ENA 1, ?_, ?_, ?_, 0, { hdr with dest := 2 }, ?_, ?_, ?_, ?_, ?_, ?_, ?_⟩ <;>
    first | decide +kernel | exact nextOf_eq (by decide +kernel) | exact Prod.ext (nextOf_eq (by decide +kernel)) (by decide +kernel) | exact Prod.ext rfl (by decide +kernel) | (intro _ h; cases h; done) | (intro _ _ h; cases h; done) | rfl
  · refine ⟨herdTransit, ?_, ?_, ?_, 0, hdr, ?_, ?_, ?_, ?_, ?_, { port := 0, mac := 1, out := 1, deadline := 50 }, ?_, ?_, ?_, ?_⟩ <;>
    first | decide +kernel | exact nextOf_eq (by decide +kernel) | exact Prod.ext (nextOf_eq (by decide +kernel)) (by decide +kernel) | exact Prod.ext rfl (by decide +kernel) | (intro _ h; cases h; done) | (intro _ _ h; cases h; done) | rfl
  · refine ⟨herdTransit, ?_, ?_, ?_, 3, 7, { port := 0, mac := 1, out := 1, deadline := 50 }, ?_, ?_⟩ <;>
    first | decide +kernel | exact nextOf_eq (by decide +kernel) | exact Prod.ext (nextOf_eq (by decide +kernel)) (by decide +kernel) | exact Prod.ext rfl (by decide +kernel) | (intro _ h; cases h; done) | (intro _ _ h; cases h; done) | rfl
  · refine ⟨herdFull, ?_, ?_, ?_, 0, hdr, ?_, ?_, ?_, ?_, ?_, ?_, 0, 2748, 0, ?_, ?_⟩ <;>
    first | decide +kernel | exact nextOf_eq (by decide +kernel) | exact Prod.ext (nextOf_eq (by decide +kernel)) (by decide +kernel) | exact Prod.ext rfl (by decide +kernel) | (intro _ h; cases h; done) | (intro _ _ h; cases h; done) | rfl
  · refine ⟨herdOrigin, ?_, ?_, ?_, 0, { hdr with dest := 2 }, 0, ?_, ?_, ?_, ?_, ?_, 4, 0, 0, { sq := 1, phase := 11 }, ?_, ?_, ?_, ?_⟩ <;>
    first | decide +kernel | exact nextOf_eq (by decide +kernel) | exact Prod.ext (nextOf_eq (by decide +kernel)) (by decide +kernel) | exact Prod.ext rfl (by decide +kernel) | (intro _ h; cases h; done) | (intro _ _ h; cases h; done) | rfl
  · refine ⟨herdOrigin, ?_, ?_, ?_, 0, { hdr with dest := 2 }, 7, ?_, ?_, ?_, ?_, ?_, 4, 0, 0, { sq := 1, phase := 11 }, ?_, ?_, ?_, ?_⟩ <;>
    first | decide +kernel | exact nextOf_eq (by decide +kernel) | exact Prod.ext (nextOf_eq (by decide +kernel)) (by decide +kernel) | exact Prod.ext rfl (by decide +kernel) | (intro _ h; cases h; done) | (intro _ _ h; cases h; done) | rfl
  · refine ⟨herdOrigin, ?_, ?_, ?_, 7, 4, 0, 0, { sq := 1, phase := 11 }, ?_, ?_, ?_, ?_⟩ <;>
    first | decide +kernel | exact nextOf_eq (by decide +kernel) | exact Prod.ext (nextOf_eq (by decide +kernel)) (by decide +kernel) | exact Prod.ext rfl (by decide +kernel) | (intro _ h; cases h; done) | (intro _ _ h; cases h; done) | rfl
  · refine ⟨later herdOrigin, ?_, ?_, ?_, 7, 4, 0, 0, { sq := 1, phase := 11 }, ?_, ?_, ?_, ?_⟩ <;>
    first | decide +kernel | exact nextOf_eq (by decide +kernel) | exact Prod.ext (nextOf_eq (by decide +kernel)) (by decide +kernel) | exact Prod.ext rfl (by decide +kernel) | (intro _ h; cases h; done) | (intro _ _ h; cases h; done) | rfl
  · refine ⟨later herdTransit, ?_, ?_, ?_, 3, 7, { port := 0, mac := 1, out := 1, deadline := 50 }, ?_, ?_⟩ <;>
    first | decide +kernel | exact nextOf_eq (by decide +kernel) | exact Prod.ext (nextOf_eq (by decide +kernel)) (by decide +kernel) | exact Prod.ext rfl (by decide +kernel) | (intro _ h; cases h; done) | (intro _ _ h; cases h; done) | rfl

theorem witness_LexiconOperationsWorkOnTheTable :
    (∃ (s : State) (m : MasterId), s.ok = true ∧ s.MayWrite m.val LEX_OPCTL ∧ let find (key : Nat) : Option (Nat × Nat) := (lexFind key s).2; ∃ (key : Nat) (p : Nat × Nat), find key = some p) ∧
    (∃ (s : State) (m : MasterId), s.ok = true ∧ s.MayWrite m.val LEX_OPCTL ∧ let find (key : Nat) : Option (Nat × Nat) := (lexFind key s).2; let clean (a : Nat) : Prop := s.cleanDram 13 .read a 64 = true ∧ s.cleanDram 13 .write a 64 = true; let reach (key : Nat) : Prop := ∀ a ∈ s.bucketLines (s.buckets key).1 ++ s.bucketLines (s.buckets key).2, clean a; s.flag LEX_OPSTAT_BUSY = false ∧ s.domOn dLEX = true ∧ s.flag LEX_CTL_ENA = true ∧ ∃ (p : Nat × Nat), reach s.opKey ∧ find s.opKey = some p) ∧
    (∃ (s : State) (m : MasterId), s.ok = true ∧ s.MayWrite m.val LEX_OPCTL ∧ let find (key : Nat) : Option (Nat × Nat) := (lexFind key s).2; let clean (a : Nat) : Prop := s.cleanDram 13 .read a 64 = true ∧ s.cleanDram 13 .write a 64 = true; let reach (key : Nat) : Prop := ∀ a ∈ s.bucketLines (s.buckets key).1 ++ s.bucketLines (s.buckets key).2, clean a; s.flag LEX_OPSTAT_BUSY = false ∧ s.domOn dLEX = true ∧ s.flag LEX_CTL_ENA = true ∧ let e : Nat := if entFlag s.opData eVALID = true then s.opData else s.opData + 2 ^ 72; s.entryOk e = true ∧ reach (entKey e) ∧ ∃ (p : Nat × Nat), find (entKey e) = some p) ∧
    (∃ (s : State) (m : MasterId), s.ok = true ∧ s.MayWrite m.val LEX_OPCTL ∧ let at' (p : Nat × Nat) : Nat := s.lexLine (s.wayAddr p.1 p.2); let clean (a : Nat) : Prop := s.cleanDram 13 .read a 64 = true ∧ s.cleanDram 13 .write a 64 = true; s.flag LEX_OPSTAT_BUSY = false ∧ s.domOn dLEX = true ∧ s.flag LEX_CTL_ENA = true ∧ let b : Nat := s.fld LEX_OPLOC_BUCKET; let e : Nat := at' (b, s.fld LEX_OPLOC_WAY); b < s.lexB ∧ entFlag e eVALID = true ∧ clean (s.wayAddr b (s.fld LEX_OPLOC_WAY))) ∧
    (∃ (s : State) (m : MasterId), s.ok = true ∧ s.MayWrite m.val LEX_OPCTL ∧ s.flag LEX_OPSTAT_BUSY = false ∧ s.domOn dLEX = true ∧ s.flag LEX_CTL_ENA = true ∧ let i : Nat := s.fld LEX_OPKEY_KEY; s.lexSlots ≤ i) ∧
    (∃ (s : State) (m : MasterId), s.ok = true ∧ s.MayWrite m.val LEX_OPCTL ∧ let find (key : Nat) : Option (Nat × Nat) := (lexFind key s).2; let clean (a : Nat) : Prop := s.cleanDram 13 .read a 64 = true ∧ s.cleanDram 13 .write a 64 = true; let reach (key : Nat) : Prop := ∀ a ∈ s.bucketLines (s.buckets key).1 ++ s.bucketLines (s.buckets key).2, clean a; s.flag LEX_OPSTAT_BUSY = false ∧ s.domOn dLEX = true ∧ s.flag LEX_CTL_ENA = true ∧ reach s.opKey ∧ find s.opKey = none) ∧
    (∃ (s : State) (m : MasterId), s.ok = true ∧ s.MayWrite m.val LEX_OPCTL ∧ let find (key : Nat) : Option (Nat × Nat) := (lexFind key s).2; let clean (a : Nat) : Prop := s.cleanDram 13 .read a 64 = true ∧ s.cleanDram 13 .write a 64 = true; let reach (key : Nat) : Prop := ∀ a ∈ s.bucketLines (s.buckets key).1 ++ s.bucketLines (s.buckets key).2, clean a; s.flag LEX_OPSTAT_BUSY = false ∧ s.domOn dLEX = true ∧ s.flag LEX_CTL_ENA = true ∧ let e : Nat := if entFlag s.opData eVALID = true then s.opData else s.opData + 2 ^ 72; s.entryOk e = true ∧ reach (entKey e) ∧ find (entKey e) = none ∧ ∃ (p : Nat × Nat), s.emptyWay (entKey e) = some p) ∧
    (∃ (s : State) (m : MasterId), s.ok = true ∧ s.MayWrite m.val LEX_OPCTL ∧ let at' (p : Nat × Nat) : Nat := s.lexLine (s.wayAddr p.1 p.2); s.flag LEX_OPSTAT_BUSY = false ∧ s.domOn dLEX = true ∧ s.flag LEX_CTL_ENA = true ∧ let b : Nat := s.fld LEX_OPLOC_BUCKET; let e : Nat := at' (b, s.fld LEX_OPLOC_WAY); b < s.lexB ∧ entFlag e eVALID = false) ∧
    (∃ (s : State) (m : MasterId), s.ok = true ∧ s.MayWrite m.val LEX_OPCTL ∧ let find (key : Nat) : Option (Nat × Nat) := (lexFind key s).2; ∃ (key : Nat), find key = none ∧ ∃ (b w : Nat), (b = (s.buckets key).fst ∨ b = (s.buckets key).snd) ∧ w < 4) ∧
    (∃ (s : State) (m : MasterId), s.ok = true ∧ s.MayWrite m.val LEX_OPCTL ∧ s.flag LEX_OPSTAT_BUSY = false ∧ s.domOn dLEX = true ∧ s.flag LEX_CTL_ENA = true ∧ let e : Nat := if entFlag s.opData eVALID = true then s.opData else s.opData + 2 ^ 72; s.entryOk e = false) ∧
    (∃ (s : State) (m : MasterId), s.ok = true ∧ s.MayWrite m.val LEX_OPCTL ∧ let find (key : Nat) : Option (Nat × Nat) := (lexFind key s).2; let clean (a : Nat) : Prop := s.cleanDram 13 .read a 64 = true ∧ s.cleanDram 13 .write a 64 = true; let reach (key : Nat) : Prop := ∀ a ∈ s.bucketLines (s.buckets key).1 ++ s.bucketLines (s.buckets key).2, clean a; s.flag LEX_OPSTAT_BUSY = false ∧ s.domOn dLEX = true ∧ s.flag LEX_CTL_ENA = true ∧ let e : Nat := if entFlag s.opData eVALID = true then s.opData else s.opData + 2 ^ 72; s.entryOk e = true ∧ reach (entKey e) ∧ find (entKey e) = none ∧ s.emptyWay (entKey e) = none) ∧
    (∃ (s : State) (m : MasterId), s.ok = true ∧ s.MayWrite m.val LEX_OPCTL ∧ (s.flag LEX_OPSTAT_BUSY = true ∨ s.domOn dLEX = false ∨ s.flag LEX_CTL_ENA = false)) ∧
    (∃ (s : State) (m : MasterId), s.ok = true ∧ s.MayWrite m.val LEX_OPCTL ∧ s.flag LEX_OPSTAT_BUSY = false ∧ s.domOn dLEX = true ∧ s.flag LEX_CTL_ENA = true ∧ let b : Nat := s.fld LEX_OPLOC_BUCKET; s.lexB ≤ b) ∧
    (∃ (s : State) (m : MasterId), s.ok = true ∧ s.MayWrite m.val LEX_OPCTL ∧ let clean (a : Nat) : Prop := s.cleanDram 13 .read a 64 = true ∧ s.cleanDram 13 .write a 64 = true; s.flag LEX_OPSTAT_BUSY = false ∧ s.domOn dLEX = true ∧ s.flag LEX_CTL_ENA = true ∧ let i : Nat := s.fld LEX_OPKEY_KEY; i < s.lexSlots ∧ clean (s.heapAddr i)) := by
  refine ⟨?_, ?_, ?_, ?_, ?_, ?_, ?_, ?_, ?_, ?_, ?_, ?_, ?_, ?_⟩
  · refine ⟨lexHit, 0, ?_, ?_, 5, (lexFind 5 lexHit).snd.getD (0, 0), ?_⟩ <;>
    first | decide +kernel | exact nextOf_eq (by decide +kernel) | exact Prod.ext (nextOf_eq (by decide +kernel)) (by decide +kernel) | exact Prod.ext rfl (by decide +kernel) | (intro _ h; cases h; done) | (intro _ _ h; cases h; done) | rfl
  · refine ⟨lexHit, 0, ?_, ?_, ?_, ?_, ?_, (lexFind 5 lexHit).snd.getD (0, 0), ?_, ?_⟩ <;>
    first | decide +kernel | exact nextOf_eq (by decide +kernel) | exact Prod.ext (nextOf_eq (by decide +kernel)) (by decide +kernel) | exact Prod.ext rfl (by decide +kernel) | (intro _ h; cases h; done) | (intro _ _ h; cases h; done) | rfl
  · refine ⟨lexHit, 0, ?_, ?_, ?_, ?_, ?_, ?_, ?_, (lexFind 5 lexHit).snd.getD (0, 0), ?_⟩ <;>
    first | decide +kernel | exact nextOf_eq (by decide +kernel) | exact Prod.ext (nextOf_eq (by decide +kernel)) (by decide +kernel) | exact Prod.ext rfl (by decide +kernel) | (intro _ h; cases h; done) | (intro _ _ h; cases h; done) | rfl
  · refine ⟨lexHit, 0, ?_, ?_, ?_, ?_, ?_, ?_, ?_, ?_⟩ <;>
    first | decide +kernel | exact nextOf_eq (by decide +kernel) | exact Prod.ext (nextOf_eq (by decide +kernel)) (by decide +kernel) | exact Prod.ext rfl (by decide +kernel) | (intro _ h; cases h; done) | (intro _ _ h; cases h; done) | rfl
  · refine ⟨lexHit, 0, ?_, ?_, ?_, ?_, ?_, ?_⟩ <;>
    first | decide +kernel | exact nextOf_eq (by decide +kernel) | exact Prod.ext (nextOf_eq (by decide +kernel)) (by decide +kernel) | exact Prod.ext rfl (by decide +kernel) | (intro _ h; cases h; done) | (intro _ _ h; cases h; done) | rfl
  · refine ⟨lexMiss, 0, ?_, ?_, ?_, ?_, ?_, ?_, ?_⟩ <;>
    first | decide +kernel | exact nextOf_eq (by decide +kernel) | exact Prod.ext (nextOf_eq (by decide +kernel)) (by decide +kernel) | exact Prod.ext rfl (by decide +kernel) | (intro _ h; cases h; done) | (intro _ _ h; cases h; done) | rfl
  · refine ⟨lexMiss, 0, ?_, ?_, ?_, ?_, ?_, ?_, ?_, ?_, (lexHit.emptyWay 6).getD (9, 9), ?_⟩ <;>
    first | decide +kernel | exact nextOf_eq (by decide +kernel) | exact Prod.ext (nextOf_eq (by decide +kernel)) (by decide +kernel) | exact Prod.ext rfl (by decide +kernel) | (intro _ h; cases h; done) | (intro _ _ h; cases h; done) | rfl
  · refine ⟨lexMiss, 0, ?_, ?_, ?_, ?_, ?_, ?_, ?_⟩ <;>
    first | decide +kernel | exact nextOf_eq (by decide +kernel) | exact Prod.ext (nextOf_eq (by decide +kernel)) (by decide +kernel) | exact Prod.ext rfl (by decide +kernel) | (intro _ h; cases h; done) | (intro _ _ h; cases h; done) | rfl
  · refine ⟨lexBad, 0, ?_, ?_, 5, ?_, (lexUp.buckets 5).fst, 0, ?_, ?_⟩ <;>
    first | decide +kernel | exact nextOf_eq (by decide +kernel) | exact Prod.ext (nextOf_eq (by decide +kernel)) (by decide +kernel) | exact Prod.ext rfl (by decide +kernel) | (intro _ h; cases h; done) | (intro _ _ h; cases h; done) | rfl
  · refine ⟨lexBad, 0, ?_, ?_, ?_, ?_, ?_, ?_⟩ <;>
    first | decide +kernel | exact nextOf_eq (by decide +kernel) | exact Prod.ext (nextOf_eq (by decide +kernel)) (by decide +kernel) | exact Prod.ext rfl (by decide +kernel) | (intro _ h; cases h; done) | (intro _ _ h; cases h; done) | rfl
  · refine ⟨lexFull, 0, ?_, ?_, ?_, ?_, ?_, ?_, ?_, ?_, ?_⟩ <;>
    first | decide +kernel | exact nextOf_eq (by decide +kernel) | exact Prod.ext (nextOf_eq (by decide +kernel)) (by decide +kernel) | exact Prod.ext rfl (by decide +kernel) | (intro _ h; cases h; done) | (intro _ _ h; cases h; done) | rfl
  · refine ⟨lexBusy, 0, ?_, ?_, ?_⟩ <;>
    first | decide +kernel | exact nextOf_eq (by decide +kernel) | exact Prod.ext (nextOf_eq (by decide +kernel)) (by decide +kernel) | exact Prod.ext rfl (by decide +kernel) | (intro _ h; cases h; done) | (intro _ _ h; cases h; done) | rfl
  · refine ⟨lexSlotted, 0, ?_, ?_, ?_, ?_, ?_, ?_⟩ <;>
    first | decide +kernel | exact nextOf_eq (by decide +kernel) | exact Prod.ext (nextOf_eq (by decide +kernel)) (by decide +kernel) | exact Prod.ext rfl (by decide +kernel) | (intro _ h; cases h; done) | (intro _ _ h; cases h; done) | rfl
  · refine ⟨lexSlotted, 0, ?_, ?_, ?_, ?_, ?_, ?_, ?_⟩ <;>
    first | decide +kernel | exact nextOf_eq (by decide +kernel) | exact Prod.ext (nextOf_eq (by decide +kernel)) (by decide +kernel) | exact Prod.ext rfl (by decide +kernel) | (intro _ h; cases h; done) | (intro _ _ h; cases h; done) | rfl

theorem witness_SegmentsAreStoredRetrievedAndLoaded :
    (∃ (s : State) (id : Nat) (c : Cmd), s.ok = true ∧ sortedFrom none s.cmds = true ∧ ∃ (slot : Nat) (ptrs : List Nat) (c1 : Cmd), s.KvReady id c 2 slot ∧ let buf := c.cdw 10; let s0 := takePtrs id buf ptrs (fabTaken c s); s0.cmd id = some c1 ∧ ∃ (rd l : List (Nat × Nat)), s.Ptrs c buf ptrs rd l) ∧
    (∃ (s : State) (id : Nat) (c : Cmd), s.ok = true ∧ sortedFrom none s.cmds = true ∧ ∃ (slot e : Nat) (ptrs : List Nat) (s2 : State) (c1 : Cmd), s.KvReady id c 2 slot ∧ let key : Nat := c.kvKey; let buf := c.cdw 10; let seg : Nat := nbits key 80 48; let s0 := takePtrs id buf ptrs (fabTaken c s); let s1 : State := s0.incPair LEX_RETR_LO_COUNT LEX_RETR_HI_COUNT; let s3 : State := if (entFlag e eVARLEN && decide (seg < entSegs e)) = true then lexTouch false [s2.heapAddr (entTable e + seg / 8)] s2 else s2; s0.cmd id = some c1 ∧ lexEntry key s1 = (s2, some (e, false)) ∧ entNsid e = c.nsid ∧ seg < entSegs e ∧ entFlag e eFIRMWARE = false ∧ s3.on LEX_CTL_FWALL = false ∧ entOwner e ≠ s3.fld HRD_ID_MEMBER ∧ c1.segErr = 0) ∧
    (∃ (s : State) (id : Nat) (c : Cmd), s.ok = true ∧ sortedFrom none s.cmds = true ∧ ∃ (slot e : Nat) (ptrs : List Nat) (s2 : State) (c1 : Cmd), s.KvReady id c 2 slot ∧ let key : Nat := c.kvKey; let buf := c.cdw 10; let seg : Nat := nbits key 80 48; let s0 := takePtrs id buf ptrs (fabTaken c s); let s1 : State := s0.incPair LEX_RETR_LO_COUNT LEX_RETR_HI_COUNT; let s3 : State := if (entFlag e eVARLEN && decide (seg < entSegs e)) = true then lexTouch false [s2.heapAddr (entTable e + seg / 8)] s2 else s2; let start : Nat := (s3.segment e seg).fst; let len : Nat := (s3.segment e seg).snd; s0.cmd id = some c1 ∧ lexEntry key s1 = (s2, some (e, false)) ∧ entNsid e = c.nsid ∧ seg < entSegs e ∧ entFlag e eFIRMWARE = false ∧ s3.on LEX_CTL_FWALL = false ∧ entOwner e = s3.fld HRD_ID_MEMBER ∧ ∃ (k a n : Nat), len ≠ 0 ∧ buf ≠ 0 ∧ s3.slotOf (entNsid e) = some k ∧ s3.nsExists k = true ∧ s3.extent k e start len = some (a, n) ∧ (entFlag e eNODELIV = true ∨ (s3.deliveryKey (entDkey e)).isSome = true) ∧ c1.segErr = 0 ∧ let c' : Cmd := { c1 with slot := k, slba := a / s3.lbaBytes k, nlb := n / s3.lbaBytes k, kv := true, dw0 := len }; let s4 : State := { s3 with cmds := mins s3.cmds id c' }; (∀ (lu : Nat), lu ∈ s4.cmdUnits c' → entSt (s4.mapEntry k lu) ≠ 5)) ∧
    (∃ (s : State) (id : Nat) (c : Cmd), s.ok = true ∧ sortedFrom none s.cmds = true ∧ ∃ (slot e : Nat) (ptrs : List Nat) (s2 : State) (c1 : Cmd), s.KvReady id c 2 slot ∧ let key : Nat := c.kvKey; let buf := c.cdw 10; let seg : Nat := nbits key 80 48; let s0 := takePtrs id buf ptrs (fabTaken c s); let s1 : State := s0.incPair LEX_RETR_LO_COUNT LEX_RETR_HI_COUNT; let s3 : State := if (entFlag e eVARLEN && decide (seg < entSegs e)) = true then lexTouch false [s2.heapAddr (entTable e + seg / 8)] s2 else s2; s0.cmd id = some c1 ∧ lexEntry key s1 = (s2, some (e, false)) ∧ entNsid e = c.nsid ∧ seg < entSegs e ∧ (entFlag e eFIRMWARE = true ∨ s3.on LEX_CTL_FWALL = true)) ∧
    (∃ (s : State) (id : Nat) (c : Cmd), s.ok = true ∧ sortedFrom none s.cmds = true ∧ ∃ (slot e : Nat) (ptrs : List Nat) (s2 : State) (c1 : Cmd), s.KvReady id c 2 slot ∧ let key : Nat := c.kvKey; let buf := c.cdw 10; let s0 := takePtrs id buf ptrs (fabTaken c s); let s1 : State := s0.incPair LEX_RETR_LO_COUNT LEX_RETR_HI_COUNT; s0.cmd id = some c1 ∧ lexEntry key s1 = (s2, some (e, true))) ∧
    (∃ (s : State) (id : Nat) (c : Cmd), s.ok = true ∧ sortedFrom none s.cmds = true ∧ ∃ (slot : Nat) (ptrs : List Nat) (s2 : State) (c1 : Cmd), s.KvReady id c 2 slot ∧ let key : Nat := c.kvKey; let buf := c.cdw 10; let s0 := takePtrs id buf ptrs (fabTaken c s); let s1 : State := s0.incPair LEX_RETR_LO_COUNT LEX_RETR_HI_COUNT; s0.cmd id = some c1 ∧ lexEntry key s1 = (s2, none)) ∧
    (∃ (s : State) (id : Nat) (c : Cmd), s.ok = true ∧ sortedFrom none s.cmds = true ∧ ∃ (slot e : Nat) (ptrs : List Nat) (s2 : State) (c1 : Cmd), s.KvReady id c 2 slot ∧ let key : Nat := c.kvKey; let buf := c.cdw 10; let seg : Nat := nbits key 80 48; let s0 := takePtrs id buf ptrs (fabTaken c s); let s1 : State := s0.incPair LEX_RETR_LO_COUNT LEX_RETR_HI_COUNT; s0.cmd id = some c1 ∧ lexEntry key s1 = (s2, some (e, false)) ∧ (entNsid e ≠ c.nsid ∨ entSegs e ≤ seg)) ∧
    (∃ (s : State) (id : Nat) (c : Cmd), s.ok = true ∧ sortedFrom none s.cmds = true ∧ ∃ (slot e : Nat) (ptrs : List Nat) (s2 : State) (c1 : Cmd), s.KvReady id c 2 slot ∧ let key : Nat := c.kvKey; let buf := c.cdw 10; let seg : Nat := nbits key 80 48; let s0 := takePtrs id buf ptrs (fabTaken c s); let s1 : State := s0.incPair LEX_RETR_LO_COUNT LEX_RETR_HI_COUNT; let s3 : State := if (entFlag e eVARLEN && decide (seg < entSegs e)) = true then lexTouch false [s2.heapAddr (entTable e + seg / 8)] s2 else s2; let len : Nat := (s3.segment e seg).snd; s0.cmd id = some c1 ∧ lexEntry key s1 = (s2, some (e, false)) ∧ entNsid e = c.nsid ∧ seg < entSegs e ∧ entFlag e eFIRMWARE = false ∧ s3.on LEX_CTL_FWALL = false ∧ entOwner e = s3.fld HRD_ID_MEMBER ∧ len ≠ 0 ∧ buf = 0) ∧
    (∃ (s : State) (id : Nat) (c : Cmd), s.ok = true ∧ sortedFrom none s.cmds = true ∧ ∃ (slot e : Nat) (ptrs : List Nat) (s2 : State), s.KvReady id c 1 slot ∧ let key : Nat := c.kvKey; let seg : Nat := nbits key 80 48; let start : Nat := (s2.segment e seg).fst; let len : Nat := (s2.segment e seg).snd; let s1 : State := (fabTaken c s).inc LEX_STORES_COUNT; lexEntry key s1 = (s2, some (e, false)) ∧ entNsid e = c.nsid ∧ seg < entSegs e ∧ entFlag e eFIRMWARE = false ∧ s2.on LEX_CTL_FWALL = false ∧ entFlag e eNOSTORE = false ∧ entOwner e = s2.fld HRD_ID_MEMBER ∧ ∃ (a n : Nat) (rd l : List (Nat × Nat)), len ≠ 0 ∧ c.cdw 10 = len ∧ nbits (c.cdw 11) 8 8 = 0 ∧ s2.extent slot e start len = some (a, n) ∧ s2.Ptrs c len ptrs rd l) ∧
    (∃ (s : State) (id : Nat) (c : Cmd), s.ok = true ∧ sortedFrom none s.cmds = true ∧ ∃ (slot e : Nat) (s2 : State), s.KvReady id c 1 slot ∧ let key : Nat := c.kvKey; let seg : Nat := nbits key 80 48; let s1 : State := (fabTaken c s).inc LEX_STORES_COUNT; lexEntry key s1 = (s2, some (e, false)) ∧ entNsid e = c.nsid ∧ seg < entSegs e ∧ entFlag e eFIRMWARE = false ∧ s2.on LEX_CTL_FWALL = false ∧ entFlag e eNOSTORE = true) ∧
    (∃ (s : State) (id : Nat) (c : Cmd), s.ok = true ∧ sortedFrom none s.cmds = true ∧ ∃ (slot e : Nat) (s2 : State), s.KvReady id c 1 slot ∧ let key : Nat := c.kvKey; let s1 : State := (fabTaken c s).inc LEX_STORES_COUNT; lexEntry key s1 = (s2, some (e, true))) ∧
    (∃ (s : State) (id : Nat) (c : Cmd), s.ok = true ∧ sortedFrom none s.cmds = true ∧ ∃ (slot e : Nat) (s2 : State), s.KvReady id c 1 slot ∧ let key : Nat := c.kvKey; let seg : Nat := nbits key 80 48; let len : Nat := (s2.segment e seg).snd; let s1 : State := (fabTaken c s).inc LEX_STORES_COUNT; lexEntry key s1 = (s2, some (e, false)) ∧ entNsid e = c.nsid ∧ seg < entSegs e ∧ entFlag e eFIRMWARE = false ∧ s2.on LEX_CTL_FWALL = false ∧ entFlag e eNOSTORE = false ∧ entOwner e = s2.fld HRD_ID_MEMBER ∧ len ≠ 0 ∧ c.cdw 10 ≠ len) ∧
    (∃ (s : State) (id : Nat) (c : Cmd), s.ok = true ∧ sortedFrom none s.cmds = true ∧ ∃ (slot e : Nat) (s2 : State), s.KvReady id c 1 slot ∧ let key : Nat := c.kvKey; let seg : Nat := nbits key 80 48; let len : Nat := (s2.segment e seg).snd; let s1 : State := (fabTaken c s).inc LEX_STORES_COUNT; lexEntry key s1 = (s2, some (e, false)) ∧ entNsid e = c.nsid ∧ seg < entSegs e ∧ entFlag e eFIRMWARE = false ∧ s2.on LEX_CTL_FWALL = false ∧ entFlag e eNOSTORE = false ∧ entOwner e = s2.fld HRD_ID_MEMBER ∧ len ≠ 0 ∧ c.cdw 10 = len ∧ nbits (c.cdw 11) 8 8 ≠ 0) ∧
    (∃ (s : State) (id : Nat) (c : Cmd), s.ok = true ∧ sortedFrom none s.cmds = true ∧ ∃ (slot e : Nat) (s2 : State), s.KvReady id c 1 slot ∧ let key : Nat := c.kvKey; let seg : Nat := nbits key 80 48; let s1 : State := (fabTaken c s).inc LEX_STORES_COUNT; lexEntry key s1 = (s2, some (e, false)) ∧ (entNsid e ≠ c.nsid ∨ entSegs e ≤ seg)) ∧
    (∃ (s : State) (id : Nat) (c : Cmd), s.ok = true ∧ sortedFrom none s.cmds = true ∧ ∃ (slot : Nat) (s2 : State), s.KvReady id c 1 slot ∧ let key : Nat := c.kvKey; let s1 : State := (fabTaken c s).inc LEX_STORES_COUNT; lexEntry key s1 = (s2, none)) ∧
    (∃ (s : State) (id : Nat) (c : Cmd), s.ok = true ∧ sortedFrom none s.cmds = true ∧ ∃ (d : Deliv), s.cmd id = some c ∧ mfind s.lex.deliv id = some d ∧ sortedFrom none s.lex.deliv = true ∧ c.sct = 2) ∧
    (∃ (s : State) (id : Nat) (c : Cmd), s.ok = true ∧ sortedFrom none s.cmds = true ∧ ∃ (d : Deliv), s.cmd id = some c ∧ mfind s.lex.deliv id = some d ∧ sortedFrom none s.lex.deliv = true ∧ c.sct ≠ 2 ∧ (c.phase = 2 ∨ c.phase = 12) ∧ s.lexClass = true ∧ ∃ (key : List Byte), s.delivBad d = none ∧ (d.dkey = none ∨ d.dkey.bind s.deliveryKey = some key) ∧ let u := s.slotCw d.slot; let k0 := d.sent / 4096; let k1 := min d.n (((d.cw + k0) / u + 1) * u - d.cw); let ks := rangeFrom k0 (k1 - k0); ((ks.all fun (k : Nat) => s.cwReady id c k) = true)) := by
  refine ⟨?_, ?_, ?_, ?_, ?_, ?_, ?_, ?_, ?_, ?_, ?_, ?_, ?_, ?_, ?_, ?_, ?_⟩
  · refine ⟨kv (kvc 2 6 0 0 0) (entry 5), 4, kvc 2 6 0 0 0, ?_, ?_, 0, [], kvc 2 6 0 0 0, ?_, ?_, [], [], ?_⟩ <;>
    first | decide +kernel | exact nextOf_eq (by decide +kernel) | exact Prod.ext (nextOf_eq (by decide +kernel)) (by decide +kernel) | exact Prod.ext rfl (by decide +kernel) | (intro _ h; cases h; done) | (intro _ _ h; cases h; done) | rfl
  · refine ⟨kv (kvc 2 5 0 4096 0) owner9, 4, kvc 2 5 0 4096 0, ?_, ?_, 0, owner9, [], z1_13b, c1of (kvc 2 5 0 4096 0), ?_, ?_, ?_, ?_, ?_, ?_, ?_, ?_, ?_⟩ <;>
    first | decide +kernel | exact nextOf_eq (by decide +kernel) | exact Prod.ext (nextOf_eq (by decide +kernel)) (by decide +kernel) | exact Prod.ext rfl (by decide +kernel) | (intro _ h; cases h; done) | (intro _ _ h; cases h; done) | rfl
  · refine ⟨kv (kvc 2 5 0 4096 0) entryDk, 4, kvc 2 5 0 4096 0, ?_, ?_, 0, entryDk, [], z2_13b, c1of (kvc 2 5 0 4096 0), ?_, ?_, ?_, ?_, ?_, ?_, ?_, ?_, 0, 0, 8192, ?_, ?_, ?_, ?_, ?_, ?_, ?_, ?_⟩ <;>
    first | decide +kernel | exact nextOf_eq (by decide +kernel) | exact Prod.ext (nextOf_eq (by decide +kernel)) (by decide +kernel) | exact Prod.ext rfl (by decide +kernel) | (intro _ h; cases h; done) | (intro _ _ h; cases h; done) | rfl
  · refine ⟨kv (kvc 2 5 0 4096 0) entryFW, 4, kvc 2 5 0 4096 0, ?_, ?_, 0, entryFW, [], z4_13b, c1of (kvc 2 5 0 4096 0), ?_, ?_, ?_, ?_, ?_, ?_⟩ <;>
    first | decide +kernel | exact nextOf_eq (by decide +kernel) | exact Prod.ext (nextOf_eq (by decide +kernel)) (by decide +kernel) | exact Prod.ext rfl (by decide +kernel) | (intro _ h; cases h; done) | (intro _ _ h; cases h; done) | rfl
  · refine ⟨kv (kvc 2 5 0 4096 0) entryBad, 4, kvc 2 5 0 4096 0, ?_, ?_, 0, entryBad, [], z5_13b, c1of (kvc 2 5 0 4096 0), ?_, ?_, ?_⟩ <;>
    first | decide +kernel | exact nextOf_eq (by decide +kernel) | exact Prod.ext (nextOf_eq (by decide +kernel)) (by decide +kernel) | exact Prod.ext rfl (by decide +kernel) | (intro _ h; cases h; done) | (intro _ _ h; cases h; done) | rfl
  · refine ⟨kv (kvc 2 6 0 0 0) (entry 5), 4, kvc 2 6 0 0 0, ?_, ?_, 0, [], z7_13b, kvc 2 6 0 0 0, ?_, ?_, ?_⟩ <;>
    first | decide +kernel | exact nextOf_eq (by decide +kernel) | exact Prod.ext (nextOf_eq (by decide +kernel)) (by decide +kernel) | exact Prod.ext rfl (by decide +kernel) | (intro _ h; cases h; done) | (intro _ _ h; cases h; done) | rfl
  · refine ⟨kv (kvc 2 5 2 1 0) (entry 5), 4, kvc 2 5 2 1 0, ?_, ?_, 0, entry 5, [], z8_13b, c1of (kvc 2 5 2 1 0), ?_, ?_, ?_, ?_⟩ <;>
    first | decide +kernel | exact nextOf_eq (by decide +kernel) | exact Prod.ext (nextOf_eq (by decide +kernel)) (by decide +kernel) | exact Prod.ext rfl (by decide +kernel) | (intro _ h; cases h; done) | (intro _ _ h; cases h; done) | rfl
  · refine ⟨kv (kvc 2 5 1 0 0) (entry 5), 4, kvc 2 5 1 0 0, ?_, ?_, 0, entry 5, [], z9_13b, kvc 2 5 1 0 0, ?_, ?_, ?_, ?_, ?_, ?_, ?_, ?_, ?_, ?_⟩ <;>
    first | decide +kernel | exact nextOf_eq (by decide +kernel) | exact Prod.ext (nextOf_eq (by decide +kernel)) (by decide +kernel) | exact Prod.ext rfl (by decide +kernel) | (intro _ h; cases h; done) | (intro _ _ h; cases h; done) | rfl
  · refine ⟨kv (kvc 1 5 0 8192 0) (entry 5), 4, kvc 1 5 0 8192 0, ?_, ?_, 0, entry 5, [], z10, ?_, ?_, ?_, ?_, ?_, ?_, ?_, ?_, 0, 8192, [], [(0, 4096), (0, 4096)], ?_, ?_, ?_, ?_, ?_⟩ <;>
    first | decide +kernel | exact nextOf_eq (by decide +kernel) | exact Prod.ext (nextOf_eq (by decide +kernel)) (by decide +kernel) | exact Prod.ext rfl (by decide +kernel) | (intro _ h; cases h; done) | (intro _ _ h; cases h; done) | rfl
  · refine ⟨kv (kvc 1 5 0 8192 0) entryNS, 4, kvc 1 5 0 8192 0, ?_, ?_, 0, entryNS, z11, ?_, ?_, ?_, ?_, ?_, ?_, ?_⟩ <;>
    first | decide +kernel | exact nextOf_eq (by decide +kernel) | exact Prod.ext (nextOf_eq (by decide +kernel)) (by decide +kernel) | exact Prod.ext rfl (by decide +kernel) | (intro _ h; cases h; done) | (intro _ _ h; cases h; done) | rfl
  · refine ⟨kv (kvc 1 5 0 4096 0) entryNil, 4, kvc 1 5 0 4096 0, ?_, ?_, 0, entryNil, zx2, ?_, ?_⟩ <;>
    first | decide +kernel | exact nextOf_eq (by decide +kernel) | exact Prod.ext (nextOf_eq (by decide +kernel)) (by decide +kernel) | exact Prod.ext rfl (by decide +kernel) | (intro _ h; cases h; done) | (intro _ _ h; cases h; done) | rfl
  · refine ⟨kv (kvc 1 5 0 8191 0) (entry 5), 4, kvc 1 5 0 8191 0, ?_, ?_, 0, entry 5, z13, ?_, ?_, ?_, ?_, ?_, ?_, ?_, ?_, ?_, ?_⟩ <;>
    first | decide +kernel | exact nextOf_eq (by decide +kernel) | exact Prod.ext (nextOf_eq (by decide +kernel)) (by decide +kernel) | exact Prod.ext rfl (by decide +kernel) | (intro _ h; cases h; done) | (intro _ _ h; cases h; done) | rfl
  · refine ⟨kv (kvc 1 5 0 8192 1) (entry 5), 4, kvc 1 5 0 8192 1, ?_, ?_, 0, entry 5, z14, ?_, ?_, ?_, ?_, ?_, ?_, ?_, ?_, ?_, ?_, ?_⟩ <;>
    first | decide +kernel | exact nextOf_eq (by decide +kernel) | exact Prod.ext (nextOf_eq (by decide +kernel)) (by decide +kernel) | exact Prod.ext rfl (by decide +kernel) | (intro _ h; cases h; done) | (intro _ _ h; cases h; done) | rfl
  · refine ⟨kv (kvc 1 5 9 1 0) (entry 5), 4, kvc 1 5 9 1 0, ?_, ?_, 0, entry 5, z15, ?_, ?_, ?_⟩ <;>
    first | decide +kernel | exact nextOf_eq (by decide +kernel) | exact Prod.ext (nextOf_eq (by decide +kernel)) (by decide +kernel) | exact Prod.ext rfl (by decide +kernel) | (intro _ h; cases h; done) | (intro _ _ h; cases h; done) | rfl
  · refine ⟨kv (kvc 1 6 0 0 0) (entry 5), 4, kvc 1 6 0 0 0, ?_, ?_, 0, z16, ?_, ?_⟩ <;>
    first | decide +kernel | exact nextOf_eq (by decide +kernel) | exact Prod.ext (nextOf_eq (by decide +kernel)) (by decide +kernel) | exact Prod.ext rfl (by decide +kernel) | (intro _ h; cases h; done) | (intro _ _ h; cases h; done) | rfl
  · refine ⟨deliver 2 none 8192, 4, (4, { sq := 1, phase := 12, sct := 2, got := [(0, 77), (1, 78)], kv := true }).snd, ?_, ?_, (4, { slot := 0, cw := 3, n := 2, len := 8192, limit := 8192, dkey := none, key := 5 }).snd, ?_, ?_, ?_, ?_⟩ <;>
    first | decide +kernel | exact nextOf_eq (by decide +kernel) | exact Prod.ext (nextOf_eq (by decide +kernel)) (by decide +kernel) | exact Prod.ext rfl (by decide +kernel) | (intro _ h; cases h; done) | (intro _ _ h; cases h; done) | rfl
  · refine ⟨deliver 0 none 8192, 4, (4, { sq := 1, phase := 12, got := [(0, 77), (1, 78)], kv := true }).snd, ?_, ?_, (4, { slot := 0, cw := 3, n := 2, len := 8192, limit := 8192, dkey := none, key := 5 }).snd, ?_, ?_, ?_, ?_, ?_, ?_, leBytes 16 9, ?_, ?_, ?_⟩ <;>
    first | decide +kernel | exact nextOf_eq (by decide +kernel) | exact Prod.ext (nextOf_eq (by decide +kernel)) (by decide +kernel) | exact Prod.ext rfl (by decide +kernel) | (intro _ h; cases h; done) | (intro _ _ h; cases h; done) | rfl

theorem witness_SegmentsAreStoredRetrievedAndLoaded_2 :
    (∃ (s : State) (id : Nat) (c : Cmd), s.ok = true ∧ sortedFrom none s.cmds = true ∧ ∃ (d : Deliv), s.cmd id = some c ∧ mfind s.lex.deliv id = some d ∧ sortedFrom none s.lex.deliv = true ∧ c.sct ≠ 2 ∧ (c.phase = 2 ∨ c.phase = 12) ∧ s.lexClass = true ∧ ∃ (e : Nat × Nat), s.delivBad d = some e) ∧
    (∃ (s : State) (id : Nat) (c : Cmd), s.ok = true ∧ sortedFrom none s.cmds = true ∧ ∃ (host : Nat), let size := 2 ^ s.fld HPT_FWRING_HI_SIZE; let wr := s.fld HPT_FWWR_INDEX % size; let rows := [(Instr.lexiconLoad id host, 0xC5), (.lexiconRemove id host, 0xC9), (.segmentTableWrite id host, 0xCD), (.lexiconRead id, 0xCA), (.lexiconGeometry id, 0xCC)]; s.domOn dHOST = true ∧ s.hpt.fwWait = [] ∧ (wr + 1) % size ≠ s.fld HPT_FWRD_INDEX % size ∧ mfind s.hpt.fw wr = none ∧ ∃ (e : Instr × Nat), e ∈ rows ∧ s.AdminReady id c e.snd) ∧
    (∃ (s : State) (id : Nat) (c : Cmd), s.ok = true ∧ sortedFrom none s.cmds = true ∧ ∃ (host : Nat), let rows := [(Instr.lexiconLoad id host, 0xC5), (.lexiconRemove id host, 0xC9), (.segmentTableWrite id host, 0xCD), (.lexiconRead id, 0xCA), (.lexiconGeometry id, 0xCC)]; ∃ (i : Nat) (x : FwEnt), s.cmd id = some c ∧ c.phase = 7 ∧ c.isAdmin = true ∧ c.port < 8192 ∧ c.fw = some i ∧ i < 4096 ∧ mfind s.hpt.fw i = some x ∧ x.cmd = id ∧ x.dead = false ∧ c.opc ≠ 127 ∧ s.hpt.fwWait = [] ∧ sortedFrom none s.hpt.fw = true ∧ ∃ (st dw0 wait : Nat), mfind s.lex.vend id = some (st, dw0, wait) ∧ wait ≠ 1 ∧ st < 2 ^ 11 ∧ ∃ (e : Instr × Nat), e ∈ rows ∧ c.opc = e.snd ∧ s.vendReady wait = true) ∧
    (∃ (s : State) (id : Nat) (c : Cmd), s.ok = true ∧ sortedFrom none s.cmds = true ∧ ∃ (host : Nat), let rows := [(Instr.lexiconLoad id host, 0xC5), (.lexiconRemove id host, 0xC9), (.segmentTableWrite id host, 0xCD), (.lexiconRead id, 0xCA), (.lexiconGeometry id, 0xCC)]; ∃ (i : Nat) (x : FwEnt), s.cmd id = some c ∧ c.phase = 7 ∧ c.isAdmin = true ∧ c.port < 8192 ∧ c.fw = some i ∧ i < 4096 ∧ mfind s.hpt.fw i = some x ∧ x.cmd = id ∧ x.dead = false ∧ c.opc ≠ 127 ∧ s.hpt.fwWait = [] ∧ sortedFrom none s.hpt.fw = true ∧ mfind s.lex.vend id = none ∧ s.flag LEX_CTL_ENA = false ∧ ∃ (e : Instr × Nat), e ∈ rows ∧ c.opc = e.snd) ∧
    (∃ (s : State) (id : Nat) (c : Cmd), s.ok = true ∧ sortedFrom none s.cmds = true ∧ ∃ (host i : Nat) (x : FwEnt), s.cmd id = some c ∧ c.phase = 7 ∧ c.isAdmin = true ∧ c.port < 8192 ∧ c.fw = some i ∧ i < 4096 ∧ mfind s.hpt.fw i = some x ∧ x.cmd = id ∧ x.dead = false ∧ c.opc ≠ 127 ∧ s.hpt.fwWait = [] ∧ sortedFrom none s.hpt.fw = true ∧ mfind s.lex.vend id = none ∧ s.flag LEX_CTL_ENA = true ∧ s.domOn dLEX = true ∧ let input := c.input host; 
                let load (k : Nat) (s : State) : State × Nat :=
                  let s := lexOp (if nbit (c.cdw 11) 0 then 3 else 1) (putOpData (nbits input (512 * k) 512) s)
                  (s, resultStatus (s.fld LEX_OPSTAT_RESULT))
                let e : Instr × Nat × Nat × Nat × (Nat → State → State × Nat) := (Instr.lexiconLoad id host, 197, c.cdw 10, 64, load); c.opc = e.snd.fst ∧ (e.snd.snd.fst = 0 ∨ 2 ^ 20 < e.snd.snd.fst * e.snd.snd.snd.fst)) ∧
    (∃ (s : State) (id : Nat) (c : Cmd), s.ok = true ∧ sortedFrom none s.cmds = true ∧ ∃ (i : Nat) (x : FwEnt), s.cmd id = some c ∧ c.phase = 7 ∧ c.isAdmin = true ∧ c.port < 8192 ∧ c.fw = some i ∧ i < 4096 ∧ mfind s.hpt.fw i = some x ∧ x.cmd = id ∧ x.dead = false ∧ c.opc ≠ 127 ∧ s.hpt.fwWait = [] ∧ sortedFrom none s.hpt.fw = true ∧ ∃ (dw0 : Nat), mfind s.lex.vend id = some (0, dw0, 1) ∧ c.opc = 204 ∧ s.flag LEX_CSTAT_PENDING = false) ∧
    (∃ (s : State) (id : Nat) (c : Cmd), s.ok = true ∧ sortedFrom none s.cmds = true ∧ ∃ (i : Nat) (x : FwEnt), s.cmd id = some c ∧ c.phase = 7 ∧ c.isAdmin = true ∧ c.port < 8192 ∧ c.fw = some i ∧ i < 4096 ∧ mfind s.hpt.fw i = some x ∧ x.cmd = id ∧ x.dead = false ∧ c.opc ≠ 127 ∧ s.hpt.fwWait = [] ∧ sortedFrom none s.hpt.fw = true ∧ mfind s.lex.vend id = none ∧ s.flag LEX_CTL_ENA = true ∧ s.domOn dLEX = true ∧ c.opc = 204 ∧ let v : Nat := nbits (c.cdw 10) 0 5; s.flag LEX_COUNT_ENTRIES = false ∧ 16 ≤ v ∧ v ≤ 22) ∧
    (∃ (s : State) (id : Nat) (c : Cmd), s.ok = true ∧ sortedFrom none s.cmds = true ∧ ∃ (i : Nat) (x : FwEnt), s.cmd id = some c ∧ c.phase = 7 ∧ c.isAdmin = true ∧ c.port < 8192 ∧ c.fw = some i ∧ i < 4096 ∧ mfind s.hpt.fw i = some x ∧ x.cmd = id ∧ x.dead = false ∧ c.opc ≠ 127 ∧ s.hpt.fwWait = [] ∧ sortedFrom none s.hpt.fw = true ∧ mfind s.lex.vend id = none ∧ s.flag LEX_CTL_ENA = true ∧ s.domOn dLEX = true ∧ c.opc = 204 ∧ let v : Nat := nbits (c.cdw 10) 0 5; s.flag LEX_COUNT_ENTRIES = false ∧ (v < 16 ∨ 22 < v)) ∧
    (∃ (s : State) (id : Nat) (c : Cmd), s.ok = true ∧ sortedFrom none s.cmds = true ∧ ∃ (i : Nat) (x : FwEnt), s.cmd id = some c ∧ c.phase = 7 ∧ c.isAdmin = true ∧ c.port < 8192 ∧ c.fw = some i ∧ i < 4096 ∧ mfind s.hpt.fw i = some x ∧ x.cmd = id ∧ x.dead = false ∧ c.opc ≠ 127 ∧ s.hpt.fwWait = [] ∧ sortedFrom none s.hpt.fw = true ∧ mfind s.lex.vend id = none ∧ s.flag LEX_CTL_ENA = true ∧ s.domOn dLEX = true ∧ c.opc = 204 ∧ s.flag LEX_COUNT_ENTRIES = true) ∧
    (∃ (s : State) (id : Nat) (c : Cmd), s.ok = true ∧ sortedFrom none s.cmds = true ∧ ∃ (i : Nat) (x : FwEnt), s.cmd id = some c ∧ c.phase = 7 ∧ c.isAdmin = true ∧ c.port < 8192 ∧ c.fw = some i ∧ i < 4096 ∧ mfind s.hpt.fw i = some x ∧ x.cmd = id ∧ x.dead = false ∧ c.opc ≠ 127 ∧ s.hpt.fwWait = [] ∧ sortedFrom none s.hpt.fw = true ∧ mfind s.lex.vend id = none ∧ s.flag LEX_CTL_ENA = true ∧ s.domOn dLEX = true ∧ c.opc = 202 ∧ c.cdw 11 ≠ 0 ∧ c.cdw 11 ≤ 4096 ∧ s.lexB ≤ c.cdw 10) ∧
    (∃ (s : State) (id : Nat) (c : Cmd), s.ok = true ∧ sortedFrom none s.cmds = true ∧ ∃ (i : Nat) (x : FwEnt), s.cmd id = some c ∧ c.phase = 7 ∧ c.isAdmin = true ∧ c.port < 8192 ∧ c.fw = some i ∧ i < 4096 ∧ mfind s.hpt.fw i = some x ∧ x.cmd = id ∧ x.dead = false ∧ c.opc ≠ 127 ∧ s.hpt.fwWait = [] ∧ sortedFrom none s.hpt.fw = true ∧ mfind s.lex.vend id = none ∧ s.flag LEX_CTL_ENA = true ∧ s.domOn dLEX = true ∧ ∃ (s2 : State), c.opc = 202 ∧ c.cdw 11 = 1 ∧ c.cdw 10 < s.lexB ∧ readBucket id (c.cdw 10) 0 s = (s2, 0)) ∧
    (∃ (s : State) (id : Nat) (c : Cmd), s.ok = true ∧ sortedFrom none s.cmds = true ∧ ∃ (host i : Nat) (x : FwEnt), s.cmd id = some c ∧ c.phase = 7 ∧ c.isAdmin = true ∧ c.port < 8192 ∧ c.fw = some i ∧ i < 4096 ∧ mfind s.hpt.fw i = some x ∧ x.cmd = id ∧ x.dead = false ∧ c.opc ≠ 127 ∧ s.hpt.fwWait = [] ∧ sortedFrom none s.hpt.fw = true ∧ mfind s.lex.vend id = none ∧ s.flag LEX_CTL_ENA = true ∧ s.domOn dLEX = true ∧ let input := c.input host; 
                let load (k : Nat) (s : State) : State × Nat :=
                  let s := lexOp (if nbit (c.cdw 11) 0 then 3 else 1) (putOpData (nbits input (512 * k) 512) s)
                  (s, resultStatus (s.fld LEX_OPSTAT_RESULT))
                let e : Instr × Nat × Nat × Nat × (Nat → State → State × Nat) := (Instr.lexiconLoad id host, 197, c.cdw 10, 64, load); c.opc = e.snd.fst ∧ ∃ (s2 : State) (k st : Nat), e.snd.snd.fst ≠ 0 ∧ e.snd.snd.fst * e.snd.snd.snd.fst ≤ 2 ^ 20 ∧ records e.snd.snd.snd.snd e.snd.snd.fst 0 s = (s2, k, st) ∧ k ≠ 0) ∧
    (∃ (s : State) (id : Nat) (c : Cmd), s.ok = true ∧ sortedFrom none s.cmds = true ∧ ∃ (slot e : Nat) (ptrs : List Nat) (s2 : State) (c1 : Cmd), s.KvReady id c 2 slot ∧ let key : Nat := c.kvKey; let buf := c.cdw 10; let seg : Nat := nbits key 80 48; let s0 := takePtrs id buf ptrs (fabTaken c s); let s1 : State := s0.incPair LEX_RETR_LO_COUNT LEX_RETR_HI_COUNT; let s3 : State := if (entFlag e eVARLEN && decide (seg < entSegs e)) = true then lexTouch false [s2.heapAddr (entTable e + seg / 8)] s2 else s2; let len : Nat := (s3.segment e seg).snd; s0.cmd id = some c1 ∧ lexEntry key s1 = (s2, some (e, false)) ∧ entNsid e = c.nsid ∧ seg < entSegs e ∧ entFlag e eFIRMWARE = false ∧ s3.on LEX_CTL_FWALL = false ∧ entOwner e = s3.fld HRD_ID_MEMBER ∧ len = 0) ∧
    (∃ (s : State) (id : Nat) (c : Cmd), s.ok = true ∧ sortedFrom none s.cmds = true ∧ ∃ (slot e : Nat) (s2 : State), s.KvReady id c 1 slot ∧ let key : Nat := c.kvKey; let seg : Nat := nbits key 80 48; let len : Nat := (s2.segment e seg).snd; let s1 : State := (fabTaken c s).inc LEX_STORES_COUNT; lexEntry key s1 = (s2, some (e, false)) ∧ entNsid e = c.nsid ∧ seg < entSegs e ∧ entFlag e eFIRMWARE = false ∧ s2.on LEX_CTL_FWALL = false ∧ entFlag e eNOSTORE = false ∧ entOwner e = s2.fld HRD_ID_MEMBER ∧ len = 0) ∧
    (∃ (s : State) (id : Nat) (c : Cmd), s.ok = true ∧ sortedFrom none s.cmds = true ∧ ∃ (host : Nat), let rows := [(Instr.lexiconLoad id host, 0xC5), (.lexiconRemove id host, 0xC9), (.segmentTableWrite id host, 0xCD), (.lexiconRead id, 0xCA), (.lexiconGeometry id, 0xCC)]; ∃ (i : Nat) (x : FwEnt), s.cmd id = some c ∧ c.phase = 7 ∧ c.isAdmin = true ∧ c.port < 8192 ∧ c.fw = some i ∧ i < 4096 ∧ mfind s.hpt.fw i = some x ∧ x.cmd = id ∧ x.dead = false ∧ c.opc ≠ 127 ∧ s.hpt.fwWait = [] ∧ sortedFrom none s.hpt.fw = true ∧ ∃ (st dw0 wait : Nat), mfind s.lex.vend id = some (st, dw0, wait) ∧ wait ≠ 1 ∧ st < 2 ^ 11 ∧ ∃ (e : Instr × Nat), e ∈ rows ∧ c.opc = e.snd ∧ s.vendReady wait = false) ∧
    (∃ (s : State) (id : Nat) (c : Cmd), s.ok = true ∧ sortedFrom none s.cmds = true ∧ ∃ (slot e : Nat) (ptrs : List Nat) (s2 : State) (c1 : Cmd), s.KvReady id c 2 slot ∧ let key : Nat := c.kvKey; let buf := c.cdw 10; let seg : Nat := nbits key 80 48; let s0 := takePtrs id buf ptrs (fabTaken c s); let s1 : State := s0.incPair LEX_RETR_LO_COUNT LEX_RETR_HI_COUNT; let s3 : State := if (entFlag e eVARLEN && decide (seg < entSegs e)) = true then lexTouch false [s2.heapAddr (entTable e + seg / 8)] s2 else s2; s0.cmd id = some c1 ∧ lexEntry key s1 = (s2, some (e, false)) ∧ entNsid e = c.nsid ∧ seg < entSegs e ∧ entFlag e eFIRMWARE = false ∧ s3.on LEX_CTL_FWALL = false ∧ entOwner e ≠ s3.fld HRD_ID_MEMBER ∧ c1.segErr ≠ 0) ∧
    (∃ (s : State) (id : Nat) (c : Cmd), s.ok = true ∧ sortedFrom none s.cmds = true ∧ ∃ (slot e : Nat) (s2 : State), s.KvReady id c 1 slot ∧ let key : Nat := c.kvKey; let seg : Nat := nbits key 80 48; let s1 : State := (fabTaken c s).inc LEX_STORES_COUNT; lexEntry key s1 = (s2, some (e, false)) ∧ entNsid e = c.nsid ∧ seg < entSegs e ∧ entFlag e eFIRMWARE = false ∧ s2.on LEX_CTL_FWALL = false ∧ entFlag e eNOSTORE = false ∧ entOwner e ≠ s2.fld HRD_ID_MEMBER) := by
  refine ⟨?_, ?_, ?_, ?_, ?_, ?_, ?_, ?_, ?_, ?_, ?_, ?_, ?_, ?_, ?_, ?_, ?_⟩
  · refine ⟨deliverNoKey, 4, (4, { sq := 1, phase := 12, got := [(0, 77), (1, 78)], kv := true }).snd, ?_, ?_, (4, { slot := 0, cw := 3, n := 2, len := 8192, limit := 4096, dkey := some 7, key := 5 }).snd, ?_, ?_, ?_, ?_, ?_, ?_, (1, 7), ?_⟩ <;>
    first | decide +kernel | exact nextOf_eq (by decide +kernel) | exact Prod.ext (nextOf_eq (by decide +kernel)) (by decide +kernel) | exact Prod.ext rfl (by decide +kernel) | (intro _ h; cases h; done) | (intro _ _ h; cases h; done) | rfl
  · refine ⟨withCmd (vcmd 202 [(11, 1)] 0) lexUp, 4, vcmd 202 [(11, 1)] 0, ?_, ?_, 4, ?_, ?_, ?_, ?_, (Instr.lexiconRead 4, 202), ?_, ?_⟩ <;>
    first | decide +kernel | exact nextOf_eq (by decide +kernel) | exact Prod.ext (nextOf_eq (by decide +kernel)) (by decide +kernel) | exact Prod.ext rfl (by decide +kernel) | (intro _ h; cases h; done) | (intro _ _ h; cases h; done) | rfl
  · refine ⟨vendDoneSt 197 0, 4, vcmd 197 [] 7, ?_, ?_, 4, 2, { cmd := 4 }, ?_, ?_, ?_, ?_, ?_, ?_, ?_, ?_, ?_, ?_, ?_, ?_, 5, 8, 0, ?_, ?_, ?_, (Instr.lexiconLoad 4 4, 197), ?_, ?_, ?_⟩ <;>
    first | decide +kernel | exact nextOf_eq (by decide +kernel) | exact Prod.ext (nextOf_eq (by decide +kernel)) (by decide +kernel) | exact Prod.ext rfl (by decide +kernel) | (intro _ h; cases h; done) | (intro _ _ h; cases h; done) | rfl
  · refine ⟨vend (vcmd 197 [] 7) (lexUp.setFld LEX_CTL_ENA 0), 4, vcmd 197 [] 7, ?_, ?_, 4, 2, { cmd := 4 }, ?_, ?_, ?_, ?_, ?_, ?_, ?_, ?_, ?_, ?_, ?_, ?_, ?_, ?_, (Instr.lexiconLoad 4 4, 197), ?_, ?_⟩ <;>
    first | decide +kernel | exact nextOf_eq (by decide +kernel) | exact Prod.ext (nextOf_eq (by decide +kernel)) (by decide +kernel) | exact Prod.ext rfl (by decide +kernel) | (intro _ h; cases h; done) | (intro _ _ h; cases h; done) | rfl
  · refine ⟨vend (vcmd 197 [] 7) lexUp, 4, vcmd 197 [] 7, ?_, ?_, 4, 2, { cmd := 4 }, ?_, ?_, ?_, ?_, ?_, ?_, ?_, ?_, ?_, ?_, ?_, ?_, ?_, ?_, ?_, ?_, ?_⟩ <;>
    first | decide +kernel | exact nextOf_eq (by decide +kernel) | exact Prod.ext (nextOf_eq (by decide +kernel)) (by decide +kernel) | exact Prod.ext rfl (by decide +kernel) | (intro _ h; cases h; done) | (intro _ _ h; cases h; done) | rfl
  · refine ⟨vendGeom 0, 4, vcmd 204 [(10, 16)] 7, ?_, ?_, 2, { cmd := 4 }, ?_, ?_, ?_, ?_, ?_, ?_, ?_, ?_, ?_, ?_, ?_, ?_, 0, ?_, ?_, ?_⟩ <;>
    first | decide +kernel | exact nextOf_eq (by decide +kernel) | exact Prod.ext (nextOf_eq (by decide +kernel)) (by decide +kernel) | exact Prod.ext rfl (by decide +kernel) | (intro _ h; cases h; done) | (intro _ _ h; cases h; done) | rfl
  · refine ⟨vend (vcmd 204 [(10, 16)] 7) lexUp, 4, vcmd 204 [(10, 16)] 7, ?_, ?_, 2, { cmd := 4 }, ?_, ?_, ?_, ?_, ?_, ?_, ?_, ?_, ?_, ?_, ?_, ?_, ?_, ?_, ?_, ?_, ?_, ?_, ?_⟩ <;>
    first | decide +kernel | exact nextOf_eq (by decide +kernel) | exact Prod.ext (nextOf_eq (by decide +kernel)) (by decide +kernel) | exact Prod.ext rfl (by decide +kernel) | (intro _ h; cases h; done) | (intro _ _ h; cases h; done) | rfl
  · refine ⟨vend (vcmd 204 [(10, 3)] 7) lexUp, 4, vcmd 204 [(10, 3)] 7, ?_, ?_, 2, { cmd := 4 }, ?_, ?_, ?_, ?_, ?_, ?_, ?_, ?_, ?_, ?_, ?_, ?_, ?_, ?_, ?_, ?_, ?_, ?_⟩ <;>
    first | decide +kernel | exact nextOf_eq (by decide +kernel) | exact Prod.ext (nextOf_eq (by decide +kernel)) (by decide +kernel) | exact Prod.ext rfl (by decide +kernel) | (intro _ h; cases h; done) | (intro _ _ h; cases h; done) | rfl
  · refine ⟨vend (vcmd 204 [(10, 16)] 7) (lexUp.setFld LEX_COUNT_ENTRIES 1), 4, vcmd 204 [(10, 16)] 7, ?_, ?_, 2, { cmd := 4 }, ?_, ?_, ?_, ?_, ?_, ?_, ?_, ?_, ?_, ?_, ?_, ?_, ?_, ?_, ?_, ?_, ?_⟩ <;>
    first | decide +kernel | exact nextOf_eq (by decide +kernel) | exact Prod.ext (nextOf_eq (by decide +kernel)) (by decide +kernel) | exact Prod.ext rfl (by decide +kernel) | (intro _ h; cases h; done) | (intro _ _ h; cases h; done) | rfl
  · refine ⟨vend (vcmd 202 [(10, 2 ^ 23), (11, 1)] 7) lexUp, 4, vcmd 202 [(10, 2 ^ 23), (11, 1)] 7, ?_, ?_, 2, { cmd := 4 }, ?_, ?_, ?_, ?_, ?_, ?_, ?_, ?_, ?_, ?_, ?_, ?_, ?_, ?_, ?_, ?_, ?_, ?_, ?_⟩ <;>
    first | decide +kernel | exact nextOf_eq (by decide +kernel) | exact Prod.ext (nextOf_eq (by decide +kernel)) (by decide +kernel) | exact Prod.ext rfl (by decide +kernel) | (intro _ h; cases h; done) | (intro _ _ h; cases h; done) | rfl
  · refine ⟨vend (vcmd 202 [(10, 1), (11, 1)] 7) lexUp, 4, vcmd 202 [(10, 1), (11, 1)] 7, ?_, ?_, 2, { cmd := 4 }, ?_, ?_, ?_, ?_, ?_, ?_, ?_, ?_, ?_, ?_, ?_, ?_, ?_, ?_, ?_, (readBucket 4 1 0 (vend (vcmd 202 [(10, 1), (11, 1)] 7) lexUp)).fst, ?_, ?_, ?_, ?_⟩ <;>
    first | decide +kernel | exact nextOf_eq (by decide +kernel) | exact Prod.ext (nextOf_eq (by decide +kernel)) (by decide +kernel) | exact Prod.ext rfl (by decide +kernel) | (intro _ h; cases h; done) | (intro _ _ h; cases h; done) | rfl
  · refine ⟨vend (vcmd 197 [(10, 2)] 7) lexUp, 4, vcmd 197 [(10, 2)] 7, ?_, ?_, entry 5 + entry 6 * 2 ^ 512, 2, { cmd := 4 }, ?_, ?_, ?_, ?_, ?_, ?_, ?_, ?_, ?_, ?_, ?_, ?_, ?_, ?_, ?_, ?_, loaded.fst, 2, 0, ?_, ?_, ?_, ?_⟩ <;>
    first | decide +kernel | exact nextOf_eq (by decide +kernel) | exact Prod.ext (nextOf_eq (by decide +kernel)) (by decide +kernel) | exact Prod.ext rfl (by decide +kernel) | (intro _ h; cases h; done) | (intro _ _ h; cases h; done) | rfl
  · refine ⟨kvz (kvc 2 5 0 4096 0), 4, kvc 2 5 0 4096 0, ?_, ?_, 0, entryZero, [], za_13d, c1of (kvc 2 5 0 4096 0), ?_, ?_, ?_, ?_, ?_, ?_, ?_, ?_, ?_⟩ <;>
    first | decide +kernel | exact nextOf_eq (by decide +kernel) | exact Prod.ext (nextOf_eq (by decide +kernel)) (by decide +kernel) | exact Prod.ext rfl (by decide +kernel) | (intro _ h; cases h; done) | (intro _ _ h; cases h; done) | rfl
  · refine ⟨kvz (kvc 1 5 0 4096 0), 4, kvc 1 5 0 4096 0, ?_, ?_, 0, entryZero, zb_13d, ?_, ?_, ?_, ?_, ?_, ?_, ?_, ?_, ?_⟩ <;>
    first | decide +kernel | exact nextOf_eq (by decide +kernel) | exact Prod.ext (nextOf_eq (by decide +kernel)) (by decide +kernel) | exact Prod.ext rfl (by decide +kernel) | (intro _ h; cases h; done) | (intro _ _ h; cases h; done) | rfl
  · refine ⟨vendDoneSt 197 900, 4, vcmd 197 [] 7, ?_, ?_, 4, 2, { cmd := 4 }, ?_, ?_, ?_, ?_, ?_, ?_, ?_, ?_, ?_, ?_, ?_, ?_, 5, 8, 900, ?_, ?_, ?_, (Instr.lexiconLoad 4 4, 197), ?_, ?_, ?_⟩ <;>
    first | decide +kernel | exact nextOf_eq (by decide +kernel) | exact Prod.ext (nextOf_eq (by decide +kernel)) (by decide +kernel) | exact Prod.ext rfl (by decide +kernel) | (intro _ h; cases h; done) | (intro _ _ h; cases h; done) | rfl
  · refine ⟨kv kvOdd owner9, 4, kvOdd, ?_, ?_, 0, owner9, [], zx0, ((takePtrs 4 4096 [] (withCmd kvOdd lexUp)).cmd 4).getD { }, ?_, ?_, ?_, ?_, ?_, ?_, ?_, ?_, ?_⟩ <;>
    first | decide +kernel | exact nextOf_eq (by decide +kernel) | exact Prod.ext (nextOf_eq (by decide +kernel)) (by decide +kernel) | exact Prod.ext rfl (by decide +kernel) | (intro _ h; cases h; done) | (intro _ _ h; cases h; done) | rfl
  · refine ⟨kv (kvc 1 5 0 4096 0) owner9, 4, kvc 1 5 0 4096 0, ?_, ?_, 0, owner9, zx3, ?_, ?_, ?_, ?_, ?_, ?_, ?_, ?_⟩ <;>
    first | decide +kernel | exact nextOf_eq (by decide +kernel) | exact Prod.ext (nextOf_eq (by decide +kernel)) (by decide +kernel) | exact Prod.ext rfl (by decide +kernel) | (intro _ h; cases h; done) | (intro _ _ h; cases h; done) | rfl

theorem witness_ThePartnersDecideWhenTheLinkIsLost :
    (∃ (s : State), s.ok = true ∧ s.flag PLK_ROLE_IMAGE = true ∧ s.plk.alive = true ∧ s.plk.lost = false ∧ s.domOn dFABRIC = true ∧ s.mtime < s.plk.hbAt + 3000000) ∧
    (∃ (s : State), s.ok = true ∧ s.flag PLK_ROLE_IMAGE = true ∧ s.plk.alive = true ∧ s.plk.lost = false ∧ s.domOn dFABRIC = true ∧ s.plk.hbAt + 3000000 ≤ s.mtime) ∧
    (∃ (s : State), s.ok = true ∧ s.flag PLK_STAT_WITUP = true) ∧
    (∃ (s : State), s.ok = true ∧ s.plk.wit = 0 ∧ s.flag PLK_ROLE_IMAGE = true ∧ s.on PLK_WITNESS_ENA = true ∧ s.portUp (s.cur PLK_WITNESS_FPORT) = true) ∧
    (∃ (s : State), s.ok = true ∧ s.flag PLK_ROLE_IMAGE = true ∧ s.mode = mCONFIG ∧ s.flag PLK_STAT_REACH = false ∧ s.plk.lost = false) ∧
    (∃ (s : State), s.ok = true ∧ let e := s.fld PLK_EPOCH_EPOCH; ∃ (pairId : DWord) (epoch : Word), s.flag PLK_STAT_WITUP = true ∧ s.plk.claiming = true ∧ BitVec.toNat pairId = s.plk.pairId ∧ (BitVec.toNat epoch ≠ e + 1 ∨ s.mode = mRECOVERY)) ∧
    (∃ (s : State), s.ok = true ∧ let e := s.fld PLK_EPOCH_EPOCH; ∃ (pairId : DWord) (epoch : Word), s.flag PLK_STAT_WITUP = true ∧ s.plk.claiming = true ∧ BitVec.toNat pairId = s.plk.pairId ∧ BitVec.toNat epoch = e + 1 ∧ s.mode ≠ mRECOVERY) ∧
    (∃ (s : State), s.ok = true ∧ ∃ (pairId : DWord), s.flag PLK_STAT_WITUP = true ∧ s.plk.claiming = true ∧ BitVec.toNat pairId ≠ s.plk.pairId) ∧
    (∃ (s : State), s.ok = true ∧ s.plk.claiming = true ∧ s.pairTarget = 3 ∧ s.mode ≠ mRECOVERY ∧ s.plk.lossAt + 20000000 ≤ s.mtime) ∧
    (∃ (s : State), s.ok = true ∧ s.plk.wit ≠ 0) ∧
    (∃ (s : State), s.ok = true ∧ s.flag PLK_STAT_WITUP = true ∧ s.plk.claiming = true ∧ s.pairTarget = 5 ∧ s.mode ≠ mRECOVERY) ∧
    (∃ (s : State), s.ok = true ∧ ∃ (pairId : DWord), s.flag PLK_STAT_WITUP = true ∧ s.plk.claiming = true ∧ BitVec.toNat pairId = s.plk.pairId ∧ s.mode = mRECOVERY) ∧
    (∃ (s : State), s.ok = true ∧ s.plk.wit = 1 ∧ s.portUp (s.cur PLK_WITNESS_FPORT) = true) := by
  refine ⟨?_, ?_, ?_, ?_, ?_, ?_, ?_, ?_, ?_, ?_, ?_, ?_, ?_⟩
  · refine ⟨paired, ?_, ?_, ?_, ?_, ?_, ?_⟩ <;>
    first | decide +kernel | exact nextOf_eq (by decide +kernel) | exact Prod.ext (nextOf_eq (by decide +kernel)) (by decide +kernel) | exact Prod.ext rfl (by decide +kernel) | (intro _ h; cases h; done) | (intro _ _ h; cases h; done) | rfl
  · refine ⟨split mSERVICE 2 1 0 1, ?_, ?_, ?_, ?_, ?_, ?_⟩ <;>
    first | decide +kernel | exact nextOf_eq (by decide +kernel) | exact Prod.ext (nextOf_eq (by decide +kernel)) (by decide +kernel) | exact Prod.ext rfl (by decide +kernel) | (intro _ h; cases h; done) | (intro _ _ h; cases h; done) | rfl
  · refine ⟨splitUp, ?_, ?_⟩ <;>
    first | decide +kernel | exact nextOf_eq (by decide +kernel) | exact Prod.ext (nextOf_eq (by decide +kernel)) (by decide +kernel) | exact Prod.ext rfl (by decide +kernel) | (intro _ h; cases h; done) | (intro _ _ h; cases h; done) | rfl
  · refine ⟨splitUp, ?_, ?_, ?_, ?_, ?_⟩ <;>
    first | decide +kernel | exact nextOf_eq (by decide +kernel) | exact Prod.ext (nextOf_eq (by decide +kernel)) (by decide +kernel) | exact Prod.ext rfl (by decide +kernel) | (intro _ h; cases h; done) | (intro _ _ h; cases h; done) | rfl
  · refine ⟨unreached 0 1, ?_, ?_, ?_, ?_, ?_⟩ <;>
    first | decide +kernel | exact nextOf_eq (by decide +kernel) | exact Prod.ext (nextOf_eq (by decide +kernel)) (by decide +kernel) | exact Prod.ext rfl (by decide +kernel) | (intro _ h; cases h; done) | (intro _ _ h; cases h; done) | rfl
  · refine ⟨claiming 3, ?_, 77, 7, ?_, ?_, ?_, ?_⟩ <;>
    first | decide +kernel | exact nextOf_eq (by decide +kernel) | exact Prod.ext (nextOf_eq (by decide +kernel)) (by decide +kernel) | exact Prod.ext rfl (by decide +kernel) | (intro _ h; cases h; done) | (intro _ _ h; cases h; done) | rfl
  · refine ⟨claiming 3, ?_, 77, 8, ?_, ?_, ?_, ?_, ?_⟩ <;>
    first | decide +kernel | exact nextOf_eq (by decide +kernel) | exact Prod.ext (nextOf_eq (by decide +kernel)) (by decide +kernel) | exact Prod.ext rfl (by decide +kernel) | (intro _ h; cases h; done) | (intro _ _ h; cases h; done) | rfl
  · refine ⟨claiming 3, ?_, 78, ?_, ?_, ?_⟩ <;>
    first | decide +kernel | exact nextOf_eq (by decide +kernel) | exact Prod.ext (nextOf_eq (by decide +kernel)) (by decide +kernel) | exact Prod.ext rfl (by decide +kernel) | (intro _ h; cases h; done) | (intro _ _ h; cases h; done) | rfl
  · refine ⟨claiming 3, ?_, ?_, ?_, ?_, ?_⟩ <;>
    first | decide +kernel | exact nextOf_eq (by decide +kernel) | exact Prod.ext (nextOf_eq (by decide +kernel)) (by decide +kernel) | exact Prod.ext rfl (by decide +kernel) | (intro _ h; cases h; done) | (intro _ _ h; cases h; done) | rfl
  · refine ⟨claiming 3, ?_, ?_⟩ <;>
    first | decide +kernel | exact nextOf_eq (by decide +kernel) | exact Prod.ext (nextOf_eq (by decide +kernel)) (by decide +kernel) | exact Prod.ext rfl (by decide +kernel) | (intro _ h; cases h; done) | (intro _ _ h; cases h; done) | rfl
  · refine ⟨claiming 5, ?_, ?_, ?_, ?_, ?_⟩ <;>
    first | decide +kernel | exact nextOf_eq (by decide +kernel) | exact Prod.ext (nextOf_eq (by decide +kernel)) (by decide +kernel) | exact Prod.ext rfl (by decide +kernel) | (intro _ h; cases h; done) | (intro _ _ h; cases h; done) | rfl
  · refine ⟨claimingRec, ?_, 77, ?_, ?_, ?_, ?_⟩ <;>
    first | decide +kernel | exact nextOf_eq (by decide +kernel) | exact Prod.ext (nextOf_eq (by decide +kernel)) (by decide +kernel) | exact Prod.ext rfl (by decide +kernel) | (intro _ h; cases h; done) | (intro _ _ h; cases h; done) | rfl
  · refine ⟨witnessSyn, ?_, ?_, ?_⟩ <;>
    first | decide +kernel | exact nextOf_eq (by decide +kernel) | exact Prod.ext (nextOf_eq (by decide +kernel)) (by decide +kernel) | exact Prod.ext rfl (by decide +kernel) | (intro _ h; cases h; done) | (intro _ _ h; cases h; done) | rfl

theorem witness_ThePairLinkTrainsSendsAndSettles :
    (∃ (s : State), s.ok = true ∧ s.pairRuns = true ∧ s.plk.helloIn = false) ∧
    (∃ (s : State), s.ok = true ∧ s.domOn dFABRIC = true ∧ (s.plk.lanes = 1 ∨ s.plk.lanes = 2)) ∧
    (∃ (s : State), s.ok = true ∧ ∃ (h : PairHdr), let taken := s.pairRuns = true ∧ s.flag CKP_STAT_BOD = false ∧ h.ok = true ∧ h.txseq.toNat = s.plk.rxseq; taken ∧ s.flag PLK_STAT_REACH = true) ∧
    (∃ (s : State), s.ok = true ∧ ∃ (h : PairHdr), (s.pairRuns = false ∨ s.flag CKP_STAT_BOD = true ∨ h.ok = false ∨ BitVec.toNat h.txseq ≠ s.plk.rxseq)) ∧
    (∃ (s : State), s.ok = true ∧ ∃ (lanes : Fin 3), s.flag PLK_ROLE_IMAGE = true ∧ s.domOn dFABRIC = true ∧ s.plk.lanes = 0 ∧ lanes ≠ 0 ∧ s.mode ≠ mBOOT ∧ s.mode ≠ mDORMANT) ∧
    (∃ (s : State), s.ok = true ∧ s.domOn dFABRIC = true ∧ s.plk.lanes = 1) ∧
    (∃ (s : State), s.ok = true ∧ ∃ (h : PairHdr), 
        let s0 := { s with
          plk.rxseq := (s.plk.rxseq + 1) % 2 ^ 32
          plk.unacked := s.plk.unacked.filter fun x => (x.seq + 2 ^ 32 - h.ackseq.toNat) % 2 ^ 32 < 2 ^ 31 }
        let taken := s.pairRuns = true ∧ s.flag CKP_STAT_BOD = false ∧ h.ok = true ∧ h.txseq.toNat = s.plk.rxseq; taken ∧ s.flag PLK_STAT_REACH = false ∧ s.plk.helloIn = true ∧ s0.helloAcked = true ∧ s.mode ≠ mRECOVERY) := by
  refine ⟨?_, ?_, ?_, ?_, ?_, ?_, ?_⟩
  · refine ⟨paired, ?_, ?_, ?_⟩ <;>
    first | decide +kernel | exact nextOf_eq (by decide +kernel) | exact Prod.ext (nextOf_eq (by decide +kernel)) (by decide +kernel) | exact Prod.ext rfl (by decide +kernel) | (intro _ h; cases h; done) | (intro _ _ h; cases h; done) | rfl
  · refine ⟨paired, ?_, ?_, ?_⟩ <;>
    first | decide +kernel | exact nextOf_eq (by decide +kernel) | exact Prod.ext (nextOf_eq (by decide +kernel)) (by decide +kernel) | exact Prod.ext rfl (by decide +kernel) | (intro _ h; cases h; done) | (intro _ _ h; cases h; done) | rfl
  · refine ⟨paired, ?_, phdr 0 0 true, ?_, ?_⟩ <;>
    first | decide +kernel | exact nextOf_eq (by decide +kernel) | exact Prod.ext (nextOf_eq (by decide +kernel)) (by decide +kernel) | exact Prod.ext rfl (by decide +kernel) | (intro _ h; cases h; done) | (intro _ _ h; cases h; done) | rfl
  · refine ⟨paired, ?_, { phdr 0 0 true with ok := false }, ?_⟩ <;>
    first | decide +kernel | exact nextOf_eq (by decide +kernel) | exact Prod.ext (nextOf_eq (by decide +kernel)) (by decide +kernel) | exact Prod.ext rfl (by decide +kernel) | (intro _ h; cases h; done) | (intro _ _ h; cases h; done) | rfl
  · refine ⟨lanesOff, ?_, 1, ?_, ?_, ?_, ?_, ?_, ?_⟩ <;>
    first | decide +kernel | exact nextOf_eq (by decide +kernel) | exact Prod.ext (nextOf_eq (by decide +kernel)) (by decide +kernel) | exact Prod.ext rfl (by decide +kernel) | (intro _ h; cases h; done) | (intro _ _ h; cases h; done) | rfl
  · refine ⟨oneLane, ?_, ?_, ?_⟩ <;>
    first | decide +kernel | exact nextOf_eq (by decide +kernel) | exact Prod.ext (nextOf_eq (by decide +kernel)) (by decide +kernel) | exact Prod.ext rfl (by decide +kernel) | (intro _ h; cases h; done) | (intro _ _ h; cases h; done) | rfl
  · refine ⟨settling 1 2 7 7 true true true 1 1 1, ?_, phdr 0 0 true, ?_, ?_, ?_, ?_, ?_⟩ <;>
    first | decide +kernel | exact nextOf_eq (by decide +kernel) | exact Prod.ext (nextOf_eq (by decide +kernel)) (by decide +kernel) | exact Prod.ext rfl (by decide +kernel) | (intro _ h; cases h; done) | (intro _ _ h; cases h; done) | rfl

theorem witness_MirroredWritesLedgersAndResyncsRunOverTheLink :
    (∃ (s : State) (h : PairHdr), s.ok = true ∧ sortedFrom none s.cmds = true ∧ sortedFrom none s.plk.rx = true ∧ sortedFrom none s.plk.map = true ∧ s.pairRuns = true ∧ s.flag CKP_STAT_BOD = false ∧ s.flag PLK_STAT_REACH = true ∧ h.ok = true ∧ BitVec.toNat h.txseq = s.plk.rxseq ∧ let tag := h.tag.toNat; ∃ (slot kind : Byte) (lba : DWord) (blocks : Word) (n data : Nat), let d := data % 2 ^ (8 * n); 
        let w : RxWrite := match mfind s.plk.rx tag with
          | some w => { w with nlb := w.nlb + blocks.toNat, data := w.data + d * 2 ^ (8 * w.bytes), bytes := w.bytes + n }
          | none => { slot := slot.toNat, kind := kind.toNat, lba := lba.toNat, nlb := blocks.toNat, data := d, bytes := n }
        let c : Cmd := { w with port := 8193, slba := w.lba, passed := true, tag := tag, msn := some (BitVec.toNat h.msn) }; h.last = true ∧ w.kind ≠ 3 ∧ h.msn ≠ 0 ∧ s.mirrorBad c = none) ∧
    (∃ (s : State) (h : PairHdr), s.ok = true ∧ sortedFrom none s.cmds = true ∧ sortedFrom none s.plk.rx = true ∧ sortedFrom none s.plk.map = true ∧ s.pairRuns = true ∧ s.flag CKP_STAT_BOD = false ∧ s.flag PLK_STAT_REACH = true ∧ h.ok = true ∧ BitVec.toNat h.txseq = s.plk.rxseq ∧ let tag := h.tag.toNat; (List.find? (fun (e : Nat × Cmd) => decide (e.snd.port < 8192) && decide (e.snd.phase = 10) && e.snd.msn.isNone && decide (e.snd.tag = tag)) s.cmds = none)) ∧
    (∃ (s : State) (h : PairHdr), s.ok = true ∧ sortedFrom none s.cmds = true ∧ sortedFrom none s.plk.rx = true ∧ sortedFrom none s.plk.map = true ∧ s.pairRuns = true ∧ s.flag CKP_STAT_BOD = false ∧ s.flag PLK_STAT_REACH = true ∧ h.ok = true ∧ BitVec.toNat h.txseq = s.plk.rxseq ∧ ∃ (seq : DWord), BitVec.toNat seq = s.pair STE_LEDSEQ_LO_SEQ STE_LEDSEQ_HI_SEQ) ∧
    (∃ (s : State) (h : PairHdr), s.ok = true ∧ sortedFrom none s.cmds = true ∧ sortedFrom none s.plk.rx = true ∧ sortedFrom none s.plk.map = true ∧ s.pairRuns = true ∧ s.flag CKP_STAT_BOD = false ∧ s.flag PLK_STAT_REACH = true ∧ h.ok = true ∧ BitVec.toNat h.txseq = s.plk.rxseq ∧ ∃ (seq : DWord), BitVec.toNat seq ≠ s.pair STE_LEDSEQ_LO_SEQ STE_LEDSEQ_HI_SEQ) ∧
    (∃ (s : State) (h : PairHdr), s.ok = true ∧ sortedFrom none s.cmds = true ∧ sortedFrom none s.plk.rx = true ∧ sortedFrom none s.plk.map = true ∧ s.pairRuns = true ∧ s.flag CKP_STAT_BOD = false ∧ s.flag PLK_STAT_REACH = true ∧ h.ok = true ∧ BitVec.toNat h.txseq = s.plk.rxseq ∧ s.plk.ledger = none) ∧
    (∃ (s : State) (h : PairHdr), s.ok = true ∧ sortedFrom none s.cmds = true ∧ sortedFrom none s.plk.rx = true ∧ sortedFrom none s.plk.map = true ∧ s.pairRuns = true ∧ s.flag CKP_STAT_BOD = false ∧ s.flag PLK_STAT_REACH = true ∧ h.ok = true ∧ BitVec.toNat h.txseq = s.plk.rxseq ∧ ∃ (op slot : Byte), let k := slot.toNat; s.mode = mSERVICE ∧ op ≠ 1 ∧ s.nsExists k = false) ∧
    (∃ (s : State) (h : PairHdr), s.ok = true ∧ sortedFrom none s.cmds = true ∧ sortedFrom none s.plk.rx = true ∧ sortedFrom none s.plk.map = true ∧ s.pairRuns = true ∧ s.flag CKP_STAT_BOD = false ∧ s.flag PLK_STAT_REACH = true ∧ h.ok = true ∧ BitVec.toNat h.txseq = s.plk.rxseq ∧ ∃ (op slot lbas : Byte) (nsze : DWord), let k := slot.toNat; s.mode = mSERVICE ∧ op = 1 ∧ s.flag TXE_NSCFG_DECL k = true ∧ s.nsExists k = false ∧ s.flag TXE_NSCFG_ZEROING k = false ∧ s.unitsFor k (BitVec.toNat nsze) (BitVec.toNat lbas) ≤ mget 0 s.txe.maxUnits k) ∧
    (∃ (s : State) (h : PairHdr), s.ok = true ∧ sortedFrom none s.cmds = true ∧ sortedFrom none s.plk.rx = true ∧ sortedFrom none s.plk.map = true ∧ s.pairRuns = true ∧ s.flag CKP_STAT_BOD = false ∧ s.flag PLK_STAT_REACH = true ∧ h.ok = true ∧ BitVec.toNat h.txseq = s.plk.rxseq ∧ ∃ (op slot : Byte), let k := slot.toNat; s.mode = mSERVICE ∧ s.nsExists k = true ∧ (∀ (d : Nat × Nat × Nat × Nat), d ∈ s.txe.deleting → d.fst ≠ k) ∧ op = 3 ∧ (∀ (d : Nat × Nat × Nat × Nat), d ∈ s.hpt.format → d.fst ≠ k)) ∧
    (∃ (s : State) (h : PairHdr), s.ok = true ∧ sortedFrom none s.cmds = true ∧ sortedFrom none s.plk.rx = true ∧ sortedFrom none s.plk.map = true ∧ s.pairRuns = true ∧ s.flag CKP_STAT_BOD = false ∧ s.flag PLK_STAT_REACH = true ∧ h.ok = true ∧ BitVec.toNat h.txseq = s.plk.rxseq ∧ ∃ (op slot : Byte), let k := slot.toNat; s.mode = mSERVICE ∧ s.nsExists k = true ∧ (∀ (d : Nat × Nat × Nat × Nat), d ∈ s.txe.deleting → d.fst ≠ k) ∧ op = 2) ∧
    (∃ (s : State) (h : PairHdr), s.ok = true ∧ sortedFrom none s.cmds = true ∧ sortedFrom none s.plk.rx = true ∧ sortedFrom none s.plk.map = true ∧ s.pairRuns = true ∧ s.flag CKP_STAT_BOD = false ∧ s.flag PLK_STAT_REACH = true ∧ h.ok = true ∧ BitVec.toNat h.txseq = s.plk.rxseq ∧ h.last = false) ∧
    (∃ (s : State) (h : PairHdr), s.ok = true ∧ sortedFrom none s.cmds = true ∧ sortedFrom none s.plk.rx = true ∧ sortedFrom none s.plk.map = true ∧ s.pairRuns = true ∧ s.flag CKP_STAT_BOD = false ∧ s.flag PLK_STAT_REACH = true ∧ h.ok = true ∧ BitVec.toNat h.txseq = s.plk.rxseq ∧ ∃ (slot : Byte), s.pairTarget = 7 ∧ s.nsExists (BitVec.toNat slot) = true) ∧
    (∃ (s : State) (h : PairHdr), s.ok = true ∧ sortedFrom none s.cmds = true ∧ sortedFrom none s.plk.rx = true ∧ sortedFrom none s.plk.map = true ∧ s.pairRuns = true ∧ s.flag CKP_STAT_BOD = false ∧ s.flag PLK_STAT_REACH = true ∧ h.ok = true ∧ BitVec.toNat h.txseq = s.plk.rxseq ∧ s.pairTarget = 7 ∧ s.mode ≠ mRECOVERY) ∧
    (∃ (s : State) (h : PairHdr), s.ok = true ∧ sortedFrom none s.cmds = true ∧ sortedFrom none s.plk.rx = true ∧ sortedFrom none s.plk.map = true ∧ s.pairRuns = true ∧ s.flag CKP_STAT_BOD = false ∧ s.flag PLK_STAT_REACH = true ∧ h.ok = true ∧ BitVec.toNat h.txseq = s.plk.rxseq ∧ s.mode ≠ mSERVICE) ∧
    (∃ (s : State) (h : PairHdr), s.ok = true ∧ sortedFrom none s.cmds = true ∧ sortedFrom none s.plk.rx = true ∧ sortedFrom none s.plk.map = true ∧ s.pairRuns = true ∧ s.flag CKP_STAT_BOD = false ∧ s.flag PLK_STAT_REACH = true ∧ h.ok = true ∧ BitVec.toNat h.txseq = s.plk.rxseq ∧ let tag := h.tag.toNat; ∃ (slot kind : Byte) (lba : DWord) (blocks : Word) (n data : Nat), let d := data % 2 ^ (8 * n); 
        let w : RxWrite := match mfind s.plk.rx tag with
          | some w => { w with nlb := w.nlb + blocks.toNat, data := w.data + d * 2 ^ (8 * w.bytes), bytes := w.bytes + n }
          | none => { slot := slot.toNat, kind := kind.toNat, lba := lba.toNat, nlb := blocks.toNat, data := d, bytes := n }
        let c : Cmd := { w with port := 8193, slba := w.lba, passed := true, tag := tag, msn := some (BitVec.toNat h.msn) }; h.last = true ∧ w.kind ≠ 3 ∧ h.msn ≠ 0 ∧ ∃ (st : Nat), s.mirrorBad c = some st) ∧
    (∃ (s : State) (h : PairHdr), s.ok = true ∧ sortedFrom none s.cmds = true ∧ sortedFrom none s.plk.rx = true ∧ sortedFrom none s.plk.map = true ∧ s.pairRuns = true ∧ s.flag CKP_STAT_BOD = false ∧ s.flag PLK_STAT_REACH = true ∧ h.ok = true ∧ BitVec.toNat h.txseq = s.plk.rxseq ∧ let tag := h.tag.toNat; ∃ (k : Nat) (c : Cmd), (List.find? (fun (e : Nat × Cmd) => decide (e.snd.port < 8192) && decide (e.snd.phase = 10) && e.snd.msn.isNone && decide (e.snd.tag = tag)) s.cmds = some (k, c))) ∧
    (∃ (s : State) (h : PairHdr), s.ok = true ∧ sortedFrom none s.cmds = true ∧ sortedFrom none s.plk.rx = true ∧ sortedFrom none s.plk.map = true ∧ s.pairRuns = true ∧ s.flag CKP_STAT_BOD = false ∧ s.flag PLK_STAT_REACH = true ∧ h.ok = true ∧ BitVec.toNat h.txseq = s.plk.rxseq ∧ let tag := h.tag.toNat; ∃ (k : Nat) (c : Cmd), (List.find? (fun (e : Nat × Cmd) => decide (e.snd.port < 8192) && e.snd.mirror && decide (e.snd.tag = tag)) s.cmds = some (k, c))) ∧
    (∃ (s : State) (h : PairHdr), s.ok = true ∧ sortedFrom none s.cmds = true ∧ sortedFrom none s.plk.rx = true ∧ sortedFrom none s.plk.map = true ∧ s.pairRuns = true ∧ s.flag CKP_STAT_BOD = false ∧ s.flag PLK_STAT_REACH = true ∧ h.ok = true ∧ BitVec.toNat h.txseq = s.plk.rxseq ∧ ∃ (k : Nat) (c : Cmd), (List.find? (fun (e : Nat × Cmd) => e.snd.port != 8193 && decide (e.snd.msn = some (BitVec.toNat h.msn))) s.cmds = some (k, c))) ∧
    (∃ (s : State) (h : PairHdr), s.ok = true ∧ sortedFrom none s.cmds = true ∧ sortedFrom none s.plk.rx = true ∧ sortedFrom none s.plk.map = true ∧ s.pairRuns = true ∧ s.flag CKP_STAT_BOD = false ∧ s.flag PLK_STAT_REACH = true ∧ h.ok = true ∧ BitVec.toNat h.txseq = s.plk.rxseq ∧ ∃ (sq v : Nat), s.plk.ledger = some (sq, v)) ∧
    (∃ (s : State) (h : PairHdr), s.ok = true ∧ sortedFrom none s.cmds = true ∧ sortedFrom none s.plk.rx = true ∧ sortedFrom none s.plk.map = true ∧ s.pairRuns = true ∧ s.flag CKP_STAT_BOD = false ∧ s.flag PLK_STAT_REACH = true ∧ h.ok = true ∧ BitVec.toNat h.txseq = s.plk.rxseq ∧ s.plk.lreq = true) ∧
    (∃ (s : State) (h : PairHdr), s.ok = true ∧ sortedFrom none s.cmds = true ∧ sortedFrom none s.plk.rx = true ∧ sortedFrom none s.plk.map = true ∧ s.pairRuns = true ∧ s.flag CKP_STAT_BOD = false ∧ s.flag PLK_STAT_REACH = true ∧ h.ok = true ∧ BitVec.toNat h.txseq = s.plk.rxseq ∧ s.pairTarget = 6 ∧ s.plk.rsReady = false ∧ h.last = false) ∧
    (∃ (s : State) (h : PairHdr), s.ok = true ∧ sortedFrom none s.cmds = true ∧ sortedFrom none s.plk.rx = true ∧ sortedFrom none s.plk.map = true ∧ s.pairRuns = true ∧ s.flag CKP_STAT_BOD = false ∧ s.flag PLK_STAT_REACH = true ∧ h.ok = true ∧ BitVec.toNat h.txseq = s.plk.rxseq ∧ ∃ (slot : Fin 128) (region : BitVec 32), s.pairState = 6 ∧ s.plk.rsReady = true ∧ s.domOn dMEDIA = true ∧ let key := slot.val * 2 ^ 32 + region.toNat; s.plk.region = none ∧ mget false s.plk.map key = false) ∧
    (∃ (s : State) (h : PairHdr), s.ok = true ∧ sortedFrom none s.cmds = true ∧ sortedFrom none s.plk.rx = true ∧ sortedFrom none s.plk.map = true ∧ s.pairRuns = true ∧ s.flag CKP_STAT_BOD = false ∧ s.flag PLK_STAT_REACH = true ∧ h.ok = true ∧ BitVec.toNat h.txseq = s.plk.rxseq ∧ ∃ (slot : Fin 128) (region : BitVec 32), s.pairState = 6 ∧ s.plk.rsReady = true ∧ s.domOn dMEDIA = true ∧ let key := slot.val * 2 ^ 32 + region.toNat; s.plk.region = none ∧ mget false s.plk.map key = true) ∧
    (∃ (s : State) (h : PairHdr), s.ok = true ∧ sortedFrom none s.cmds = true ∧ sortedFrom none s.plk.rx = true ∧ sortedFrom none s.plk.map = true ∧ s.pairRuns = true ∧ s.flag CKP_STAT_BOD = false ∧ s.flag PLK_STAT_REACH = true ∧ h.ok = true ∧ BitVec.toNat h.txseq = s.plk.rxseq ∧ let tag := h.tag.toNat; ∃ (slot : Fin 128) (region : BitVec 32), s.pairState = 6 ∧ s.plk.rsReady = true ∧ s.domOn dMEDIA = true ∧ let key := slot.val * 2 ^ 32 + region.toNat; ∃ (k : Nat) (c : Cmd), s.plk.region = some key ∧ (List.find? (fun (e : Nat × Cmd) => decide (e.snd.port = 8195) && e.snd.kv && decide (e.snd.tag = key)) s.cmds = some (k, c)) ∧ c.phase = 12 ∧ s.restRuns = true) := by
  refine ⟨?_, ?_, ?_, ?_, ?_, ?_, ?_, ?_, ?_, ?_, ?_, ?_, ?_, ?_, ?_, ?_, ?_, ?_, ?_, ?_, ?_, ?_, ?_⟩
  · refine ⟨paired, phdr 3 6 true, ?_, ?_, ?_, ?_, ?_, ?_, ?_, ?_, ?_, 0, 0, 0, 1, 4, 4, ?_, ?_, ?_, ?_⟩ <;>
    first | decide +kernel | exact nextOf_eq (by decide +kernel) | exact Prod.ext (nextOf_eq (by decide +kernel)) (by decide +kernel) | exact Prod.ext rfl (by decide +kernel) | (intro _ h; cases h; done) | (intro _ _ h; cases h; done) | rfl
  · refine ⟨paired, phdr 3 6 true, ?_, ?_, ?_, ?_, ?_, ?_, ?_, ?_, ?_, ?_⟩ <;>
    first | decide +kernel | exact nextOf_eq (by decide +kernel) | exact Prod.ext (nextOf_eq (by decide +kernel)) (by decide +kernel) | exact Prod.ext rfl (by decide +kernel) | (intro _ h; cases h; done) | (intro _ _ h; cases h; done) | rfl
  · refine ⟨paired, phdr 3 6 true, ?_, ?_, ?_, ?_, ?_, ?_, ?_, ?_, ?_, 0, ?_⟩ <;>
    first | decide +kernel | exact nextOf_eq (by decide +kernel) | exact Prod.ext (nextOf_eq (by decide +kernel)) (by decide +kernel) | exact Prod.ext rfl (by decide +kernel) | (intro _ h; cases h; done) | (intro _ _ h; cases h; done) | rfl
  · refine ⟨paired, phdr 3 6 true, ?_, ?_, ?_, ?_, ?_, ?_, ?_, ?_, ?_, 4, ?_⟩ <;>
    first | decide +kernel | exact nextOf_eq (by decide +kernel) | exact Prod.ext (nextOf_eq (by decide +kernel)) (by decide +kernel) | exact Prod.ext rfl (by decide +kernel) | (intro _ h; cases h; done) | (intro _ _ h; cases h; done) | rfl
  · refine ⟨paired, phdr 3 6 true, ?_, ?_, ?_, ?_, ?_, ?_, ?_, ?_, ?_, ?_⟩ <;>
    first | decide +kernel | exact nextOf_eq (by decide +kernel) | exact Prod.ext (nextOf_eq (by decide +kernel)) (by decide +kernel) | exact Prod.ext rfl (by decide +kernel) | (intro _ h; cases h; done) | (intro _ _ h; cases h; done) | rfl
  · refine ⟨paired, phdr 3 6 true, ?_, ?_, ?_, ?_, ?_, ?_, ?_, ?_, ?_, 0, 1, ?_, ?_, ?_⟩ <;>
    first | decide +kernel | exact nextOf_eq (by decide +kernel) | exact Prod.ext (nextOf_eq (by decide +kernel)) (by decide +kernel) | exact Prod.ext rfl (by decide +kernel) | (intro _ h; cases h; done) | (intro _ _ h; cases h; done) | rfl
  · refine ⟨paired, phdr 3 6 true, ?_, ?_, ?_, ?_, ?_, ?_, ?_, ?_, ?_, 1, 3, 0, 0, ?_, ?_, ?_, ?_, ?_, ?_⟩ <;>
    first | decide +kernel | exact nextOf_eq (by decide +kernel) | exact Prod.ext (nextOf_eq (by decide +kernel)) (by decide +kernel) | exact Prod.ext rfl (by decide +kernel) | (intro _ h; cases h; done) | (intro _ _ h; cases h; done) | rfl
  · refine ⟨paired, phdr 3 6 true, ?_, ?_, ?_, ?_, ?_, ?_, ?_, ?_, ?_, 3, 0, ?_, ?_, ?_, ?_, ?_⟩ <;>
    first | decide +kernel | exact nextOf_eq (by decide +kernel) | exact Prod.ext (nextOf_eq (by decide +kernel)) (by decide +kernel) | exact Prod.ext rfl (by decide +kernel) | (intro _ h; cases h; done) | (intro _ _ h; cases h; done) | rfl
  · refine ⟨paired, phdr 3 6 true, ?_, ?_, ?_, ?_, ?_, ?_, ?_, ?_, ?_, 2, 0, ?_, ?_, ?_, ?_⟩ <;>
    first | decide +kernel | exact nextOf_eq (by decide +kernel) | exact Prod.ext (nextOf_eq (by decide +kernel)) (by decide +kernel) | exact Prod.ext rfl (by decide +kernel) | (intro _ h; cases h; done) | (intro _ _ h; cases h; done) | rfl
  · refine ⟨paired, phdr 3 6 false, ?_, ?_, ?_, ?_, ?_, ?_, ?_, ?_, ?_, ?_⟩ <;>
    first | decide +kernel | exact nextOf_eq (by decide +kernel) | exact Prod.ext (nextOf_eq (by decide +kernel)) (by decide +kernel) | exact Prod.ext rfl (by decide +kernel) | (intro _ h; cases h; done) | (intro _ _ h; cases h; done) | rfl
  · refine ⟨target, phdr 3 6 true, ?_, ?_, ?_, ?_, ?_, ?_, ?_, ?_, ?_, 0, ?_, ?_⟩ <;>
    first | decide +kernel | exact nextOf_eq (by decide +kernel) | exact Prod.ext (nextOf_eq (by decide +kernel)) (by decide +kernel) | exact Prod.ext rfl (by decide +kernel) | (intro _ h; cases h; done) | (intro _ _ h; cases h; done) | rfl
  · refine ⟨target, phdr 3 6 true, ?_, ?_, ?_, ?_, ?_, ?_, ?_, ?_, ?_, ?_, ?_⟩ <;>
    first | decide +kernel | exact nextOf_eq (by decide +kernel) | exact Prod.ext (nextOf_eq (by decide +kernel)) (by decide +kernel) | exact Prod.ext rfl (by decide +kernel) | (intro _ h; cases h; done) | (intro _ _ h; cases h; done) | rfl
  · refine ⟨paired.setFld PWR_MODE_CUR mSOLO, phdr 3 6 true, ?_, ?_, ?_, ?_, ?_, ?_, ?_, ?_, ?_, ?_⟩ <;>
    first | decide +kernel | exact nextOf_eq (by decide +kernel) | exact Prod.ext (nextOf_eq (by decide +kernel)) (by decide +kernel) | exact Prod.ext rfl (by decide +kernel) | (intro _ h; cases h; done) | (intro _ _ h; cases h; done) | rfl
  · refine ⟨pairedNoKey, phdr 3 6 true, ?_, ?_, ?_, ?_, ?_, ?_, ?_, ?_, ?_, 0, 1, 4, 1, 4, 4, ?_, ?_, ?_, stNsNotReady, ?_⟩ <;>
    first | decide +kernel | exact nextOf_eq (by decide +kernel) | exact Prod.ext (nextOf_eq (by decide +kernel)) (by decide +kernel) | exact Prod.ext rfl (by decide +kernel) | (intro _ h; cases h; done) | (intro _ _ h; cases h; done) | rfl
  · refine ⟨mirrored mwrite, phdr 3 6 true, ?_, ?_, ?_, ?_, ?_, ?_, ?_, ?_, ?_, 4, mwrite, ?_⟩ <;>
    first | decide +kernel | exact nextOf_eq (by decide +kernel) | exact Prod.ext (nextOf_eq (by decide +kernel)) (by decide +kernel) | exact Prod.ext rfl (by decide +kernel) | (intro _ h; cases h; done) | (intro _ _ h; cases h; done) | rfl
  · refine ⟨mirrored mwrite, phdr 3 6 true, ?_, ?_, ?_, ?_, ?_, ?_, ?_, ?_, ?_, 4, mwrite, ?_⟩ <;>
    first | decide +kernel | exact nextOf_eq (by decide +kernel) | exact Prod.ext (nextOf_eq (by decide +kernel)) (by decide +kernel) | exact Prod.ext rfl (by decide +kernel) | (intro _ h; cases h; done) | (intro _ _ h; cases h; done) | rfl
  · refine ⟨mirrored   (let __src := mwrite;   { __src with phase := 4, msn := some 3, appended := true }), phdr 3 6 true, ?_, ?_, ?_, ?_, ?_, ?_, ?_, ?_, ?_, 4, { mwrite with phase := 4, msn := some 3, appended := true }, ?_⟩ <;>
    first | decide +kernel | exact nextOf_eq (by decide +kernel) | exact Prod.ext (nextOf_eq (by decide +kernel)) (by decide +kernel) | exact Prod.ext rfl (by decide +kernel) | (intro _ h; cases h; done) | (intro _ _ h; cases h; done) | rfl
  · refine ⟨ledgerKept, phdr 3 6 true, ?_, ?_, ?_, ?_, ?_, ?_, ?_, ?_, ?_, 4, 99, ?_⟩ <;>
    first | decide +kernel | exact nextOf_eq (by decide +kernel) | exact Prod.ext (nextOf_eq (by decide +kernel)) (by decide +kernel) | exact Prod.ext rfl (by decide +kernel) | (intro _ h; cases h; done) | (intro _ _ h; cases h; done) | rfl
  · refine ⟨ledgerKept, phdr 3 6 true, ?_, ?_, ?_, ?_, ?_, ?_, ?_, ?_, ?_, ?_⟩ <;>
    first | decide +kernel | exact nextOf_eq (by decide +kernel) | exact Prod.ext (nextOf_eq (by decide +kernel)) (by decide +kernel) | exact Prod.ext rfl (by decide +kernel) | (intro _ h; cases h; done) | (intro _ _ h; cases h; done) | rfl
  · refine ⟨let __src := resyncing false; { __src with hpt :=     let __src := __src.hpt;     { __src with nextCmd := 131 } }, phdr 3 6 false, ?_, ?_, ?_, ?_, ?_, ?_, ?_, ?_, ?_, ?_, ?_, ?_⟩ <;>
    first | decide +kernel | exact nextOf_eq (by decide +kernel) | exact Prod.ext (nextOf_eq (by decide +kernel)) (by decide +kernel) | exact Prod.ext rfl (by decide +kernel) | (intro _ h; cases h; done) | (intro _ _ h; cases h; done) | rfl
  · refine ⟨resyncing true, phdr 3 6 true, ?_, ?_, ?_, ?_, ?_, ?_, ?_, ?_, ?_, 0, 1, ?_, ?_, ?_, ?_, ?_⟩ <;>
    first | decide +kernel | exact nextOf_eq (by decide +kernel) | exact Prod.ext (nextOf_eq (by decide +kernel)) (by decide +kernel) | exact Prod.ext rfl (by decide +kernel) | (intro _ h; cases h; done) | (intro _ _ h; cases h; done) | rfl
  · refine ⟨resyncing true, phdr 3 6 true, ?_, ?_, ?_, ?_, ?_, ?_, ?_, ?_, ?_, 0, 0, ?_, ?_, ?_, ?_, ?_⟩ <;>
    first | decide +kernel | exact nextOf_eq (by decide +kernel) | exact Prod.ext (nextOf_eq (by decide +kernel)) (by decide +kernel) | exact Prod.ext rfl (by decide +kernel) | (intro _ h; cases h; done) | (intro _ _ h; cases h; done) | rfl
  · refine ⟨copying, phdr 3 6 true, ?_, ?_, ?_, ?_, ?_, ?_, ?_, ?_, ?_, 0, 0, ?_, ?_, ?_, 4, { port := 8195, phase := 12, kv := true }, ?_, ?_, ?_, ?_⟩ <;>
    first | decide +kernel | exact nextOf_eq (by decide +kernel) | exact Prod.ext (nextOf_eq (by decide +kernel)) (by decide +kernel) | exact Prod.ext rfl (by decide +kernel) | (intro _ h; cases h; done) | (intro _ _ h; cases h; done) | rfl

theorem witness_CipherChannelsTakeAndEndJobs :
    (∃ (s : State), s.ok = true ∧ sortedFrom none s.cip.seqs = true ∧ sortedFrom none s.cip.saved = true ∧ sortedFrom none s.cip.taken = true ∧ ∃ (m : MasterId) (ch : Fin 64) (index : BitVec 12), s.domOn dCIPHER = true ∧ (if ch.val < 62 then s.MayWrite m.val CIP_TAIL ch.val else s.MayWrite m.val CIP_TAILP (ch.val - 62)) ∧ let hw := ch.val < 62 ∧ s.flag CIP_CHSTAT_HW ch = true; let new := (index.toNat % s.cipSize ch + s.cipSize ch - s.cipHead ch) % s.cipSize ch; ¬hw ∧ s.cipJobs ch.val ≤ new) ∧
    (∃ (s : State), s.ok = true ∧ sortedFrom none s.cip.seqs = true ∧ sortedFrom none s.cip.saved = true ∧ sortedFrom none s.cip.taken = true ∧ cipPick false s = none) ∧
    (∃ (s : State), s.ok = true ∧ sortedFrom none s.cip.seqs = true ∧ sortedFrom none s.cip.saved = true ∧ sortedFrom none s.cip.taken = true ∧ ∃ (m : MasterId) (ch : Fin 64), s.domOn dCIPHER = true ∧ (if ch.val < 62 then s.MayWrite m.val CIP_TAIL ch.val else s.MayWrite m.val CIP_TAILP (ch.val - 62)) ∧ let hw := ch.val < 62 ∧ s.flag CIP_CHSTAT_HW ch = true; hw) ∧
    (∃ (s : State), s.ok = true ∧ sortedFrom none s.cip.seqs = true ∧ sortedFrom none s.cip.saved = true ∧ sortedFrom none s.cip.taken = true ∧ ∃ (m : MasterId) (ch : Fin 64) (index : BitVec 12), s.domOn dCIPHER = true ∧ (if ch.val < 62 then s.MayWrite m.val CIP_TAIL ch.val else s.MayWrite m.val CIP_TAILP (ch.val - 62)) ∧ let hw := ch.val < 62 ∧ s.flag CIP_CHSTAT_HW ch = true; let new := (index.toNat % s.cipSize ch + s.cipSize ch - s.cipHead ch) % s.cipSize ch; ¬hw ∧ new < s.cipJobs ch.val) ∧
    (∃ (s : State), s.ok = true ∧ sortedFrom none s.cip.seqs = true ∧ sortedFrom none s.cip.saved = true ∧ sortedFrom none s.cip.taken = true ∧ s.cipQueued 63 = 0 ∧ 0 < s.cipQueued 62) ∧
    (∃ (s : State), s.ok = true ∧ sortedFrom none s.cip.seqs = true ∧ sortedFrom none s.cip.saved = true ∧ sortedFrom none s.cip.taken = true ∧ ∃ (q : Fin 4) (j : CipJob), mfind s.cip.seqs q.val = some j ∧ j.ch < 62 ∧ j.ended = none ∧ List.length s.cip.seqs = 4 ∧ (0 < j.inp ∧ j.inp % 4096 = 0 ∨ 0 < j.steps ∧ j.steps % 4096 = 0) ∧ s.cipQueued 62 = 0 ∧ s.cipQueued 63 = 0) ∧
    (∃ (s : State), s.ok = true ∧ sortedFrom none s.cip.seqs = true ∧ sortedFrom none s.cip.saved = true ∧ sortedFrom none s.cip.taken = true ∧ ∃ (q : Fin 4) (j : CipJob), mfind s.cip.seqs q.val = some j ∧ j.ch < 62 ∧ j.ended = none ∧ List.length s.cip.seqs = 4 ∧ (0 < j.inp ∧ j.inp % 4096 = 0 ∨ 0 < j.steps ∧ j.steps % 4096 = 0) ∧ (0 < s.cipQueued 62 ∨ 0 < s.cipQueued 63)) ∧
    (∃ (s : State), s.ok = true ∧ sortedFrom none s.cip.seqs = true ∧ sortedFrom none s.cip.saved = true ∧ sortedFrom none s.cip.taken = true ∧ ∃ (q : Fin 4) (n : Nat) (s1 s2 : State) (d : Nat), let ix : Nat := (s.cipHead n + mget 0 s.cip.taken n) % s.cipSize n; let clear (j : CipJob) : Prop := j.overlaps = false ∧ (n < 62 ∨ (s2.keyNamed j.keyA = false ∧ s2.keyNamed j.keyB = false)); s.domOn dCIPHER = true ∧ s1.ok = true ∧ sortedFrom none s2.cip.taken = true ∧ memRead s1 18 Acc.read (s.cipRing n + 64 * ix) 64 = (s2, MemR.ok d) ∧ cipPick false s = some (n, s1) ∧ mfind s.cip.seqs q.val = none ∧ mfind s.cip.saved q.val = none ∧ clear ({ ch := n, index := ix, desc := d } : CipJob)) ∧
    (∃ (s : State), s.ok = true ∧ sortedFrom none s.cip.seqs = true ∧ sortedFrom none s.cip.saved = true ∧ sortedFrom none s.cip.taken = true ∧ ∃ (q : Fin 4) (n : Nat) (s1 s2 : State) (d : Nat), let ix : Nat := (s.cipHead n + mget 0 s.cip.taken n) % s.cipSize n; s.domOn dCIPHER = true ∧ s1.ok = true ∧ sortedFrom none s2.cip.taken = true ∧ memRead s1 18 Acc.read (s.cipRing n + 64 * ix) 64 = (s2, MemR.ok d) ∧ cipPick false s = some (n, s1) ∧ mfind s.cip.seqs q.val = none ∧ mfind s.cip.saved q.val = none ∧ ({ ch := n, index := ix, desc := d } : CipJob).overlaps = true ∧ s2.jobRefused ({ ch := n, index := ix, desc := d } : CipJob) = none ∧ n < 62) ∧
    (∃ (s : State), s.ok = true ∧ sortedFrom none s.cip.seqs = true ∧ sortedFrom none s.cip.saved = true ∧ sortedFrom none s.cip.taken = true ∧ ∃ (q : Fin 4) (j : CipJob), mfind s.cip.seqs q.val = some j ∧ j.ch < 62 ∧ j.ended = none ∧ List.length s.cip.seqs = 4 ∧ (0 < j.inp ∧ j.inp % 4096 = 0 ∨ 0 < j.steps ∧ j.steps % 4096 = 0) ∧ ∃ (d : Nat) (s2 : State), 0 < s.cipQueued 63 ∧ let s1 := { s with cip.seqs := mdel s.cip.seqs q, cip.saved := mins s.cip.saved q j }; let ix : Nat := (s.cipHead 63 + mget 0 s.cip.taken 63) % s.cipSize 63; memRead s1 18 Acc.read (s.cipRing 63 + 64 * ix) 64 = (s2, MemR.ok d) ∧ nbits d 0 8 = 2) ∧
    (∃ (s : State), s.ok = true ∧ sortedFrom none s.cip.seqs = true ∧ sortedFrom none s.cip.saved = true ∧ sortedFrom none s.cip.taken = true ∧ ∃ (q : Fin 4) (j : CipJob) (st : Nat), mfind s.cip.seqs q.val = some j ∧ j.ended = some st ∧ s.cipSize j.ch ≤ 4096 ∧ j.ch < 64 ∧ j.index = s.cipHead j.ch) ∧
    (∃ (s : State), s.ok = true ∧ sortedFrom none s.cip.seqs = true ∧ sortedFrom none s.cip.saved = true ∧ sortedFrom none s.cip.taken = true ∧ ∃ (q : Fin 4) (j : CipJob) (st : Nat), mfind s.cip.seqs q.val = some j ∧ j.ended = some st ∧ s.cipSize j.ch ≤ 4096 ∧ j.ch < 64 ∧ j.index ≠ s.cipHead j.ch) := by
  refine ⟨?_, ?_, ?_, ?_, ?_, ?_, ?_, ?_, ?_, ?_, ?_, ?_⟩
  · refine ⟨cipUp, ?_, ?_, ?_, ?_, 0, 0, 0, ?_, ?_, ?_, ?_⟩ <;>
    first | decide +kernel | exact nextOf_eq (by decide +kernel) | exact Prod.ext (nextOf_eq (by decide +kernel)) (by decide +kernel) | exact Prod.ext rfl (by decide +kernel) | (intro _ h; cases h; done) | (intro _ _ h; cases h; done) | rfl
  · refine ⟨cipUp, ?_, ?_, ?_, ?_, ?_⟩ <;>
    first | decide +kernel | exact nextOf_eq (by decide +kernel) | exact Prod.ext (nextOf_eq (by decide +kernel)) (by decide +kernel) | exact Prod.ext rfl (by decide +kernel) | (intro _ h; cases h; done) | (intro _ _ h; cases h; done) | rfl
  · refine ⟨cipHwCh, ?_, ?_, ?_, ?_, 0, 0, ?_, ?_, ?_⟩ <;>
    first | decide +kernel | exact nextOf_eq (by decide +kernel) | exact Prod.ext (nextOf_eq (by decide +kernel)) (by decide +kernel) | exact Prod.ext rfl (by decide +kernel) | (intro _ h; cases h; done) | (intro _ _ h; cases h; done) | rfl
  · refine ⟨cipQ 0 cipPlain, ?_, ?_, ?_, ?_, 0, 0, 0, ?_, ?_, ?_, ?_⟩ <;>
    first | decide +kernel | exact nextOf_eq (by decide +kernel) | exact Prod.ext (nextOf_eq (by decide +kernel)) (by decide +kernel) | exact Prod.ext rfl (by decide +kernel) | (intro _ h; cases h; done) | (intro _ _ h; cases h; done) | rfl
  · refine ⟨cipQ 62 cipPlain, ?_, ?_, ?_, ?_, ?_, ?_⟩ <;>
    first | decide +kernel | exact nextOf_eq (by decide +kernel) | exact Prod.ext (nextOf_eq (by decide +kernel)) (by decide +kernel) | exact Prod.ext rfl (by decide +kernel) | (intro _ h; cases h; done) | (intro _ _ h; cases h; done) | rfl
  · refine ⟨slicing, ?_, ?_, ?_, ?_, 0, (fun (x : Nat × CipJob) => x.snd) ((fun (q : Nat) => (q, { ch := q, index := 0, desc := cipPlain, inp := if q = 0 then 4096 else 5, steps := if q = 3 then 4096 else 7 })) 0), ?_, ?_, ?_, ?_, ?_, ?_, ?_⟩ <;>
    first | decide +kernel | exact nextOf_eq (by decide +kernel) | exact Prod.ext (nextOf_eq (by decide +kernel)) (by decide +kernel) | exact Prod.ext rfl (by decide +kernel) | (intro _ h; cases h; done) | (intro _ _ h; cases h; done) | rfl
  · refine ⟨slicingP, ?_, ?_, ?_, ?_, 0, (fun (x : Nat × CipJob) => x.snd) ((fun (q : Nat) => (q, { ch := q, index := 0, desc := cipPlain, inp := if q = 0 then 4096 else 5, steps := if q = 3 then 4096 else 7 })) 0), ?_, ?_, ?_, ?_, ?_, ?_⟩ <;>
    first | decide +kernel | exact nextOf_eq (by decide +kernel) | exact Prod.ext (nextOf_eq (by decide +kernel)) (by decide +kernel) | exact Prod.ext rfl (by decide +kernel) | (intro _ h; cases h; done) | (intro _ _ h; cases h; done) | rfl
  · refine ⟨cipQ 0 cipPlain, ?_, ?_, ?_, ?_, 0, 0, p1_15a, p1_15a, cipPlain, ?_, ?_, ?_, ?_, ?_, ?_, ?_, ?_⟩ <;>
    first | decide +kernel | exact nextOf_eq (by decide +kernel) | exact Prod.ext (nextOf_eq (by decide +kernel)) (by decide +kernel) | exact Prod.ext rfl (by decide +kernel) | (intro _ h; cases h; done) | (intro _ _ h; cases h; done) | rfl
  · refine ⟨cipQ 0 (cipDesc 1 3 4 16 536887296 536887552 4096 16), ?_, ?_, ?_, ?_, 0, 0, p3_15a, p3_15a, cipDesc 1 3 4 16 536887296 536887552 4096 16, ?_, ?_, ?_, ?_, ?_, ?_, ?_, ?_, ?_, ?_⟩ <;>
    first | decide +kernel | exact nextOf_eq (by decide +kernel) | exact Prod.ext (nextOf_eq (by decide +kernel)) (by decide +kernel) | exact Prod.ext rfl (by decide +kernel) | (intro _ h; cases h; done) | (intro _ _ h; cases h; done) | rfl
  · refine ⟨slicingP, ?_, ?_, ?_, ?_, 0, (fun (x : Nat × CipJob) => x.snd) ((fun (q : Nat) => (q, { ch := q, index := 0, desc := cipPlain, inp := if q = 0 then 4096 else 5, steps := if q = 3 then 4096 else 7 })) 0), ?_, ?_, ?_, ?_, ?_, cipDesc 2 9 0 0 0 0 0 0, m7_15a, ?_, ?_, ?_⟩ <;>
    first | decide +kernel | exact nextOf_eq (by decide +kernel) | exact Prod.ext (nextOf_eq (by decide +kernel)) (by decide +kernel) | exact Prod.ext rfl (by decide +kernel) | (intro _ h; cases h; done) | (intro _ _ h; cases h; done) | rfl
  · refine ⟨cipEnds 0 0 false true, ?_, ?_, ?_, ?_, 0, (fun (x : Nat × CipJob) => x.snd) (0, { ch := 0, index := 15, desc := cipPlain, ended := some 0 }), 0, ?_, ?_, ?_, ?_, ?_⟩ <;>
    first | decide +kernel | exact nextOf_eq (by decide +kernel) | exact Prod.ext (nextOf_eq (by decide +kernel)) (by decide +kernel) | exact Prod.ext rfl (by decide +kernel) | (intro _ h; cases h; done) | (intro _ _ h; cases h; done) | rfl
  · refine ⟨cipEnds 0 0 false true, ?_, ?_, ?_, ?_, 3, { ch := 0, index := 3, desc := cipPlain, ended := some 0 }, 0, ?_, ?_, ?_, ?_, ?_⟩ <;>
    first | decide +kernel | exact nextOf_eq (by decide +kernel) | exact Prod.ext (nextOf_eq (by decide +kernel)) (by decide +kernel) | exact Prod.ext rfl (by decide +kernel) | (intro _ h; cases h; done) | (intro _ _ h; cases h; done) | rfl

theorem witness_MicrocodeInstructionsRun :
    (∃ (s : State) (q : Fin 4) (j : CipJob) (w : Nat), s.ok = true ∧ sortedFrom none s.cip.seqs = true ∧ s.ucode q.val = some (j, w) ∧ 
    let rows := [(Instr.endProg q, 0x00), (.ldin q, 0x01), (.stout q, 0x02), (.ldp q, 0x03), (.aese q, 0x04), (.aesd q, 0x05), (.xor q, 0x06), (.gfmul q, 0x07), (.xtime q, 0x08),
      (.inc64 q, 0x09), (.ctradd q, 0x0A), (.glen q, 0x0B), (.mov q, 0x0C), (.zero q, 0x0D), (.bloop q, 0x0E), (.bunit q, 0x0F), (.baad q, 0x10), (.chktag q, 0x11), (.sttag q, 0x12)]
    ∃ (e : Instr × Nat), e ∈ rows ∧ w % 256 ≠ e.snd) ∧
    (∃ (s : State) (q : Fin 4) (j : CipJob) (w : Nat), s.ok = true ∧ sortedFrom none s.cip.seqs = true ∧ s.ucode q.val = some (j, w) ∧ let j1 := { j with pc := j.pc + 1, steps := j.steps + 1 }; j.steps < s.cipLimit j ∧ let e : Nat × Instr × CipJob := (0, Instr.endProg q, { j1 with ended := some 0 }); w % 256 = e.fst) ∧
    (∃ (s : State) (q : Fin 4) (j : CipJob) (w : Nat), s.ok = true ∧ sortedFrom none s.cip.seqs = true ∧ s.ucode q.val = some (j, w) ∧ 
    let rows := [(Instr.endProg q, 0x00), (.ldin q, 0x01), (.stout q, 0x02), (.ldp q, 0x03), (.aese q, 0x04), (.aesd q, 0x05), (.xor q, 0x06), (.gfmul q, 0x07), (.xtime q, 0x08),
      (.inc64 q, 0x09), (.ctradd q, 0x0A), (.glen q, 0x0B), (.mov q, 0x0C), (.zero q, 0x0D), (.bloop q, 0x0E), (.bunit q, 0x0F), (.baad q, 0x10), (.chktag q, 0x11), (.sttag q, 0x12)]
    ∃ (e : Instr × Nat), e ∈ rows ∧ w % 256 = e.snd ∧ s.cipLimit j ≤ j.steps) ∧
    (∃ (s : State) (q : Fin 4) (j : CipJob) (w : Nat), s.ok = true ∧ sortedFrom none s.cip.seqs = true ∧ s.ucode q.val = some (j, w) ∧ j.steps < s.cipLimit j ∧ ∃ (s2 : State) (r : MemR), w % 256 = 1 ∧ j.inp < j.len ∧ memRead s 18 Acc.read (j.src + j.inp) (min 16 (j.len - j.inp)) = (s2, r) ∧ ∃ (v : Nat), r = MemR.ok v) ∧
    (∃ (s : State) (q : Fin 4) (j : CipJob) (w : Nat), s.ok = true ∧ sortedFrom none s.cip.seqs = true ∧ s.ucode q.val = some (j, w) ∧ j.steps < s.cipLimit j ∧ w % 256 = 1 ∧ j.len ≤ j.inp) ∧
    (∃ (s : State) (q : Fin 4) (j : CipJob) (w : Nat), s.ok = true ∧ sortedFrom none s.cip.seqs = true ∧ s.ucode q.val = some (j, w) ∧ let D := nbits w 8 4; j.steps < s.cipLimit j ∧ ∃ (s2 : State) (r : MemR), w % 256 = 2 ∧ j.last ≠ 0 ∧ memWrite s 18 Acc.write (j.dst + j.outp) j.last ((mget 0 j.v D).toNat % 2 ^ (8 * j.last)) = (s2, r) ∧ ∃ (v : Nat), r = MemR.ok v) ∧
    (∃ (s : State) (q : Fin 4) (j : CipJob) (w : Nat), s.ok = true ∧ sortedFrom none s.cip.seqs = true ∧ s.ucode q.val = some (j, w) ∧ let imm := nbits w 20 12; j.steps < s.cipLimit j ∧ w % 256 = 3 ∧ imm = 0) ∧
    (∃ (s : State) (q : Fin 4) (j : CipJob) (w : Nat), s.ok = true ∧ sortedFrom none s.cip.seqs = true ∧ s.ucode q.val = some (j, w) ∧ let imm := nbits w 20 12; j.steps < s.cipLimit j ∧ w % 256 = 3 ∧ imm = 1) ∧
    (∃ (s : State) (q : Fin 4) (j : CipJob) (w : Nat), s.ok = true ∧ sortedFrom none s.cip.seqs = true ∧ s.ucode q.val = some (j, w) ∧ let imm := nbits w 20 12; j.steps < s.cipLimit j ∧ w % 256 = 3 ∧ imm = 2) ∧
    (∃ (s : State) (q : Fin 4) (j : CipJob) (w : Nat), s.ok = true ∧ sortedFrom none s.cip.seqs = true ∧ s.ucode q.val = some (j, w) ∧ let imm := nbits w 20 12; j.steps < s.cipLimit j ∧ ∃ (s2 : State) (v : Nat), j.tagLen ≠ 0 ∧ memRead s 18 Acc.read j.tagAddr j.tagLen = (s2, MemR.ok v) ∧ w % 256 = 3 ∧ imm = 3) ∧
    (∃ (s : State) (q : Fin 4) (j : CipJob) (w : Nat), s.ok = true ∧ sortedFrom none s.cip.seqs = true ∧ s.ucode q.val = some (j, w) ∧ let imm := nbits w 20 12; j.steps < s.cipLimit j ∧ w % 256 = 3 ∧ 3 < imm) ∧
    (∃ (s : State) (q : Fin 4) (j : CipJob) (w : Nat), s.ok = true ∧ sortedFrom none s.cip.seqs = true ∧ s.ucode q.val = some (j, w) ∧ let imm := nbits w 20 12; j.steps < s.cipLimit j ∧ let e : Nat × Instr × (List Byte → List Byte → List Byte) := (4, Instr.aese q, aesEnc); w % 256 = e.fst ∧ 1 ≤ imm ∧ imm ≤ 3 ∧ mfind j.k imm = none) ∧
    (∃ (s : State) (q : Fin 4) (j : CipJob) (w : Nat), s.ok = true ∧ sortedFrom none s.cip.seqs = true ∧ s.ucode q.val = some (j, w) ∧ j.steps < s.cipLimit j ∧ w % 256 = 7) ∧
    (∃ (s : State) (q : Fin 4) (j : CipJob) (w : Nat), s.ok = true ∧ sortedFrom none s.cip.seqs = true ∧ s.ucode q.val = some (j, w) ∧ j.steps < s.cipLimit j ∧ ∃ (s2 : State) (v : Nat), j.tagLen ≠ 0 ∧ memRead s 18 Acc.read j.tagAddr j.tagLen = (s2, MemR.ok v) ∧ w % 256 = 17) ∧
    (∃ (s : State) (q : Fin 4) (j : CipJob) (w : Nat), s.ok = true ∧ sortedFrom none s.cip.seqs = true ∧ s.ucode q.val = some (j, w) ∧ j.steps < s.cipLimit j ∧ w % 256 = 17 ∧ j.tagLen = 0) ∧
    (∃ (s : State) (q : Fin 4) (j : CipJob) (w : Nat), s.ok = true ∧ sortedFrom none s.cip.seqs = true ∧ s.ucode q.val = some (j, w) ∧ let A := mget 0 j.v (nbits w 12 4); j.steps < s.cipLimit j ∧ ∃ (s2 : State) (v : Nat), w % 256 = 18 ∧ j.tagLen ≠ 0 ∧ memWrite s 18 Acc.write j.tagAddr j.tagLen (A.toNat % 2 ^ (8 * j.tagLen)) = (s2, MemR.ok v)) ∧
    (∃ (s : State) (q : Fin 4) (j : CipJob) (w : Nat), s.ok = true ∧ sortedFrom none s.cip.seqs = true ∧ s.ucode q.val = some (j, w) ∧ j.steps < s.cipLimit j ∧ w % 256 = 18 ∧ j.tagLen = 0) ∧
    (∃ (s : State) (q : Fin 4) (j : CipJob) (w : Nat), s.ok = true ∧ sortedFrom none s.cip.seqs = true ∧ s.ucode q.val = some (j, w) ∧ j.steps < s.cipLimit j ∧ 19 ≤ w % 256) ∧
    (∃ (s : State) (q : Fin 4) (j : CipJob) (w : Nat), s.ok = true ∧ sortedFrom none s.cip.seqs = true ∧ s.ucode q.val = some (j, w) ∧ let imm := nbits w 20 12; j.steps < s.cipLimit j ∧ let e : Nat × Instr × (List Byte → List Byte → List Byte) := (4, Instr.aese q, aesEnc); w % 256 = e.fst ∧ 1 ≤ imm ∧ imm ≤ 3 ∧ ∃ (n key : Nat), mfind j.k imm = some (n, key)) ∧
    (∃ (s : State) (q : Fin 4) (j : CipJob) (w : Nat), s.ok = true ∧ sortedFrom none s.cip.seqs = true ∧ s.ucode q.val = some (j, w) ∧ j.steps < s.cipLimit j ∧ ∃ (s2 : State) (r : MemR), w % 256 = 1 ∧ j.inp < j.len ∧ memRead s 18 Acc.read (j.src + j.inp) (min 16 (j.len - j.inp)) = (s2, r) ∧ ∃ (i : Nat), r = MemR.err i) ∧
    (∃ (s : State) (q : Fin 4) (j : CipJob) (w : Nat), s.ok = true ∧ sortedFrom none s.cip.seqs = true ∧ s.ucode q.val = some (j, w) ∧ let D := nbits w 8 4; j.steps < s.cipLimit j ∧ ∃ (s2 : State) (r : MemR), w % 256 = 2 ∧ j.last ≠ 0 ∧ memWrite s 18 Acc.write (j.dst + j.outp) j.last ((mget 0 j.v D).toNat % 2 ^ (8 * j.last)) = (s2, r) ∧ ∃ (i : Nat), r = MemR.err i) ∧
    (∃ (s : State) (q : Fin 4) (j : CipJob) (w : Nat), s.ok = true ∧ sortedFrom none s.cip.seqs = true ∧ s.ucode q.val = some (j, w) ∧ let imm := nbits w 20 12; j.steps < s.cipLimit j ∧ w % 256 = 3 ∧ imm = 3 ∧ j.tagLen = 0) ∧
    (∃ (s : State) (q : Fin 4) (j : CipJob) (w : Nat), s.ok = true ∧ sortedFrom none s.cip.seqs = true ∧ s.ucode q.val = some (j, w) ∧ j.steps < s.cipLimit j ∧ ∃ (s2 : State) (r : MemR), w % 256 = 1 ∧ j.inp < j.len ∧ memRead s 18 Acc.read (j.src + j.inp) (min 16 (j.len - j.inp)) = (s2, r) ∧ r = MemR.wait) := by
  refine ⟨?_, ?_, ?_, ?_, ?_, ?_, ?_, ?_, ?_, ?_, ?_, ?_, ?_, ?_, ?_, ?_, ?_, ?_, ?_, ?_, ?_, ?_, ?_⟩
  · refine ⟨waits, 0, wj_15g, ucWord 1 3, ?_, ?_, ?_, (Instr.endProg 0, 0), ?_, ?_⟩ <;>
    first | decide +kernel | exact nextOf_eq (by decide +kernel) | exact Prod.ext (nextOf_eq (by decide +kernel)) (by decide +kernel) | exact Prod.ext rfl (by decide +kernel) | (intro _ h; cases h; done) | (intro _ _ h; cases h; done) | rfl
  · refine ⟨ucRun (ucWord 0 3) (ucJob 16 4096), 0, ucJob 16 4096, ucWord 0 3, ?_, ?_, ?_, ?_, ?_⟩ <;>
    first | decide +kernel | exact nextOf_eq (by decide +kernel) | exact Prod.ext (nextOf_eq (by decide +kernel)) (by decide +kernel) | exact Prod.ext rfl (by decide +kernel) | (intro _ h; cases h; done) | (intro _ _ h; cases h; done) | rfl
  · refine ⟨ucRun (ucWord 3 3)   (let __src := ucJob 16 31;   { __src with steps := 100000 }), 0, { ucJob 16 31 with steps := 100000 }, ucWord 3 3, ?_, ?_, ?_, (Instr.ldp 0, 3), ?_, ?_, ?_⟩ <;>
    first | decide +kernel | exact nextOf_eq (by decide +kernel) | exact Prod.ext (nextOf_eq (by decide +kernel)) (by decide +kernel) | exact Prod.ext rfl (by decide +kernel) | (intro _ h; cases h; done) | (intro _ _ h; cases h; done) | rfl
  · refine ⟨ucRun (ucWord 1 3) (ucJob 16 4096), 0, ucJob 16 4096, ucWord 1 3, ?_, ?_, ?_, ?_, m4_15b.fst, m4_15b.snd, ?_, ?_, ?_, match m4_15b.snd with | MemR.ok v => v | x => 0, ?_⟩ <;>
    first | decide +kernel | exact nextOf_eq (by decide +kernel) | exact Prod.ext (nextOf_eq (by decide +kernel)) (by decide +kernel) | exact Prod.ext rfl (by decide +kernel) | (intro _ h; cases h; done) | (intro _ _ h; cases h; done) | rfl
  · refine ⟨ucRun (ucWord 1 3)   (let __src := ucJob 16 31;   { __src with inp := 31, last := 0 }), 0, { ucJob 16 31 with inp := 31, last := 0 }, ucWord 1 3, ?_, ?_, ?_, ?_, ?_, ?_⟩ <;>
    first | decide +kernel | exact nextOf_eq (by decide +kernel) | exact Prod.ext (nextOf_eq (by decide +kernel)) (by decide +kernel) | exact Prod.ext rfl (by decide +kernel) | (intro _ h; cases h; done) | (intro _ _ h; cases h; done) | rfl
  · refine ⟨ucRun (ucWord 2 3) (ucJob 16 4096), 0, ucJob 16 4096, ucWord 2 3, ?_, ?_, ?_, ?_, m9_15b.fst, m9_15b.snd, ?_, ?_, ?_, match m9_15b.snd with | MemR.ok v => v | x => 0, ?_⟩ <;>
    first | decide +kernel | exact nextOf_eq (by decide +kernel) | exact Prod.ext (nextOf_eq (by decide +kernel)) (by decide +kernel) | exact Prod.ext rfl (by decide +kernel) | (intro _ h; cases h; done) | (intro _ _ h; cases h; done) | rfl
  · refine ⟨ucRun (ucWord 3 0) (ucJob 16 4096), 0, ucJob 16 4096, ucWord 3 0, ?_, ?_, ?_, ?_, ?_, ?_⟩ <;>
    first | decide +kernel | exact nextOf_eq (by decide +kernel) | exact Prod.ext (nextOf_eq (by decide +kernel)) (by decide +kernel) | exact Prod.ext rfl (by decide +kernel) | (intro _ h; cases h; done) | (intro _ _ h; cases h; done) | rfl
  · refine ⟨ucRun (ucWord 3 1) (ucJob 16 4096), 0, ucJob 16 4096, ucWord 3 1, ?_, ?_, ?_, ?_, ?_, ?_⟩ <;>
    first | decide +kernel | exact nextOf_eq (by decide +kernel) | exact Prod.ext (nextOf_eq (by decide +kernel)) (by decide +kernel) | exact Prod.ext rfl (by decide +kernel) | (intro _ h; cases h; done) | (intro _ _ h; cases h; done) | rfl
  · refine ⟨ucRun (ucWord 3 2) (ucJob 16 4096), 0, ucJob 16 4096, ucWord 3 2, ?_, ?_, ?_, ?_, ?_, ?_⟩ <;>
    first | decide +kernel | exact nextOf_eq (by decide +kernel) | exact Prod.ext (nextOf_eq (by decide +kernel)) (by decide +kernel) | exact Prod.ext rfl (by decide +kernel) | (intro _ h; cases h; done) | (intro _ _ h; cases h; done) | rfl
  · refine ⟨ucRun (ucWord 3 3) (ucJob 16 4096), 0, ucJob 16 4096, ucWord 3 3, ?_, ?_, ?_, ?_, m17.fst, match m17.snd with | MemR.ok v => v | x => 0, ?_, ?_, ?_, ?_⟩ <;>
    first | decide +kernel | exact nextOf_eq (by decide +kernel) | exact Prod.ext (nextOf_eq (by decide +kernel)) (by decide +kernel) | exact Prod.ext rfl (by decide +kernel) | (intro _ h; cases h; done) | (intro _ _ h; cases h; done) | rfl
  · refine ⟨ucRun (ucWord 3 4) (ucJob 16 4096), 0, ucJob 16 4096, ucWord 3 4, ?_, ?_, ?_, ?_, ?_, ?_⟩ <;>
    first | decide +kernel | exact nextOf_eq (by decide +kernel) | exact Prod.ext (nextOf_eq (by decide +kernel)) (by decide +kernel) | exact Prod.ext rfl (by decide +kernel) | (intro _ h; cases h; done) | (intro _ _ h; cases h; done) | rfl
  · refine ⟨ucRun (ucWord 4 2) (ucJob 16 4096), 0, ucJob 16 4096, ucWord 4 2, ?_, ?_, ?_, ?_, ?_, ?_, ?_, ?_⟩ <;>
    first | decide +kernel | exact nextOf_eq (by decide +kernel) | exact Prod.ext (nextOf_eq (by decide +kernel)) (by decide +kernel) | exact Prod.ext rfl (by decide +kernel) | (intro _ h; cases h; done) | (intro _ _ h; cases h; done) | rfl
  · refine ⟨ucRun (ucWord 7 3) (ucJob 16 4096), 0, ucJob 16 4096, ucWord 7 3, ?_, ?_, ?_, ?_, ?_⟩ <;>
    first | decide +kernel | exact nextOf_eq (by decide +kernel) | exact Prod.ext (nextOf_eq (by decide +kernel)) (by decide +kernel) | exact Prod.ext rfl (by decide +kernel) | (intro _ h; cases h; done) | (intro _ _ h; cases h; done) | rfl
  · refine ⟨ucRun (ucWord 17 3) (ucJob 16 4096), 0, ucJob 16 4096, ucWord 17 3, ?_, ?_, ?_, ?_, m74.fst, match m74.snd with | MemR.ok v => v | x => 0, ?_, ?_, ?_⟩ <;>
    first | decide +kernel | exact nextOf_eq (by decide +kernel) | exact Prod.ext (nextOf_eq (by decide +kernel)) (by decide +kernel) | exact Prod.ext rfl (by decide +kernel) | (intro _ h; cases h; done) | (intro _ _ h; cases h; done) | rfl
  · refine ⟨ucRun (ucWord 17 4095)   (let __src := ucJob 0 31;   { __src with v := [(1, 3#128), (2, BitVec.allOnes 128), (3, 2#128)], inp := 16, last := 15 }), 0, { ucJob 0 31 with v := [(1, 3#128), (2, BitVec.allOnes 128), (3, 2#128)], inp := 16, last := 15 }, ucWord 17 4095, ?_, ?_, ?_, ?_, ?_, ?_⟩ <;>
    first | decide +kernel | exact nextOf_eq (by decide +kernel) | exact Prod.ext (nextOf_eq (by decide +kernel)) (by decide +kernel) | exact Prod.ext rfl (by decide +kernel) | (intro _ h; cases h; done) | (intro _ _ h; cases h; done) | rfl
  · refine ⟨ucRun (ucWord 18 3) (ucJob 16 4096), 0, ucJob 16 4096, ucWord 18 3, ?_, ?_, ?_, ?_, m77.fst, match m77.snd with | MemR.ok v => v | x => 0, ?_, ?_, ?_⟩ <;>
    first | decide +kernel | exact nextOf_eq (by decide +kernel) | exact Prod.ext (nextOf_eq (by decide +kernel)) (by decide +kernel) | exact Prod.ext rfl (by decide +kernel) | (intro _ h; cases h; done) | (intro _ _ h; cases h; done) | rfl
  · refine ⟨ucRun (ucWord 18 4095)   (let __src := ucJob 0 31;   { __src with v := [(1, 3#128), (2, BitVec.allOnes 128), (3, 2#128)], inp := 16, last := 15 }), 0, { ucJob 0 31 with v := [(1, 3#128), (2, BitVec.allOnes 128), (3, 2#128)], inp := 16, last := 15 }, ucWord 18 4095, ?_, ?_, ?_, ?_, ?_, ?_⟩ <;>
    first | decide +kernel | exact nextOf_eq (by decide +kernel) | exact Prod.ext (nextOf_eq (by decide +kernel)) (by decide +kernel) | exact Prod.ext rfl (by decide +kernel) | (intro _ h; cases h; done) | (intro _ _ h; cases h; done) | rfl
  · refine ⟨ucRun (ucWord 19 3) (ucJob 16 4096), 0, ucJob 16 4096, ucWord 19 3, ?_, ?_, ?_, ?_, ?_⟩ <;>
    first | decide +kernel | exact nextOf_eq (by decide +kernel) | exact Prod.ext (nextOf_eq (by decide +kernel)) (by decide +kernel) | exact Prod.ext rfl (by decide +kernel) | (intro _ h; cases h; done) | (intro _ _ h; cases h; done) | rfl
  · refine ⟨ucRun (ucWord 4 1) (ucJob 16 4096), 0, ucJob 16 4096, ucWord 4 1, ?_, ?_, ?_, ?_, ?_, ?_, ?_, 16, 77, ?_⟩ <;>
    first | decide +kernel | exact nextOf_eq (by decide +kernel) | exact Prod.ext (nextOf_eq (by decide +kernel)) (by decide +kernel) | exact Prod.ext rfl (by decide +kernel) | (intro _ h; cases h; done) | (intro _ _ h; cases h; done) | rfl
  · refine ⟨ucRun (ucWord 1 3)   (let __src := ucJob 16 31;   { __src with desc := cipDesc 1 3 4 16 1095216660480 1095216660480 31 16 }), 0, { ucJob 16 31 with desc := cipDesc 1 3 4 16 1095216660480 1095216660480 31 16 }, ucWord 1 3, ?_, ?_, ?_, ?_, m88.fst, m88.snd, ?_, ?_, ?_, match m88.snd with | MemR.ok v => v | MemR.err i => i | x => 0, ?_⟩ <;>
    first | decide +kernel | exact nextOf_eq (by decide +kernel) | exact Prod.ext (nextOf_eq (by decide +kernel)) (by decide +kernel) | exact Prod.ext rfl (by decide +kernel) | (intro _ h; cases h; done) | (intro _ _ h; cases h; done) | rfl
  · refine ⟨ucRun (ucWord 2 3)   (let __src := ucJob 16 31;   { __src with desc := cipDesc 1 3 4 16 1095216660480 1095216660480 31 16 }), 0, { ucJob 16 31 with desc := cipDesc 1 3 4 16 1095216660480 1095216660480 31 16 }, ucWord 2 3, ?_, ?_, ?_, ?_, m89.fst, m89.snd, ?_, ?_, ?_, match m89.snd with | MemR.ok v => v | MemR.err i => i | x => 0, ?_⟩ <;>
    first | decide +kernel | exact nextOf_eq (by decide +kernel) | exact Prod.ext (nextOf_eq (by decide +kernel)) (by decide +kernel) | exact Prod.ext rfl (by decide +kernel) | (intro _ h; cases h; done) | (intro _ _ h; cases h; done) | rfl
  · refine ⟨ucRun (ucWord 3 3) (ucJob 0 31), 0, ucJob 0 31, ucWord 3 3, ?_, ?_, ?_, ?_, ?_, ?_, ?_⟩ <;>
    first | decide +kernel | exact nextOf_eq (by decide +kernel) | exact Prod.ext (nextOf_eq (by decide +kernel)) (by decide +kernel) | exact Prod.ext rfl (by decide +kernel) | (intro _ h; cases h; done) | (intro _ _ h; cases h; done) | rfl
  · refine ⟨waits, 0, wj_15g, ucWord 1 3, ?_, ?_, ?_, ?_, wm_15g.fst, wm_15g.snd, ?_, ?_, ?_, ?_⟩ <;>
    first | decide +kernel | exact nextOf_eq (by decide +kernel) | exact Prod.ext (nextOf_eq (by decide +kernel)) (by decide +kernel) | exact Prod.ext rfl (by decide +kernel) | (intro _ h; cases h; done) | (intro _ _ h; cases h; done) | rfl

theorem witness_PrivilegedProgramsMicrocodeAndFuses :
    (∃ (s : State), s.ok = true ∧ sortedFrom none s.cip.seqs = true ∧ sortedFrom none s.keys = true ∧ List.length s.keys ≤ 4096 ∧ sortedFrom none s.cip.fuse = true ∧ ∃ (q : Fin 4) (j : CipJob), mfind s.cip.seqs q.val = some j ∧ s.domOn dCIPHER = true ∧ 62 ≤ j.ch ∧ j.ended = none ∧ j.prog = 0 ∧ ∃ (v : Nat) (s1 : State) (tag : Nat) (s2 : State), cipIn j.src j.len s = (s1, MemR.ok v) ∧ memRead s1 18 Acc.read j.tagAddr 16 = (s2, MemR.ok tag) ∧ let good : Prop := ofLe (cmac (s2.fuseKey 1) (leBytes j.len v)) = tag; let s2' := cipCount 0 (max 1 (ceilDiv j.len 16) + 1) s2; ∃ (s3 : State) (w : Nat), j.len ≠ 0 ∧ (memWrite s2' 18 Acc.write j.dst j.len (if good then v else 0) = (s3, MemR.ok w))) ∧
    (∃ (s : State), s.ok = true ∧ sortedFrom none s.cip.seqs = true ∧ sortedFrom none s.keys = true ∧ List.length s.keys ≤ 4096 ∧ sortedFrom none s.cip.fuse = true ∧ ∃ (m : MasterId), s.MayWrite m.val CIP_FUSECTL ∧ s.domOn dCIPHER = true ∧ s.mode ≠ mBOOT) ∧
    (∃ (s : State), s.ok = true ∧ sortedFrom none s.cip.seqs = true ∧ sortedFrom none s.keys = true ∧ List.length s.keys ≤ 4096 ∧ sortedFrom none s.cip.fuse = true ∧ ∃ (q : Fin 4) (j : CipJob), mfind s.cip.seqs q.val = some j ∧ s.domOn dCIPHER = true ∧ 62 ≤ j.ch ∧ j.ended = none ∧ j.prog = 0 ∧ ∃ (v : Nat) (s1 : State) (tag : Nat) (s2 : State), cipIn j.src j.len s = (s1, MemR.ok v) ∧ memRead s1 18 Acc.read j.tagAddr 16 = (s2, MemR.ok tag) ∧ j.len = 0) ∧
    (∃ (s : State), s.ok = true ∧ sortedFrom none s.cip.seqs = true ∧ sortedFrom none s.keys = true ∧ List.length s.keys ≤ 4096 ∧ sortedFrom none s.cip.fuse = true ∧ ∃ (q : Fin 4) (j : CipJob), mfind s.cip.seqs q.val = some j ∧ s.domOn dCIPHER = true ∧ 62 ≤ j.ch ∧ j.ended = none ∧ j.prog = 0 ∧ ∃ (v : Nat) (s1 : State) (tag : Nat) (s2 : State), cipIn j.src j.len s = (s1, MemR.ok v) ∧ memRead s1 18 Acc.read j.tagAddr 16 = (s2, MemR.ok tag) ∧ let good : Prop := ofLe (cmac (s2.fuseKey 1) (leBytes j.len v)) = tag; let s2' := cipCount 0 (max 1 (ceilDiv j.len 16) + 1) s2; ∃ (s3 : State) (k : Nat), j.len ≠ 0 ∧ (memWrite s2' 18 Acc.write j.dst j.len (if good then v else 0) = (s3, MemR.err k))) ∧
    (∃ (s : State), s.ok = true ∧ sortedFrom none s.cip.seqs = true ∧ sortedFrom none s.keys = true ∧ List.length s.keys ≤ 4096 ∧ sortedFrom none s.cip.fuse = true ∧ ∃ (q : Fin 4) (j : CipJob), mfind s.cip.seqs q.val = some j ∧ s.domOn dCIPHER = true ∧ 62 ≤ j.ch ∧ j.ended = none ∧ j.prog = 1 ∧ j.keyA ≠ 65535 ∧ mfind s.keys j.keyA = none) ∧
    (∃ (s : State), s.ok = true ∧ sortedFrom none s.cip.seqs = true ∧ sortedFrom none s.keys = true ∧ List.length s.keys ≤ 4096 ∧ sortedFrom none s.cip.fuse = true ∧ ∃ (q : Fin 4) (j : CipJob), mfind s.cip.seqs q.val = some j ∧ s.domOn dCIPHER = true ∧ 62 ≤ j.ch ∧ j.ended = none ∧ j.prog = 2 ∧ let s' := blkRead 18 (s.ksAddr j.keyA) 128 s; s'.ksKey j.keyA = none) ∧
    (∃ (s : State), s.ok = true ∧ sortedFrom none s.cip.seqs = true ∧ sortedFrom none s.keys = true ∧ List.length s.keys ≤ 4096 ∧ sortedFrom none s.cip.fuse = true ∧ ∃ (q : Fin 4) (j : CipJob), mfind s.cip.seqs q.val = some j ∧ s.domOn dCIPHER = true ∧ 62 ≤ j.ch ∧ j.ended = none ∧ j.prog = 3) ∧
    (∃ (s : State), s.ok = true ∧ sortedFrom none s.cip.seqs = true ∧ sortedFrom none s.keys = true ∧ List.length s.keys ≤ 4096 ∧ sortedFrom none s.cip.fuse = true ∧ ∃ (q : Fin 4) (j : CipJob), mfind s.cip.seqs q.val = some j ∧ s.domOn dCIPHER = true ∧ 62 ≤ j.ch ∧ j.ended = none ∧ j.prog = 4) ∧
    (∃ (s : State), s.ok = true ∧ sortedFrom none s.cip.seqs = true ∧ sortedFrom none s.keys = true ∧ List.length s.keys ≤ 4096 ∧ sortedFrom none s.cip.fuse = true ∧ ∃ (v : Nat) (s1 : State), s.mode = mCONFIG ∧ s.domOn dCIPHER = true ∧ s.flag CIP_STAT_UCVALID = false ∧ s.flag CIP_STAT_UCFAIL = false ∧ let n := s.fld CIP_UCLEN_VALUE; 16 ≤ n ∧ cipIn (s.fld CIP_UCADDR_VALUE) n s = (s1, MemR.ok v) ∧ s1.ok = true ∧ let good : Prop := ofLe (cmac (s1.fuseKey 1) (leBytes (n - 16) v)) = v >>> (8 * (n - 16)) ∧ ucHeader v n = true; ¬good) ∧
    (∃ (s : State), s.ok = true ∧ sortedFrom none s.cip.seqs = true ∧ sortedFrom none s.keys = true ∧ List.length s.keys ≤ 4096 ∧ sortedFrom none s.cip.fuse = true ∧ ∃ (m : MasterId) (sel : Fin 4), s.MayWrite m.val CIP_FUSECTL ∧ s.domOn dCIPHER = true ∧ s.mode = mBOOT ∧ sel = 3) ∧
    (∃ (s : State), s.ok = true ∧ sortedFrom none s.cip.seqs = true ∧ sortedFrom none s.keys = true ∧ List.length s.keys ≤ 4096 ∧ sortedFrom none s.cip.fuse = true ∧ ∃ (k : Nat), k < 3 ∧ s.cip.fuseRun = some k) ∧
    (Config.fusedAtReset = 0 → ∃ (s : State), s.ok = true ∧ sortedFrom none s.cip.seqs = true ∧ sortedFrom none s.keys = true ∧ List.length s.keys ≤ 4096 ∧ sortedFrom none s.cip.fuse = true ∧ ∃ (m : MasterId) (sel : Fin 4), s.MayWrite m.val CIP_FUSECTL ∧ s.domOn dCIPHER = true ∧ s.mode = mBOOT ∧ sel ≠ 3 ∧ s.cip.fuseRun = none ∧ nbit s.fused sel.val = false) ∧
    (∃ (s : State), s.ok = true ∧ sortedFrom none s.cip.seqs = true ∧ sortedFrom none s.keys = true ∧ List.length s.keys ≤ 4096 ∧ sortedFrom none s.cip.fuse = true ∧ ∃ (m : MasterId) (sel : Fin 4), s.MayWrite m.val CIP_FUSECTL ∧ s.domOn dCIPHER = true ∧ s.mode = mBOOT ∧ sel ≠ 3 ∧ nbit s.fused sel.val = true) := by
  refine ⟨?_, ?_, ?_, ?_, ?_, ?_, ?_, ?_, ?_, ?_, ?_, ?_, ?_⟩
  · refine ⟨untagged (privJob 0 0 0 16 32 9), ?_, ?_, ?_, ?_, ?_, 3, privJob 0 0 0 16 32 9, ?_, ?_, ?_, ?_, ?_, 0, (cipIn 0x20004000 32 (untagged (privJob 0 0 0 16 32 9))).1, 0, (cipIn 0x20004000 32 (untagged (privJob 0 0 0 16 32 9))).1, ?_, ?_, (memWrite (cipCount 0 (max 1 (ceilDiv 32 16) + 1) (cipIn 0x20004000 32 (untagged (privJob 0 0 0 16 32 9))).1) 18 .write 0x20008000 32 0).1, 0, ?_, ?_⟩ <;>
    first | (rw [ite_self]; exact Prod.ext rfl (by decide +kernel)) | decide +kernel
  · refine ⟨serv, ?_, ?_, ?_, ?_, ?_, 0, ?_, ?_, ?_⟩ <;>
    first | decide +kernel | exact nextOf_eq (by decide +kernel) | exact Prod.ext (nextOf_eq (by decide +kernel)) (by decide +kernel) | exact Prod.ext rfl (by decide +kernel) | (intro _ h; cases h; done) | (intro _ _ h; cases h; done) | rfl
  · refine ⟨privRuns (privJob 0 0 0 16 0 9) fused3, ?_, ?_, ?_, ?_, ?_, 3, privJob 0 0 0 16 0 9, ?_, ?_, ?_, ?_, ?_, 0, privRuns (privJob 0 0 0 16 0 9) fused3, 0, privRuns (privJob 0 0 0 16 0 9) fused3, ?_, ?_, ?_⟩ <;>
    first | decide +kernel | exact nextOf_eq (by decide +kernel) | exact Prod.ext (nextOf_eq (by decide +kernel)) (by decide +kernel) | exact Prod.ext rfl (by decide +kernel) | (intro _ h; cases h; done) | (intro _ _ h; cases h; done) | rfl
  · refine ⟨untagged farJob, ?_, ?_, ?_, ?_, ?_, 3, farJob, ?_, ?_, ?_, ?_, ?_, 0, (cipIn 0x20004000 32 (untagged farJob)).1, 0, (cipIn 0x20004000 32 (untagged farJob)).1, ?_, ?_, (memWrite (cipCount 0 (max 1 (ceilDiv 32 16) + 1) (cipIn 0x20004000 32 (untagged farJob)).1) 18 .write 0xFF00000000 32 0).1, 4, ?_, ?_⟩ <;>
    first | (rw [ite_self]; exact Prod.ext rfl (by decide +kernel)) | decide +kernel
  · refine ⟨privRuns (privJob 1 8 5 0 24 1) fused3, ?_, ?_, ?_, ?_, ?_, 3, privJob 1 8 5 0 24 1, ?_, ?_, ?_, ?_, ?_, ?_, ?_⟩ <;>
    first | decide +kernel | exact nextOf_eq (by decide +kernel) | exact Prod.ext (nextOf_eq (by decide +kernel)) (by decide +kernel) | exact Prod.ext rfl (by decide +kernel) | (intro _ h; cases h; done) | (intro _ _ h; cases h; done) | rfl
  · refine ⟨privRuns (privJob 2 5 0 0 0 9) fused3, ?_, ?_, ?_, ?_, ?_, 3, privJob 2 5 0 0 0 9, ?_, ?_, ?_, ?_, ?_, ?_⟩ <;>
    first | decide +kernel | exact nextOf_eq (by decide +kernel) | exact Prod.ext (nextOf_eq (by decide +kernel)) (by decide +kernel) | exact Prod.ext rfl (by decide +kernel) | (intro _ h; cases h; done) | (intro _ _ h; cases h; done) | rfl
  · refine ⟨privRuns (privJob 3 7 0 0 0 9) fused3, ?_, ?_, ?_, ?_, ?_, 3, privJob 3 7 0 0 0 9, ?_, ?_, ?_, ?_, ?_⟩ <;>
    first | decide +kernel | exact nextOf_eq (by decide +kernel) | exact Prod.ext (nextOf_eq (by decide +kernel)) (by decide +kernel) | exact Prod.ext rfl (by decide +kernel) | (intro _ h; cases h; done) | (intro _ _ h; cases h; done) | rfl
  · refine ⟨privRuns (privJob 4 5 0 0 0 9) fused3, ?_, ?_, ?_, ?_, ?_, 3, privJob 4 5 0 0 0 9, ?_, ?_, ?_, ?_, ?_⟩ <;>
    first | decide +kernel | exact nextOf_eq (by decide +kernel) | exact Prod.ext (nextOf_eq (by decide +kernel)) (by decide +kernel) | exact Prod.ext rfl (by decide +kernel) | (intro _ h; cases h; done) | (intro _ _ h; cases h; done) | rfl
  · refine ⟨ucBlank, ?_, ?_, ?_, ?_, ?_, 0, (memRead ucBlank 18 .read 0x20004000 32).1, ?_, ?_, ?_, ?_, ?_, ?_, ?_, ?_⟩ <;>
    first | (intro _ h; exact absurd h.2 (by decide +kernel)) | decide +kernel
  · refine ⟨fusing, ?_, ?_, ?_, ?_, ?_, 0, Fin.ofNat 4 (4 - 1), ?_, ?_, ?_, ?_⟩ <;>
    first | decide +kernel | exact nextOf_eq (by decide +kernel) | exact Prod.ext (nextOf_eq (by decide +kernel)) (by decide +kernel) | exact Prod.ext rfl (by decide +kernel) | (intro _ h; cases h; done) | (intro _ _ h; cases h; done) | rfl
  · refine ⟨fusing, ?_, ?_, ?_, ?_, ?_, 2, ?_, ?_⟩ <;>
    first | decide +kernel | exact nextOf_eq (by decide +kernel) | exact Prod.ext (nextOf_eq (by decide +kernel)) (by decide +kernel) | exact Prod.ext rfl (by decide +kernel) | (intro _ h; cases h; done) | (intro _ _ h; cases h; done) | rfl
  · intro hp
    refine ⟨inMode mBOOT, ?_, ?_, ?_, ?_, ?_, 0, 0, ?_, ?_, ?_, ?_, ?_, ?_⟩ <;>
    first | decide +kernel | (rw [State.fused, hp]; decide +kernel)
  · refine ⟨(let __src := inMode mBOOT;     { __src with cip :=         let __src := __src.cip;         { __src with fuse := [(1, 5)] } }).setFld   CIP_STAT_FUSED 1, ?_, ?_, ?_, ?_, ?_, 0, 0, ?_, ?_, ?_, ?_, ?_⟩ <;>
    first | decide +kernel | (simp only [State.fused, nbit, Nat.testBit_or, Bool.or_eq_true]; left; decide +kernel)

theorem witness_CoresExecuteTrapAndReturn :
    (∃ (n : CoreId) (s : State), s.ok = true ∧ s.coreRuns n.val = true ∧ (s.core n.val).wfi = false ∧ (s.core n.val).stepping = false ∧ sortedFrom none (s.core n.val).x = true ∧ ∃ (t : State) (bits len : Nat), s.bpMatch n.val = none ∧ fetchInstr n s = (t, FetchR.ok bits len) ∧ t.ok = true ∧ (t.core n.val).stepping = false ∧ sortedFrom none (t.core n.val).x = true ∧ let op := if len = 2 then decode16 bits else decode32 bits; ∃ (k : Alu) (w : Bool) (rd r1 r2 : Nat), op = Op.alu k w rd r1 r2) ∧
    (∃ (n : CoreId) (s : State), s.ok = true ∧ s.coreRuns n.val = true ∧ (s.core n.val).wfi = false ∧ (s.core n.val).stepping = false ∧ sortedFrom none (s.core n.val).x = true ∧ let c : Core := s.core n.val; (s.flag JDP_CCTL_EBRK n.val = false ∨ c.user = true)) ∧
    (∃ (n : CoreId) (s : State), s.ok = true ∧ s.coreRuns n.val = true ∧ (s.core n.val).wfi = false ∧ (s.core n.val).stepping = false ∧ sortedFrom none (s.core n.val).x = true ∧ ∃ (t : State) (bits len : Nat), s.bpMatch n.val = none ∧ fetchInstr n s = (t, FetchR.ok bits len) ∧ t.ok = true ∧ (t.core n.val).stepping = false ∧ sortedFrom none (t.core n.val).x = true ∧ let op := if len = 2 then decode16 bits else decode32 bits; ∃ (k : Alu) (w : Bool) (rd r1 : Nat) (imm : DWord), op = Op.aluImm k w rd r1 imm) ∧
    (∃ (n : CoreId) (s : State), s.ok = true ∧ s.coreRuns n.val = true ∧ (s.core n.val).wfi = false ∧ (s.core n.val).stepping = false ∧ sortedFrom none (s.core n.val).x = true ∧ ∃ (t : State) (bits len : Nat), s.bpMatch n.val = none ∧ fetchInstr n s = (t, FetchR.ok bits len) ∧ t.ok = true ∧ (t.core n.val).stepping = false ∧ sortedFrom none (t.core n.val).x = true ∧ let op := if len = 2 then decode16 bits else decode32 bits; ∃ (rd : Nat) (imm : DWord), op = Op.lui rd imm) ∧
    (∃ (n : CoreId) (s : State), s.ok = true ∧ s.coreRuns n.val = true ∧ (s.core n.val).wfi = false ∧ (s.core n.val).stepping = false ∧ sortedFrom none (s.core n.val).x = true ∧ ∃ (t : State) (bits len : Nat), s.bpMatch n.val = none ∧ fetchInstr n s = (t, FetchR.ok bits len) ∧ t.ok = true ∧ (t.core n.val).stepping = false ∧ sortedFrom none (t.core n.val).x = true ∧ let op := if len = 2 then decode16 bits else decode32 bits; ∃ (rd : Nat) (imm : DWord), op = Op.auipc rd imm) ∧
    (∃ (n : CoreId) (s : State), s.ok = true ∧ s.coreRuns n.val = true ∧ (s.core n.val).wfi = false ∧ (s.core n.val).stepping = false ∧ sortedFrom none (s.core n.val).x = true ∧ ∃ (t : State) (bits len : Nat), s.bpMatch n.val = none ∧ fetchInstr n s = (t, FetchR.ok bits len) ∧ t.ok = true ∧ (t.core n.val).stepping = false ∧ sortedFrom none (t.core n.val).x = true ∧ let op := if len = 2 then decode16 bits else decode32 bits; ∃ (rd : Nat) (imm : DWord), op = Op.jal rd imm) ∧
    (∃ (n : CoreId) (s : State), s.ok = true ∧ s.coreRuns n.val = true ∧ (s.core n.val).wfi = false ∧ (s.core n.val).stepping = false ∧ sortedFrom none (s.core n.val).x = true ∧ ∃ (t : State) (bits len : Nat), s.bpMatch n.val = none ∧ fetchInstr n s = (t, FetchR.ok bits len) ∧ t.ok = true ∧ (t.core n.val).stepping = false ∧ sortedFrom none (t.core n.val).x = true ∧ let op := if len = 2 then decode16 bits else decode32 bits; ∃ (rd r1 : Nat) (imm : DWord), op = Op.jalr rd r1 imm) ∧
    (∃ (n : CoreId) (s : State), s.ok = true ∧ s.coreRuns n.val = true ∧ (s.core n.val).wfi = false ∧ (s.core n.val).stepping = false ∧ sortedFrom none (s.core n.val).x = true ∧ ∃ (t : State) (bits len : Nat), s.bpMatch n.val = none ∧ fetchInstr n s = (t, FetchR.ok bits len) ∧ t.ok = true ∧ (t.core n.val).stepping = false ∧ sortedFrom none (t.core n.val).x = true ∧ let op := if len = 2 then decode16 bits else decode32 bits; ∃ (f3 r1 r2 : Nat) (off : DWord), op = Op.branch f3 r1 r2 off) ∧
    (∃ (n : CoreId) (s : State), s.ok = true ∧ s.coreRuns n.val = true ∧ (s.core n.val).wfi = false ∧ (s.core n.val).stepping = false ∧ sortedFrom none (s.core n.val).x = true ∧ ∃ (t : State) (bits len : Nat), s.bpMatch n.val = none ∧ fetchInstr n s = (t, FetchR.ok bits len) ∧ t.ok = true ∧ (t.core n.val).stepping = false ∧ sortedFrom none (t.core n.val).x = true ∧ let op := if len = 2 then decode16 bits else decode32 bits; op = Op.fence) ∧
    (∃ (n : CoreId) (s : State), s.ok = true ∧ s.coreRuns n.val = true ∧ (s.core n.val).wfi = false ∧ (s.core n.val).stepping = false ∧ sortedFrom none (s.core n.val).x = true ∧ ∃ (t : State) (bits len : Nat), s.bpMatch n.val = none ∧ fetchInstr n s = (t, FetchR.ok bits len) ∧ t.ok = true ∧ (t.core n.val).stepping = false ∧ sortedFrom none (t.core n.val).x = true ∧ let op := if len = 2 then decode16 bits else decode32 bits; let c : Core := t.core n.val; let x (r : Nat) : DWord := BitVec.ofNat 64 (c.gpr r); ∃ (f3 rd r1 : Nat) (imm : DWord) (v : Nat) (t2 : State), op = Op.load f3 rd r1 imm ∧ let a : Nat := BitVec.toNat (x r1 + imm); let k : Nat := 2 ^ (f3 % 4); misaligned a k = false ∧ busRead (coreMaster n) c.userAccess Acc.read a k t = (t2, MemR.ok v) ∧ t2.cores = t.cores ∧ s.wpMatch n.val (some (a, k, true, false)) = none) ∧
    (∃ (n : CoreId) (s : State), s.ok = true ∧ s.coreRuns n.val = true ∧ (s.core n.val).wfi = false ∧ (s.core n.val).stepping = false ∧ sortedFrom none (s.core n.val).x = true ∧ ∃ (t : State) (bits len : Nat), s.bpMatch n.val = none ∧ fetchInstr n s = (t, FetchR.ok bits len) ∧ t.ok = true ∧ (t.core n.val).stepping = false ∧ sortedFrom none (t.core n.val).x = true ∧ let op := if len = 2 then decode16 bits else decode32 bits; let c : Core := t.core n.val; let x (r : Nat) : DWord := BitVec.ofNat 64 (c.gpr r); ∃ (f3 rd r1 : Nat) (imm : DWord) (info : Nat) (t2 : State), op = Op.load f3 rd r1 imm ∧ misaligned (BitVec.toNat (x r1 + imm)) (2 ^ (f3 % 4)) = false ∧ busRead (coreMaster n) c.userAccess Acc.read (BitVec.toNat (x r1 + imm)) (2 ^ (f3 % 4)) t = (t2, MemR.err info) ∧ t2.cores = t.cores) ∧
    (∃ (n : CoreId) (s : State), s.ok = true ∧ s.coreRuns n.val = true ∧ (s.core n.val).wfi = false ∧ (s.core n.val).stepping = false ∧ sortedFrom none (s.core n.val).x = true ∧ ∃ (t : State) (bits len : Nat), s.bpMatch n.val = none ∧ fetchInstr n s = (t, FetchR.ok bits len) ∧ t.ok = true ∧ (t.core n.val).stepping = false ∧ sortedFrom none (t.core n.val).x = true ∧ let op := if len = 2 then decode16 bits else decode32 bits; let c : Core := t.core n.val; let next := c.pc + BitVec.ofNat 64 len; let x (r : Nat) : DWord := BitVec.ofNat 64 (c.gpr r); ∃ (f3 r1 r2 : Nat) (imm : DWord) (w : Nat) (t2 : State), op = Op.store f3 r1 r2 imm ∧ let a : Nat := BitVec.toNat (x r1 + imm); let k : Nat := 2 ^ f3; misaligned a k = false ∧ busWrite (coreMaster n) c.userAccess Acc.write a k (BitVec.toNat (x r2) % 2 ^ (8 * k)) t = (Host.Outcome.next t2, MemR.ok w) ∧ t2.cores = t.cores ∧ s.wpMatch n.val (some (a, k, false, true)) = none) ∧
    (∃ (n : CoreId) (s : State), s.ok = true ∧ s.coreRuns n.val = true ∧ (s.core n.val).wfi = false ∧ (s.core n.val).stepping = false ∧ sortedFrom none (s.core n.val).x = true ∧ ∃ (t : State) (bits len : Nat), s.bpMatch n.val = none ∧ fetchInstr n s = (t, FetchR.ok bits len) ∧ t.ok = true ∧ (t.core n.val).stepping = false ∧ sortedFrom none (t.core n.val).x = true ∧ let op := if len = 2 then decode16 bits else decode32 bits; let c : Core := t.core n.val; let x (r : Nat) : DWord := BitVec.ofNat 64 (c.gpr r); ∃ (w : Bool) (rd r1 r2 : Nat), op = Op.sc w rd r1 r2 ∧ let a : Nat := BitVec.toNat (x r1); let k : Nat := if w = true then 4 else 8; a % k = 0 ∧ c.resv ≠ some (a / 8 * 8)) ∧
    (∃ (n : CoreId) (s : State), s.ok = true ∧ s.coreRuns n.val = true ∧ (s.core n.val).wfi = false ∧ (s.core n.val).stepping = false ∧ sortedFrom none (s.core n.val).x = true ∧ ∃ (t : State) (bits len : Nat), s.bpMatch n.val = none ∧ fetchInstr n s = (t, FetchR.ok bits len) ∧ t.ok = true ∧ (t.core n.val).stepping = false ∧ sortedFrom none (t.core n.val).x = true ∧ let op := if len = 2 then decode16 bits else decode32 bits; let c : Core := t.core n.val; let next := c.pc + BitVec.ofNat 64 len; let x (r : Nat) : DWord := BitVec.ofNat 64 (c.gpr r); ∃ (w : Bool) (rd r1 r2 : Nat), op = Op.sc w rd r1 r2 ∧ let a : Nat := BitVec.toNat (x r1); let k : Nat := if w = true then 4 else 8; a % k = 0 ∧ ∃ (t2 : State) (v : Nat), c.resv = some (a / 8 * 8) ∧ busWrite (coreMaster n) c.userAccess Acc.write a k (BitVec.toNat (x r2) % 2 ^ (8 * k)) t = (Host.Outcome.next t2, MemR.ok v) ∧ t2.ok = true ∧ (t2.core n.val).x = c.x ∧ (t2.core n.val).pc = c.pc ∧ (t2.core n.val).user = c.user ∧ (t2.core n.val).mepc = c.mepc ∧ (t2.core n.val).stepping = false ∧ s.wpMatch n.val (some (a, k, false, true)) = none) ∧
    (∃ (n : CoreId) (s : State), s.ok = true ∧ s.coreRuns n.val = true ∧ (s.core n.val).wfi = false ∧ (s.core n.val).stepping = false ∧ sortedFrom none (s.core n.val).x = true ∧ ∃ (t : State) (bits len : Nat), s.bpMatch n.val = none ∧ fetchInstr n s = (t, FetchR.ok bits len) ∧ t.ok = true ∧ (t.core n.val).stepping = false ∧ sortedFrom none (t.core n.val).x = true ∧ let op := if len = 2 then decode16 bits else decode32 bits; op = Op.ecall) ∧
    (∃ (n : CoreId) (s : State), s.ok = true ∧ s.coreRuns n.val = true ∧ (s.core n.val).wfi = false ∧ (s.core n.val).stepping = false ∧ sortedFrom none (s.core n.val).x = true ∧ ∃ (t : State) (bits len : Nat), s.bpMatch n.val = none ∧ fetchInstr n s = (t, FetchR.ok bits len) ∧ t.ok = true ∧ (t.core n.val).stepping = false ∧ sortedFrom none (t.core n.val).x = true ∧ let op := if len = 2 then decode16 bits else decode32 bits; op = Op.illegal) ∧
    (∃ (n : CoreId) (s : State), s.ok = true ∧ s.coreRuns n.val = true ∧ (s.core n.val).wfi = false ∧ (s.core n.val).stepping = false ∧ sortedFrom none (s.core n.val).x = true ∧ ∃ (t : State) (bits len : Nat), s.bpMatch n.val = none ∧ fetchInstr n s = (t, FetchR.ok bits len) ∧ t.ok = true ∧ (t.core n.val).stepping = false ∧ sortedFrom none (t.core n.val).x = true ∧ let op := if len = 2 then decode16 bits else decode32 bits; let c : Core := t.core n.val; op = Op.mret ∧ c.user = false) ∧
    (∃ (n : CoreId) (s : State), s.ok = true ∧ s.coreRuns n.val = true ∧ (s.core n.val).wfi = false ∧ (s.core n.val).stepping = false ∧ sortedFrom none (s.core n.val).x = true ∧ ∃ (t : State) (bits len : Nat), s.bpMatch n.val = none ∧ fetchInstr n s = (t, FetchR.ok bits len) ∧ t.ok = true ∧ (t.core n.val).stepping = false ∧ sortedFrom none (t.core n.val).x = true ∧ let op := if len = 2 then decode16 bits else decode32 bits; let c : Core := t.core n.val; op = Op.wfi ∧ c.user = false ∧ t.mip n.val &&& BitVec.toNat c.mie = 0) ∧
    (∃ (n : CoreId) (s : State), s.ok = true ∧ s.coreRuns n.val = true ∧ (s.core n.val).wfi = false ∧ (s.core n.val).stepping = false ∧ sortedFrom none (s.core n.val).x = true ∧ ∃ (t : State) (bits len : Nat), s.bpMatch n.val = none ∧ fetchInstr n s = (t, FetchR.ok bits len) ∧ t.ok = true ∧ (t.core n.val).stepping = false ∧ sortedFrom none (t.core n.val).x = true ∧ let op := if len = 2 then decode16 bits else decode32 bits; let c : Core := t.core n.val; ∃ (rd r1 : Nat), op = Op.csr 1 rd r1 832 ∧ c.user = false) ∧
    (∃ (n : CoreId) (s : State), s.ok = true ∧ s.coreRuns n.val = true ∧ (s.core n.val).wfi = false ∧ (s.core n.val).stepping = false ∧ sortedFrom none (s.core n.val).x = true ∧ ∃ (t : State) (bits len : Nat), s.bpMatch n.val = none ∧ fetchInstr n s = (t, FetchR.ok bits len) ∧ t.ok = true ∧ (t.core n.val).stepping = false ∧ sortedFrom none (t.core n.val).x = true ∧ let op := if len = 2 then decode16 bits else decode32 bits; let c : Core := t.core n.val; op = Op.mret ∧ c.user = true) ∧
    (∃ (n : CoreId) (s : State), s.ok = true ∧ s.coreRuns n.val = true ∧ (s.core n.val).wfi = false ∧ (s.core n.val).stepping = false ∧ sortedFrom none (s.core n.val).x = true ∧ ∃ (i : Nat), s.bpMatch n.val = some i) ∧
    (∃ (n : CoreId) (s : State), s.ok = true ∧ s.coreRuns n.val = true ∧ (s.core n.val).wfi = false ∧ (s.core n.val).stepping = false ∧ sortedFrom none (s.core n.val).x = true ∧ let c : Core := s.core n.val; c.user = false ∧ s.claimNext n.val = none) ∧
    (∃ (n : CoreId) (s : State), s.ok = true ∧ s.coreRuns n.val = true ∧ (s.core n.val).wfi = false ∧ (s.core n.val).stepping = false ∧ sortedFrom none (s.core n.val).x = true ∧ ∃ (code : Fin 64), s.irqReady n.val code.val = false) ∧
    (∃ (n : CoreId) (s : State), s.ok = true ∧ s.coreRuns n.val = true ∧ (s.core n.val).wfi = false ∧ (s.core n.val).stepping = false ∧ sortedFrom none (s.core n.val).x = true ∧ let c : Core := s.core n.val; c.user = false ∧ ∃ (v : Nat), s.claimNext n.val = some v) ∧
    (∃ (n : CoreId) (s : State), s.ok = true ∧ s.coreRuns n.val = true ∧ (s.core n.val).wfi = false ∧ (s.core n.val).stepping = false ∧ sortedFrom none (s.core n.val).x = true ∧ let c : Core := s.core n.val; s.flag JDP_CCTL_EBRK n.val = true ∧ c.user = false) ∧
    (∃ (n : CoreId) (s : State), s.ok = true ∧ s.coreRuns n.val = true ∧ (s.core n.val).wfi = false ∧ (s.core n.val).stepping = false ∧ sortedFrom none (s.core n.val).x = true ∧ ∃ (code : Fin 64), s.irqReady n.val code.val = true) := by
  refine ⟨?_, ?_, ?_, ?_, ?_, ?_, ?_, ?_, ?_, ?_, ?_, ?_, ?_, ?_, ?_, ?_, ?_, ?_, ?_, ?_, ?_, ?_, ?_, ?_, ?_, ?_⟩
  · refine ⟨0, coreAt 0 2154931 4 someRegs, ?_, ?_, ?_, ?_, ?_, t9_16a1, 2154931, 4, ?_, ?_, ?_, ?_, ?_, Alu.or, false, 3, 1, 2, ?_⟩ <;>
    first | decide +kernel | exact nextOf_eq (by decide +kernel) | exact Prod.ext (nextOf_eq (by decide +kernel)) (by decide +kernel) | exact Prod.ext rfl (by decide +kernel) | (intro _ h; cases h; done) | (intro _ _ h; cases h; done) | rfl
  · refine ⟨0, broken 0, ?_, ?_, ?_, ?_, ?_, ?_⟩ <;>
    first | decide +kernel | exact nextOf_eq (by decide +kernel) | exact Prod.ext (nextOf_eq (by decide +kernel)) (by decide +kernel) | exact Prod.ext rfl (by decide +kernel) | (intro _ h; cases h; done) | (intro _ _ h; cases h; done) | rfl
  · refine ⟨0, coreAt 0 19 4 someRegs, ?_, ?_, ?_, ?_, ?_, t26, 19, 4, ?_, ?_, ?_, ?_, ?_, Alu.add, false, 0, 0, BitVec.ofInt 64 0, ?_⟩ <;>
    first | decide +kernel | exact nextOf_eq (by decide +kernel) | exact Prod.ext (nextOf_eq (by decide +kernel)) (by decide +kernel) | exact Prod.ext rfl (by decide +kernel) | (intro _ h; cases h; done) | (intro _ _ h; cases h; done) | rfl
  · refine ⟨0, coreAt 0 2147484087 4 someRegs, ?_, ?_, ?_, ?_, ?_, t27, 2147484087, 4, ?_, ?_, ?_, ?_, ?_, 3, BitVec.ofInt 64 (-2147483648), ?_⟩ <;>
    first | decide +kernel | exact nextOf_eq (by decide +kernel) | exact Prod.ext (nextOf_eq (by decide +kernel)) (by decide +kernel) | exact Prod.ext rfl (by decide +kernel) | (intro _ h; cases h; done) | (intro _ _ h; cases h; done) | rfl
  · refine ⟨0, coreAt 0 4294963607 4 someRegs, ?_, ?_, ?_, ?_, ?_, t28, 4294963607, 4, ?_, ?_, ?_, ?_, ?_, 3, BitVec.ofInt 64 (-4096), ?_⟩ <;>
    first | decide +kernel | exact nextOf_eq (by decide +kernel) | exact Prod.ext (nextOf_eq (by decide +kernel)) (by decide +kernel) | exact Prod.ext rfl (by decide +kernel) | (intro _ h; cases h; done) | (intro _ _ h; cases h; done) | rfl
  · refine ⟨0, coreAt 0 8388719 4 someRegs, ?_, ?_, ?_, ?_, ?_, t30, 8388719, 4, ?_, ?_, ?_, ?_, ?_, 0, BitVec.ofInt 64 8, ?_⟩ <;>
    first | decide +kernel | exact nextOf_eq (by decide +kernel) | exact Prod.ext (nextOf_eq (by decide +kernel)) (by decide +kernel) | exact Prod.ext rfl (by decide +kernel) | (intro _ h; cases h; done) | (intro _ _ h; cases h; done) | rfl
  · refine ⟨0, coreAt 0 32898 2 someRegs, ?_, ?_, ?_, ?_, ?_, t68, 32898, 2, ?_, ?_, ?_, ?_, ?_, 0, 1, BitVec.ofInt 64 0, ?_⟩ <;>
    first | decide +kernel | exact nextOf_eq (by decide +kernel) | exact Prod.ext (nextOf_eq (by decide +kernel)) (by decide +kernel) | exact Prod.ext rfl (by decide +kernel) | (intro _ h; cases h; done) | (intro _ _ h; cases h; done) | rfl
  · refine ⟨0, coreAt 0 1082467 4 someRegs, ?_, ?_, ?_, ?_, ?_, t38, 1082467, 4, ?_, ?_, ?_, ?_, ?_, 0, 1, 1, BitVec.ofInt 64 8, ?_⟩ <;>
    first | decide +kernel | exact nextOf_eq (by decide +kernel) | exact Prod.ext (nextOf_eq (by decide +kernel)) (by decide +kernel) | exact Prod.ext rfl (by decide +kernel) | (intro _ h; cases h; done) | (intro _ _ h; cases h; done) | rfl
  · refine ⟨0, coreAt 0 267386895 4 someRegs, ?_, ?_, ?_, ?_, ?_, t39, 267386895, 4, ?_, ?_, ?_, ?_, ?_, ?_⟩ <;>
    first | decide +kernel | exact nextOf_eq (by decide +kernel) | exact Prod.ext (nextOf_eq (by decide +kernel)) (by decide +kernel) | exact Prod.ext rfl (by decide +kernel) | (intro _ h; cases h; done) | (intro _ _ h; cases h; done) | rfl
  · refine ⟨0, (coreAt 0 4286611843 4 someRegs).poke 536879104 8 9833599157468893857, ?_, ?_, ?_, ?_, ?_, t40, 4286611843, 4, ?_, ?_, ?_, ?_, ?_, 0, 3, 1, BitVec.ofInt 64 (-8), match (busRead (coreMaster 0) (t40.core 0).userAccess Acc.read (536879112 - 8) 1 t40).snd with | MemR.ok v => v | MemR.err i => i | x => 0, t40, ?_, ?_, ?_, ?_, ?_⟩ <;>
    first | decide +kernel | exact nextOf_eq (by decide +kernel) | exact Prod.ext (nextOf_eq (by decide +kernel)) (by decide +kernel) | exact Prod.ext rfl (by decide +kernel) | (intro _ h; cases h; done) | (intro _ _ h; cases h; done) | rfl
  · refine ⟨0, coreAt 0 65923 4 someRegs, ?_, ?_, ?_, ?_, ?_, t47, 65923, 4, ?_, ?_, ?_, ?_, ?_, 0, 3, 2, BitVec.ofInt 64 0, 4, u47, ?_, ?_, ?_, ?_⟩ <;>
    first | decide +kernel | exact nextOf_eq (by decide +kernel) | exact Prod.ext (nextOf_eq (by decide +kernel)) (by decide +kernel) | exact Prod.ext rfl (by decide +kernel) | (intro _ h; cases h; done) | (intro _ _ h; cases h; done) | rfl
  · refine ⟨0, coreAt 0 4263545891 4 someRegs, ?_, ?_, ?_, ?_, ?_, t48, 4263545891, 4, ?_, ?_, ?_, ?_, ?_, 0, 1, 2, BitVec.ofInt 64 (-8), 0, u48, ?_, ?_, ?_, ?_, ?_⟩ <;>
    first | decide +kernel | exact nextOf_eq (by decide +kernel) | exact Prod.ext (nextOf_eq (by decide +kernel)) (by decide +kernel) | exact Prod.ext rfl (by decide +kernel) | (intro _ h; cases h; done) | (intro _ _ h; cases h; done) | rfl
  · refine ⟨0, coreAt 0 404791727 4 someRegs, ?_, ?_, ?_, ?_, ?_, t52, 404791727, 4, ?_, ?_, ?_, ?_, ?_, true, 3, 1, 2, ?_, ?_, ?_⟩ <;>
    first | decide +kernel | exact nextOf_eq (by decide +kernel) | exact Prod.ext (nextOf_eq (by decide +kernel)) (by decide +kernel) | exact Prod.ext rfl (by decide +kernel) | (intro _ h; cases h; done) | (intro _ _ h; cases h; done) | rfl
  · refine ⟨0, coreAt 0 404791727 4   ({ someRegs with resv := some 536879112 }), ?_, ?_, ?_, ?_, ?_, t53, 404791727, 4, ?_, ?_, ?_, ?_, ?_, true, 3, 1, 2, ?_, ?_, u53, 0, ?_, ?_, ?_, ?_, ?_, ?_, ?_, ?_, ?_⟩ <;>
    first | decide +kernel | exact nextOf_eq (by decide +kernel) | exact Prod.ext (nextOf_eq (by decide +kernel)) (by decide +kernel) | exact Prod.ext rfl (by decide +kernel) | (intro _ h; cases h; done) | (intro _ _ h; cases h; done) | rfl
  · refine ⟨0, coreAt 0 115 4 someRegs, ?_, ?_, ?_, ?_, ?_, t56, 115, 4, ?_, ?_, ?_, ?_, ?_, ?_⟩ <;>
    first | decide +kernel | exact nextOf_eq (by decide +kernel) | exact Prod.ext (nextOf_eq (by decide +kernel)) (by decide +kernel) | exact Prod.ext rfl (by decide +kernel) | (intro _ h; cases h; done) | (intro _ _ h; cases h; done) | rfl
  · refine ⟨0, coreAt 0 0 2 someRegs, ?_, ?_, ?_, ?_, ?_, t57, 0, 2, ?_, ?_, ?_, ?_, ?_, ?_⟩ <;>
    first | decide +kernel | exact nextOf_eq (by decide +kernel) | exact Prod.ext (nextOf_eq (by decide +kernel)) (by decide +kernel) | exact Prod.ext rfl (by decide +kernel) | (intro _ h; cases h; done) | (intro _ _ h; cases h; done) | rfl
  · refine ⟨0, coreAt 0 807403635 4 someRegs, ?_, ?_, ?_, ?_, ?_, t59, 807403635, 4, ?_, ?_, ?_, ?_, ?_, ?_, ?_⟩ <;>
    first | decide +kernel | exact nextOf_eq (by decide +kernel) | exact Prod.ext (nextOf_eq (by decide +kernel)) (by decide +kernel) | exact Prod.ext rfl (by decide +kernel) | (intro _ h; cases h; done) | (intro _ _ h; cases h; done) | rfl
  · refine ⟨0, coreAt 0 273678451 4 someRegs, ?_, ?_, ?_, ?_, ?_, t60, 273678451, 4, ?_, ?_, ?_, ?_, ?_, ?_, ?_, ?_⟩ <;>
    first | decide +kernel | exact nextOf_eq (by decide +kernel) | exact Prod.ext (nextOf_eq (by decide +kernel)) (by decide +kernel) | exact Prod.ext rfl (by decide +kernel) | (intro _ h; cases h; done) | (intro _ _ h; cases h; done) | rfl
  · refine ⟨0, coreAt 0 872452595 4 someRegs, ?_, ?_, ?_, ?_, ?_, t61, 872452595, 4, ?_, ?_, ?_, ?_, ?_, 3, 1, ?_, ?_⟩ <;>
    first | decide +kernel | exact nextOf_eq (by decide +kernel) | exact Prod.ext (nextOf_eq (by decide +kernel)) (by decide +kernel) | exact Prod.ext rfl (by decide +kernel) | (intro _ h; cases h; done) | (intro _ _ h; cases h; done) | rfl
  · refine ⟨0, coreAt 0 807403635 4 userRegs, ?_, ?_, ?_, ?_, ?_, t65, 807403635, 4, ?_, ?_, ?_, ?_, ?_, ?_, ?_⟩ <;>
    first | decide +kernel | exact nextOf_eq (by decide +kernel) | exact Prod.ext (nextOf_eq (by decide +kernel)) (by decide +kernel) | exact Prod.ext rfl (by decide +kernel) | (intro _ h; cases h; done) | (intro _ _ h; cases h; done) | rfl
  · refine ⟨0, broken 0, ?_, ?_, ?_, ?_, ?_, 7, ?_⟩ <;>
    first | decide +kernel | exact nextOf_eq (by decide +kernel) | exact Prod.ext (nextOf_eq (by decide +kernel)) (by decide +kernel) | exact Prod.ext rfl (by decide +kernel) | (intro _ h; cases h; done) | (intro _ _ h; cases h; done) | rfl
  · refine ⟨0, broken 0, ?_, ?_, ?_, ?_, ?_, ?_, ?_⟩ <;>
    first | decide +kernel | exact nextOf_eq (by decide +kernel) | exact Prod.ext (nextOf_eq (by decide +kernel)) (by decide +kernel) | exact Prod.ext rfl (by decide +kernel) | (intro _ h; cases h; done) | (intro _ _ h; cases h; done) | rfl
  · refine ⟨0, broken 0, ?_, ?_, ?_, ?_, ?_, 3, ?_⟩ <;>
    first | decide +kernel | exact nextOf_eq (by decide +kernel) | exact Prod.ext (nextOf_eq (by decide +kernel)) (by decide +kernel) | exact Prod.ext rfl (by decide +kernel) | (intro _ h; cases h; done) | (intro _ _ h; cases h; done) | rfl
  · refine ⟨0, vectors 0 someRegs, ?_, ?_, ?_, ?_, ?_, ?_, 5, ?_⟩ <;>
    first | decide +kernel | exact nextOf_eq (by decide +kernel) | exact Prod.ext (nextOf_eq (by decide +kernel)) (by decide +kernel) | exact Prod.ext rfl (by decide +kernel) | (intro _ h; cases h; done) | (intro _ _ h; cases h; done) | rfl
  · refine ⟨0, (vectors 0 someRegs).setFld JDP_CCTL_EBRK 1, ?_, ?_, ?_, ?_, ?_, ?_, ?_⟩ <;>
    first | decide +kernel | exact nextOf_eq (by decide +kernel) | exact Prod.ext (nextOf_eq (by decide +kernel)) (by decide +kernel) | exact Prod.ext rfl (by decide +kernel) | (intro _ h; cases h; done) | (intro _ _ h; cases h; done) | rfl
  · refine ⟨0, irqs 0, ?_, ?_, ?_, ?_, ?_, 11, ?_⟩ <;>
    first | decide +kernel | exact nextOf_eq (by decide +kernel) | exact Prod.ext (nextOf_eq (by decide +kernel)) (by decide +kernel) | exact Prod.ext rfl (by decide +kernel) | (intro _ h; cases h; done) | (intro _ _ h; cases h; done) | rfl

theorem witness_EventsWatchdogsAndMailboxesReachTheCores :
    (∃ (s : State), s.ok = true ∧ ∃ (src : Fin 640), evAssigned src.val = true ∧ s.domOn (evDomain src.val) = true ∧ s.flag EVR_ROUTE0_ENA src.val = false) ∧
    (∃ (s : State), s.ok = true ∧ ∃ (src : Fin 640), (evAssigned src.val = false ∨ s.domOn (evDomain src.val) = false)) ∧
    (∃ (s : State), s.ok = true ∧ ∃ (m : MasterId) (index : Fin 64) (src : Fin 640), s.MayWrite m.val EVR_SWRAISE ∧ src.val = 544 + index.val) ∧
    (∃ (s : State), s.ok = true ∧ s.mode ≠ mDORMANT) ∧
    (∃ (s : State), s.ok = true ∧ ∃ (n : CoreId), s.coreRuns n.val = true ∧ nbit (s.fld JDP_STAT_SPLIT) n.val = false) ∧
    (∃ (s : State), s.ok = true ∧ ∃ (n : CoreId) (m : MasterId), s.MayWrite m.val EVR_WDOG n.val) ∧
    (∃ (s : State), s.ok = true ∧ ∃ (m : MasterId) (k : Fin 64), s.domOn (s.fld MBX_CFG_DOMAIN k.val) = true ∧ m ≤ 9 ∧ sortedFrom none s.mbx.msgs = true ∧ sortedFrom none s.mbx.sendLatch = true ∧ sortedFrom none s.mbx.rlatch = true ∧ s.mapAllows m.val Acc.write (1096814592 + 16 * k.val) = true) ∧
    (∃ (s : State), s.ok = true ∧ ∃ (m : MasterId) (k : Fin 64), s.domOn (s.fld MBX_CFG_DOMAIN k.val) = true ∧ m ≤ 9 ∧ sortedFrom none s.mbx.msgs = true ∧ sortedFrom none s.mbx.sendLatch = true ∧ sortedFrom none s.mbx.rlatch = true ∧ s.mapAllows m.val Acc.write (1096814596 + 16 * k.val) = true ∧ mfind s.mbx.msgs k.val = none) ∧
    (∃ (s : State), s.ok = true ∧ ∃ (m : MasterId) (k : Fin 64), s.domOn (s.fld MBX_CFG_DOMAIN k.val) = true ∧ m ≤ 9 ∧ sortedFrom none s.mbx.msgs = true ∧ sortedFrom none s.mbx.sendLatch = true ∧ sortedFrom none s.mbx.rlatch = true ∧ s.mapAllows m.val Acc.read (1096814600 + 16 * k.val) = true ∧ mfind s.mbx.msgs k.val = none) ∧
    (∃ (s : State), s.ok = true ∧ ∃ (src : Fin 640), let prio := s.fld EVR_ROUTE1_PRIO src; evAssigned src.val = true ∧ s.domOn (evDomain src.val) = true ∧ s.flag EVR_ROUTE0_ENA src.val = true ∧ sortedFrom none s.evr.prio = true ∧ s.flag EVR_ROUTE0_REC src.val = false) ∧
    (∃ (s : State), s.ok = true ∧ ∃ (src : Fin 640), let n := s.fld EVR_ROUTE0_CORE src; let size := 2 ^ s.fld EVR_RING_HI_SIZE n; let wr := s.fld EVR_RWR_INDEX n; evAssigned src.val = true ∧ s.domOn (evDomain src.val) = true ∧ s.flag EVR_ROUTE0_ENA src.val = true ∧ s.flag EVR_ROUTE0_REC src.val = true ∧ (wr + 1) % size = s.fld EVR_RRD_INDEX n % size) ∧
    (∃ (s : State), s.ok = true ∧ ∃ (src : Fin 640), let n := s.fld EVR_ROUTE0_CORE src; let size := 2 ^ s.fld EVR_RING_HI_SIZE n; let wr := s.fld EVR_RWR_INDEX n; let a := s.fld EVR_RING_LO_ADDR n + 2 ^ 32 * s.fld EVR_RING_HI_ADDR n + 16 * wr; evAssigned src.val = true ∧ s.domOn (evDomain src.val) = true ∧ s.flag EVR_ROUTE0_ENA src.val = true ∧ s.flag EVR_ROUTE0_REC src.val = true ∧ (wr + 1) % size ≠ s.fld EVR_RRD_INDEX n % size ∧ s.ringWritable n a 16 = true ∧ size ≤ 4096) ∧
    (∃ (s : State), s.ok = true ∧ ∃ (n : CoreId), s.wdogRuns n.val = true ∧ s.flag EVR_WDOG_WARNED n.val = false) ∧
    (∃ (s : State), s.ok = true ∧ ∃ (n : CoreId), s.wdogRuns n.val = true ∧ s.flag EVR_WDOG_WARNED n.val = true) ∧
    (∃ (s : State), s.ok = true ∧ ∃ (m : MasterId) (k : Fin 64), s.domOn (s.fld MBX_CFG_DOMAIN k.val) = true ∧ m ≤ 9 ∧ sortedFrom none s.mbx.msgs = true ∧ sortedFrom none s.mbx.sendLatch = true ∧ sortedFrom none s.mbx.rlatch = true ∧ s.mapAllows m.val Acc.write (1096814596 + 16 * k.val) = true ∧ (mfind s.mbx.msgs k.val).isSome = true) ∧
    (∃ (s : State), s.ok = true ∧ ∃ (m : MasterId) (k : Fin 64), s.domOn (s.fld MBX_CFG_DOMAIN k.val) = true ∧ m ≤ 9 ∧ sortedFrom none s.mbx.msgs = true ∧ sortedFrom none s.mbx.sendLatch = true ∧ sortedFrom none s.mbx.rlatch = true ∧ ∃ (msg : Nat), s.mapAllows m.val Acc.read (1096814600 + 16 * k.val) = true ∧ mfind s.mbx.msgs k.val = some msg) := by
  refine ⟨?_, ?_, ?_, ?_, ?_, ?_, ?_, ?_, ?_, ?_, ?_, ?_, ?_, ?_, ?_, ?_⟩
  · refine ⟨serv, ?_, 0, ?_, ?_, ?_⟩ <;>
    first | decide +kernel | exact nextOf_eq (by decide +kernel) | exact Prod.ext (nextOf_eq (by decide +kernel)) (by decide +kernel) | exact Prod.ext rfl (by decide +kernel) | (intro _ h; cases h; done) | (intro _ _ h; cases h; done) | rfl
  · refine ⟨serv, ?_, 639, ?_⟩ <;>
    first | decide +kernel | exact nextOf_eq (by decide +kernel) | exact Prod.ext (nextOf_eq (by decide +kernel)) (by decide +kernel) | exact Prod.ext rfl (by decide +kernel) | (intro _ h; cases h; done) | (intro _ _ h; cases h; done) | rfl
  · refine ⟨serv, ?_, 0, 0, 544, ?_, ?_⟩ <;>
    first | decide +kernel | exact nextOf_eq (by decide +kernel) | exact Prod.ext (nextOf_eq (by decide +kernel)) (by decide +kernel) | exact Prod.ext rfl (by decide +kernel) | (intro _ h; cases h; done) | (intro _ _ h; cases h; done) | rfl
  · refine ⟨serv, ?_, ?_⟩ <;>
    first | decide +kernel | exact nextOf_eq (by decide +kernel) | exact Prod.ext (nextOf_eq (by decide +kernel)) (by decide +kernel) | exact Prod.ext rfl (by decide +kernel) | (intro _ h; cases h; done) | (intro _ _ h; cases h; done) | rfl
  · refine ⟨serv, ?_, 0, ?_, ?_⟩ <;>
    first | decide +kernel | exact nextOf_eq (by decide +kernel) | exact Prod.ext (nextOf_eq (by decide +kernel)) (by decide +kernel) | exact Prod.ext rfl (by decide +kernel) | (intro _ h; cases h; done) | (intro _ _ h; cases h; done) | rfl
  · refine ⟨serv, ?_, 0, 0, ?_⟩ <;>
    first | decide +kernel | exact nextOf_eq (by decide +kernel) | exact Prod.ext (nextOf_eq (by decide +kernel)) (by decide +kernel) | exact Prod.ext rfl (by decide +kernel) | (intro _ h; cases h; done) | (intro _ _ h; cases h; done) | rfl
  · refine ⟨serv, ?_, 0, 0, ?_, ?_, ?_, ?_, ?_, ?_⟩ <;>
    first | decide +kernel | exact nextOf_eq (by decide +kernel) | exact Prod.ext (nextOf_eq (by decide +kernel)) (by decide +kernel) | exact Prod.ext rfl (by decide +kernel) | (intro _ h; cases h; done) | (intro _ _ h; cases h; done) | rfl
  · refine ⟨serv, ?_, 0, 0, ?_, ?_, ?_, ?_, ?_, ?_, ?_⟩ <;>
    first | decide +kernel | exact nextOf_eq (by decide +kernel) | exact Prod.ext (nextOf_eq (by decide +kernel)) (by decide +kernel) | exact Prod.ext rfl (by decide +kernel) | (intro _ h; cases h; done) | (intro _ _ h; cases h; done) | rfl
  · refine ⟨serv, ?_, 0, 0, ?_, ?_, ?_, ?_, ?_, ?_, ?_⟩ <;>
    first | decide +kernel | exact nextOf_eq (by decide +kernel) | exact Prod.ext (nextOf_eq (by decide +kernel)) (by decide +kernel) | exact Prod.ext rfl (by decide +kernel) | (intro _ h; cases h; done) | (intro _ _ h; cases h; done) | rfl
  · refine ⟨routed 0 0 false 0, ?_, 0, ?_, ?_, ?_, ?_, ?_⟩ <;>
    first | decide +kernel | exact nextOf_eq (by decide +kernel) | exact Prod.ext (nextOf_eq (by decide +kernel)) (by decide +kernel) | exact Prod.ext rfl (by decide +kernel) | (intro _ h; cases h; done) | (intro _ _ h; cases h; done) | rfl
  · refine ⟨routed 5 7 true 0, ?_, 5, ?_, ?_, ?_, ?_, ?_⟩ <;>
    first | decide +kernel | exact nextOf_eq (by decide +kernel) | exact Prod.ext (nextOf_eq (by decide +kernel)) (by decide +kernel) | exact Prod.ext rfl (by decide +kernel) | (intro _ h; cases h; done) | (intro _ _ h; cases h; done) | rfl
  · refine ⟨routed 5 7 true 3, ?_, 5, ?_, ?_, ?_, ?_, ?_, ?_, ?_⟩ <;>
    first | decide +kernel | exact nextOf_eq (by decide +kernel) | exact Prod.ext (nextOf_eq (by decide +kernel)) (by decide +kernel) | exact Prod.ext rfl (by decide +kernel) | (intro _ h; cases h; done) | (intro _ _ h; cases h; done) | rfl
  · refine ⟨watched 0 false, ?_, 0, ?_, ?_⟩ <;>
    first | decide +kernel | exact nextOf_eq (by decide +kernel) | exact Prod.ext (nextOf_eq (by decide +kernel)) (by decide +kernel) | exact Prod.ext rfl (by decide +kernel) | (intro _ h; cases h; done) | (intro _ _ h; cases h; done) | rfl
  · refine ⟨watched 7 true, ?_, Fin.ofNat 8 (8 - 1), ?_, ?_⟩ <;>
    first | decide +kernel | exact nextOf_eq (by decide +kernel) | exact Prod.ext (nextOf_eq (by decide +kernel)) (by decide +kernel) | exact Prod.ext rfl (by decide +kernel) | (intro _ h; cases h; done) | (intro _ _ h; cases h; done) | rfl
  · refine ⟨mailed 0, ?_, 0, 0, ?_, ?_, ?_, ?_, ?_, ?_, ?_⟩ <;>
    first | decide +kernel | exact nextOf_eq (by decide +kernel) | exact Prod.ext (nextOf_eq (by decide +kernel)) (by decide +kernel) | exact Prod.ext rfl (by decide +kernel) | (intro _ h; cases h; done) | (intro _ _ h; cases h; done) | rfl
  · refine ⟨mailed 0, ?_, 0, 0, ?_, ?_, ?_, ?_, ?_, 1311768467294899695, ?_, ?_⟩ <;>
    first | decide +kernel | exact nextOf_eq (by decide +kernel) | exact Prod.ext (nextOf_eq (by decide +kernel)) (by decide +kernel) | exact Prod.ext rfl (by decide +kernel) | (intro _ h; cases h; done) | (intro _ _ h; cases h; done) | rfl

theorem witness_CountersFreezeSnapshotAndReport :
    (∃ (s : State), s.ok = true ∧ ∃ (m : MasterId), s.MayWrite m.val PMU_GCMD ∧ s.flag PMU_STAT_SNAPBUSY = false) ∧
    (∃ (s : State), s.ok = true ∧ ∃ (i : Fin 256), ¬i.val ∈ s.pmu.due) ∧
    (∃ (s : State), s.ok = true ∧ ∃ (m : MasterId), s.mapAllows m.val Acc.read (1073741824 + PMU_SPC_HI.off) = true) ∧
    (∃ (s : State), s.ok = true ∧ ∃ (a : Nat), (a < 1099956224 ∨ 1101004800 ≤ a)) ∧
    (∃ (s : State), s.ok = true ∧ ∃ (m : MasterId), s.MayWrite m.val PMU_GCMD ∧ s.flag PMU_STAT_SNAPBUSY = true) ∧
    (∃ (s : State), s.ok = true ∧ ∃ (s1 : State), s.flag PMU_STAT_SNAPBUSY = true ∧ ∃ (v : Nat), s1.ok = true ∧ snapWrite s = (s1, MemR.ok v)) ∧
    (∃ (s : State), s.ok = true ∧ ∃ (s1 : State), s.flag PMU_STAT_SNAPBUSY = true ∧ ∃ (i : Nat), s1.ok = true ∧ snapWrite s = (s1, MemR.err i)) ∧
    (∃ (s : State), s.ok = true ∧ ∃ (s1 : State), s.flag PMU_STAT_SNAPBUSY = true ∧ snapWrite s = (s1, MemR.wait)) ∧
    (∃ (s : State), s.ok = true ∧ ∃ (m : MasterId) (off : Nat), inPmu off = true ∧ off % 4 = 0 ∧ let a := 0x40000000 + off; s.mapAllowsAll m.val Acc.read a 4 = true ∧ (nbit (s.fld PMU_USER_READ) m.val = false ∨ ¬(26218496 ≤ off ∧ off < 26222592 ∨ PMU_OVF.off ≤ off ∧ off < PMU_OVF.off + 32))) ∧
    (∃ (s : State), s.ok = true ∧ ∃ (m : MasterId) (off : Nat), inPmu off = true ∧ off % 4 = 0 ∧ let a := 0x40000000 + off; s.mapAllowsAll m.val Acc.write a 4 = true) ∧
    (∃ (s : State), s.ok = true ∧ ∃ (m : MasterId) (off : Nat), inPmu off = true ∧ off % 4 = 0 ∧ let a := 0x40000000 + off; s.mapAllowsAll m.val Acc.read a 4 = true ∧ nbit (s.fld PMU_USER_READ) m.val = true ∧ (26218496 ≤ off ∧ off < 26222592 ∨ PMU_OVF.off ≤ off ∧ off < PMU_OVF.off + 32)) := by
  refine ⟨?_, ?_, ?_, ?_, ?_, ?_, ?_, ?_, ?_, ?_, ?_⟩
  · refine ⟨serv, ?_, 0, ?_, ?_⟩ <;>
    first | decide +kernel | exact nextOf_eq (by decide +kernel) | exact Prod.ext (nextOf_eq (by decide +kernel)) (by decide +kernel) | exact Prod.ext rfl (by decide +kernel) | (intro _ h; cases h; done) | (intro _ _ h; cases h; done) | rfl
  · refine ⟨serv, ?_, 0, ?_⟩ <;>
    first | decide +kernel | exact nextOf_eq (by decide +kernel) | exact Prod.ext (nextOf_eq (by decide +kernel)) (by decide +kernel) | exact Prod.ext rfl (by decide +kernel) | (intro _ h; cases h; done) | (intro _ _ h; cases h; done) | rfl
  · refine ⟨serv, ?_, 0, ?_⟩ <;>
    first | decide +kernel | exact nextOf_eq (by decide +kernel) | exact Prod.ext (nextOf_eq (by decide +kernel)) (by decide +kernel) | exact Prod.ext rfl (by decide +kernel) | (intro _ h; cases h; done) | (intro _ _ h; cases h; done) | rfl
  · refine ⟨serv, ?_, 0, ?_⟩ <;>
    first | decide +kernel | exact nextOf_eq (by decide +kernel) | exact Prod.ext (nextOf_eq (by decide +kernel)) (by decide +kernel) | exact Prod.ext rfl (by decide +kernel) | (intro _ h; cases h; done) | (intro _ _ h; cases h; done) | rfl
  · refine ⟨pmuBusy 536870912, ?_, 0, ?_, ?_⟩ <;>
    first | decide +kernel | exact nextOf_eq (by decide +kernel) | exact Prod.ext (nextOf_eq (by decide +kernel)) (by decide +kernel) | exact Prod.ext rfl (by decide +kernel) | (intro _ h; cases h; done) | (intro _ _ h; cases h; done) | rfl
  · refine ⟨pmuBusy 536870912, ?_, (snapWrite (pmuBusy 536870912)).fst, ?_, 0, ?_, ?_⟩ <;>
    first | decide +kernel | exact nextOf_eq (by decide +kernel) | exact Prod.ext (nextOf_eq (by decide +kernel)) (by decide +kernel) | exact Prod.ext rfl (by decide +kernel) | (intro _ h; cases h; done) | (intro _ _ h; cases h; done) | rfl
  · refine ⟨pmuBusy 1095216660480, ?_, (snapWrite (pmuBusy 1095216660480)).fst, ?_, 4, ?_, ?_⟩ <;>
    first | decide +kernel | exact nextOf_eq (by decide +kernel) | exact Prod.ext (nextOf_eq (by decide +kernel)) (by decide +kernel) | exact Prod.ext rfl (by decide +kernel) | (intro _ h; cases h; done) | (intro _ _ h; cases h; done) | rfl
  · refine ⟨waitBusy, ?_, (snapWrite waitBusy).fst, ?_, ?_⟩ <;>
    first | decide +kernel | exact nextOf_eq (by decide +kernel) | exact Prod.ext (nextOf_eq (by decide +kernel)) (by decide +kernel) | exact Prod.ext rfl (by decide +kernel) | (intro _ h; cases h; done) | (intro _ _ h; cases h; done) | rfl
  · refine ⟨serv, ?_, 0, 26214400, ?_, ?_, ?_, ?_⟩ <;>
    first | decide +kernel | exact nextOf_eq (by decide +kernel) | exact Prod.ext (nextOf_eq (by decide +kernel)) (by decide +kernel) | exact Prod.ext rfl (by decide +kernel) | (intro _ h; cases h; done) | (intro _ _ h; cases h; done) | rfl
  · refine ⟨serv, ?_, 0, 26214400, ?_, ?_, ?_⟩ <;>
    first | decide +kernel | exact nextOf_eq (by decide +kernel) | exact Prod.ext (nextOf_eq (by decide +kernel)) (by decide +kernel) | exact Prod.ext rfl (by decide +kernel) | (intro _ h; cases h; done) | (intro _ _ h; cases h; done) | rfl
  · refine ⟨serv.setFld PMU_USER_READ 255, ?_, 0, PMU_OVF.off, ?_, ?_, ?_, ?_, ?_⟩ <;>
    first | decide +kernel | exact nextOf_eq (by decide +kernel) | exact Prod.ext (nextOf_eq (by decide +kernel)) (by decide +kernel) | exact Prod.ext rfl (by decide +kernel) | (intro _ h; cases h; done) | (intro _ _ h; cases h; done) | rfl

theorem witness_DebugHaltsStepsAndReadsCores :
    (∃ (s : State) (m : MasterId) (n : CoreId), s.ok = true ∧ sortedFrom none (s.core n.val).x = true ∧ s.MayWrite m.val JDP_CCTL n.val ∧ s.coreRuns n.val = true) ∧
    (∃ (s : State) (m : MasterId) (n : CoreId), s.ok = true ∧ sortedFrom none (s.core n.val).x = true ∧ s.MayWrite m.val JDP_CCTL n.val ∧ s.mayResume n.val = false) ∧
    (∃ (s : State) (m : MasterId) (n : CoreId), s.ok = true ∧ sortedFrom none (s.core n.val).x = true ∧ s.MayWrite m.val JDP_CCTL n.val ∧ s.flag JDP_CSTAT_HALTED n.val = false) ∧
    (∃ (s : State) (n : CoreId), s.ok = true ∧ sortedFrom none (s.core n.val).x = true ∧ ∃ (j : Fin 4) (t : State), s.coreRuns n.val = true ∧ exec (Instr.coreInstruction n) s = Host.Outcome.next t ∧ t.fld JDP_CSTAT_CAUSE n.val = 4 ∧ t.fld JDP_CSTAT_INDEX n.val = j.val) ∧
    (∃ (s : State) (n : CoreId), s.ok = true ∧ sortedFrom none (s.core n.val).x = true ∧ ∃ (j : Fin 4) (t t2 : State) (bits len f3 r1 r2 w : Nat) (imm : DWord), s.coreRuns n.val = true ∧ (s.core n.val).wfi = false ∧ s.bpMatch n.val = none ∧ fetchInstr n s = (t, FetchR.ok bits len) ∧ ((if len = 2 then decode16 bits else decode32 bits) = Op.store f3 r1 r2 imm) ∧ let a := (BitVec.ofNat 64 ((t.core n).gpr r1) + imm).toNat; let k := 2 ^ f3; misaligned a k = false ∧ busWrite (coreMaster n) (t.core n.val).userAccess Acc.write a k ((BitVec.ofNat 64 ((t.core n.val).gpr r2)).toNat % 2 ^ (8 * k)) t = (Host.Outcome.next t2, MemR.ok w) ∧ t2.ok = true ∧ s.wpMatch n.val (some (a, k, false, true)) = some j.val) ∧
    (∃ (s : State) (m : MasterId) (n : CoreId), s.ok = true ∧ sortedFrom none (s.core n.val).x = true ∧ s.MayWrite m.val JDP_RSEL n.val ∧ s.flag JDP_CSTAT_HALTED n.val = false) ∧
    (∃ (s : State) (m : MasterId) (n : CoreId), s.ok = true ∧ sortedFrom none (s.core n.val).x = true ∧ s.MayWrite m.val JDP_CCTL n.val ∧ s.coreRuns n.val = false) ∧
    (∃ (s : State) (m : MasterId) (n : CoreId), s.ok = true ∧ sortedFrom none (s.core n.val).x = true ∧ s.MayWrite m.val JDP_CCTL n.val ∧ s.mayResume n.val = true ∧ let s1 := modCore n (fun k => { k with stepping := true, wfi := false }) (coreGo n s); ∃ (t : State) (bits len : Nat), (s.core n.val).released = true ∧ s.domOn dCTRL = true ∧ s.mode ≠ mDORMANT ∧ s1.bpMatch n.val = none ∧ fetchInstr n s1 = (t, FetchR.ok bits len) ∧ t.ok = true ∧ (t.core n.val).stepping = true ∧ ((if len = 2 then decode16 bits else decode32 bits) = Op.fence)) ∧
    (∃ (s : State) (m : MasterId) (n : CoreId), s.ok = true ∧ sortedFrom none (s.core n.val).x = true ∧ s.MayWrite m.val JDP_CCTL n.val ∧ s.flag JDP_CSTAT_HALTED n.val = true) ∧
    (∃ (s : State) (m : MasterId) (n : CoreId), s.ok = true ∧ sortedFrom none (s.core n.val).x = true ∧ ∃ (num : BitVec 12) (csr : Bool), s.MayWrite m.val JDP_RSEL n.val ∧ let i := num.toNat; s.flag JDP_CSTAT_HALTED n.val = true ∧ csr = true ∧ csrExists i = false) ∧
    (∃ (s : State) (m : MasterId) (n : CoreId), s.ok = true ∧ sortedFrom none (s.core n.val).x = true ∧ ∃ (num : BitVec 12) (csr write : Bool), s.MayWrite m.val JDP_RSEL n.val ∧ let i := num.toNat; s.flag JDP_CSTAT_HALTED n.val = true ∧ write = true ∧ csr = false ∧ i < 32) ∧
    (∃ (s : State) (m : MasterId) (n : CoreId), s.ok = true ∧ sortedFrom none (s.core n.val).x = true ∧ ∃ (num : BitVec 12) (csr write differ : Bool), s.MayWrite m.val JDP_RSEL n.val ∧ let i := num.toNat; s.flag JDP_CSTAT_HALTED n.val = true ∧ write = false ∧ differ = true ∧ nbit (s.fld JDP_STAT_SPLIT) n.val = false ∧ csr = false ∧ i ≤ 32) ∧
    (∃ (s : State) (m : MasterId) (n : CoreId), s.ok = true ∧ sortedFrom none (s.core n.val).x = true ∧ ∃ (num : BitVec 12) (csr write differ : Bool), s.MayWrite m.val JDP_RSEL n.val ∧ let i := num.toNat; s.flag JDP_CSTAT_HALTED n.val = true ∧ write = false ∧ (differ = false ∨ nbit (s.fld JDP_STAT_SPLIT) n.val = true) ∧ csr = false ∧ i < 32) ∧
    (∃ (s : State) (m : MasterId) (n : CoreId), s.ok = true ∧ sortedFrom none (s.core n.val).x = true ∧ ∃ (num : BitVec 12) (csr write : Bool), s.MayWrite m.val JDP_RSEL n.val ∧ let i := num.toNat; s.flag JDP_CSTAT_HALTED n.val = true ∧ write = true ∧ csr = false ∧ i = 32) ∧
    (∃ (s : State) (m : MasterId) (n : CoreId), s.ok = true ∧ sortedFrom none (s.core n.val).x = true ∧ ∃ (num : BitVec 12) (csr write differ : Bool), s.MayWrite m.val JDP_RSEL n.val ∧ let i := num.toNat; s.flag JDP_CSTAT_HALTED n.val = true ∧ write = false ∧ (differ = false ∨ nbit (s.fld JDP_STAT_SPLIT) n.val = true) ∧ csr = false ∧ i = 32) ∧
    (∃ (s : State) (m : MasterId) (n : CoreId), s.ok = true ∧ sortedFrom none (s.core n.val).x = true ∧ ∃ (num : BitVec 12) (csr : Bool), s.MayWrite m.val JDP_RSEL n.val ∧ let i := num.toNat; s.flag JDP_CSTAT_HALTED n.val = true ∧ csr = false ∧ 32 < i) ∧
    (∃ (s : State) (m : MasterId) (n : CoreId), s.ok = true ∧ sortedFrom none (s.core n.val).x = true ∧ ∃ (num : BitVec 12) (csr write : Bool), s.MayWrite m.val JDP_RSEL n.val ∧ let i := num.toNat; s.flag JDP_CSTAT_HALTED n.val = true ∧ write = true ∧ csr = true ∧ i = 832) ∧
    (∃ (s : State) (m : MasterId) (n : CoreId), s.ok = true ∧ sortedFrom none (s.core n.val).x = true ∧ ∃ (num : BitVec 12) (csr write differ : Bool), s.MayWrite m.val JDP_RSEL n.val ∧ let i := num.toNat; s.flag JDP_CSTAT_HALTED n.val = true ∧ write = false ∧ (differ = false ∨ nbit (s.fld JDP_STAT_SPLIT) n.val = true) ∧ csr = true ∧ i = 832) ∧
    (∃ (s : State) (n : CoreId), s.ok = true ∧ sortedFrom none (s.core n.val).x = true ∧ ∃ (i : Fin 8), s.coreRuns n.val = true ∧ (s.core n.val).wfi = false ∧ s.bpMatch n.val = some i.val) := by
  refine ⟨?_, ?_, ?_, ?_, ?_, ?_, ?_, ?_, ?_, ?_, ?_, ?_, ?_, ?_, ?_, ?_, ?_, ?_, ?_⟩
  · refine ⟨serv, 0, 0, ?_, ?_, ?_, ?_⟩ <;>
    first | decide +kernel | exact nextOf_eq (by decide +kernel) | exact Prod.ext (nextOf_eq (by decide +kernel)) (by decide +kernel) | exact Prod.ext rfl (by decide +kernel) | (intro _ h; cases h; done) | (intro _ _ h; cases h; done) | rfl
  · refine ⟨serv, 0, 0, ?_, ?_, ?_, ?_⟩ <;>
    first | decide +kernel | exact nextOf_eq (by decide +kernel) | exact Prod.ext (nextOf_eq (by decide +kernel)) (by decide +kernel) | exact Prod.ext rfl (by decide +kernel) | (intro _ h; cases h; done) | (intro _ _ h; cases h; done) | rfl
  · refine ⟨serv, 0, 0, ?_, ?_, ?_, ?_⟩ <;>
    first | decide +kernel | exact nextOf_eq (by decide +kernel) | exact Prod.ext (nextOf_eq (by decide +kernel)) (by decide +kernel) | exact Prod.ext rfl (by decide +kernel) | (intro _ h; cases h; done) | (intro _ _ h; cases h; done) | rfl
  · refine ⟨watchedStore 7, 7, ?_, ?_, 3, nextOf (execCoreInstruction 7 wst7), ?_, ?_, ?_, ?_⟩ <;>
    first | decide +kernel | exact nextOf_eq (by decide +kernel) | exact Prod.ext (nextOf_eq (by decide +kernel)) (by decide +kernel) | exact Prod.ext rfl (by decide +kernel) | (intro _ h; cases h; done) | (intro _ _ h; cases h; done) | rfl
  · refine ⟨watchedStore 7, 7, ?_, ?_, 3, wf7, nextOf ww7.fst, 3186723, 4, 2, 1, 3, match ww7.snd with | MemR.ok v => v | x => 0, 0, ?_, ?_, ?_, ?_, ?_, ?_, ?_, ?_, ?_⟩ <;>
    first | decide +kernel | exact nextOf_eq (by decide +kernel) | exact Prod.ext (nextOf_eq (by decide +kernel)) (by decide +kernel) | exact Prod.ext rfl (by decide +kernel) | (intro _ h; cases h; done) | (intro _ _ h; cases h; done) | rfl
  · refine ⟨serv, 0, 0, ?_, ?_, ?_, ?_⟩ <;>
    first | decide +kernel | exact nextOf_eq (by decide +kernel) | exact Prod.ext (nextOf_eq (by decide +kernel)) (by decide +kernel) | exact Prod.ext rfl (by decide +kernel) | (intro _ h; cases h; done) | (intro _ _ h; cases h; done) | rfl
  · refine ⟨serv, 0, 7, ?_, ?_, ?_, ?_⟩ <;>
    first | decide +kernel | exact nextOf_eq (by decide +kernel) | exact Prod.ext (nextOf_eq (by decide +kernel)) (by decide +kernel) | exact Prod.ext rfl (by decide +kernel) | (intro _ h; cases h; done) | (intro _ _ h; cases h; done) | rfl
  · refine ⟨haltedCore 0 1 0, 0, 0, ?_, ?_, ?_, ?_, (fetchInstr 0 (hst 0)).fst, 267386895, 4, ?_, ?_, ?_, ?_, ?_, ?_, ?_, ?_⟩ <;>
    first | decide +kernel | exact nextOf_eq (by decide +kernel) | exact Prod.ext (nextOf_eq (by decide +kernel)) (by decide +kernel) | exact Prod.ext rfl (by decide +kernel) | (intro _ h; cases h; done) | (intro _ _ h; cases h; done) | rfl
  · refine ⟨haltedCore 0 1 0, 0, 0, ?_, ?_, ?_, ?_⟩ <;>
    first | decide +kernel | exact nextOf_eq (by decide +kernel) | exact Prod.ext (nextOf_eq (by decide +kernel)) (by decide +kernel) | exact Prod.ext rfl (by decide +kernel) | (intro _ h; cases h; done) | (intro _ _ h; cases h; done) | rfl
  · refine ⟨haltedCore 0 1 0, 0, 0, ?_, ?_, 0, true, ?_, ?_, ?_, ?_⟩ <;>
    first | decide +kernel | exact nextOf_eq (by decide +kernel) | exact Prod.ext (nextOf_eq (by decide +kernel)) (by decide +kernel) | exact Prod.ext rfl (by decide +kernel) | (intro _ h; cases h; done) | (intro _ _ h; cases h; done) | rfl
  · refine ⟨haltedCore 0 1 0, 0, 0, ?_, ?_, 0, false, true, ?_, ?_, ?_, ?_, ?_⟩ <;>
    first | decide +kernel | exact nextOf_eq (by decide +kernel) | exact Prod.ext (nextOf_eq (by decide +kernel)) (by decide +kernel) | exact Prod.ext rfl (by decide +kernel) | (intro _ h; cases h; done) | (intro _ _ h; cases h; done) | rfl
  · refine ⟨haltedCore 0 1 0, 0, 0, ?_, ?_, 0, false, false, true, ?_, ?_, ?_, ?_, ?_, ?_, ?_⟩ <;>
    first | decide +kernel | exact nextOf_eq (by decide +kernel) | exact Prod.ext (nextOf_eq (by decide +kernel)) (by decide +kernel) | exact Prod.ext rfl (by decide +kernel) | (intro _ h; cases h; done) | (intro _ _ h; cases h; done) | rfl
  · refine ⟨haltedCore 0 1 0, 0, 0, ?_, ?_, 0, false, false, false, ?_, ?_, ?_, ?_, ?_, ?_⟩ <;>
    first | decide +kernel | exact nextOf_eq (by decide +kernel) | exact Prod.ext (nextOf_eq (by decide +kernel)) (by decide +kernel) | exact Prod.ext rfl (by decide +kernel) | (intro _ h; cases h; done) | (intro _ _ h; cases h; done) | rfl
  · refine ⟨haltedCore 0 1 0, 0, 0, ?_, ?_, 32, false, true, ?_, ?_, ?_, ?_, ?_⟩ <;>
    first | decide +kernel | exact nextOf_eq (by decide +kernel) | exact Prod.ext (nextOf_eq (by decide +kernel)) (by decide +kernel) | exact Prod.ext rfl (by decide +kernel) | (intro _ h; cases h; done) | (intro _ _ h; cases h; done) | rfl
  · refine ⟨haltedCore 0 1 0, 0, 0, ?_, ?_, 32, false, false, false, ?_, ?_, ?_, ?_, ?_, ?_⟩ <;>
    first | decide +kernel | exact nextOf_eq (by decide +kernel) | exact Prod.ext (nextOf_eq (by decide +kernel)) (by decide +kernel) | exact Prod.ext rfl (by decide +kernel) | (intro _ h; cases h; done) | (intro _ _ h; cases h; done) | rfl
  · refine ⟨haltedCore 0 1 0, 0, 0, ?_, ?_, 33, false, ?_, ?_, ?_, ?_⟩ <;>
    first | decide +kernel | exact nextOf_eq (by decide +kernel) | exact Prod.ext (nextOf_eq (by decide +kernel)) (by decide +kernel) | exact Prod.ext rfl (by decide +kernel) | (intro _ h; cases h; done) | (intro _ _ h; cases h; done) | rfl
  · refine ⟨haltedCore 0 1 0, 0, 0, ?_, ?_, 832, true, true, ?_, ?_, ?_, ?_, ?_⟩ <;>
    first | decide +kernel | exact nextOf_eq (by decide +kernel) | exact Prod.ext (nextOf_eq (by decide +kernel)) (by decide +kernel) | exact Prod.ext rfl (by decide +kernel) | (intro _ h; cases h; done) | (intro _ _ h; cases h; done) | rfl
  · refine ⟨haltedCore 0 1 0, 0, 0, ?_, ?_, 832, true, false, false, ?_, ?_, ?_, ?_, ?_, ?_⟩ <;>
    first | decide +kernel | exact nextOf_eq (by decide +kernel) | exact Prod.ext (nextOf_eq (by decide +kernel)) (by decide +kernel) | exact Prod.ext rfl (by decide +kernel) | (intro _ h; cases h; done) | (intro _ _ h; cases h; done) | rfl
  · refine ⟨broken 7, 7, ?_, ?_, 7, ?_, ?_, ?_⟩ <;>
    first | decide +kernel | exact nextOf_eq (by decide +kernel) | exact Prod.ext (nextOf_eq (by decide +kernel)) (by decide +kernel) | exact Prod.ext rfl (by decide +kernel) | (intro _ h; cases h; done) | (intro _ _ h; cases h; done) | rfl

theorem witness_TheDebugPortAnswersAndAccessesTheBus :
    (∃ (s : State), s.ok = true ∧ ∃ (word : BitVec 12), (word.toNat % 16 ≠ crc4 word.toNat ∨ nbit word.toNat 4 = true)) ∧
    (∃ (s : State), s.ok = true ∧ ∃ (word : BitVec 12) (reg : Nat) (seq : Bool), word.toNat = requestWord 0 reg seq ∧ (reg < 4 ∨ reg = 5) ∧ (∀ (v : Nat), s.jdp.lastR ≠ some (seq, reg, v))) ∧
    (∃ (s : State), s.ok = true ∧ ∃ (word : BitVec 12) (data : Word) (crc : Byte) (seq : Bool), word.toNat = requestWord 1 2 seq ∧ s.jdp.lastW ≠ some (seq, 2) ∧ BitVec.toNat crc = crc8 (BitVec.toNat data) ∧ s.jdp.busy = none) ∧
    (∃ (s : State), s.ok = true ∧ ∃ (word : BitVec 12) (data : Word) (crc : Byte) (reg : Nat) (seq : Bool), word.toNat = requestWord 1 reg seq ∧ reg < 6 ∧ s.jdp.lastW ≠ some (seq, reg) ∧ reg = 4 ∧ s.jdp.busy = none ∧ BitVec.toNat crc ≠ crc8 (BitVec.toNat data)) ∧
    (∃ (s : State), s.ok = true ∧ ∃ (word : BitVec 12) (op reg : Nat) (seq : Bool), word.toNat = requestWord op reg seq ∧ op < 4 ∧ reg < 16 ∧ (2 ≤ op ∨ 6 ≤ reg)) ∧
    (∃ (s : State), s.ok = true ∧ ∃ (seq : Bool) (data : Word) (crc : Byte), BitVec.toNat crc = crc8 (BitVec.toNat data) ∧ s.jdp.lastW ≠ some (seq, 1)) ∧
    (∃ (s : State), s.ok = true ∧ ∃ (seq : Bool) (data : Word) (crc : Byte), BitVec.toNat crc = crc8 (BitVec.toNat data) ∧ s.jdp.lastW ≠ some (seq, 4) ∧ s.jdp.busy = none) ∧
    (∃ (s : State), s.ok = true ∧ ∃ (seq : Bool), (∀ (v : Nat), s.jdp.lastR ≠ some (seq, 4, v)) ∧ s.jdp.busy = none ∧ s.jdp.done = none) ∧
    (∃ (s : State), s.ok = true ∧ ∃ (word : BitVec 12) (reg v : Nat) (seq : Bool), word.toNat = requestWord 0 reg seq ∧ reg < 6 ∧ s.jdp.lastR = some (seq, reg, v)) ∧
    (∃ (s : State), s.ok = true ∧ ∃ (word : BitVec 12) (reg : Nat) (seq : Bool), word.toNat = requestWord 1 reg seq ∧ reg < 6 ∧ s.jdp.lastW = some (seq, reg)) ∧
    (∃ (s : State), s.ok = true ∧ ∃ (word : BitVec 12) (data : Word) (crc : Byte) (seq : Bool), word.toNat = requestWord 1 2 seq ∧ s.jdp.lastW ≠ some (seq, 2) ∧ BitVec.toNat crc = crc8 (BitVec.toNat data) ∧ s.jdp.busy ≠ none) ∧
    (∃ (s : State), s.ok = true ∧ ∃ (seq : Bool) (data : Word) (crc : Byte), BitVec.toNat crc = crc8 (BitVec.toNat data) ∧ s.jdp.lastW ≠ some (seq, 4) ∧ s.jdp.busy ≠ none) ∧
    (∃ (s : State), s.ok = true ∧ ∃ (seq : Bool), (∀ (v : Nat), s.jdp.lastR ≠ some (seq, 4, v)) ∧ s.jdp.busy ≠ none) ∧
    (∃ (s : State), s.ok = true ∧ ∃ (seq : Bool), (∀ (v : Nat), s.jdp.lastR ≠ some (seq, 4, v)) ∧ ∃ (v : Nat), s.jdp.busy = none ∧ s.jdp.done = some v) ∧
    (∃ (s : State), s.ok = true ∧ ∃ (write : Bool) (a v : Nat), s.jdp.busy = some (write, a, v) ∧ s.mode ≠ mDORMANT ∧ ∃ (t : State) (r : Nat), write = false ∧ busRead 8 false Acc.read a 4 s = (t, MemR.ok r) ∧ t.jdp = s.jdp) ∧
    (∃ (s : State), s.ok = true ∧ ∃ (write : Bool) (a v : Nat), s.jdp.busy = some (write, a, v) ∧ s.mode ≠ mDORMANT ∧ ∃ (t : State) (i : Nat), write = false ∧ busRead 8 false Acc.read a 4 s = (t, MemR.err i) ∧ t.jdp = s.jdp) ∧
    (∃ (s : State), s.ok = true ∧ ∃ (write : Bool) (a v : Nat), s.jdp.busy = some (write, a, v) ∧ s.mode ≠ mDORMANT ∧ ∃ (t : State) (r : Nat), write = true ∧ busWrite 8 false Acc.write a 4 v s = (Host.Outcome.next t, MemR.ok r) ∧ t.jdp = s.jdp) ∧
    (∃ (s : State), s.ok = true ∧ ∃ (write : Bool) (a v : Nat), s.jdp.busy = some (write, a, v) ∧ s.mode ≠ mDORMANT ∧ ∃ (t : State) (i : Nat), write = true ∧ busWrite 8 false Acc.write a 4 v s = (Host.Outcome.next t, MemR.err i) ∧ t.jdp = s.jdp) := by
  refine ⟨?_, ?_, ?_, ?_, ?_, ?_, ?_, ?_, ?_, ?_, ?_, ?_, ?_, ?_, ?_, ?_, ?_, ?_⟩
  · refine ⟨serv, ?_, 0, ?_⟩ <;>
    first | decide +kernel | exact nextOf_eq (by decide +kernel) | exact Prod.ext (nextOf_eq (by decide +kernel)) (by decide +kernel) | exact Prod.ext rfl (by decide +kernel) | (intro _ h; cases h; done) | (intro _ _ h; cases h; done) | rfl
  · refine ⟨serv, ?_, BitVec.ofNat 12 (requestWord 0 0 false), 0, false, ?_, ?_, ?_⟩ <;>
    first | decide +kernel | exact nextOf_eq (by decide +kernel) | exact Prod.ext (nextOf_eq (by decide +kernel)) (by decide +kernel) | exact Prod.ext rfl (by decide +kernel) | (intro _ h; cases h; done) | (intro _ _ h; cases h; done) | rfl
  · refine ⟨serv, ?_, BitVec.ofNat 12 (requestWord 1 2 true), 0, BitVec.ofNat 8 (crc8 0), true, ?_, ?_, ?_, ?_⟩ <;>
    first | decide +kernel | exact nextOf_eq (by decide +kernel) | exact Prod.ext (nextOf_eq (by decide +kernel)) (by decide +kernel) | exact Prod.ext rfl (by decide +kernel) | (intro _ h; cases h; done) | (intro _ _ h; cases h; done) | rfl
  · refine ⟨serv, ?_, BitVec.ofNat 12 (requestWord 1 4 true), 0, 5, 4, true, ?_, ?_, ?_, ?_, ?_, ?_⟩ <;>
    first | decide +kernel | exact nextOf_eq (by decide +kernel) | exact Prod.ext (nextOf_eq (by decide +kernel)) (by decide +kernel) | exact Prod.ext rfl (by decide +kernel) | (intro _ h; cases h; done) | (intro _ _ h; cases h; done) | rfl
  · refine ⟨serv, ?_, BitVec.ofNat 12 (requestWord 2 1 true), 2, 1, true, ?_, ?_, ?_, ?_⟩ <;>
    first | decide +kernel | exact nextOf_eq (by decide +kernel) | exact Prod.ext (nextOf_eq (by decide +kernel)) (by decide +kernel) | exact Prod.ext rfl (by decide +kernel) | (intro _ h; cases h; done) | (intro _ _ h; cases h; done) | rfl
  · refine ⟨serv, ?_, true, 0, BitVec.ofNat 8 (crc8 0), ?_, ?_⟩ <;>
    first | decide +kernel | exact nextOf_eq (by decide +kernel) | exact Prod.ext (nextOf_eq (by decide +kernel)) (by decide +kernel) | exact Prod.ext rfl (by decide +kernel) | (intro _ h; cases h; done) | (intro _ _ h; cases h; done) | rfl
  · refine ⟨serv, ?_, true, 0, BitVec.ofNat 8 (crc8 0), ?_, ?_, ?_⟩ <;>
    first | decide +kernel | exact nextOf_eq (by decide +kernel) | exact Prod.ext (nextOf_eq (by decide +kernel)) (by decide +kernel) | exact Prod.ext rfl (by decide +kernel) | (intro _ h; cases h; done) | (intro _ _ h; cases h; done) | rfl
  · refine ⟨serv, ?_, true, ?_, ?_, ?_⟩ <;>
    first | decide +kernel | exact nextOf_eq (by decide +kernel) | exact Prod.ext (nextOf_eq (by decide +kernel)) (by decide +kernel) | exact Prod.ext rfl (by decide +kernel) | (intro _ h; cases h; done) | (intro _ _ h; cases h; done) | rfl
  · refine ⟨port none (some (true, 1, 77)) none none, ?_, BitVec.ofNat 12 (requestWord 0 1 true), 1, 77, true, ?_, ?_, ?_⟩ <;>
    first | decide +kernel | exact nextOf_eq (by decide +kernel) | exact Prod.ext (nextOf_eq (by decide +kernel)) (by decide +kernel) | exact Prod.ext rfl (by decide +kernel) | (intro _ h; cases h; done) | (intro _ _ h; cases h; done) | rfl
  · refine ⟨port (some (true, 2)) none none none, ?_, BitVec.ofNat 12 (requestWord 1 2 true), 2, true, ?_, ?_, ?_⟩ <;>
    first | decide +kernel | exact nextOf_eq (by decide +kernel) | exact Prod.ext (nextOf_eq (by decide +kernel)) (by decide +kernel) | exact Prod.ext rfl (by decide +kernel) | (intro _ h; cases h; done) | (intro _ _ h; cases h; done) | rfl
  · refine ⟨port (some (false, 4)) none (some (true, 536875008, 5)) none, ?_, BitVec.ofNat 12 (requestWord 1 2 true), 0, BitVec.ofNat 8 (crc8 0), true, ?_, ?_, ?_, ?_⟩ <;>
    first | decide +kernel | exact nextOf_eq (by decide +kernel) | exact Prod.ext (nextOf_eq (by decide +kernel)) (by decide +kernel) | exact Prod.ext rfl (by decide +kernel) | (intro _ h; cases h; done) | (intro _ _ h; cases h; done) | rfl
  · refine ⟨pa_17c false 536875008, ?_, true, 0, BitVec.ofNat 8 (crc8 0), ?_, ?_, ?_⟩ <;>
    first | decide +kernel | exact nextOf_eq (by decide +kernel) | exact Prod.ext (nextOf_eq (by decide +kernel)) (by decide +kernel) | exact Prod.ext rfl (by decide +kernel) | (intro _ h; cases h; done) | (intro _ _ h; cases h; done) | rfl
  · refine ⟨pa_17c false 536875008, ?_, true, ?_, ?_⟩ <;>
    first | decide +kernel | exact nextOf_eq (by decide +kernel) | exact Prod.ext (nextOf_eq (by decide +kernel)) (by decide +kernel) | exact Prod.ext rfl (by decide +kernel) | (intro _ h; cases h; done) | (intro _ _ h; cases h; done) | rfl
  · refine ⟨port none none none (some 77), ?_, true, ?_, 77, ?_, ?_⟩ <;>
    first | decide +kernel | exact nextOf_eq (by decide +kernel) | exact Prod.ext (nextOf_eq (by decide +kernel)) (by decide +kernel) | exact Prod.ext rfl (by decide +kernel) | (intro _ h; cases h; done) | (intro _ _ h; cases h; done) | rfl
  · refine ⟨pa_17c false 536875008, ?_, false, 536875008, 5, ?_, ?_, (busRead 8 false Acc.read 536875008 4 (pa_17c false 536875008)).fst, 0, ?_, ?_, ?_⟩ <;>
    first | decide +kernel | exact nextOf_eq (by decide +kernel) | exact Prod.ext (nextOf_eq (by decide +kernel)) (by decide +kernel) | exact Prod.ext rfl (by decide +kernel) | (intro _ h; cases h; done) | (intro _ _ h; cases h; done) | rfl
  · refine ⟨pa_17c false 1095216660480, ?_, false, 1095216660480, 5, ?_, ?_, (busRead 8 false Acc.read 1095216660480 4 (pa_17c false 1095216660480)).fst, paErr (busRead 8 false Acc.read 1095216660480 4 (pa_17c false 1095216660480)).snd, ?_, ?_, ?_⟩ <;>
    first | decide +kernel | exact nextOf_eq (by decide +kernel) | exact Prod.ext (nextOf_eq (by decide +kernel)) (by decide +kernel) | exact Prod.ext rfl (by decide +kernel) | (intro _ h; cases h; done) | (intro _ _ h; cases h; done) | rfl
  · refine ⟨pa_17c true 536875008, ?_, true, 536875008, 5, ?_, ?_, nextOf (busWrite 8 false Acc.write 536875008 4 5 (pa_17c true 536875008)).fst, 0, ?_, ?_, ?_⟩ <;>
    first | decide +kernel | exact nextOf_eq (by decide +kernel) | exact Prod.ext (nextOf_eq (by decide +kernel)) (by decide +kernel) | exact Prod.ext rfl (by decide +kernel) | (intro _ h; cases h; done) | (intro _ _ h; cases h; done) | rfl
  · refine ⟨pa_17c true 1095216660480, ?_, true, 1095216660480, 5, ?_, ?_, nextOf (busWrite 8 false Acc.write 1095216660480 4 5 (pa_17c true 1095216660480)).fst, paErr (busRead 8 false Acc.read 1095216660480 4 (pa_17c false 1095216660480)).snd, ?_, ?_, ?_⟩ <;>
    first | decide +kernel | exact nextOf_eq (by decide +kernel) | exact Prod.ext (nextOf_eq (by decide +kernel)) (by decide +kernel) | exact Prod.ext rfl (by decide +kernel) | (intro _ h; cases h; done) | (intro _ _ h; cases h; done) | rfl

theorem witness_RegistersAreWrittenByTheirAccessTypes :
    (∃ (s : State) (m : MasterId), s.ok = true ∧ ∃ (off : BitVec 26) (v : Word), s.mapAllowsAll m.val Acc.write (1073741824 + off.toNat) 4 = true ∧ off.toNat % 4 = 0 ∧ let o := off.toNat; ∃ (b : Nat), blkOf o = some b ∧ s.blkOn b = true ∧ viewOf b o = none ∧ inPmu o = false ∧ hasRws b = true ∧ o = (blk b).base + 4080 ∧ o < 28311552 ∧ BitVec.toNat v % 2 = 1) ∧
    (∃ (s : State) (m : MasterId), s.ok = true ∧ ∃ (off : BitVec 26), s.mapAllowsAll m.val Acc.write (1073741824 + off.toNat) 4 = true ∧ off.toNat % 4 = 0 ∧ let o := off.toNat; 28311552 ≤ o) ∧
    (∃ (s : State) (m : MasterId), s.ok = true ∧ ∃ (off : BitVec 26) (v : Word), s.mapAllowsAll m.val Acc.write (1073741824 + off.toNat) 4 = true ∧ off.toNat % 4 = 0 ∧ let o := off.toNat; ∃ (b : Nat) (r : Reg) (i j k : Nat), blkOf o = some b ∧ s.blkOn b = true ∧ viewOf b o = none ∧ ¬(hasRws b = true ∧ o = (blk b).base + 4080) ∧ regAt o = some (r, i, j, k) ∧ r.at i j k = o ∧ o < 28311552 ∧ badWrite r i v s = none ∧ specialWrite m r i j v s = none ∧ let old := s.reg r i j k; let w := clampSize r v; (s.mode = mBOOT ∨ (old ^^^ w) &&& r.rwb = 0)) ∧
    (∃ (s : State) (m : MasterId), s.ok = true ∧ ∃ (a : Addr) (n : Fin 65), (s.region (BitVec.toNat a) = Region.rom ∨ s.region (BitVec.toNat a) = Region.flash) ∧ s.mapAllowsAll m.val Acc.write (BitVec.toNat a) n.val = true) ∧
    (∃ (s : State) (m : MasterId), s.ok = true ∧ ∃ (a : Addr) (n : Fin 65) (write fetch : Bool), s.region (BitVec.toNat a) = Region.none ∧ let ty : Acc := if write then .write else if fetch then .fetch else .read; s.mapAllowsAll m.val ty (BitVec.toNat a) n.val = true) ∧
    (∃ (s : State) (m : MasterId), s.ok = true ∧ ∃ (ty : Machine.Acc) (a n : Nat), inRegs a = true ∧ a < 1102053376 ∧ s.mapAllowsAll m.val ty a n = true ∧ (n ≠ 4 ∨ a % 4 ≠ 0)) ∧
    (∃ (s : State) (m : MasterId), s.ok = true ∧ ∃ (off : BitVec 26), s.mapAllowsAll m.val Acc.write (1073741824 + off.toNat) 4 = false) ∧
    (∃ (s : State) (m : MasterId), s.ok = true ∧ ∃ (a : Addr) (n : Fin 65), (s.region (BitVec.toNat a) = Region.rom ∨ s.region (BitVec.toNat a) = Region.flash) ∧ s.mapAllowsAll m.val Acc.write (BitVec.toNat a) n.val = false) ∧
    (∃ (s : State) (m : MasterId), s.ok = true ∧ ∃ (a : Addr) (n : Fin 65) (write fetch : Bool), s.region (BitVec.toNat a) = Region.none ∧ let ty : Acc := if write then .write else if fetch then .fetch else .read; s.mapAllowsAll m.val ty (BitVec.toNat a) n.val = false) ∧
    (∃ (s : State) (m : MasterId), s.ok = true ∧ ∃ (off : BitVec 26) (v : Word), s.mapAllowsAll m.val Acc.write (1073741824 + off.toNat) 4 = true ∧ off.toNat % 4 = 0 ∧ let o := off.toNat; ∃ (b : Nat) (r : Reg) (i j k : Nat), blkOf o = some b ∧ s.blkOn b = true ∧ viewOf b o = none ∧ ¬(hasRws b = true ∧ o = (blk b).base + 4080) ∧ regAt o = some (r, i, j, k) ∧ r.at i j k = o ∧ o < 28311552 ∧ badWrite r i v s = none ∧ specialWrite m r i j v s = none ∧ let old := s.reg r i j k; let w := clampSize r v; s.mode ≠ mBOOT ∧ (old ^^^ w) &&& r.rwb ≠ 0) ∧
    (∃ (s : State) (m : MasterId), s.ok = true ∧ ∃ (off : BitVec 26), s.mapAllowsAll m.val Acc.write (1073741824 + off.toNat) 4 = true ∧ off.toNat % 4 = 0 ∧ let o := off.toNat; ∃ (b : Nat), blkOf o = some b ∧ s.blkOn b = false ∧ o < 28311552) := by
  refine ⟨?_, ?_, ?_, ?_, ?_, ?_, ?_, ?_, ?_, ?_, ?_⟩
  · refine ⟨boot, 0, ?_, BitVec.ofNat 26 ((blk 0).base + 4080), 17, ?_, ?_, 0, ?_, ?_, ?_, ?_, ?_, ?_, ?_, ?_⟩ <;>
    first | decide +kernel | exact nextOf_eq (by decide +kernel) | exact Prod.ext (nextOf_eq (by decide +kernel)) (by decide +kernel) | exact Prod.ext rfl (by decide +kernel) | (intro _ h; cases h; done) | (intro _ _ h; cases h; done) | rfl
  · refine ⟨boot, 0, ?_, 28311552#26, ?_, ?_, ?_⟩ <;>
    first | decide +kernel | exact nextOf_eq (by decide +kernel) | exact Prod.ext (nextOf_eq (by decide +kernel)) (by decide +kernel) | exact Prod.ext rfl (by decide +kernel) | (intro _ h; cases h; done) | (intro _ _ h; cases h; done) | rfl
  · refine ⟨serv, 0, ?_, BitVec.ofNat 26 CFL_CTL.off, 0, ?_, ?_, 48, (fun (x : Reg × Nat × Nat × Nat) => x.fst) ((fun (x : Nat × Nat × Nat) => (CFL_CTL, x.fst, x.snd.fst, x.snd.snd)) (if CFL_CTL.s1 = 0 then 0 else (CFL_CTL.off - CFL_CTL.off) / CFL_CTL.s1, if CFL_CTL.s2 = 0 then 0 else (CFL_CTL.off - CFL_CTL.off - (if CFL_CTL.s1 = 0 then 0 else (CFL_CTL.off - CFL_CTL.off) / CFL_CTL.s1) * CFL_CTL.s1) / CFL_CTL.s2, if CFL_CTL.s3 = 0 then 0 else (CFL_CTL.off - CFL_CTL.off - (if CFL_CTL.s1 = 0 then 0 else (CFL_CTL.off - CFL_CTL.off) / CFL_CTL.s1) * CFL_CTL.s1 - (if CFL_CTL.s2 = 0 then 0 else (CFL_CTL.off - CFL_CTL.off - (if CFL_CTL.s1 = 0 then 0 else (CFL_CTL.off - CFL_CTL.off) / CFL_CTL.s1) * CFL_CTL.s1) / CFL_CTL.s2) * CFL_CTL.s2) / CFL_CTL.s3)), 0, 0, 0, ?_, ?_, ?_, ?_, ?_, ?_, ?_, ?_, ?_, ?_⟩ <;>
    first | decide +kernel | exact nextOf_eq (by decide +kernel) | exact Prod.ext (nextOf_eq (by decide +kernel)) (by decide +kernel) | exact Prod.ext rfl (by decide +kernel) | (intro _ h; cases h; done) | (intro _ _ h; cases h; done) | rfl
  · refine ⟨boot, 0, ?_, 0, 4, ?_, ?_⟩ <;>
    first | decide +kernel | exact nextOf_eq (by decide +kernel) | exact Prod.ext (nextOf_eq (by decide +kernel)) (by decide +kernel) | exact Prod.ext rfl (by decide +kernel) | (intro _ h; cases h; done) | (intro _ _ h; cases h; done) | rfl
  · refine ⟨boot, 0, ?_, 1095216660480, 4, true, true, ?_, ?_⟩ <;>
    first | decide +kernel | exact nextOf_eq (by decide +kernel) | exact Prod.ext (nextOf_eq (by decide +kernel)) (by decide +kernel) | exact Prod.ext rfl (by decide +kernel) | (intro _ h; cases h; done) | (intro _ _ h; cases h; done) | rfl
  · refine ⟨boot, 0, ?_, Acc.read, 1073741824, 0, ?_, ?_, ?_, ?_⟩ <;>
    first | decide +kernel | exact nextOf_eq (by decide +kernel) | exact Prod.ext (nextOf_eq (by decide +kernel)) (by decide +kernel) | exact Prod.ext rfl (by decide +kernel) | (intro _ h; cases h; done) | (intro _ _ h; cases h; done) | rfl
  · refine ⟨boot, 8, ?_, BitVec.ofNat 26 CKP_CTL.off, ?_⟩ <;>
    first | decide +kernel | exact nextOf_eq (by decide +kernel) | exact Prod.ext (nextOf_eq (by decide +kernel)) (by decide +kernel) | exact Prod.ext rfl (by decide +kernel) | (intro _ h; cases h; done) | (intro _ _ h; cases h; done) | rfl
  · refine ⟨boot, 8, ?_, 0, 4, ?_, ?_⟩ <;>
    first | decide +kernel | exact nextOf_eq (by decide +kernel) | exact Prod.ext (nextOf_eq (by decide +kernel)) (by decide +kernel) | exact Prod.ext rfl (by decide +kernel) | (intro _ h; cases h; done) | (intro _ _ h; cases h; done) | rfl
  · refine ⟨boot, 8, ?_, 1095216660480, 4, true, true, ?_, ?_⟩ <;>
    first | decide +kernel | exact nextOf_eq (by decide +kernel) | exact Prod.ext (nextOf_eq (by decide +kernel)) (by decide +kernel) | exact Prod.ext rfl (by decide +kernel) | (intro _ h; cases h; done) | (intro _ _ h; cases h; done) | rfl
  · refine ⟨serv, 0, ?_, BitVec.ofNat 26 CFL_CTL.off, 17, ?_, ?_, 48, (fun (x : Reg × Nat × Nat × Nat) => x.fst) ((fun (x : Nat × Nat × Nat) => (CFL_CTL, x.fst, x.snd.fst, x.snd.snd)) (if CFL_CTL.s1 = 0 then 0 else (CFL_CTL.off - CFL_CTL.off) / CFL_CTL.s1, if CFL_CTL.s2 = 0 then 0 else (CFL_CTL.off - CFL_CTL.off - (if CFL_CTL.s1 = 0 then 0 else (CFL_CTL.off - CFL_CTL.off) / CFL_CTL.s1) * CFL_CTL.s1) / CFL_CTL.s2, if CFL_CTL.s3 = 0 then 0 else (CFL_CTL.off - CFL_CTL.off - (if CFL_CTL.s1 = 0 then 0 else (CFL_CTL.off - CFL_CTL.off) / CFL_CTL.s1) * CFL_CTL.s1 - (if CFL_CTL.s2 = 0 then 0 else (CFL_CTL.off - CFL_CTL.off - (if CFL_CTL.s1 = 0 then 0 else (CFL_CTL.off - CFL_CTL.off) / CFL_CTL.s1) * CFL_CTL.s1) / CFL_CTL.s2) * CFL_CTL.s2) / CFL_CTL.s3)), 0, 0, 0, ?_, ?_, ?_, ?_, ?_, ?_, ?_, ?_, ?_, ?_, ?_⟩ <;>
    first | decide +kernel | exact nextOf_eq (by decide +kernel) | exact Prod.ext (nextOf_eq (by decide +kernel)) (by decide +kernel) | exact Prod.ext rfl (by decide +kernel) | (intro _ h; cases h; done) | (intro _ _ h; cases h; done) | rfl
  · refine ⟨serv.setFld PWR_DOMSTAT_ON 1, 0, ?_, BitVec.ofNat 26 CFL_CTL.off, ?_, ?_, 48, ?_, ?_, ?_⟩ <;>
    first | decide +kernel | exact nextOf_eq (by decide +kernel) | exact Prod.ext (nextOf_eq (by decide +kernel)) (by decide +kernel) | exact Prod.ext rfl (by decide +kernel) | (intro _ h; cases h; done) | (intro _ _ h; cases h; done) | rfl

end Sys2Proof.Tests
end

/-! PROOFS. O60: the rule by which a plain write of a register is carried out, and where the statement parts from it. -/

namespace Sys2Proof.Machine

/-- The control bus takes an allowed write of an aligned word of register space to the register write at that offset (R10, R17, R18). -/
theorem exec_registerWrite_of_allowed (s : State) (m : MasterId) (off : BitVec 26) (v : Word)
    (hmap : s.mapAllowsAll m .write (0x40000000 + off.toNat) 4 = true) (halign : off.toNat % 4 = 0) (hoff : off.toNat < 0x1B00000) :
    exec (.registerWrite m off v) s = (regWrite m false off.toNat v s).1 := by
  have hin : inRegs (0x40000000 + off.toNat) = true := by
    simp only [inRegs, Bool.and_eq_true, decide_eq_true_eq]
    omega
  have hspace : ¬ 0x41B00000 ≤ 0x40000000 + off.toNat := by omega
  have hword : (0x40000000 + off.toNat) % 4 = 0 := by omega
  have hexec : exec (.registerWrite m off v) s = (busWrite m false .write (0x40000000 + off.toNat) 4 v.toNat s).1 := rfl
  rw [hexec, busWrite]
  simp [hin, hmap, hspace, hword]

/-- A write of a register word enters an undefined case by the value that the register takes, so by the written value with its ring SIZE brought
into range (R6, R450). -/
theorem regWrite_undefined_of_clamped {s : State} {m : MasterId} {user : Bool} {off b i j k : Nat} {v : Word} {r : Reg} {w : String}
    (hblk : blkOf off = some b) (hpmu : (inPmu off && user) = false) (hon : s.blkOn b = true) (hview : viewOf b off = none)
    (hcommit : ¬ (hasRws b = true ∧ off = (blk b).base + 0xFF0)) (hreg : regAt off = some (r, i, j, k))
    (hbad : badWrite r i (clampSize r v) s = some w) : regWrite m user off v s = (.fault (.undefinedCase w), .ok 0) := by
  simp [regWrite, hblk, hpmu, hon, hview, hcommit, hreg, hbad]

/-- A device in SERVICE with a firmware entry outstanding, whose firmware ring holds SIZE 0.  R450 gives that SIZE the range 4 to 12. -/
def fwRingOutOfRange : State :=
  { (((State.reset.setFld PWR_MODE_CUR mSERVICE).setFld PWR_DOMSTAT_ON 0xFF).setFld HPT_FWRING_HI_SIZE 0) with hpt.fw := [(0, { cmd := 0 })] }

/-- Writing HPT_FWRING_HI back as it stands would raise SIZE to 4, so it changes the ring under an outstanding entry. -/
theorem fwRingOutOfRange_write_faults :
    exec (.registerWrite 0 0x80001C 0) fwRingOutOfRange =
      .fault (.undefinedCase "HPT_FWRING changed while firmware entries are outstanding") := by
  rw [exec_registerWrite_of_allowed _ _ _ _ (by decide) (by decide) (by decide),
    regWrite_undefined_of_clamped (b := 38) (r := HPT_FWRING_HI) (i := 0) (j := 0) (k := 0)
      (w := "HPT_FWRING changed while firmware entries are outstanding") (by decide) (by decide) (by decide) (by decide) (by decide) (by decide) (by decide)]

/-- Refutes O60: the first clause asks badWrite of the value as written, where the model asks it of the value with its ring SIZE in range (R450).
The two part where a ring register holds a SIZE out of its range, which no plain write leaves but State.ok allows: writing HPT_FWRING_HI back as it stands is then no
undefined case by the clause, but the bus finds a change of the ring while a firmware entry is outstanding, and the step faults. -/
theorem not_registersAreWrittenByTheirAccessTypes : ¬ Obligations.RegistersAreWrittenByTheirAccessTypes := by
  unfold Obligations.RegistersAreWrittenByTheirAccessTypes
  intro h
  obtain ⟨hallowed, -⟩ := h fwRingOutOfRange 0 (by decide)
  obtain ⟨hplain, -⟩ := hallowed 0x80001C 0 (by decide) (by decide)
  obtain ⟨hgives, -⟩ := hplain 38 HPT_FWRING_HI 0 0 0 (by decide) (by decide) (by decide) (by decide) (by decide) (by decide) (by decide)
    (by decide) (by decide)
  obtain ⟨t, ht, -⟩ := hgives (.inr (by decide))
  rw [fwRingOutOfRange_write_faults] at ht
  cases ht

end Sys2Proof.Machine

/-! PROOFS. O57: the performance monitor.  Its commands through the access map, the two folds of CLEAR, a reported overflow as a sample and then an event,
and the privilege check of the PMU window. -/

namespace Sys2Proof.Machine

/-! ### Single fields in a state in canonical order -/

theorem State.regs_sorted_of_ok {s : State} (hs : s.ok = true) : sortedFrom none s.regs = true := by
  simp only [State.ok, Bool.and_eq_true] at hs
  exact hs.1.1.2

theorem State.ok_setFld {s : State} (hs : s.ok = true) (f : Fld) (v i j k : Nat) : (s.setFld f v i j k).ok = true := by
  simp only [State.ok, Bool.and_eq_true] at hs ⊢
  exact ⟨⟨⟨hs.1.1.1, State.setFld_sorted s hs.1.1.2 f v i j k⟩, hs.1.2⟩, hs.2⟩

/-- A one-bit field that is set to 1 is set. -/
theorem State.flag_setFld_one {s : State} (hs : s.ok = true) (f : Fld) (hf : f.ok = true) (hw : f.width = 1) (i j k : Nat) :
    (s.setFld f 1 i j k).flag f i j k = true := by
  simp [State.flag, State.fld_setFld_same s (State.regs_sorted_of_ok hs) f hf, hw]

/-- A field that is set to 0 is clear. -/
theorem State.flag_setFld_zero {s : State} (hs : s.ok = true) (f : Fld) (hf : f.ok = true) (i j k : Nat) :
    (s.setFld f 0 i j k).flag f i j k = false := by
  simp [State.flag, State.fld_setFld_same s (State.regs_sorted_of_ok hs) f hf]

theorem State.regsOnly_setFld (s : State) (f : Fld) (v i j k : Nat) : s.RegsOnly (s.setFld f v i j k) [f.reg.at i j k] :=
  ⟨rfl, fun off hoff => State.setReg_find s f.reg _ i j k off (by simpa using hoff)⟩

/-- A field that reads 0 at an index still reads 0 there after any index of it is set to 0. -/
theorem State.fld_setFld_zero_keeps_zero {s : State} (hs : sortedFrom none s.regs = true) (f : Fld) (hf : f.ok = true) {i : Nat} (h : s.fld f i = 0)
    (j : Nat) : (s.setFld f 0 j).fld f i = 0 := by
  by_cases hat : f.reg.at i 0 0 = f.reg.at j 0 0
  · have hset : s.setFld f 0 j = s.setFld f 0 i := by simp only [State.setFld, State.setReg, State.reg, hat]
    rw [hset, State.fld_setFld_same s hs f hf, Nat.zero_mod]
  · rw [State.fld_setFld_ne s f f 0 j 0 0 i 0 0 hat, h]

/-! ### Commands of PMU_GCMD (R417) -/

/-- A register command by a master that the map allows acts. -/
theorem regCmd_of_mayWrite {s : State} {m : Nat} {r : Reg} {i : Nat} (h : s.MayWrite m r i) (f : State → State) : regCmd m r i f s = f s := if_pos h

/-- What each step of a fold over 0, …, n - 1 establishes for its own number, and every step keeps, holds for all numbers after the fold. -/
theorem foldl_range_forall {I : State → Prop} {P : Nat → State → Prop} {f : State → Nat → State} (hI : ∀ t j, I t → I (f t j))
    (hset : ∀ t i, I t → P i (f t i)) (hkeep : ∀ t i j, I t → P i t → P i (f t j)) (n : Nat) {s : State} (hs : I s) :
    I ((List.range n).foldl f s) ∧ ∀ i, i < n → P i ((List.range n).foldl f s) := by
  induction n with
  | zero => exact ⟨hs, fun i hi => absurd hi (Nat.not_lt_zero i)⟩
  | succ n ih =>
    obtain ⟨hfold, hall⟩ := ih
    rw [List.range_succ, List.foldl_append]
    refine ⟨hI _ _ hfold, fun i hi => ?_⟩
    rcases Nat.lt_succ_iff_lt_or_eq.mp hi with hlt | rfl
    · exact hkeep _ _ _ hfold (hall i hlt)
    · exact hset _ _ hfold

/-- The high word of a counter is the low word of none. -/
theorem cntHi_ne_cntLo (i j : Nat) : PMU_CNT_HI.at i 0 0 ≠ PMU_CNT_LO.at j 0 0 := by
  simp only [Reg.at, PMU_CNT_HI, PMU_CNT_LO]
  omega

/-- Setting counter j to 0 leaves its own words 0, and those of any counter that were 0. -/
theorem zeroCounter_words {t : State} (ht : t.ok = true) (i j : Nat) (h : i = j ∨ (t.fld PMU_CNT_LO_COUNT i = 0 ∧ t.fld PMU_CNT_HI_COUNT i = 0)) :
    (t.setPair PMU_CNT_LO_COUNT PMU_CNT_HI_COUNT 0 j).fld PMU_CNT_LO_COUNT i = 0
      ∧ (t.setPair PMU_CNT_LO_COUNT PMU_CNT_HI_COUNT 0 j).fld PMU_CNT_HI_COUNT i = 0 := by
  have hregs := State.regs_sorted_of_ok ht
  have hregs' := State.regs_sorted_of_ok (State.ok_setFld ht PMU_CNT_LO_COUNT 0 j 0 0)
  have hlo : (t.setPair PMU_CNT_LO_COUNT PMU_CNT_HI_COUNT 0 j).fld PMU_CNT_LO_COUNT i = (t.setFld PMU_CNT_LO_COUNT 0 j).fld PMU_CNT_LO_COUNT i :=
    State.fld_setFld_ne _ _ _ _ _ _ _ _ _ _ (cntHi_ne_cntLo j i).symm
  rw [hlo, State.setPair, Nat.zero_div, Nat.zero_mod]
  rcases h with rfl | ⟨hl, hh⟩
  · exact ⟨State.fld_setFld_same t hregs _ (by decide) _ _ _ _, State.fld_setFld_same _ hregs' _ (by decide) _ _ _ _⟩
  · refine ⟨State.fld_setFld_zero_keeps_zero hregs _ (by decide) hl j, State.fld_setFld_zero_keeps_zero hregs' _ (by decide) ?_ j⟩
    rw [State.fld_setFld_ne t _ _ _ _ _ _ _ _ _ (cntHi_ne_cntLo i j), hh]

/-- The first fold of CLEAR sets every counter to 0. -/
theorem zeroCounters_words {s : State} (hs : s.ok = true) :
    let t := (List.range 256).foldl (fun t i => t.setPair PMU_CNT_LO_COUNT PMU_CNT_HI_COUNT 0 i) s
    t.ok = true ∧ ∀ i, i < 256 → t.fld PMU_CNT_LO_COUNT i = 0 ∧ t.fld PMU_CNT_HI_COUNT i = 0 :=
  foldl_range_forall (I := fun t => t.ok = true) (P := fun i t => t.fld PMU_CNT_LO_COUNT i = 0 ∧ t.fld PMU_CNT_HI_COUNT i = 0)
    (fun _ _ ht => State.ok_setFld (State.ok_setFld ht _ _ _ _ _) _ _ _ _ _)
    (fun _ i ht => zeroCounter_words ht i i (.inl rfl)) (fun _ i j ht h => zeroCounter_words ht i j (.inr h)) 256 hs

/-- The second fold of CLEAR sets every word of PMU_OVF to 0. -/
theorem zeroOverflows_words {s : State} (hs : s.ok = true) (w : Nat) (hw : w < 8) :
    ((List.range 8).foldl (fun t w => t.setFld PMU_OVF_OVF 0 w) s).fld PMU_OVF_OVF w = 0 :=
  (foldl_range_forall (I := fun t => t.ok = true) (P := fun w t => t.fld PMU_OVF_OVF w = 0)
    (fun _ _ ht => State.ok_setFld ht _ _ _ _ _)
    (fun _ _ ht => State.fld_setFld_same _ (State.regs_sorted_of_ok ht) _ (by decide) _ _ _ _)
    (fun _ _ j ht h => State.fld_setFld_zero_keeps_zero (State.regs_sorted_of_ok ht) _ (by decide) h j) 8 hs).2 w hw

/-- The second fold of CLEAR leaves every field outside PMU_OVF. -/
theorem zeroOverflows_fld (s : State) (g : Fld) (i : Nat) (hg : ∀ w, w < 8 → g.reg.at i 0 0 ≠ PMU_OVF.at w 0 0) :
    ((List.range 8).foldl (fun t w => t.setFld PMU_OVF_OVF 0 w) s).fld g i = s.fld g i :=
  List.foldlRecOn (motive := fun t : State => t.fld g i = s.fld g i) (List.range 8) _ rfl fun t ht w hw =>
    (State.fld_setFld_ne t _ _ _ _ _ _ _ _ _ (hg w (List.mem_range.mp hw))).trans ht

/-- The words of the counters lie above PMU_OVF. -/
theorem cnt_ne_ovf (r : Reg) (hr : r = PMU_CNT_LO ∨ r = PMU_CNT_HI) (i w : Nat) (hw : w < 8) : r.at i 0 0 ≠ PMU_OVF.at w 0 0 := by
  rcases hr with rfl | rfl <;>
  · simp only [Reg.at, PMU_CNT_LO, PMU_CNT_HI, PMU_OVF]
    omega

theorem pmuClear_count {s : State} (hs : s.ok = true) (i : Nat) (hi : i < 256) : (pmuClear s).pair PMU_CNT_LO_COUNT PMU_CNT_HI_COUNT i = 0 := by
  obtain ⟨hlo, hhi⟩ := (zeroCounters_words hs).2 i hi
  rw [State.pair, pmuClear, zeroOverflows_fld _ PMU_CNT_LO_COUNT i (cnt_ne_ovf _ (.inl rfl) i), zeroOverflows_fld _ PMU_CNT_HI_COUNT i (cnt_ne_ovf _ (.inr rfl) i),
    hlo, hhi, Nat.mul_zero]

theorem pmuClear_ovf {s : State} (hs : s.ok = true) (w : Nat) (hw : w < 8) : (pmuClear s).fld PMU_OVF_OVF w = 0 :=
  zeroOverflows_words (zeroCounters_words hs).1 w hw

/-- A fold of steps that change registers only changes registers only. -/
theorem foldl_regs_frame {f : State → Nat → State} (hf : ∀ t j, f t j = { t with regs := (f t j).regs }) (l : List Nat) (s : State) :
    l.foldl f s = { s with regs := (l.foldl f s).regs } :=
  List.foldlRecOn (motive := fun t : State => t = { s with regs := t.regs }) l f rfl fun t ht j _ => by rw [hf, ht]

/-- CLEAR changes registers only. -/
theorem pmuClear_frame (s : State) : pmuClear s = { s with regs := (pmuClear s).regs } := by
  unfold pmuClear
  rw [foldl_regs_frame (fun _ _ => rfl) (List.range 8), foldl_regs_frame (fun _ _ => rfl) (List.range 256)]

/-! ### The snapshot engine (R417) -/

theorem exec_snapshotDone_of_written {s s1 : State} {v : Nat} (hbusy : s.flag PMU_STAT_SNAPBUSY = true) (hw : snapWrite s = (s1, .ok v)) :
    exec .snapshotDone s = .next (raise EV_PMU_SNAP 0 { s1.setFld PMU_STAT_SNAPBUSY 0 with pmu.snap := 0 }) := by
  have hexec : exec .snapshotDone s = execSnapshotDone s := rfl
  simp [hexec, execSnapshotDone, hbusy, hw]

theorem exec_snapshotDone_of_failed {s s1 : State} {i : Nat} (hbusy : s.flag PMU_STAT_SNAPBUSY = true) (hw : snapWrite s = (s1, .err i)) :
    exec .snapshotDone s = .next { (s1.setFld PMU_STAT_SNAPBUSY 0).setFld PMU_STAT_SNAPREF 1 with pmu.snap := 0 } := by
  have hexec : exec .snapshotDone s = execSnapshotDone s := rfl
  simp [hexec, execSnapshotDone, hbusy, hw]

theorem exec_snapshotDone_of_waiting {s s1 : State} (hbusy : s.flag PMU_STAT_SNAPBUSY = true) (hw : snapWrite s = (s1, .wait)) :
    exec .snapshotDone s = .next s := by
  have hexec : exec .snapshotDone s = execSnapshotDone s := rfl
  simp [hexec, execSnapshotDone, hbusy, hw]

theorem exec_snapshotDone_of_idle {s : State} (hidle : s.flag PMU_STAT_SNAPBUSY = false) : exec .snapshotDone s = .next s := by
  have hexec : exec .snapshotDone s = execSnapshotDone s := rfl
  simp [hexec, execSnapshotDone, hidle]

/-- A failed snapshot leaves PMU_STAT with SNAPBUSY 0 and SNAPREF 1. -/
theorem snapFailed_flags {s : State} (hs : s.ok = true) :
    ((s.setFld PMU_STAT_SNAPBUSY 0).setFld PMU_STAT_SNAPREF 1).flag PMU_STAT_SNAPBUSY = false
      ∧ ((s.setFld PMU_STAT_SNAPBUSY 0).setFld PMU_STAT_SNAPREF 1).flag PMU_STAT_SNAPREF = true := by
  have hidle := State.ok_setFld hs PMU_STAT_SNAPBUSY 0 0 0 0
  refine ⟨?_, State.flag_setFld_one hidle _ (by decide) rfl _ _ _⟩
  rw [State.flag, State.fld_setFld_apart _ (State.regs_sorted_of_ok hidle) PMU_STAT_SNAPREF PMU_STAT_SNAPBUSY rfl (by decide) (by decide)]
  exact State.flag_setFld_zero hs _ (by decide) _ _ _

/-! ### A reported overflow (R416, R417, R420) -/

/-- The PC that a sample records, where pc is that of an instruction about to retire: a core that halts or waits gives its own. -/
def State.samplePc (s : State) (pc : Addr) : Nat :=
  let n := s.fld PMU_SAMPLE_CORE
  if s.coreRuns n && !(s.core n).wfi then pc.toNat else (s.core n).pc.toNat % 2 ^ 40

theorem State.samplePc_lt (s : State) (pc : Addr) : s.samplePc pc < 2 ^ 40 := by
  unfold State.samplePc
  dsimp only
  split
  · exact pc.isLt
  · exact Nat.mod_lt _ (by decide)

/-- The state once the overflow of counter i is taken off the list and sampled where the counter asks for it. -/
def State.afterSample (s : State) (i : Nat) (pc : Addr) : State :=
  let t := { s with pmu.due := s.pmu.due.erase i }
  if s.flag PMU_SEL_SAMPLE i then pmuSample (s.samplePc pc) t else t

/-- The event of an overflow of counter i, and the freeze that follows it. -/
def overflowEvent (i : Nat) (s : State) : State :=
  if s.flag PMU_SEL_OVFEV i then
    let t := raise EV_PMU_OVF i s
    if t.flag PMU_GCTL_FRZOVF then pmuFreeze t else t
  else s

/-- COUNTER_OVERFLOW of an overflow that is due: the sample, then the event. -/
theorem exec_counterOverflow_of_due {s : State} {i : Fin 256} (hdue : i.val ∈ s.pmu.due) (pc : Addr) :
    exec (.counterOverflow i pc) s = .next (overflowEvent i (s.afterSample i pc)) := by
  have hexec : exec (.counterOverflow i pc) s = execCounterOverflow i pc s := rfl
  have hany : s.pmu.due.contains i.val = true := by simpa using hdue
  rw [hexec, execCounterOverflow, hany, overflowEvent]
  exact (apply_ite Host.Outcome.next _ _ _).symm

theorem exec_counterOverflow_of_not_due {s : State} {i : Fin 256} (hdue : i.val ∉ s.pmu.due) (pc : Addr) :
    exec (.counterOverflow i pc) s = .next s := by
  have hexec : exec (.counterOverflow i pc) s = execCounterOverflow i pc s := rfl
  simp [hexec, execCounterOverflow, hdue]

theorem State.Reported.flag {s t : State} (h : s.Reported t) (f : Fld) (i j k : Nat) (hr : reportReg (f.reg.at i j k) = false) :
    t.flag f i j k = s.flag f i j k := by
  rw [State.flag, State.flag, h.fld f i j k hr]

theorem raise_ok {s : State} (hs : s.ok = true) (src payload : Nat) : (raise src payload s).ok = true := (raise_reported src payload s).2.2 hs

/-- The words that a sample writes: PMU_STAT and PMU_SPC. -/
def sampleWords : List Nat := [PMU_STAT.at 0 0 0, PMU_SPC_LO.at 0 0 0, PMU_SPC_HI.at 0 0 0]

/-- A sample before its event is raised. -/
def sampled (pc : Nat) (s : State) : State :=
  let t := if s.flag PMU_SPC_HI_VALID then s.setFld PMU_STAT_SAMPLEOVF 1 else s
  ((t.setFld PMU_SPC_LO_PC pc).setFld PMU_SPC_HI_PC (pc / 2 ^ 32)).setFld PMU_SPC_HI_VALID 1

theorem pmuSample_eq (pc : Nat) (s : State) : pmuSample pc s = raise EV_PMU_SAMPLE 0 (sampled pc s) := rfl

theorem markLost_ok {s : State} (hs : s.ok = true) : (if s.flag PMU_SPC_HI_VALID then s.setFld PMU_STAT_SAMPLEOVF 1 else s).ok = true := by
  split
  · exact State.ok_setFld hs _ _ _ _ _
  · exact hs

theorem sampled_ok {s : State} (hs : s.ok = true) (pc : Nat) : (sampled pc s).ok = true :=
  State.ok_setFld (State.ok_setFld (State.ok_setFld (markLost_ok hs) _ _ _ _ _) _ _ _ _ _) _ _ _ _ _

/-- A sample leaves every field outside the words that it writes and those of reports. -/
theorem pmuSample_fld (pc : Nat) (s : State) (g : Fld) (i : Nat) (hr : reportReg (g.reg.at i 0 0) = false) (hg : g.reg.at i 0 0 ∉ sampleWords) :
    (pmuSample pc s).fld g i = s.fld g i := by
  simp only [sampleWords, List.mem_cons, List.not_mem_nil, or_false, not_or] at hg
  obtain ⟨hstat, hlo, hhi⟩ := hg
  rw [pmuSample_eq, (raise_reported _ _ _).fld g i 0 0 hr, sampled, State.fld_setFld_ne _ _ _ _ _ _ _ _ _ _ hhi, State.fld_setFld_ne _ _ _ _ _ _ _ _ _ _ hhi,
    State.fld_setFld_ne _ _ _ _ _ _ _ _ _ _ hlo]
  split
  · exact State.fld_setFld_ne _ _ _ _ _ _ _ _ _ _ hstat
  · rfl

/-- A sample records its PC, of at most 40 bits, as valid, and marks that it replaced one that was valid. -/
theorem pmuSample_records {s : State} (hs : s.ok = true) (pc : Nat) (hpc : pc < 2 ^ 40) :
    (pmuSample pc s).fld PMU_SPC_LO_PC = pc % 2 ^ 32 ∧ (pmuSample pc s).fld PMU_SPC_HI_PC = pc / 2 ^ 32 ∧ (pmuSample pc s).flag PMU_SPC_HI_VALID = true
      ∧ (s.flag PMU_SPC_HI_VALID = true → (pmuSample pc s).flag PMU_STAT_SAMPLEOVF = true) := by
  have hrep := raise_reported EV_PMU_SAMPLE 0 (sampled pc s)
  rw [pmuSample_eq, hrep.fld PMU_SPC_LO_PC 0 0 0 (by decide), hrep.fld PMU_SPC_HI_PC 0 0 0 (by decide), hrep.flag PMU_SPC_HI_VALID 0 0 0 (by decide),
    hrep.flag PMU_STAT_SAMPLEOVF 0 0 0 (by decide)]
  have hmark := markLost_ok hs
  have hlo := State.ok_setFld hmark PMU_SPC_LO_PC pc 0 0 0
  have hhi := State.ok_setFld hlo PMU_SPC_HI_PC (pc / 2 ^ 32) 0 0 0
  refine ⟨?_, ?_, State.flag_setFld_one hhi _ (by decide) rfl _ _ _, fun hvalid => ?_⟩
  · rw [sampled, State.fld_setFld_ne _ _ _ _ _ _ _ _ _ _ (by decide), State.fld_setFld_ne _ _ _ _ _ _ _ _ _ _ (by decide),
      State.fld_setFld_same _ (State.regs_sorted_of_ok hmark) _ (by decide)]
    rfl
  · rw [sampled, State.fld_setFld_apart _ (State.regs_sorted_of_ok hhi) PMU_SPC_HI_VALID PMU_SPC_HI_PC rfl (by decide) (by decide),
      State.fld_setFld_same _ (State.regs_sorted_of_ok hlo) _ (by decide)]
    exact Nat.mod_eq_of_lt (show pc / 2 ^ 32 < 2 ^ 8 by omega)
  · rw [sampled, if_pos hvalid, State.flag, State.fld_setFld_ne _ _ _ _ _ _ _ _ _ _ (by decide), State.fld_setFld_ne _ _ _ _ _ _ _ _ _ _ (by decide),
      State.fld_setFld_ne _ _ _ _ _ _ _ _ _ _ (by decide)]
    exact State.flag_setFld_one hs _ (by decide) rfl _ _ _

theorem State.afterSample_ok {s : State} (hs : s.ok = true) (i : Nat) (pc : Addr) : (s.afterSample i pc).ok = true := by
  unfold State.afterSample
  split
  · exact raise_ok (sampled_ok (s := { s with pmu.due := s.pmu.due.erase i }) hs _) _ _
  · exact hs

theorem State.afterSample_flag (s : State) (i : Nat) (pc : Addr) (g : Fld) (j : Nat) (hr : reportReg (g.reg.at j 0 0) = false)
    (hg : g.reg.at j 0 0 ∉ sampleWords) : (s.afterSample i pc).flag g j = s.flag g j := by
  unfold State.afterSample State.flag
  split
  · rw [pmuSample_fld _ _ g j hr hg]; rfl
  · rfl

/-- The event of an overflow leaves every field outside PMU_GCTL and the words of reports. -/
theorem overflowEvent_fld (i : Nat) (s : State) (g : Fld) (hr : reportReg (g.reg.at 0 0 0) = false) (hg : g.reg.at 0 0 0 ≠ PMU_GCTL.at 0 0 0) :
    (overflowEvent i s).fld g = s.fld g := by
  have hraise := (raise_reported EV_PMU_OVF i s).fld g 0 0 0 hr
  unfold overflowEvent
  split
  · dsimp only
    split
    · rw [pmuFreeze, State.fld_setFld_ne _ _ _ _ _ _ _ _ _ _ hg, hraise]
    · exact hraise
  · rfl

/-- An overflow that raises its event freezes the monitor where FRZOVF says so. -/
theorem overflowEvent_frozen {i : Nat} {s : State} (hs : s.ok = true) (hev : s.flag PMU_SEL_OVFEV i = true) (hfrz : s.flag PMU_GCTL_FRZOVF = true) :
    (overflowEvent i s).flag PMU_GCTL_FROZEN = true := by
  have hfrz' : (raise EV_PMU_OVF i s).flag PMU_GCTL_FRZOVF = true := by
    rw [(raise_reported _ _ _).flag PMU_GCTL_FRZOVF 0 0 0 (by decide), hfrz]
  rw [overflowEvent, if_pos hev, if_pos hfrz']
  exact State.flag_setFld_one (raise_ok hs _ _) _ (by decide) rfl _ _ _

/-- No report writes a counter's selection. -/
theorem reportReg_sel (i : Nat) : reportReg (PMU_SEL.at i 0 0) = false := by
  generalize hx : Reg.at _ _ 0 0 = x
  simp only [Reg.at, PMU_SEL] at hx
  simp only [reportReg, Bool.or_eq_false_iff, Bool.and_eq_false_iff, decide_eq_false_iff_not]
  omega

theorem sel_notMem_sampleWords (i : Nat) : PMU_SEL.at i 0 0 ∉ sampleWords := by
  simp only [sampleWords, Reg.at, PMU_SEL, PMU_STAT, PMU_SPC_LO, PMU_SPC_HI, List.mem_cons, List.not_mem_nil, or_false]
  omega

/-- An overflow that is neither sampled nor an event is only taken off the list. -/
theorem State.overflowEvent_afterSample_of_neither (s : State) {i : Nat} (hsample : s.flag PMU_SEL_SAMPLE i = false) (hev : s.flag PMU_SEL_OVFEV i = false)
    (pc : Addr) : overflowEvent i (s.afterSample i pc) = { s with pmu.due := s.pmu.due.erase i } := by
  have hev' : (s.afterSample i pc).flag PMU_SEL_OVFEV i = false := by
    rw [s.afterSample_flag i pc PMU_SEL_OVFEV i (reportReg_sel i) (sel_notMem_sampleWords i), hev]
  rw [overflowEvent, if_neg (by simp [hev']), State.afterSample, if_neg (by simp [hsample])]

/-- The sample of a reported overflow stands after its event. -/
theorem overflowEvent_afterSample_records {s : State} (hs : s.ok = true) {i : Nat} (hsample : s.flag PMU_SEL_SAMPLE i = true) (pc : Addr) :
    let t := overflowEvent i (s.afterSample i pc)
    t.fld PMU_SPC_LO_PC = s.samplePc pc % 2 ^ 32 ∧ t.fld PMU_SPC_HI_PC = s.samplePc pc / 2 ^ 32 ∧ t.flag PMU_SPC_HI_VALID = true
      ∧ (s.flag PMU_SPC_HI_VALID = true → t.flag PMU_STAT_SAMPLEOVF = true) := by
  dsimp only [State.flag]
  rw [overflowEvent_fld i _ PMU_SPC_LO_PC (by decide) (by decide), overflowEvent_fld i _ PMU_SPC_HI_PC (by decide) (by decide),
    overflowEvent_fld i _ PMU_SPC_HI_VALID (by decide) (by decide), overflowEvent_fld i _ PMU_STAT_SAMPLEOVF (by decide) (by decide),
    State.afterSample, if_pos hsample]
  exact pmuSample_records (s := { s with pmu.due := s.pmu.due.erase i }) hs _ (s.samplePc_lt pc)

theorem overflowEvent_afterSample_frozen {s : State} (hs : s.ok = true) {i : Nat} (hev : s.flag PMU_SEL_OVFEV i = true)
    (hfrz : s.flag PMU_GCTL_FRZOVF = true) (pc : Addr) : (overflowEvent i (s.afterSample i pc)).flag PMU_GCTL_FROZEN = true := by
  refine overflowEvent_frozen (State.afterSample_ok hs i pc) ?_ ?_
  · rw [s.afterSample_flag i pc PMU_SEL_OVFEV i (reportReg_sel i) (sel_notMem_sampleWords i), hev]
  · rw [s.afterSample_flag i pc PMU_GCTL_FRZOVF 0 (by decide) (by decide), hfrz]

/-! ### The PMU window and the privilege (R419) -/

theorem blkOf_pmu {off : Nat} (h : inPmu off = true) : blkOf off = some 55 := by
  simp only [inPmu, Bool.and_eq_true, decide_eq_true_eq] at h
  have hk : off / 0x100000 = 25 := by omega
  simp [blkOf, hk]

/-- An aligned word of the PMU window lies in the register space that the control bus serves. -/
theorem pmuWord_onBus {off : Nat} (hin : inPmu off = true) (halign : off % 4 = 0) :
    inRegs (0x40000000 + off) = true ∧ ¬ 0x41B00000 ≤ 0x40000000 + off ∧ (0x40000000 + off) % 4 = 0 := by
  simp only [inPmu, Bool.and_eq_true, decide_eq_true_eq] at hin
  simp only [inRegs, Bool.and_eq_true, decide_eq_true_eq]
  omega

/-- An allowed read of an aligned word of the PMU window is the register read at its offset. -/
theorem busRead_pmu {s : State} {m : MasterId} {off : Nat} (hin : inPmu off = true) (halign : off % 4 = 0)
    (hmap : s.mapAllowsAll m .read (0x40000000 + off) 4 = true) (user : Bool) : busRead m user .read (0x40000000 + off) 4 s = regRead m user off s := by
  obtain ⟨hreg, hspace, hword⟩ := pmuWord_onBus hin halign
  simp [busRead, hreg, hmap, hspace, hword]

/-- An allowed write of an aligned word of the PMU window is the register write at its offset. -/
theorem busWrite_pmu {s : State} {m : MasterId} {off : Nat} (hin : inPmu off = true) (halign : off % 4 = 0)
    (hmap : s.mapAllowsAll m .write (0x40000000 + off) 4 = true) (user : Bool) (v : Nat) :
    busWrite m user .write (0x40000000 + off) 4 v s = regWrite m user off (BitVec.ofNat 32 v) s := by
  obtain ⟨hreg, hspace, hword⟩ := pmuWord_onBus hin halign
  simp [busWrite, hreg, hmap, hspace, hword]

/-- Which user-mode loads of the window are answered with the register. -/
theorem State.pmuReadable_iff (s : State) (m off : Nat) :
    s.pmuReadable m off = true ↔
      nbit (s.fld PMU_USER_READ) m = true ∧ ((0x1901000 ≤ off ∧ off < 0x1902000) ∨ (PMU_OVF.off ≤ off ∧ off < PMU_OVF.off + 32)) := by
  simp [State.pmuReadable]

theorem regRead_user_of_readable {s : State} {m : MasterId} {off : Nat} (h : s.pmuReadable m off = true) : regRead m true off s = regRead m false off s := by
  unfold regRead
  simp [h]

theorem regRead_user_of_not_readable {s : State} {m : MasterId} {off : Nat} (hin : inPmu off = true) (h : s.pmuReadable m off = false) :
    regRead m true off s = (s, .ok 0) := by
  simp [regRead, blkOf_pmu hin, hin, h]

theorem regWrite_user_pmu {s : State} {m : MasterId} {off : Nat} (hin : inPmu off = true) (v : Word) : regWrite m true off v s = (.next s, .ok 0) := by
  simp [regWrite, blkOf_pmu hin, hin]

/-- No register access outside the PMU window looks at the privilege. -/
theorem regAccess_user_of_not_pmu {m : MasterId} {off : Nat} (h : inPmu off = false) (v : Word) (s : State) :
    regRead m true off s = regRead m false off s ∧ regWrite m true off v s = regWrite m false off v s := by
  simp [regRead, regWrite, h]

/-- No access outside the PMU window looks at the privilege. -/
theorem busAccess_user_of_not_pmu (m : MasterId) (ty : Acc) (a n v : Nat) (s : State) (ha : a < 0x41900000 ∨ 0x41A00000 ≤ a) :
    busRead m true ty a n s = busRead m false ty a n s ∧ busWrite m true ty a n v s = busWrite m false ty a n v s := by
  by_cases hreg : inRegs a = true
  · have hpmu : inPmu (a - 0x40000000) = false := by
      simp only [inRegs, Bool.and_eq_true, decide_eq_true_eq] at hreg
      simp only [inPmu, Bool.and_eq_false_iff, decide_eq_false_iff_not]
      omega
    obtain ⟨hread, hwrite⟩ := regAccess_user_of_not_pmu (m := m) hpmu (BitVec.ofNat 32 v) s
    simp only [busRead, busWrite, hread, hwrite, and_self]
  · simp [busRead, busWrite, hreg]

/-! ### A read of the sampled PC (R420) -/

theorem exec_samplePcRead_of_allowed {s : State} {m : MasterId} (hmap : s.mapAllows m .read (0x40000000 + PMU_SPC_HI.off) = true) :
    exec (.samplePcRead m) s =
      .next ((s.setFld PMU_SPC_HI_VALID 0).emit (.busData m (0x40000000 + PMU_SPC_HI.off) (s.reg PMU_SPC_HI).toNat)) := by
  have hexec : exec (.samplePcRead m) s = execSamplePcRead m s := rfl
  rw [hexec, execSamplePcRead, mapped1, if_pos hmap]
  rfl

/-! ### The clauses of O57 -/

/-- FREEZE, UNFREEZE, SNAP and CLEAR by a master that the map allows. -/
theorem pmuCommands_act {s : State} {m : MasterId} (hm : s.MayWrite m PMU_GCMD) :
    exec (.freeze m) s = .next (pmuFreeze s) ∧ exec (.unfreeze m) s = .next (pmuUnfreeze s) ∧ exec (.snap m) s = .next (pmuSnap s)
      ∧ exec (.clear m) s = .next (pmuClear s) := by
  have hact (f : State → State) : Host.Outcome.next (φ := Fault) (ρ := Refusal) (regCmd m PMU_GCMD 0 f s) = .next (f s) := by rw [regCmd_of_mayWrite hm]
  exact ⟨hact _, hact _, hact _, hact _⟩

/-- Settles O57, clause by clause: the commands by what they leave, the snapshot by how its writes end, an overflow as its sample and then its event, and the
window by the one check that looks at the privilege. -/
theorem countersFreezeSnapshotAndReport : Obligations.CountersFreezeSnapshotAndReport := by
  unfold Obligations.CountersFreezeSnapshotAndReport
  intro s hs
  refine ⟨fun m hm => ?_, fun s1 hbusy => ⟨fun v hs1 hw => ?_, fun i hs1 hw => ?_, exec_snapshotDone_of_waiting hbusy⟩, exec_snapshotDone_of_idle,
    fun i pc hdue => ?_, fun i pc hdue => exec_counterOverflow_of_not_due hdue pc, fun m hmap => ?_, fun m off v hin halign => ?_,
    fun m ty a n v ha => busAccess_user_of_not_pmu m ty a n v s ha⟩
  · obtain ⟨hfreeze, hunfreeze, hsnap, hclear⟩ := pmuCommands_act hm
    refine ⟨⟨_, hfreeze, State.flag_setFld_one hs _ (by decide) rfl _ _ _, State.regsOnly_setFld ..⟩,
      ⟨_, hunfreeze, State.flag_setFld_zero hs _ (by decide) _ _ _, State.regsOnly_setFld ..⟩, fun hidle => ⟨_, hsnap, ?_⟩, fun hbusy => ⟨_, hsnap, ?_⟩,
      ⟨_, hclear, pmuClear_count hs, pmuClear_ovf hs, ?_⟩⟩
    · rw [pmuSnap, if_neg (by simp [hidle])]
      exact ⟨State.flag_setFld_one hs _ (by decide) rfl _ _ _, rfl, State.regsOnly_setFld ..⟩
    · rw [pmuSnap, if_pos hbusy]
      exact ⟨State.flag_setFld_one hs _ (by decide) rfl _ _ _, rfl, State.regsOnly_setFld ..⟩
    · rw [pmuClear_frame]
      exact ⟨rfl, rfl⟩
  · exact ⟨_, exec_snapshotDone_of_written hbusy hw, State.flag_setFld_zero hs1 _ (by decide) _ _ _, rfl⟩
  · obtain ⟨hidle, href⟩ := snapFailed_flags hs1
    exact ⟨_, exec_snapshotDone_of_failed hbusy hw, hidle, href, rfl⟩
  · have hexec := exec_counterOverflow_of_due hdue pc
    exact ⟨fun hsample hev => by rw [hexec, s.overflowEvent_afterSample_of_neither hsample hev],
      fun hsample => ⟨_, hexec, overflowEvent_afterSample_records hs hsample pc⟩,
      fun hev hfrz => ⟨_, hexec, overflowEvent_afterSample_frozen hs hev hfrz pc⟩⟩
  · exact ⟨_, exec_samplePcRead_of_allowed hmap, State.flag_setFld_zero hs _ (by decide) _ _ _, rfl, rfl⟩
  · refine ⟨fun hmap => ?_, fun hmap => by rw [busWrite_pmu hin halign hmap, regWrite_user_pmu hin]⟩
    simp only [busRead_pmu hin halign hmap]
    refine ⟨fun hbit hwin => regRead_user_of_readable ((s.pmuReadable_iff m off).mpr ⟨hbit, hwin⟩), fun hno => regRead_user_of_not_readable hin ?_⟩
    rw [Bool.eq_false_iff, ne_eq, s.pmuReadable_iff, not_and_or, Bool.not_eq_true]
    exact hno

end Sys2Proof.Machine
